-- ==== Sys2Proof/Word.lean ====
section
/-!
DEFINITION. Sys2Proof/Word.lean: the word, byte and rational types of the model and the plainest arithmetic on
them: sparse maps in canonical form, signed views, saturation, rounding.
-/
namespace Sys2Proof

/-- A 32-bit word of a register, of channel memory or of a ballot (06 Table 6-1). -/
abbrev Word := BitVec 32

/-- A byte of an image, a buffer or a frame. -/
abbrev Byte := BitVec 8

/-- A sparse memory: (address, value) pairs, addresses strictly rising, no value equal to what an unlisted
address reads as. -/
abbrev SMap (α : Type) := List (Nat × α)

/-- What address `k` reads as when unlisted addresses read as `d`. -/
def SMap.get {α : Type} (d : Nat → α) : SMap α → Nat → α
  | [], k => d k
  | (a, v) :: m, k => if a = k then v else SMap.get d m k

/-- The memory without its entries at `k`. -/
def SMap.erase {α : Type} : SMap α → Nat → SMap α
  | [], _ => []
  | (a, w) :: m, k => if a = k then SMap.erase m k else (a, w) :: SMap.erase m k

/-- An entry put before the first higher address. -/
def SMap.insert {α : Type} : SMap α → Nat → α → SMap α
  | [], k, v => [(k, v)]
  | (a, w) :: m, k, v => if k < a then (k, v) :: (a, w) :: m else (a, w) :: SMap.insert m k v

/-- Write `v` at `k`, keeping the canonical form. -/
def SMap.set {α : Type} [DecidableEq α] (d : Nat → α) (m : SMap α) (k : Nat) (v : α) : SMap α :=
  if v = d k then m.erase k else (m.erase k).insert k v

/-- An address above a bound. -/
def SMap.above : Option Nat → Nat → Bool
  | none, _ => true
  | some b, a => decide (b < a)

/-- The canonical form above a bound: every address is above `lo`, they rise strictly, no value is the default. -/
def SMap.wfFrom {α : Type} [DecidableEq α] (d : Nat → α) : Option Nat → SMap α → Bool
  | _, [] => true
  | lo, (a, v) :: m =>
    SMap.above lo a && !(decide (v = d a)) && SMap.wfFrom d (some a) m

/-- The canonical form of a sparse memory. -/
def SMap.wf {α : Type} [DecidableEq α] (d : Nat → α) (m : SMap α) : Bool := SMap.wfFrom d none m

/-- Three like things, one per channel A, B, C. -/
structure Tri (α : Type) where
  a : α
  b : α
  c : α
  deriving DecidableEq, Repr, Inhabited

/-- The three channels, in the order of their letters (01 Table 1-3). -/
inductive ChId where
  | a | b | c
  deriving DecidableEq, Repr, Inhabited

def Tri.get {α : Type} (t : Tri α) : ChId → α
  | .a => t.a
  | .b => t.b
  | .c => t.c

def Tri.set {α : Type} (t : Tri α) (i : ChId) (v : α) : Tri α :=
  match i with
  | .a => { t with a := v }
  | .b => { t with b := v }
  | .c => { t with c := v }

def Tri.map {α β : Type} (f : α → β) (t : Tri α) : Tri β := ⟨f t.a, f t.b, f t.c⟩

/-- Apply a function that also sees which channel it works on. -/
def Tri.mapId {α β : Type} (f : ChId → α → β) (t : Tri α) : Tri β := ⟨f .a t.a, f .b t.b, f .c t.c⟩

def Tri.toList {α : Type} (t : Tri α) : List α := [t.a, t.b, t.c]

def ChId.all : List ChId := [.a, .b, .c]

/-- The number of a channel in registers and events: 0 for A, 1 for B, 2 for C (05 R157). -/
def ChId.num : ChId → Nat
  | .a => 0
  | .b => 1
  | .c => 2

def ChId.ofNat? : Nat → Option ChId
  | 0 => some .a
  | 1 => some .b
  | 2 => some .c
  | _ => none

/-- Signed saturation to 32 bits (06 R180). -/
def satInt (x : Int) : Int := if x > 2147483647 then 2147483647 else if x < -2147483648 then -2147483648 else x

/-- The exact result leaves the signed 32-bit range. -/
def satOver (x : Int) : Bool := decide (x > 2147483647) || decide (x < -2147483648)

def satWord (x : Int) : Word := BitVec.ofInt 32 (satInt x)

/-- Quotient of `n / d`, d > 0, rounded half to even (06 R180). -/
def rndDiv (n : Int) (d : Nat) : Int :=
  let q := n.fdiv d
  let r := n - q * d
  if 2 * r < d then q else if 2 * r > d then q + 1 else if q % 2 = 0 then q else q + 1

/-- Counters that saturate at `m`. -/
def satAdd (m x n : Nat) : Nat := if x + n ≥ m then m else x + n

/-- Largest value of a 32-bit counter. -/
def max32 : Nat := 4294967295
def max16 : Nat := 65535

/-- `k` copies of zero. -/
def zeros (k : Nat) : List Byte := List.replicate k 0

/-- Little-endian bytes of a number, `n` of them (00, Notation). -/
def leBytes : Nat → Nat → List Byte
  | 0, _ => []
  | n + 1, x => BitVec.ofNat 8 x :: leBytes n (x / 256)

/-- Number of a little-endian byte list. -/
def leNat : List Byte → Nat
  | [] => 0
  | b :: bs => b.toNat + 256 * leNat bs

/-- Big-endian bytes of a number, `n` of them. -/
def beBytes (n x : Nat) : List Byte := (leBytes n x).reverse

def beNat (bs : List Byte) : Nat := leNat bs.reverse

/-- Bits `hi:lo` of a number. -/
def bitsOf (x hi lo : Nat) : Nat := (x / 2 ^ lo) % 2 ^ (hi + 1 - lo)

def bitOf (x i : Nat) : Bool := (x / 2 ^ i) % 2 = 1

/-- Two's complement reading of an `n`-bit number. -/
def toSigned (n x : Nat) : Int := if x % 2 ^ n ≥ 2 ^ (n - 1) then (x % 2 ^ n : Nat) - (2 ^ n : Nat) else (x % 2 ^ n : Nat)

/-- The `n`-bit two's complement pattern of an integer. -/
def ofSigned (n : Nat) (x : Int) : Nat := (x % (2 ^ n : Nat)).toNat

def b2n (b : Bool) : Nat := if b then 1 else 0

/-- Replace element `i` of a list by `f` of it. -/
def updAt {α : Type} (l : List α) (i : Nat) (f : α → α) : List α :=
  match l, i with
  | [], _ => []
  | x :: xs, 0 => f x :: xs
  | x :: xs, i + 1 => x :: updAt xs i f

/-- Fold over 0 … n − 1. -/
def forN {α : Type} (n : Nat) (f : Nat → α → α) (x : α) : α := (List.range n).foldl (fun s i => f i s) x

/-- Iterate with fuel while the function answers `some`. -/
def iter {α : Type} : Nat → (α → Option α) → α → α
  | 0, _, x => x
  | n + 1, f, x => match f x with
    | none => x
    | some y => iter n f y

end Sys2Proof
end

