-- ==== Sys2Proof/Syntax.lean ====
section
/-!
DEFINITION. Sys2Proof/Syntax.lean: the commands of the block, one constructor of Instr per row of the table of
operations and events, and the types of their operands.
-/
namespace Sys2Proof

/-! ## Operands of the logic engine (06 Table 6-1, Table 6-6) -/

/-- A bit operand: space BIT or REQ. -/
inductive BitOp where
  | bit (a : Nat)
  | req (a : Nat)
  deriving DecidableEq, Repr, Inhabited

/-- A word operand: WORD, CONST, SNAP, OUT, SYS or the 21-bit immediate. -/
inductive WordOp where
  | word (a : Nat)
  | const (a : Nat)
  | snap (a : Nat)
  | out (a : Nat)
  | sys (a : Nat)
  | imm (v : BitVec 21)
  deriving DecidableEq, Repr, Inhabited

/-- The operand of LDWX: a space with a base address. -/
inductive IdxOp where
  | word (a : Nat)
  | const (a : Nat)
  | snap (a : Nat)
  | out (a : Nat)
  | sys (a : Nat)
  deriving DecidableEq, Repr, Inhabited

/-- The operand of a store: WORD or OUT. -/
inductive StoreOp where
  | word (a : Nat)
  | out (a : Nat)
  deriving DecidableEq, Repr, Inhabited

/-! ## Operands of device events -/

/-- The clock sources: s = 0 to 7 of Table 19-2, then FOSC and SOSC. -/
inductive ClkSrc where
  | xin1 | xin2 | plla | pllb | pllc | pllSlv | pllNet | pllAux | fosc | sosc
  deriving DecidableEq, Repr, Inhabited

/-- The islands of CLK_WAIT (19, CLK and PWR registers), in the order of their indices. -/
inductive Island where
  | hst | mgt | cha | chb | chc | slv | net | field | mtr | adc | axs | key | pnl
  deriving DecidableEq, Repr, Inhabited

/-- PWR_WAKESRC.SRC (19 Table 19-13). -/
inductive WakeSrc where
  | e4 | c00 | al0 | al1
  deriving DecidableEq, Repr, Inhabited

/-- A PTP domain the device tracks (02, Network time supported). -/
inductive Dom where
  | pri | sec
  deriving DecidableEq, Repr, Inhabited

/-- What a PTP message carries to the servo; times in 2^-16 ns (02 R34 to R37). -/
inductive PtpBody where
  /-- Sync with its origin time and corrections summed. -/
  | sync (origin : Int)
  /-- Closes a path delay measurement of the port. -/
  | delay (mean : Int)
  /-- Announce: UTC offset, its validity, the master's logSyncInterval, and whether the best master clock
  algorithm of IEEE 1588-2019 now selects this port as the domain's slave port. -/
  | announce (utcOfs : Int) (utcValid : Bool) (logSync : Int) (best : Bool)
  deriving DecidableEq, Repr, Inhabited

/-- A PTP message at a port: its domain number and the raw hardware timestamp in 2^-16 ns. -/
structure PtpMsg where
  port : Nat
  domnum : Nat
  raw : Int
  body : PtpBody
  deriving DecidableEq, Repr, Inhabited

/-- The voter slices (05 R584, R591). -/
inductive Slice where
  | field | axis | bank | solver | analog
  deriving DecidableEq, Repr, Inhabited

/-- What a solver cell meets: the ordinals of its unit runs whose lane digests differ, of the run in which the end
tick arrives, of the run in which a resident structure shows an uncorrectable ECC error, and whether a lane self-test
that ends in the cell passes (08 R214 to R216, R236). -/
structure SolveCond where
  diffs : List Nat
  cut : Option Nat
  ecc : Option Nat
  test : Bool
  deriving DecidableEq, Repr, Inhabited

/-! ## Operands of field and sensor events -/

/-- A CAN frame on a bus (12 Table 12-3); `rtr` a remote frame. -/
structure CanFrame where
  ide : Bool
  fdf : Bool
  rtr : Bool
  brs : Bool
  esi : Bool
  id : Nat
  data : List Byte
  deriving DecidableEq, Repr, Inhabited

/-- An error a CAN controller meets: the LEC code, whether it was sending, and the increment of its counter that
ISO 11898-1 prescribes (12 R350, Table 12-8). -/
structure CanFault where
  lec : Nat
  sending : Bool
  inc : Nat
  deriving DecidableEq, Repr, Inhabited

/-- The SecTAG of a received frame: channel, association number, packet number, and whether its ICV verifies. -/
structure SecTag where
  sci : Nat
  an : Nat
  pn : Nat
  icvOk : Bool
  deriving DecidableEq, Repr, Inhabited

/-- What a received Ethernet frame carries (13 Table 13-2). -/
inductive EthBody where
  | supervision
  | ptp (domnum : Nat)
  | udp (ip : List Byte) (port dstPort : Nat) (toIp : List Byte) (sumOk : Bool) (payload : List Byte)
  | other
  deriving DecidableEq, Repr, Inhabited

/-- An Ethernet frame as it arrives at a port: length from destination address to check sequence, check sequence
good, addressed to the device alone, source address, VLAN tags (outermost first), SecTAG, redundancy sequence number,
content, and the bytes from destination address to the end of the payload. -/
structure EthRx where
  len : Nat
  fcsOk : Bool
  toDev : Bool
  src : Nat
  tags : List Nat
  sec : Option SecTag
  red : Option Nat
  body : EthBody
  bytes : List Byte
  deriving DecidableEq, Repr, Inhabited

/-- The samples of one electrical system: for each role U1, U2, U3, I1, I2, I3 the samples after the fractional delay
and before the gain trim, with 63 before the window and 63 after it (11 R307, R311). -/
structure EmSamples where
  em : Nat
  roles : List (List Int)
  deriving DecidableEq, Repr, Inhabited

/-- The sums of 16 codes of a pair calibration: even and odd converter at the low and the high source (14 R386). -/
structure CalSums where
  e1 : Int
  e2 : Int
  o1 : Int
  o2 : Int
  deriving DecidableEq, Repr, Inhabited

/-- What start-up work finds: the sources that have not qualified by their step, the self-test steps each channel passes,
the sums of each pair calibration, and the key slots that fail their integrity check (19 R500, 05 R143, 14 R386,
18 R474). -/
structure StartResult where
  unqual : List ClkSrc
  selfTest : Tri Nat
  cal : List CalSums
  faulted : List Nat
  deriving DecidableEq, Repr, Inhabited

/-! ## Operands of host commands (16 Table 16-6) -/

/-- The header of a command entry: queue pair, CID, FENCE, and whether reserved parts or BUF_LEN are malformed. -/
structure Hdr where
  qp : Nat
  cid : Nat
  fence : Bool
  bad : Bool
  deriving DecidableEq, Repr, Inhabited

/-- The queue pair parameter block (16 Table 16-5). -/
structure QpParam where
  qpid : Nat
  kind : Nat
  sizeLog : Nat
  vector : Nat
  ien : Bool
  sqBase : Nat
  cqBase : Nat
  mask : Nat
  deriving DecidableEq, Repr, Inhabited

/-- A stream entry the host has written (16 Table 16-8): buffer size, port, and the bytes of an ETH_TX frame. -/
structure SqEntry where
  bufLen : Nat
  port : Nat
  data : List Byte
  deriving DecidableEq, Repr, Inhabited

/-- A calendar date and time as PARAM carries it (17 Table 17-4, RTC_SET). -/
structure Civil where
  year : Nat
  month : Nat
  day : Nat
  hour : Nat
  minute : Nat
  second : Nat
  deriving DecidableEq, Repr, Inhabited

/-- The commands of the block: one constructor per row of the table of operations and events. -/
inductive Instr where
  /-- VIO_LOSS (R493). -/
  | vioLoss (bank : Fin 4)
  /-- VIO_RESTORE (R493). -/
  | vioRestore (bank : Fin 4)
  /-- START_UP_COMPLETE (R500). -/
  | startUpComplete (res : StartResult)
  /-- WAKE (R497). -/
  | wake (src : WakeSrc)
  /-- MONITOR_WINDOW_END (R481). -/
  | monitorWindowEnd (src : ClkSrc) (count : Nat)
  /-- STOP_DETECTION (R481). -/
  | stopDetection (src : ClkSrc)
  /-- ISLAND_RESUMPTION (R490). -/
  | islandResumption (isl : Island)
  /-- SOSC_CALIBRATION (R482). -/
  | soscCalibration (mhz : Nat)
  /-- FREQ_MEASURE_WINDOW_END (R488). -/
  | freqMeasureWindowEnd (count : Nat)
  /-- PTP_MESSAGE_RECEIVE (R34). -/
  | ptpMessageReceive (msg : PtpMsg)
  /-- SYNC_INTERVAL_END (R38). -/
  | syncIntervalEnd (dom : Dom)
  /-- MASTER_SYNC_TRANSMIT (R36). -/
  | masterSyncTransmit (port : Nat)
  /-- LGE_CELL (R158). -/
  | lgeCell (e : Nat) (idx : Tri Nat)
  /-- LPE_CELL (R199). -/
  | lpeCell (e : Nat) (idx : Tri Nat) (done : Tri Nat)
  /-- AGREE_CELL (R20). -/
  | agreeCell (e : Nat) (idx : Tri Nat) (done : Bool) (din : Nat)
  /-- WAGGLE_CELL (R591). -/
  | waggleCell (e : Nat) (idx : Tri Nat) (bursts : Tri Nat)
  /-- VOTE_CELL (R126). -/
  | voteCell (e : Nat) (done : List Slice)
  /-- CKPT_CELL (R152). -/
  | ckptCell (e : Nat) (idx : Tri Nat) (done : Bool)
  /-- SLV_PUB_CELL (R19). -/
  | slvPubCell (e : Nat) (done : Bool)
  /-- SLV_HYD_CELL (R234). -/
  | slvHydCell (e : Nat) (cond : SolveCond)
  /-- SOLVER_STORE_ECC_ERROR (R216). -/
  | solverStoreEccError (prob : Nat) (resident : Bool)
  /-- TOPOLOGY_BUILD_COMPLETE (R233). -/
  | topologyBuildComplete (prob : Nat)
  /-- SLV_DISP_CELL (R267). -/
  | slvDispCell (e : Nat) (cond : SolveCond)
  /-- MTR_BLOCK_CELL (R311). -/
  | mtrBlockCell (e : Nat) (sys : List EmSamples) (done : Bool)
  /-- MTR_INTV_CELL (R326). -/
  | mtrIntvCell (e : Nat) (records : Nat)
  /-- ACCUMULATION_PERIOD_END (R312). -/
  | accumulationPeriodEnd (sys : List EmSamples)
  /-- MD_INPUT_FAULT (R308). -/
  | mdInputFault (m : Nat) (t : Nat)
  /-- MD_TRANSITION_RESUME (R308). -/
  | mdTransitionResume (m : Nat) (t : Nat)
  /-- PIN_PULSE (R315). -/
  | pinPulse (pin : Nat) (t : Nat)
  /-- AXS_LATCH_CELL (R406). -/
  | axsLatchCell (e : Nat) (done : Bool)
  /-- AXS_CMD_CELL (R396). -/
  | axsCmdCell (e : Nat) (done : Bool)
  /-- OUT_CELL (R21). -/
  | outCell (e : Nat) (done : Bool)
  /-- KEY_CELL (R471). -/
  | keyCell (e : Nat)
  /-- REC_CELL (R528). -/
  | recCell (e : Nat)
  /-- PNL_CELL (R551). -/
  | pnlCell (e : Nat)
  /-- HST_CELL (R425). -/
  | hstCell (e : Nat)
  /-- ADC_CELL (R380). -/
  | adcCell (e : Nat) (cal : CalSums)
  /-- ADC_CONVERSION_COMPLETE (R382). -/
  | adcConversionComplete (n : Nat) (code : Int)
  /-- REFERENCE_OUT_OF_RANGE (R377). -/
  | referenceOutOfRange (t : Nat)
  /-- STATION_READ_CELL (R289). -/
  | stationReadCell (e : Nat)
  /-- STATION_SLOT_OPEN (R289). -/
  | stationSlotOpen (g : Nat)
  /-- STATION_WRITE_CELL (R292). -/
  | stationWriteCell (e : Nat)
  /-- ANSWER (R290). -/
  | answer (link : Nat)
  /-- MALFORMED_WFP_FRAME (R300). -/
  | malformedWfpFrame (link : Nat)
  /-- EXCHANGE_COMPLETE (R296). -/
  | exchangeComplete (stn : Nat)
  /-- CELL_END_OVERRUN (R80). -/
  | cellEndOverrun (e : Nat)
  /-- CHANNEL_ECC_ERROR (R132). -/
  | channelEccError (ch : ChId)
  /-- HANDSHAKE_TIMEOUT (R11). -/
  | handshakeTimeout (isl : Island)
  /-- ATTEMPT_START (R149). -/
  | attemptStart (ch : ChId)
  /-- SELFTEST_END (R143). -/
  | selftestEnd (ch : ChId) (passed : Nat)
  /-- CAN_TRANSMIT_START (R347). -/
  | canTransmitStart (ch : Nat) (t : Nat)
  /-- CAN_TRANSMIT_COMPLETE (R347). -/
  | canTransmitComplete (ch : Nat) (t : Nat)
  /-- CAN_ARBITRATION_LOST (R347). -/
  | canArbitrationLost (ch : Nat) (t : Nat)
  /-- CAN_FRAME_RECEIVE (R344). -/
  | canFrameReceive (ch : Nat) (t : Nat) (f : CanFrame)
  /-- CAN_ERROR (R350). -/
  | canError (ch : Nat) (t : Nat) (err : CanFault)
  /-- BUS_OFF_RECOVERY_START (R351). -/
  | busOffRecoveryStart (ch : Nat)
  /-- BUS_OFF_RECOVERY_END (R351). -/
  | busOffRecoveryEnd (ch : Nat) (t : Nat)
  /-- WAKE_FRAME (R353). -/
  | wakeFrame (t : Nat) (f : CanFrame)
  /-- ETH_FRAME_RECEIVE (R362). -/
  | ethFrameReceive (port : Nat) (t : Nat) (f : EthRx)
  /-- ETH_TRANSMIT_COMPLETE (R423). -/
  | ethTransmitComplete (port : Nat) (t : Nat)
  /-- SUPERVISION_FRAME_TRANSMIT (R365). -/
  | supervisionFrameTransmit (port : Nat)
  /-- DUPLICATE_ENTRY_AGE_OUT (R366). -/
  | duplicateEntryAgeOut (port : Nat) (mac : Nat)
  /-- DORMANT_STATUS (R371). -/
  | dormantStatus (t : Nat) (seq : Nat)
  /-- DORMANT_TIME (R371). -/
  | dormantTime (t : Nat) (seq : Nat)
  /-- DORMANT_REC_READ (R533). -/
  | dormantRecRead (t : Nat) (seq : Nat) (first : Nat) (count : Nat)
  /-- DORMANT_WAKE (R371). -/
  | dormantWake (t : Nat) (seq : Nat)
  /-- SWITCH_EDGE (R401). -/
  | switchEdge (ax : Nat) (sw : Nat) (active : Bool) (t : Nat)
  /-- AXIS_ENABLE_LEAD_END (R394). -/
  | axisEnableLeadEnd (ax : Nat)
  /-- AXIS_PROFILE_UPDATE (R398). -/
  | axisProfileUpdate (ax : Nat)
  /-- AXIS_STANDSTILL (R398). -/
  | axisStandstill (ax : Nat)
  /-- AUTO_DISABLE (R404). -/
  | autoDisable (ax : Nat)
  /-- PWM_PERIOD_START (R409). -/
  | pwmPeriodStart (n : Nat)
  /-- SQ_TAIL_DOORBELL (R424). -/
  | sqTailDoorbell (qp : Nat) (value : Nat) (entries : List SqEntry)
  /-- CQ_HEAD_DOORBELL (R424). -/
  | cqHeadDoorbell (qp : Nat) (value : Nat)
  /-- HOST_READ_DATA_ARRIVAL (R428). -/
  | hostReadDataArrival (late : Bool)
  /-- REGISTER_WRITE (R417). -/
  | registerWrite (off : Nat) (value : Word)
  /-- XIN1_FREQUENCY_WRITE (R507). -/
  | xin1FrequencyWrite (khz : Nat)
  /-- PANEL_TEST_WRITE (R555). -/
  | panelTestWrite (on : Bool)
  /-- LEGACY_REGISTER_READ (R323). -/
  | legacyRegisterRead (off : Nat)
  /-- STAGING_COMPLETE (R102). -/
  | stagingComplete (ok : Bool)
  /-- RECORD_RAISE (R527). -/
  | recordRaise (sev : Fin 4) (src : Fin 16) (code : Nat) (body : List Byte)
  /-- PANEL_FRAME_START (R547). -/
  | panelFrameStart (ohm : Nat)
  /-- PANEL_UPDATE_COMPLETE (R547). -/
  | panelUpdateComplete (region : Nat)
  /-- RAILS_UP_COMPLETE (R548). -/
  | railsUpComplete (ohm : Nat)
  /-- VHU_BELOW_THRESHOLD (R556). -/
  | vhuBelowThreshold (mv : Nat)
  /-- IDENTIFY (R450). -/
  | identify (h : Hdr)
  /-- QP_CREATE (R419). -/
  | qpCreate (h : Hdr) (p : QpParam)
  /-- QP_DELETE (R420). -/
  | qpDelete (h : Hdr) (qpid : Nat)
  /-- RING_STATUS (R426). -/
  | ringStatus (h : Hdr) (qpid : Nat)
  /-- RUN (R437). -/
  | run (h : Hdr) (requireTrusted : Bool)
  /-- HALT (R440). -/
  | halt (h : Hdr) (hmode : Nat) (blk : List Byte)
  /-- SETUP (R436). -/
  | setup (h : Hdr) (blk : List Byte)
  /-- CHALLENGE (R447). -/
  | challenge (h : Hdr)
  /-- WRITE (R94). -/
  | write (h : Hdr) (super : Nat) (offset : Nat) (data : List Byte)
  /-- VERIFY (R90). -/
  | verify (h : Hdr) (super : Nat)
  /-- STATUS (R96). -/
  | status (h : Hdr)
  /-- ACTIVATE (R98). -/
  | activate (h : Hdr) (super : Nat) (blk : List Byte)
  /-- ARM (R100). -/
  | arm (h : Hdr) (super : Nat) (hp : Nat)
  /-- DISARM (R103). -/
  | disarm (h : Hdr)
  /-- SWAP_REPORT (R114). -/
  | swapReport (h : Hdr) (first : Nat) (bufLen : Nat)
  /-- EDIT (R116). -/
  | edit (h : Hdr) (edits : List (Nat × Word))
  /-- READ (R450). -/
  | read (h : Hdr) (pids : List Nat)
  /-- SIMULATE (R299). -/
  | simulate (h : Hdr) (stn : Nat) (smode : Nat) (buf : List Byte)
  /-- QUERY (R450). -/
  | query (h : Hdr) (first : Nat) (count : Nat)
  /-- DELTA (R232). -/
  | delta (h : Hdr) (recs : List Byte)
  /-- TOPOLOGY (R233). -/
  | topology (h : Hdr) (prob : Nat) (section_ : List Byte)
  /-- SOLUTION (R26). -/
  | solution (h : Hdr) (prob : Nat)
  /-- REG_READ (R323). -/
  | regRead (h : Hdr) (kind : Nat) (index : Nat)
  /-- ARCHIVE_READ (R328). -/
  | archiveRead (h : Hdr) (first : Nat) (count : Nat)
  /-- TRIM (R308). -/
  | trim (h : Hdr) (em : Nat) (role : Nat) (gain : Nat) (delay : Nat) (blk : List Byte)
  /-- REC_READ (R532). -/
  | recRead (h : Hdr) (first : Nat) (count : Nat)
  /-- FREEZE (R531). -/
  | freeze (h : Hdr)
  /-- THAW (R531). -/
  | thaw (h : Hdr)
  /-- REC_COUNTS (R535). -/
  | recCounts (h : Hdr)
  /-- UPDATE (R464). -/
  | update (h : Hdr) (msg : List Byte)
  /-- SLOT_QUERY (R468). -/
  | slotQuery (h : Hdr) (slot : Nat)
  /-- ATTEST (R469). -/
  | attest (h : Hdr) (slot : Nat) (nonce : List Byte)
  /-- LEGACY_EXPORT (R470). -/
  | legacyExport (h : Hdr) (slot : Nat) (wrapSlot : Nat)
  /-- IDENTITY (R460). -/
  | identity (h : Hdr)
  /-- DOMAIN_SELECT (R47). -/
  | domainSelect (h : Hdr) (dom : Dom)
  /-- RTC_SET (R511). -/
  | rtcSet (h : Hdr) (t : Civil)
  /-- RTC_READ (R450). -/
  | rtcRead (h : Hdr)
  /-- ADD_HOUR (R513). -/
  | addHour (h : Hdr)
  /-- SUB_HOUR (R513). -/
  | subHour (h : Hdr)
  /-- ALARM_SET (R516). -/
  | alarmSet (h : Hdr) (alarm : Nat) (mask : Nat) (policy : Nat) (en : Nat) (t : Civil)
  /-- RTC_FROM_PTP (R514). -/
  | rtcFromPtp (h : Hdr)
  /-- RTC_TRIM (R515). -/
  | rtcTrim (h : Hdr) (trim : Int)
  /-- PANEL_UPDATE (R550). -/
  | panelUpdate (h : Hdr) (region : Nat) (frameId : Nat) (data : List Byte)
  /-- MAP_WRITE (R545). -/
  | mapWrite (h : Hdr) (map : Nat) (data : List Byte)
  /-- PANEL_STATUS (R562). -/
  | panelStatus (h : Hdr)
  /-- SET_POSITION (R405). -/
  | setPosition (h : Hdr) (ax : Nat) (pos : Int)
  /-- MOVE (R398). -/
  | move (h : Hdr) (ax : Nat) (target : Int) (vmax : Nat)
  /-- HOME (R403). -/
  | home (h : Hdr) (ax : Nat) (pos : Int)
  /-- STOP (R399). -/
  | stop (h : Hdr) (ax : Nat) (disable : Nat)
  /-- CALIBRATE (R386). -/
  | calibrate (h : Hdr) (pair : Nat) (cal : CalSums)
  /-- CAPTURE_READ (R381). -/
  | captureRead (h : Hdr) (pair : Nat)
  /-- TX_AN (R370). -/
  | txAn (h : Hdr) (port : Nat) (an : Nat)
  /-- HISTORY (R450). -/
  | history (h : Hdr) (ch : Nat)
  /-- DORMANT (R496). -/
  | dormant (h : Hdr) (blk : List Byte)
  /-- FREQ_MEASURE (R488). -/
  | freqMeasure (h : Hdr) (src : Nat)
  /-- ECHO (R450). -/
  | echo (h : Hdr) (lo : Nat) (hi : Nat)
  /-- OUTPUT_FORCE (R440). -/
  | outputForce (h : Hdr) (point : Nat) (fmode : Nat) (words : List Word) (blk : List Byte)
  /-- JMP (R177). -/
  | jmp (offset : Nat)
  /-- JC (R177). -/
  | jc (offset : Nat)
  /-- JNC (R177). -/
  | jnc (offset : Nat)
  /-- LD (R179). -/
  | ld (op : BitOp)
  /-- LDN (R179). -/
  | ldn (op : BitOp)
  /-- AND (R179). -/
  | and (op : BitOp)
  /-- ANDN (R179). -/
  | andn (op : BitOp)
  /-- OR (R179). -/
  | or (op : BitOp)
  /-- ORN (R179). -/
  | orn (op : BitOp)
  /-- XOR (R179). -/
  | xor (op : BitOp)
  /-- XORN (R179). -/
  | xorn (op : BitOp)
  /-- ST (R179). -/
  | st (op : BitOp)
  /-- STN (R179). -/
  | stn (op : BitOp)
  /-- SET (R179). -/
  | set (op : BitOp)
  /-- RST (R179). -/
  | rst (op : BitOp)
  /-- TBIT (R179). -/
  | tbit (bitno : Fin 32)
  /-- SBIT (R179). -/
  | sbit (bitno : Fin 32)
  /-- LDW (R179). -/
  | ldw (op : WordOp)
  /-- LDWX (R178). -/
  | ldwx (op : IdxOp)
  /-- STW (R179). -/
  | stw (op : StoreOp)
  /-- STWX (R178). -/
  | stwx (op : StoreOp)
  /-- LDQ (R168). -/
  | ldq (a : Nat)
  /-- LDAGE (R168). -/
  | ldage (a : Nat)
  /-- ADD (R180). -/
  | add (op : WordOp)
  /-- SUB (R180). -/
  | sub (op : WordOp)
  /-- MUL (R180). -/
  | mul (op : WordOp)
  /-- DIV (R180). -/
  | div (op : WordOp)
  /-- MOD (R180). -/
  | mod (op : WordOp)
  /-- MIN (R179). -/
  | min (op : WordOp)
  /-- MAX (R179). -/
  | max (op : WordOp)
  /-- ANDW (R179). -/
  | andw (op : WordOp)
  /-- ORW (R179). -/
  | orw (op : WordOp)
  /-- XORW (R179). -/
  | xorw (op : WordOp)
  /-- SHL (R179). -/
  | shl (op : WordOp)
  /-- SHR (R179). -/
  | shr (op : WordOp)
  /-- ASR (R179). -/
  | asr (op : WordOp)
  /-- QMUL (R180). -/
  | qmul (op : WordOp)
  /-- QDIV (R180). -/
  | qdiv (op : WordOp)
  /-- EQ (R179). -/
  | eq (op : WordOp)
  /-- NE (R179). -/
  | ne (op : WordOp)
  /-- LT (R179). -/
  | lt (op : WordOp)
  /-- LE (R179). -/
  | le (op : WordOp)
  /-- GT (R179). -/
  | gt (op : WordOp)
  /-- GE (R179). -/
  | ge (op : WordOp)
  /-- TON (R181). -/
  | ton (i : Nat)
  /-- TOF (R181). -/
  | tof (i : Nat)
  /-- TP (R181). -/
  | tp (i : Nat)
  /-- TRST (R182). -/
  | trst (i : Nat)
  /-- LDET (R182). -/
  | ldet (i : Nat)
  /-- CTU (R183). -/
  | ctu (i : Nat)
  /-- CTD (R183). -/
  | ctd (i : Nat)
  /-- CRST (R183). -/
  | crst (i : Nat)
  /-- CLD (R183). -/
  | cld (i : Nat)
  /-- LDCV (R179). -/
  | ldcv (i : Nat)
  /-- REDGE (R184). -/
  | redge (i : Nat)
  /-- FEDGE (R184). -/
  | fedge (i : Nat)
  /-- OSCILLATOR_RETURN (R482). -/
  | oscillatorReturn (src : ClkSrc)
  /-- REFERENCE_IN_RANGE (R377). -/
  | referenceInRange (t : Nat)
  /-- VHU_RESTORED (R555). -/
  | vhuRestored (mv : Nat)
  /-- PORT_LINK_CHANGE (R374). -/
  | portLinkChange (port : Nat) (up : Bool)
  /-- COPY_PASS_END (R155). -/
  | copyPassEnd (ch : ChId)
  /-- MSI_X_HOLDOFF_END (R429). -/
  | msiXHoldoffEnd (qp : Nat)
  /-- VIN_PRESENT (R495). -/
  | vinPresent
  /-- VIN_LOSS (R494). -/
  | vinLoss
  /-- VAUX_PRESENT (R495). -/
  | vauxPresent
  /-- VAUX_LOSS (R492). -/
  | vauxLoss
  /-- PORST_N (R498). -/
  | porstN
  /-- WARM_N (R498). -/
  | warmN
  /-- TRST_N (R498). -/
  | trstN
  /-- DORMANT_ENTRY_END (R496). -/
  | dormantEntryEnd
  /-- MANAGEMENT_WATCHDOG_EXPIRY (R502). -/
  | managementWatchdogExpiry
  /-- FIRST_LOCK_STEP (R43). -/
  | firstLockStep
  /-- BLEED_END (R41). -/
  | bleedEnd
  /-- DT_WRAP (R32). -/
  | dtWrap
  /-- HYPERPERIOD_BOUNDARY (R15). -/
  | hyperperiodBoundary
  /-- SUPER_SWAP (R106). -/
  | superSwap
  /-- DISPATCH_WINDOW_END (R271). -/
  | dispatchWindowEnd
  /-- METERING_INTERVAL_BOUNDARY (R326). -/
  | meteringIntervalBoundary
  /-- PCIE_LINK_DOWN (R415). -/
  | pcieLinkDown
  /-- AQCTL_EN_SET (R418). -/
  | aqctlEnSet
  /-- AQCTL_EN_CLEAR (R418). -/
  | aqctlEnClear
  /-- TIM_DTLO_READ (R31). -/
  | timDtloRead
  /-- CMB_HPLO_READ (R86). -/
  | cmbHploRead
  /-- MTR_INTVLO_READ (R336). -/
  | mtrIntvloRead
  /-- SLV_DWINLO_READ (R282). -/
  | slvDwinloRead
  /-- PWR_OPSLO_READ (R507). -/
  | pwrOpsloRead
  /-- RTC_CAL0_READ (R524). -/
  | rtcCal0Read
  /-- AUTH_VERIFICATION_END (R449). -/
  | authVerificationEnd
  /-- CHALLENGE_EXPIRY (R447). -/
  | challengeExpiry
  /-- RNG_HEALTH_FAIL (R473). -/
  | rngHealthFail
  /-- FREEZE_EXPIRY (R531). -/
  | freezeExpiry
  /-- RTC_SECOND_BOUNDARY (R509). -/
  | rtcSecondBoundary
  /-- PTP_SETTING_APPLY (R514). -/
  | ptpSettingApply
  /-- RAIL_IDLE_EXPIRY (R548). -/
  | railIdleExpiry
  /-- DISCHARGE_END (R548). -/
  | dischargeEnd
  /-- NOP (R179). -/
  | nop
  /-- END (R162). -/
  | endScan
  /-- LDIX (R179). -/
  | ldix
  /-- STIX (R179). -/
  | stix
  /-- NOT (R179). -/
  | not
  /-- SETBA (R179). -/
  | setba
  /-- CLRBA (R179). -/
  | clrba
  /-- LDOV (R179). -/
  | ldov
  /-- LDDZ (R179). -/
  | lddz
  /-- LDIF (R179). -/
  | ldif
  /-- BTOW (R179). -/
  | btow
  /-- WTOB (R179). -/
  | wtob
  /-- ITOQ (R180). -/
  | itoq
  /-- QTOI (R180). -/
  | qtoi
  /-- NEG (R180). -/
  | neg
  /-- ABS (R180). -/
  | abs
  /-- NOTW (R179). -/
  | notw
  /-- AND_OPEN (R173). -/
  | andOpen
  /-- OR_OPEN (R173). -/
  | orOpen
  /-- XOR_OPEN (R173). -/
  | xorOpen
  /-- ADD_OPEN (R173). -/
  | addOpen
  /-- SUB_OPEN (R173). -/
  | subOpen
  /-- MUL_OPEN (R173). -/
  | mulOpen
  /-- QMUL_OPEN (R173). -/
  | qmulOpen
  /-- CLOSE_PAREN (R174). -/
  | closeParen
  /-- RNG_TESTS_PASS (R473). -/
  | rngTestsPass
  /-- PCIE_LINK_UP (R415). -/
  | pcieLinkUp
  /-- KEY_WORK_END (R471). -/
  | keyWorkEnd
  /-- RECORD_COMMIT_END (R528). -/
  | recordCommitEnd
  /-- SOLVER_STRUCTURES_BUILT (R245). -/
  | solverStructuresBuilt
  /-- OPERATING_SECOND (R501). -/
  | operatingSecond
  deriving DecidableEq, Repr

end Sys2Proof
end

