-- ==== Sys2Proof/Config.lean ====
section
/-!
DEFINITION. Sys2Proof/Config.lean: what an implementation fixes and what the spec leaves open. Every constant here
is opaque: nothing can be proved of its value.
-/
namespace Sys2Proof.Config

/-- A value the spec leaves open: the n-th free value of a run (DESIGN CHOICE, log entry 3). -/
opaque free : Nat → Nat

/-- A rational the spec leaves open (DESIGN CHOICE, log entry 3). -/
opaque freeRat : Nat → Rat

/-- Head, as a mantissa of its block, of a junction whose DEFAULT lies outside the block's range (DESIGN CHOICE, log entry 31). -/
opaque headDefault : (tag : Nat) → Int

/-- Mantissa of a start value of the dispatch iterate that lies outside its block's range (DESIGN CHOICE, log entry 31). -/
opaque blockFit : (tag : Nat) → Int

/-- Random bytes of the true random number generator (17 R447, 18 R473; DESIGN CHOICE, log entry 3). -/
opaque trng : Nat → Byte

/-- Control die revision, HST_IDENT.DIE_REV (16 R416; DESIGN CHOICE, log entry 4). -/
opaque dieRev : BitVec 8

/-- ROM firmware revision, HST_ROMREV.ROM_REV (16 R416; DESIGN CHOICE, log entry 4). -/
opaque romRev : BitVec 16

/-- The 128-bit device ID, HST_DEVIDi (16 R416; DESIGN CHOICE, log entry 4). -/
opaque deviceId : BitVec 128

/-- SHA-384 (FIPS 180), 48 bytes: a named standard (DESIGN CHOICE, log entry 5). -/
opaque sha384 : List Byte → List Byte

/-- SHA-256 (FIPS 180), 32 bytes (DESIGN CHOICE, log entry 5). -/
opaque sha256 : List Byte → List Byte

/-- HMAC-SHA-256 of a message under a key (DESIGN CHOICE, log entry 5). -/
opaque hmacSha256 : (key msg : List Byte) → List Byte

/-- ECDSA verification: curve P-384 with SHA-384, key, message, signature (DESIGN CHOICE, log entry 5). -/
opaque ecdsaP384Verify : (key msg sig : List Byte) → Bool

/-- ML-DSA-65 verification with an empty context (DESIGN CHOICE, log entry 5). -/
opaque mlDsa65Verify : (key msg sig : List Byte) → Bool

/-- ECDSA P-384 signature r ‖ s under a private key (DESIGN CHOICE, log entry 5). -/
opaque ecdsaP384Sign : (key msg : List Byte) → List Byte

/-- ECDSA P-256 signature r ‖ s with SHA-256 under a private key (DESIGN CHOICE, log entry 5). -/
opaque ecdsaP256Sign : (key msg : List Byte) → List Byte

/-- ML-DSA-65 signature under a private key (DESIGN CHOICE, log entry 5). -/
opaque mlDsa65Sign : (key msg : List Byte) → List Byte

/-- Public half of a private key of an algorithm code (DESIGN CHOICE, log entry 5). -/
opaque publicOf : (alg : Nat) → (key : List Byte) → List Byte

/-- A fresh private key of an algorithm code from the random number generator (DESIGN CHOICE, log entry 5). -/
opaque generateKey : (alg : Nat) → (draw : Nat) → List Byte

/-- Key material the factory writes to a slot (DESIGN CHOICE, log entry 5). -/
opaque factoryKey : Nat → List Byte

/-- FACTORY_KEY_ID and ENDORSE_EC of the identity record, 8 and 96 bytes (18 Table 18-4; DESIGN CHOICE, log entry 5). -/
opaque factoryKeyId : List Byte
opaque endorsement : List Byte

/-- AES-CMAC, 16 bytes (DESIGN CHOICE, log entry 5). -/
opaque aesCmac : (key msg : List Byte) → List Byte

/-- AES-GCM encryption: key, nonce, associated data, plaintext; ciphertext followed by the tag (DESIGN CHOICE, log entry 5). -/
opaque aesGcmSeal : (key nonce aad plain : List Byte) → List Byte

/-- AES-GCM decryption, none when the tag does not verify (DESIGN CHOICE, log entry 5). -/
opaque aesGcmOpen : (key nonce aad cipher : List Byte) → Option (List Byte)

/-- Key agreement: ECDH over a curve, private key, peer's public key (DESIGN CHOICE, log entry 5). -/
opaque ecdh : (priv peer : List Byte) → List Byte

/-- HKDF: input key, salt, info, length (DESIGN CHOICE, log entry 5). -/
opaque hkdf : (ikm salt info : List Byte) → (len : Nat) → List Byte

end Sys2Proof.Config
end

