-- ==== Sys2Proof/Machine/Image.lean ====
section
/-!
DEFINITION. Sys2Proof/Machine/Image.lean: what a hive image declares, section by section, as the units hold it once
it is loaded (04 Table 4-3 and the section layouts of the unit chapters).
-/
namespace Sys2Proof.Machine

/-- A comb entry (03 Table 3-3). -/
structure CombEntry where
  cphase : Nat
  start : Nat
  len : Nat
  mult : Nat
  mphase : Nat
  res : Nat
  act : Nat
  deriving DecidableEq, Repr, Inhabited

/-- The COMB section (03 Table 3-1). -/
structure Comb where
  hMs : Nat
  pMs : Nat
  costRev : Nat
  spreadCh : Nat
  spreadSlv : Nat
  spreadAux : Nat
  entries : List CombEntry
  deriving DecidableEq, Repr, Inhabited

/-- A task entry of LOGIC (06 Table 6-13). -/
structure TaskDef where
  entry : Nat
  length : Nat
  periodMs : Nat
  deriving DecidableEq, Repr, Inhabited

/-- The LOGIC section (06 Table 6-12); `code` holds the instruction words. -/
structure Logic where
  tasks : List TaskDef
  retWords : Nat
  bitExt : Nat
  wordExt : Nat
  outExt : Nat
  timerExt : Nat
  counterExt : Nat
  edgeExt : Nat
  nconst : Nat
  code : List Word
  deriving DecidableEq, Repr, Inhabited

/-- The INIT section (06 R192): arrays with zero values left out. -/
structure InitData where
  consts : SMap Word
  bits : SMap Bool
  words : SMap Word
  counters : SMap Word
  deriving DecidableEq, Repr, Inhabited

/-- An IDENT entry (04 Table 4-8). -/
structure IdentEntry where
  pid : Nat
  kind : Nat
  noCarry : Bool
  index : Nat
  len : Nat
  deriving DecidableEq, Repr, Inhabited

/-- A VALUES entry (04 Table 4-11). -/
structure ValueEntry where
  pid : Nat
  vkind : Nat
  vtype : Nat
  addr : Nat
  vmin : Int
  vmax : Int
  deriving DecidableEq, Repr, Inhabited

/-- A voted point (05 Table 5-2) with its safe words. -/
structure Point where
  oclass : Nat
  nwords : Nat
  target : Nat
  owner : Nat
  src : Nat
  safe : List Word
  deriving DecidableEq, Repr, Inhabited

/-- A loop descriptor (07 Table 7-1). -/
structure LoopDef where
  dir : Bool
  acceptStale : Bool
  group : Nat
  tsUs : Nat
  pvSp : Nat
  pvAddr : Nat
  spSp : Nat
  spAddr : Nat
  outAddr : Nat
  manBit : Option Nat
  manVal : Nat
  statAddr : Option Nat
  kp : Int
  ki : Int
  kd : Int
  alpha : Int
  outMin : Int
  outMax : Int
  rateMax : Int
  uInit : Int
  deriving DecidableEq, Repr, Inhabited

/-- A source word (11 Table 11-4). -/
inductive MtrSrc where
  | pulse (pin : Nat)
  | ain (i : Nat)
  | station (stn w : Nat)
  | feed (point w : Nat)
  deriving DecidableEq, Repr, Inhabited

/-- A panel region (22 R542). -/
structure PanelRegion where
  x : Nat
  y : Nat
  w : Nat
  h : Nat
  deriving DecidableEq, Repr, Inhabited

/-- The waveforms of one panel band (22 R542): per variant the phases, each 64 bytes; the clearing phases. -/
structure PanelBand where
  nph : Nat
  nphClr : Nat
  waves : List (List (List Byte))
  clear : List Byte
  deriving DecidableEq, Repr, Inhabited

/-- The PANEL section (22 Table 22-1). -/
structure PanelDef where
  hres : Nat
  vres : Nat
  sdiv : Nat
  hpad : Nat
  vpad : Nat
  nvar : Nat
  bandDef : Nat
  bandMap : Nat
  tempSrc : MtrSrc
  bandT : List Int
  railUs : List Nat
  vcomCode : Nat
  vhuThr : Nat
  vhuMin : Nat
  crkMax : Nat
  railIdleMs : Nat
  flDuty : Nat
  regions : List PanelRegion
  bands : List PanelBand
  deriving DecidableEq, Repr, Inhabited

/-! ## Solver sections (08 Tables 8-2 to 8-6, 09 Tables 9-1 to 9-6) -/

/-- A mantissa with an exponent, the value m × 2^e: short scalars, scalars and exact sums (08 R217, R219). -/
structure Sc where
  m : Int
  e : Int
  deriving DecidableEq, Repr, Inhabited

/-- A hydraulic node; a feed names a SOLVER_FEED point and a word of it. -/
structure HydNode where
  tag : Nat
  junction : Bool
  fshift : Int
  feed : Option (Nat × Nat)
  dflt : Int
  deriving DecidableEq, Repr, Inhabited

/-- A hydraulic element; `etype` is 1 PIPE, 2 VALVE, 3 PUMP, 4 REG. -/
structure HydElem where
  tag : Nat
  etype : Nat
  fshift : Int
  src : Nat
  dst : Nat
  p1 : Sc
  p2 : Sc
  feed : Option (Nat × Nat)
  sense : Option Nat
  deriving DecidableEq, Repr, Inhabited

/-- A publish entry of either problem. -/
structure PubEntry where
  kind : Nat
  pshift : Int
  index : Nat
  deriving DecidableEq, Repr, Inhabited

/-- An exponent entry (08 Table 8-6). -/
structure ExpEntry where
  arr : Nat
  exp : Int
  block : Nat
  deriving DecidableEq, Repr, Inhabited

/-- The HYDRAULIC section. -/
structure HydDef where
  method : Nat
  newtonMax : Nat
  linMax : Nat
  reuseLimit : Nat
  tolF : Sc
  tolH : Sc
  linTol : Sc
  dhMax : Sc
  xLam : Sc
  nodes : List HydNode
  elems : List HydElem
  pubs : List PubEntry
  exps : List ExpEntry
  deriving DecidableEq, Repr, Inhabited

/-- A feed source of the dispatch problem: a word of a SOLVER_FEED point, or a hydraulic published value. -/
inductive FeedSrc where
  | point (p w : Nat)
  | hyd (i : Nat)
  deriving DecidableEq, Repr, Inhabited

structure DispVar where
  tag : Nat
  noLo : Bool
  noUp : Bool
  feedk : Nat
  fshift : Int
  step : Option Nat
  series : Nat
  q : Sc
  lo : Sc
  up : Sc
  feed : Option FeedSrc
  dflt : Sc
  deriving DecidableEq, Repr, Inhabited

structure DispRow where
  tag : Nat
  noLo : Bool
  noUp : Bool
  eq : Bool
  feedk : Nat
  fshift : Int
  step : Option Nat
  series : Nat
  lo : Sc
  up : Sc
  feed : Option FeedSrc
  deriving DecidableEq, Repr, Inhabited

/-- A stored entry of P or A. -/
structure MatEntry where
  row : Nat
  col : Nat
  v : Sc
  deriving DecidableEq, Repr, Inhabited

/-- The DISPATCH section. -/
structure DispDef where
  stepMs : Nat
  periodHp : Nat
  phaseHp : Nat
  nstep : Nat
  alpha : Sc
  epsAbs : Sc
  epsRel : Sc
  epsInf : Sc
  checkEvery : Nat
  rhoEvery : Nat
  rhoExp : Int
  sigmaExp : Int
  eqShift : Nat
  rhoTol : Nat
  fshare : Nat
  reuseLimit : Nat
  vars : List DispVar
  rows : List DispRow
  p : List MatEntry
  a : List MatEntry
  pubs : List PubEntry
  order : List Nat
  exps : List ExpEntry
  deriving DecidableEq, Repr, Inhabited

/-! ## Field sections (10 Tables 10-1 to 10-3, 12 Tables 12-1 and 12-2, 13 Table 13-1) -/

/-- A station group; `link` is 0x00 to 0x37 for a CAN channel, 0x40 to 0x47 for a port. -/
structure GroupDef where
  group : Nat
  link : Nat
  authPoll : Bool
  next : Option Nat
  gkey : Nat
  turnUs : Nat
  nmemb : Nat
  ext : Bool
  netid : Nat
  deriving DecidableEq, Repr, Inhabited

/-- A station. -/
structure StnDef where
  stn : Nat
  group : Nat
  sid : Nat
  addr : Nat
  inLen : Nat
  missLimit : Nat
  auth : Bool
  tag16 : Bool
  key : Nat
  mac : Nat
  uport : Nat
  ip : List Byte
  subst : List Byte
  deriving DecidableEq, Repr, Inhabited

/-- The STATIONS section. -/
structure StationsDef where
  wfpPort : Nat
  groups : List GroupDef
  stns : List StnDef
  deriving DecidableEq, Repr, Inhabited

/-- A filter element: `ftype` 1 RANGE, 2 DUAL, 3 MASK, 0 unused. -/
structure CanFilter where
  ftype : Nat
  ide : Bool
  toHost : Bool
  id1 : Nat
  id2 : Nat
  deriving DecidableEq, Repr, Inhabited

/-- A CAN channel block. -/
structure CanChDef where
  chan : Nat
  monitor : Bool
  fdEn : Bool
  brsEn : Bool
  tdcEn : Bool
  defHost : Bool
  hostObj : Nat
  nbrp : Nat
  ntseg1 : Nat
  ntseg2 : Nat
  nsjw : Nat
  dbrp : Nat
  dtseg1 : Nat
  dtseg2 : Nat
  dsjw : Nat
  tdco : Nat
  recovMs : Nat
  filters : List CanFilter
  deriving DecidableEq, Repr, Inhabited

/-- An Ethernet port entry. -/
structure EthPortDef where
  port : Nat
  pmode : Nat
  speed : Nat
  red : Nat
  vlanEn : Bool
  macsec : Bool
  xpn : Bool
  hostRx : Bool
  ipv6 : Bool
  ptpUntag : Bool
  dormEn : Bool
  pcp : Nat
  vid : Nat
  mac : Nat
  ip : List Byte
  sciPort : Nat
  key0 : Nat
  key1 : Nat
  replayWin : Nat
  dormVid : Nat
  deriving DecidableEq, Repr, Inhabited

/-! ## METER (11 Tables 11-1 to 11-4) -/

/-- A channel of an electrical system: MD input, DELAY, GAIN, full scale; `md` none for an unused role. -/
structure MdChan where
  md : Option Nat
  delay : Int
  gain : Nat
  fs : Sc
  deriving DecidableEq, Repr, Inhabited

/-- An electrical system: roles U1, U2, U3, I1, I2, I3. -/
structure EmDef where
  em : Nat
  four : Bool
  invert : Bool
  vlossPct : Nat
  nthrPct : Nat
  uNom : Sc
  chans : List MdChan
  deriving DecidableEq, Repr, Inhabited

/-- A thermal point; `medium` 1 HEAT, 2 COLD; `role` 1 PLANT, 2 STORE. -/
structure TmDef where
  tm : Nat
  medium : Nat
  role : Nat
  sensorRet : Bool
  flow : MtrSrc
  tsup : MtrSrc
  tret : MtrSrc
  dir : Option Nat
  pulseL : Sc
  pDecl : Sc
  deriving DecidableEq, Repr, Inhabited

/-- A station counter. -/
structure StnCtrDef where
  stn : Nat
  ofs : Nat
  deriving DecidableEq, Repr, Inhabited

/-- The METER section. -/
structure MeterDef where
  intvS : Nat
  fNom : Nat
  mckDiv : List Nat
  loss : Option MtrSrc
  balThr : Sc
  ems : List EmDef
  tms : List TmDef
  ctrs : List StnCtrDef
  deriving DecidableEq, Repr, Inhabited

/-! ## ANALOG (14 Tables 14-1 to 14-4) -/

/-- An input entry; `mode` 1 single-ended, 2 differential, 3 negative leg. -/
structure AinDef where
  mode : Nat
  trig : Option (Nat × Nat)
  tset : Nat
  mul : Int
  ofs : Int
  thrLo : Int
  thrHi : Int
  deriving DecidableEq, Repr, Inhabited

/-- A sequence with its conversion list; for INTERLEAVED one input and the number of results. -/
structure AdcSeq where
  seqno : Nat
  adc : Nat
  inter : Bool
  nconv : Nat
  list : List Nat
  deriving DecidableEq, Repr, Inhabited

/-- The ANALOG section; `urgent` entry 8n + j is the input of urgent entry j of ADCn. -/
structure AnalogDef where
  ext : Bool
  ains : List AinDef
  urgent : List (Option Nat)
  seqs : List AdcSeq
  deriving DecidableEq, Repr, Inhabited

/-! ## AXES (15 Tables 15-1 and 15-2) -/

structure AxisDef where
  axis : Nat
  group : Nat
  dirInv : Bool
  enLow : Bool
  retain : Bool
  autoDis : Bool
  homePos : Bool
  swLow : Bool
  enSafe : Bool
  filt : Nat
  stepW : Nat
  dirSu : Nat
  enLead : Nat
  idleMs : Nat
  vStart : Nat
  vStop : Nat
  v1 : Nat
  a1 : Nat
  amax : Nat
  dmax : Nat
  d1 : Nat
  vHome : Nat
  posMin : Int
  posMax : Int
  deriving DecidableEq, Repr, Inhabited

/-- The AXES section: INTERP bit of each group, the axes, the PWM periods. -/
structure AxesDef where
  interp : List Bool
  axes : List AxisDef
  pwm : List Nat
  deriving DecidableEq, Repr, Inhabited

/-- A loaded image: the header fields a unit uses, and its sections. -/
structure Image where
  imageId : Nat
  epoch : Nat
  size : Nat
  digestPfx : List Byte
  autorun : Bool
  raiseEpoch : Bool
  comb : Comb
  logic : Logic
  init : InitData
  ident : List IdentEntry
  values : List ValueEntry
  loops : List LoopDef
  points : List Point
  events : Option (List Nat)
  panel : Option PanelDef
  hyd : Option HydDef
  disp : Option DispDef
  stations : Option StationsDef
  can : List CanChDef
  eth : List EthPortDef
  meter : Option MeterDef
  analog : Option AnalogDef
  axes : Option AxesDef
  deriving DecidableEq, Repr, Inhabited

end Sys2Proof.Machine
end

