-- ==== Sys2Proof/Machine/Units.lean ====
section
/-!
DEFINITION. Sys2Proof/Machine/Units.lean: the state of each unit as plain data, chapter by chapter: global states,
clocks and power, device time, comb, supers, channels, voters, loops, host interface and command interpreter.
-/
namespace Sys2Proof.Machine

/-! ## Global states (00 Table 0-1) -/

/-- Power states; DORMANT is orderly or on loss (19 R495). -/
inductive Power where
  | off | dormantLoss | dormantOrderly | service
  deriving DecidableEq, Repr, Inhabited

/-- Run states (17 Table 17-1). -/
inductive Run where
  | init | setup | run | halt
  deriving DecidableEq, Repr, Inhabited

/-- Time states (02 R42). -/
inductive TState where
  | free | holdover | trusted
  deriving DecidableEq, Repr, Inhabited

/-- Item qualities (00 Table 0-2). -/
inductive Quality where
  | good | stale | subst | sim | missing | void
  deriving DecidableEq, Repr, Inhabited

/-- Channel states (05 Table 5-5). -/
inductive ChState where
  | voting | excluded | selftest | copy | shadow
  deriving DecidableEq, Repr, Inhabited

/-! ## Clocks and power (19) -/

/-- A monitored source: qualified, failed since it last qualified, runs of good and of bad windows (19 R481). -/
structure SrcMon where
  qual : Bool
  failed : Bool
  good : Nat
  bad : Nat
  deriving DecidableEq, Repr, Inhabited

/-- A frequency measurement in progress or waiting for its completion (19 R488). -/
structure FreqJob where
  seq : Nat
  src : Nat
  t : Nat
  startState : TState
  moved : Bool
  result : Option (Nat × Nat)
  deriving DecidableEq, Repr, Inhabited

/-- What a cause of smoker forcing covers (19 Table 19-3). -/
inductive ForceCause where
  | channelClock | restart | network | solver | field | axis
  deriving DecidableEq, Repr, Inhabited

structure Clk where
  mons : List SrcMon
  foscRun : Bool
  soscRun : Bool
  pllref : Bool
  aonSosc : Bool
  fail : Nat
  failcnt : Nat
  soscMhz : Nat
  /-- Islands in clock-failure wait. -/
  wait : List Island
  /-- Waiting islands whose divider ramp has started. -/
  ramp : List Island
  force : List ForceCause
  /-- The key island or a voter slice stands gated: PLL_AUX and FOSC both failed (19 R505). -/
  gated : Bool
  freqJobs : List FreqJob
  deriving DecidableEq, Repr, Inhabited

structure Pwr where
  power : Power
  vin : Bool
  vaux : Bool
  vio : List Bool
  lastStart : Nat
  wakeSrc : Nat
  /-- A wake source has acted since entry into DORMANT and VIN was absent (19 R497). -/
  wakePending : Option WakeSrc
  /-- The DORMANT entry sequence runs (19 R496). -/
  dormEntry : Bool
  ops : Nat
  opsHi : Nat
  /-- DT at the start of the current operating second. -/
  opsStart : Nat
  pcyc : Nat
  vinLoss : Nat
  wdog : Nat
  deriving DecidableEq, Repr, Inhabited

/-! ## Device time (02) -/

/-- A domain clock and its servo; `ofs` is domain clock − DT in ns (02 R37 to R40). -/
structure Domain where
  set : Bool
  ofs : Rat
  integ : Rat
  freq : Rat
  lock : Bool
  good : Nat
  bad : Nat
  outliers : Nat
  missed : Nat
  slave : Option Nat
  logSync : Int
  /-- The offset o of the Sync received in the open sync interval, in ns (02 R38). -/
  sample : Option Rat
  /-- End of the last sync interval judged, and the DT of the last lock. -/
  ivEnd : Nat
  lockDt : Option Nat
  deriving DecidableEq, Repr, Inhabited

structure Tim where
  /-- DT in whole ns (02 R28). -/
  dt : Nat
  /-- Part of a ns beyond `dt`; DT_FRAC is its first 16 bits. -/
  frac : Rat
  dtHi : Nat
  dtFrac : Nat
  tstate : TState
  active : Dom
  everLocked : Bool
  bleeding : Bool
  stepWait : Bool
  /-- A first-lock step is due to this domain's clock (02 R43). -/
  stepDue : Option Dom
  /-- Frequency correction the active domain last supplied. -/
  fcorr : Rat
  utcValid : Bool
  utcOfs : Int
  pri : Domain
  sec : Domain
  /-- Mean path delay of each port in 2^-16 ns. -/
  delay : SMap Int
  /-- DT handed to the always-on shadow, and XIN2 and SOSC cycles counted since (02 R50). -/
  shadowDt : Nat
  shadowNx : Nat
  shadowNs : Nat
  shadowMhz : Nat
  deriving DecidableEq, Repr, Inhabited

/-! ## Comb (03) -/

/-- A cell whose activity had not completed when its command ran: entry, resource, what remains. -/
structure OpenCell where
  e : Nat
  res : Nat
  rest : List Nat
  deriving DecidableEq, Repr, Inhabited

/-- What one channel did in the control cycle: the tasks whose scan completed. -/
structure CycleWork where
  done : List Nat
  deriving DecidableEq, Repr, Inhabited

/-- The control cycle under way: index in the hyperperiod, DT of its Agree start, whether its snapshot was
delivered, what each channel did, whether a DUPLEX index difference forces its outputs (03 R79). -/
structure Cycle where
  idx : Nat
  agreeDt : Nat
  live : Bool
  work : Tri CycleWork
  forced : Bool
  redund : Nat
  deriving DecidableEq, Repr, Inhabited

structure CombSt where
  /-- CSTATE: 0 stopped, 1 waiting for a boundary, 2 running. -/
  cstate : Nat
  k : Int
  gap : Bool
  hpHi : Nat
  opened : List Nat
  open_ : List OpenCell
  ovrEv : List Nat
  ovrNow : Bool
  ovrHp : Bool
  ovrTot : Nat
  ovr : SMap (Nat × Nat)
  cyc : Cycle
  /-- A DUPLEX index difference in a cell outside any control cycle forces the next one (03 R79). -/
  forceNext : Bool
  deriving DecidableEq, Repr, Inhabited

/-! ## Supers (04) -/

inductive SuperSt where
  | empty | writing | loaded | active | armed | invalid
  deriving DecidableEq, Repr, Inhabited

structure Super where
  st : SuperSt
  lastStat : Nat
  bytes : SMap Byte
  deriving DecidableEq, Repr, Inhabited

/-- An armed swap (04 R100 to R104). -/
structure Armed where
  super : Nat
  hp : Int
  committed : Bool
  staged : Bool
  chStaged : Tri Bool
  seq : Option Nat
  deriving DecidableEq, Repr, Inhabited

/-- An accepted EDIT waiting for its boundary (04 R117). -/
structure PendEdit where
  seq : Nat
  items : List (ValueEntry × Word)
  deriving DecidableEq, Repr, Inhabited

/-- An accepted READ waiting for its boundary (17 R450). -/
structure PendRead where
  seq : Nat
  pids : List Nat
  deriving DecidableEq, Repr, Inhabited

structure Sup where
  s0 : Super
  s1 : Super
  armed : Option Armed
  /-- The image the units hold in their bank in use, and the one staged in the other. -/
  bank : Option Image
  staged : Option Image
  overlay : SMap (Option Word)
  edits : List PendEdit
  reads : List PendRead
  report : List (Nat × Nat)
  deriving DecidableEq, Repr, Inhabited

/-! ## Channels (05, 06, 07) -/

/-- Operations the nesting stack stores (06 R172). -/
inductive StackOp where
  | and | or | xor | add | sub | mul | qmul
  deriving DecidableEq, Repr, Inhabited

structure StackEntry where
  ba : Bool
  wa : Word
  op : StackOp
  deriving DecidableEq, Repr, Inhabited

structure Timer where
  et : Nat
  tt : Bool
  q : Bool
  deriving DecidableEq, Repr, Inhabited

structure Counter where
  cv : Word
  q : Bool
  cl : Bool
  cinit : Bool
  deriving DecidableEq, Repr, Inhabited

structure Edge where
  m : Bool
  einit : Bool
  deriving DecidableEq, Repr, Inhabited

/-- A task record: last scan time, first-scan marks, last fault flags (06 Table 6-2). -/
structure TaskRec where
  last : Option Nat
  firstRun : Bool
  firstSwap : Bool
  /-- The interval since the last scan holds a gap: d is substituted (06 R161). -/
  gap : Bool
  flt : Nat
  deriving DecidableEq, Repr, Inhabited

inductive LoopStart where
  | fresh | resume | none
  deriving DecidableEq, Repr, Inhabited

/-- The state of a loop (07 Table 7-2) and the missed windows not yet reported (R209). -/
structure Loop where
  i : Int
  uPrev : Int
  dState : Int
  pvPrev : Int
  tLast : Nat
  winLast : Option Int
  start : LoopStart
  dlPend : Bool
  miss : Nat
  /-- A step gap lies before the next sample: no missed windows (07 Table 7-5). -/
  gap : Bool
  deriving DecidableEq, Repr, Inhabited

/-- An item record of the snapshot: quality and acquisition DT (06 R167). -/
structure Item where
  q : Quality
  acq : Option Nat
  deriving DecidableEq, Repr, Inhabited

/-- An open scan: its task, its cell's entry, the next instruction address, scan time and interval in µs, cycles. -/
structure Scan where
  task : Nat
  e : Nat
  pc : Nat
  ts : Nat
  d : Nat
  cyc : Nat
  deriving DecidableEq, Repr, Inhabited

/-- The channel state that COPY transfers (05, Copy; 06 Table 6-2). -/
structure ChMem where
  bits : SMap Bool
  words : SMap Word
  out : SMap Word
  req : SMap Bool
  timers : SMap Timer
  counters : SMap Counter
  edges : SMap Edge
  tasks : SMap TaskRec
  loops : SMap Loop
  deriving DecidableEq, Repr, Inhabited

/-- Page bases of the copied regions and the page count, from the declared extents (06 R586). -/
structure Layout where
  words : Nat
  out : Nat
  req : Nat
  timers : Nat
  counters : Nat
  edges : Nat
  tasks : Nat
  loops : Nat
  total : Nat
  deriving DecidableEq, Repr, Inhabited

structure Chan where
  st : ChState
  /-- Accumulators, index register, flags and nesting stack of the engine (06 R172). -/
  ba : Bool
  wa : Word
  ix : BitVec 21
  ov : Bool
  dz : Bool
  iff : Bool
  stack : List StackEntry
  scan : Option Scan
  mem : ChMem
  /-- Program, constants with the overlay, and the snapshot with its items. -/
  prog : List Word
  consts : SMap Word
  snap : SMap Word
  items : SMap Item
  sys : SMap Word
  /-- Hyperperiods with a Vote cell in which the channel took outvote marks, counted back from the current one. -/
  marks : List Nat
  cause : Nat
  attempts : Nat
  excl : Nat
  /-- DTs of exclusions, newest first, with cause and state left (05 R149, 17 HISTORY). -/
  hist : List (Nat × Nat × Nat)
  attemptDt : Option Nat
  notBefore : Nat
  resetDone : Bool
  stres : Nat
  stDone : Bool
  /-- COPY: source, boundaries passed, DT up to which the initial pass is accounted, bytes of it left, whether it
  ended, whether the final pass ended (05 R144). -/
  copySrc : Option ChId
  copyBnd : Nat
  copyAt : Nat
  copyLeft : Nat
  copyInit : Bool
  copyFinal : Bool
  /-- Page layout of the channel state, and the pages written since a copier last took them (05 R144). -/
  lay : Layout
  touched : List Nat
  /-- SHADOW: shadow hyperperiods passed, a Vote cell ran in the current one. -/
  shadowHp : Nat
  clkFail : Bool
  restart : Bool
  /-- The self-test of a restart in place has passed: the channel resumes at the next boundary (05 R138). -/
  ready : Bool
  deriving DecidableEq, Repr, Inhabited

/-- The retentive checkpoint buffers (05 R151, R153). -/
structure Ckpt where
  hp : Int
  super : Nat
  digestPfx : List Byte
  len : Nat
  data : SMap Word
  deriving DecidableEq, Repr, Inhabited

structure Chn where
  ch : Tri Chan
  discnt : Nat
  safecnt : Nat
  ckptVoid : Nat
  buf0 : Option Ckpt
  buf1 : Option Ckpt
  clkwait : Bool
  /-- Channels still to be tried after a failed restart in place (05 R139). -/
  tryNext : List ChId
  /-- The channel whose self-test that sequence runs now. -/
  trying : Option ChId
  /-- A Vote cell ran in the current hyperperiod (05 R134, R147). -/
  voted : Bool
  /-- LGE register counters and flags per task (06 R196). -/
  lgeFlags : SMap Nat
  lgeScans : SMap Nat
  lgeOvr : SMap Nat
  lgeStk : SMap Nat
  lgeCyc : SMap Nat
  lgeEv : List Nat
  reqdis : Nat
  /-- LPE registers (07 R212). -/
  dlcnt : Nat
  missWin : Nat
  held : Nat
  lastSkip : Option Nat
  dl : SMap Bool
  deriving DecidableEq, Repr, Inhabited

/-! ## Voters (05, 06) -/

/-- What one channel posted for the control cycle: ballots per point, station and ADC request bits. -/
structure Posted where
  ballots : List (Nat × List Word)
  stn : Option (SMap Bool)
  adc : Option Nat
  deriving DecidableEq, Repr, Inhabited

structure Voter where
  posted : Tri Posted
  /-- Voted values waiting for their write tick. -/
  voted : List (Nat × List Word)
  /-- The last driven value of each point. -/
  driven : SMap (List Word)
  /-- Voted request bits: WRITE_HOLD per station, ADC start bits. -/
  hold : SMap Bool
  adcReq : Nat
  /-- SOLVER_FEED values held for the solver (08 R231). -/
  feeds : SMap (List Word)
  /-- The feeds of this control cycle are already held. -/
  feedsTaken : Bool
  deriving DecidableEq, Repr, Inhabited

/-! ## Host interface (16) -/

/-- A queue pair: absolute counts of entries latched, fetched, taken by the management island, posted and released;
the slot index of a count is its remainder by the ring size. -/
structure Qp where
  id : Nat
  kind : Nat
  sizeLog : Nat
  vector : Nat
  ien : Bool
  mask : Nat
  sqBase : Nat
  cqBase : Nat
  /-- Last doorbell values written. -/
  tailDb : Nat
  headDb : Nat
  latched : Nat
  fetched : Nat
  posted : Nat
  released : Nat
  /-- Stream entries written and not yet fetched, and those fetched and not yet completed. -/
  wait : List SqEntry
  bufs : List SqEntry
  /-- Message objects gathered in the open CAN_RX buffer. -/
  gathered : List (List Byte)
  /-- MSI-X: posted since the last signal; hold-off running (16 R429). -/
  sig : Bool
  holdoff : Bool
  /-- EVENT pair: the overflow entry stands in the last slot (16 R427). -/
  full : Bool
  deriving DecidableEq, Repr, Inhabited

/-- An event raised and not yet posted (16 R430). -/
structure Event where
  n : Nat
  res0 : Nat
  hp : Int
  dt : Nat
  sev : Nat
  deriving DecidableEq, Repr, Inhabited

/-- A command between hand-over and completion (17 R445). -/
structure Held where
  seq : Nat
  qp : Nat
  cid : Nat
  opc : Nat
  /-- Acceptance DT. -/
  acc : Nat
  /-- The completion is discarded: 0 no, 1 by link-down (counted), 2 silently. -/
  fate : Nat
  deriving DecidableEq, Repr, Inhabited

/-- A completion produced and not yet posted, with its read-back data. -/
structure Cpl where
  qp : Nat
  cid : Nat
  opc : Nat
  status : Nat
  res0 : Nat
  res1 : Nat
  dt : Nat
  data : List Byte
  fate : Nat
  deriving DecidableEq, Repr, Inhabited

/-- What leaves the block at its boundary, newest first. -/
inductive Out where
  /-- A completion or event entry written to a CQ slot with its phase (16 Table 16-7). -/
  | cqe (qp slot : Nat) (phase : Bool) (res0 res1 dt cid sqHead status : Nat)
  /-- Read-back data of a command written to its host buffer. -/
  | readback (qp cid : Nat) (data : List Byte)
  | msix (vector : Nat)
  /-- A CAN frame offered to a bus: channel, IDW, CTW, data. -/
  | canTx (ch idw ctw : Nat) (data : List Byte)
  /-- An Ethernet frame handed to a port. -/
  | ethTx (port : Nat) (data : List Byte)
  /-- A DOUT or PWM ball takes a level or a duty. -/
  | ball (cls target : Nat) (v : Word)
  /-- An axis takes a step in a direction. -/
  | step (ax : Nat) (positive : Bool)
  /-- The panel drives a phase of a region: the drive codes of its pixels, row by row (22 R547). -/
  | panel (region phase : Nat) (codes : List Nat)
  /-- PTP Announce and Sync on a port. -/
  | ptp (port : Nat) (dom : Nat)
  deriving DecidableEq, Repr, Inhabited

/-- A batch of SQ entries on its way: the pair, how many, when the cost model has their data arrive, late. -/
structure HostRead where
  qp : Nat
  d : Nat
  due : Nat
  late : Bool
  deriving DecidableEq, Repr, Inhabited

/-- An open HST cell: its end tick, and the DT up to which its transfers reach. -/
structure HostWin where
  stop : Nat
  busy : Rat
  /-- Pairs signalled in this cell (16 R429). -/
  signalled : List Nat
  deriving DecidableEq, Repr, Inhabited

structure Hst where
  link : Bool
  qps : List Qp
  events : List Event
  cpls : List Cpl
  /-- Queue pair of each entry fetched and not yet taken, in fetch order, + 64 × fate of the completion. -/
  handover : List Nat
  /-- Pairs whose deletion waits for their fetched entries (16 R420). -/
  deleting : List (Nat × Nat)
  evLost : Nat
  lateRd : Nat
  linkDn : Nat
  cplDrop : Nat
  lockWr : Nat
  msixMask : List Nat
  msixPend : List Nat
  /-- Reads of host memory under way, in order of issue, and the HST cell whose transfers go on (16 R428). -/
  reads : List HostRead
  cell : Option HostWin
  out : List Out
  deriving DecidableEq, Repr, Inhabited

/-! ## Command interpreter (17) -/

structure Challenge where
  value : List Byte
  issue : Nat
  deriving DecidableEq, Repr, Inhabited

/-- An authorised command that awaits verification, with the challenge it consumed (17 R447, R449). -/
structure AuthWait where
  seq : Nat
  cmd : Instr
  chal : Option Challenge
  deriving DecidableEq, Repr

structure Mgt where
  run : Run
  /-- HMODE of the last HALT (17 R440). -/
  hmode : Nat
  /-- HALT waits for its boundary (17 R440). -/
  haltDue : Bool
  held : List Held
  seq : Nat
  chal : Option Challenge
  auth : Option AuthWait
  autorun : Bool
  forces : List (Nat × List Word)
  /-- FENCE-waiting commands with their tag: queue pair + 64 × fate of the completion. -/
  fenceWait : List (Nat × Instr)
  /-- ACTIVATE running: its command and super; solver structures building (17 R437). -/
  activate : Option (Nat × Nat)
  solverBuild : Bool
  startWork : Bool
  cmdOk : Nat
  cmdFail : Nat
  lastFail : Nat × Nat × Nat × Nat
  authFail : Nat
  deriving DecidableEq, Repr

end Sys2Proof.Machine
end

