-- ==== Sys2Proof/Machine/Units2.lean ====
section
/-!
DEFINITION. Sys2Proof/Machine/Units2.lean: the state of the always-on and panel units: calendar, recorder, panel.
-/
namespace Sys2Proof.Machine

/-! ## Calendar (20); calendar values are seconds since 2000-01-01 00:00:00 -/

/-- An alarm (20 R516 to R519); `blocked` holds the release value. -/
structure Alarm where
  en : Bool
  drop : Bool
  mask : Nat
  t : Civil
  blocked : Option Nat
  lastFire : Option Nat
  fired : Nat
  skipped : Nat
  deriving DecidableEq, Repr, Inhabited

/-- What a waiting adjustment does (20 R512). -/
inductive Adj where
  | set (secs : Nat)
  | addHour
  | subHour
  deriving DecidableEq, Repr, Inhabited

structure AdjWait where
  seq : Nat
  acc : Nat
  adj : Adj
  deriving DecidableEq, Repr, Inhabited

/-- An accepted RTC_FROM_PTP: the DT second at which it applies and the value it gives (20 R514). -/
structure PtpSet where
  seq : Nat
  w : Nat
  secs : Int
  deriving DecidableEq, Repr, Inhabited

structure Rtc where
  secs : Nat
  /-- DT at the start of the current second. -/
  start : Nat
  trimSec : Nat
  trim : Int
  trimNext : Option Int
  osf : Bool
  stopped : Bool
  range : Bool
  summer : Bool
  al0f : Bool
  al1f : Bool
  waiting : List AdjWait
  ptp : List PtpSet
  adj : Nat
  al0 : Alarm
  al1 : Alarm
  cal1 : Nat
  sub : Nat
  deriving DecidableEq, Repr, Inhabited

/-! ## Recorder (21) -/

/-- A record raised and not yet committed: number, severity, bytes 4 to 55. -/
structure StagedRec where
  rno : Nat
  sev : Nat
  bytes : List Byte
  deriving DecidableEq, Repr, Inhabited

/-- A committed record: number, severity, its 64 bytes, sealed (SEAL not zero under 21 R529). -/
structure StoredRec where
  rno : Nat
  sev : Nat
  bytes : List Byte
  sealed : Bool
  deriving DecidableEq, Repr, Inhabited

/-- A signature in progress: its COVER_RNO, the chain value it signs, key-island cycles left (21 R530). -/
structure SignJob where
  cover : Nat
  chain : List Byte
  work : Nat
  deriving DecidableEq, Repr, Inhabited

/-- An open REC cell: its end tick, the records its quota still allows, the DT up to which its work reaches. -/
structure RecWin where
  stop : Nat
  quota : Nat
  at_ : Rat
  deriving DecidableEq, Repr, Inhabited

structure Rec where
  win : Option RecWin
  staging : List StagedRec
  stored : List StoredRec
  chain : List Byte
  /-- Chained records since the last signature pair was due, and the RNO of the last one. -/
  chained : Nat
  lastChained : Nat
  sign : Option SignJob
  freeze : Option Nat
  keybad : Bool
  ev97 : Bool
  ev99 : Bool
  written : Nat
  overw : Nat
  stgFull : Nat
  badSeal : Nat
  sigSkip : Nat
  cover : Nat
  refused : List Nat
  deriving DecidableEq, Repr, Inhabited

/-! ## Panel (22) -/

/-- A journal entry (22 Table 22-3). -/
structure Journal where
  seq : Nat
  journaled : Bool
  band : Nat
  map : Nat
  rect : PanelRegion
  frameId : Nat
  startDt : Nat
  dataCrc : Nat
  deriving DecidableEq, Repr, Inhabited

/-- A running update: the frames driven so far, clearing phases first when it is start-up work. -/
structure PnlRun where
  cmd : Option Nat
  clear : Bool
  band : Nat
  map : Nat
  /-- The map as it stood at the start (22 R545), and the variants of the section. -/
  mapData : SMap Byte
  nvar : Nat
  /-- The band's waveforms as they stood at the start: a swap does not change them (22 Table 22-5). -/
  wave : PanelBand
  rect : PanelRegion
  frameId : Nat
  jseq : Nat
  /-- DT of the first frame (22 Table 22-3, START_DT), and the phases driven so far. -/
  first : Nat
  phase : Nat
  deriving DecidableEq, Repr, Inhabited

structure PnlPend where
  seq : Nat
  frameId : Nat
  data : List Byte
  deriving DecidableEq, Repr, Inhabited

structure PnlRegSt where
  pend : Option PnlPend
  run : Option PnlRun
  journal : Journal
  /-- The completion word; none when lost at a start from OFF (22 R554). -/
  done : Option Nat
  /-- Start-up work of the region is due (22 R558). -/
  work : Bool
  lastId : Nat
  band : Nat
  repl : Nat
  ev115 : Bool
  /-- The command whose update was discharged and is to be redrawn. -/
  owed : Option Nat
  deriving DecidableEq, Repr, Inhabited

/-- Rails: down, coming up, up, going down with PEN5 discharging (22 R548). -/
inductive Rails where
  | down | rising | up | discharging
  deriving DecidableEq, Repr, Inhabited

structure Pnl where
  regs : List PnlRegSt
  maps : List (SMap Byte)
  /-- The committed frame store S and the display image, 512 bytes a row. -/
  store : SMap Byte
  disp : SMap Byte
  rails : Rails
  /-- DT at which the rail sequence under way ends; while the rails are up, DT of the next frame start. -/
  railAt : Nat
  /-- Duration of a frame in ns with the geometry taken at rails-up, and DT at which the last update completed. -/
  tFrame : Nat
  idleFrom : Nat
  pen : List Bool
  vcom : Bool
  fl : Bool
  cracked : Bool
  /-- The start-up work has ended; the panel stands in RECOVERY; the rails go down after running updates. -/
  started : Bool
  recovery : Bool
  closing : Bool
  /-- VIN was lost while updates ran: completion from the hold-up store (22 R556). -/
  holdup : Bool
  band : Nat
  lastTemp : Option Int
  crkOhm : Nat
  vhuMv : Nat
  updOk : Nat
  replCnt : Nat
  cut : Nat
  fdis : Nat
  crkCnt : Nat
  ev116 : Bool
  deriving DecidableEq, Repr, Inhabited

end Sys2Proof.Machine
end

