-- ==== Sys2Proof/Machine/Units3.lean ====
section
/-!
DEFINITION. Sys2Proof/Machine/Units3.lean: the state of the solver island (08, 09).
-/
namespace Sys2Proof.Machine

/-- A publication buffer: status words, value words, whether it counts as published, and its DTs (08 R241, R242). -/
structure PubBuf where
  status : List Word
  vals : List Word
  missing : Bool
  acq : Option Nat
  /-- DT at which this update completed (01 R19). -/
  dt : Nat
  deriving DecidableEq, Repr, Inhabited

/-- A factorisation in progress: segments committed, and the factor entries computed so far; for dispatch the
exponent of its step size and whether unit K has assembled the matrix. -/
structure FacJob where
  seg : Nat
  vals : SMap Int
  rho : Int
  ready : Bool
  deriving DecidableEq, Repr, Inhabited

/-- A delta record of either problem (08 Table 8-8). -/
structure DeltaRec where
  prob : Nat
  dkind : Nat
  tag : Nat
  value : Word
  deriving DecidableEq, Repr, Inhabited

/-- The hydraulic problem (08). -/
structure HydSt where
  /-- The structure in force, deltas included, and as it was built. -/
  defn : Option HydDef
  base : Option HydDef
  heads : List Int
  flows : List Int
  fixh : List Int
  mat : List Int
  factor : Option (SMap Int)
  pend : Option FacJob
  deltas : List DeltaRec
  /-- A topology structure under build or built: command, structure, built. -/
  topo : Option (Nat × HydDef × Bool)
  /-- Bytes of a rebuild still to run (R216). -/
  rebuild : Nat
  /-- An uncorrectable working-set error counts as a digest difference of the next unit (R216). -/
  wsErr : Bool
  cause : Nat
  reuse : Nat
  newton : Nat
  iters : Nat
  cyc : Nat
  pubs : Nat
  /-- SLV_HYD cells that did not run in a clock-failure wait (R246). -/
  missed : Nat
  pub : PubBuf
  prev : PubBuf
  deriving DecidableEq, Repr, Inhabited

/-- The dispatch problem (09). -/
structure DispSt where
  defn : Option DispDef
  base : Option DispDef
  x : List Int
  zb : List Int
  yb : List Int
  z : List Int
  y : List Int
  xPrev : List Int
  yPrev : List Int
  ybPrev : List Int
  q : List Int
  lo : List Int
  up : List Int
  xl : List Int
  xu : List Int
  factor : Option (SMap Int)
  pend : Option FacJob
  rho : Int
  frozen : Bool
  deltas : List DeltaRec
  topo : Option (Nat × DispDef × Bool × Nat)
  rebuild : Nat
  wsErr : Bool
  /-- The solve start of the current window is due; a solve runs; it converged and staged; a check is due. -/
  startDue : Bool
  running : Bool
  conv : Bool
  fDue : Bool
  it : Nat
  /-- Unit P is due: the last check converged and P has not committed (R281). -/
  pDue : Bool
  primal : Bool
  dual : Bool
  pres : Sc
  dres : Sc
  /-- Values and SAT staged by unit P. -/
  staged : Option (List Word × Bool)
  cause : Nat
  refac : Nat
  /-- k0 of the current window, none before the first one since entry into RUN; window ends since the kept
  iterate's window began. -/
  win : Option Int
  ends : Nat
  reuse : Nat
  winHi : Nat
  solves : Nat
  pubs : Nat
  shifts : Nat
  pub : PubBuf
  prev : PubBuf
  deriving DecidableEq, Repr, Inhabited

structure Slv where
  misrun : Nat
  laneTest : Nat
  laneFailed : Bool
  laneMis : Nat
  eccUnc : Nat
  uflow : Nat
  hyd : HydSt
  disp : DispSt
  /-- The publications the snapshot holds (01 R19), taken in the publish cell. -/
  snapHyd : Option PubBuf
  snapDisp : Option PubBuf
  deriving DecidableEq, Repr, Inhabited

def PubBuf.reset : PubBuf := ⟨[0, 0, 0, 0, 0, 0, 0, 0], [], true, none, 0⟩

def HydSt.reset : HydSt where
  defn := none
  base := none
  heads := []
  flows := []
  fixh := []
  mat := []
  factor := none
  pend := none
  deltas := []
  topo := none
  rebuild := 0
  wsErr := false
  cause := 0
  reuse := 0
  newton := 0
  iters := 0
  cyc := 0
  pubs := 0
  missed := 0
  pub := PubBuf.reset
  prev := PubBuf.reset

def DispSt.reset : DispSt where
  defn := none
  base := none
  x := []
  zb := []
  yb := []
  z := []
  y := []
  xPrev := []
  yPrev := []
  ybPrev := []
  q := []
  lo := []
  up := []
  xl := []
  xu := []
  factor := none
  pend := none
  rho := 0
  frozen := false
  deltas := []
  topo := none
  rebuild := 0
  wsErr := false
  startDue := false
  running := false
  conv := false
  fDue := false
  it := 0
  pDue := false
  primal := false
  dual := false
  pres := ⟨0, 0⟩
  dres := ⟨0, 0⟩
  staged := none
  cause := 0
  refac := 0
  win := none
  ends := 0
  reuse := 0
  winHi := 0
  solves := 0
  pubs := 0
  shifts := 0
  pub := PubBuf.reset
  prev := PubBuf.reset

def Slv.reset : Slv := ⟨0, 0, false, 0, 0, 0, HydSt.reset, DispSt.reset, none, none⟩

end Sys2Proof.Machine
end

