-- ==== Sys2Proof/Machine/Units4.lean ====
section
/-!
DEFINITION. Sys2Proof/Machine/Units4.lean: the state of the station engine, the CAN controllers and the Ethernet
ports (10, 12, 13).
-/
namespace Sys2Proof.Machine

/-! ## Stations (10) -/

/-- The link state of a station. -/
inductive LinkSt where
  | present | stale | absent
  deriving DecidableEq, Repr, Inhabited

/-- What a valid answer carries. -/
structure StnAns where
  data : List Byte
  t : Nat
  wack : Nat
  isLocal : Bool
  restart : Bool
  deriving DecidableEq, Repr, Inhabited

/-- The answer window of a poll to a station (10 R290): SEQ and POLLDT of the poll, its completion, the start of the
next poll once that began, and whether a valid answer has come. -/
structure AnsWin where
  seq : Nat
  pollDt : Nat
  start : Nat
  stop : Option Nat
  answered : Bool
  deriving DecidableEq, Repr, Inhabited

/-- A WRITE of an exchange: none due, due and not yet decided, completed, failed. -/
inductive WrSt where
  | none | due | done | failed
  deriving DecidableEq, Repr, Inhabited

/-- An exchange after its snapshot instant: whether an answer counted, its Write cell's entry and end tick, its WRITE. -/
structure Exch where
  counted : Bool
  e : Nat
  stop : Nat
  wr : WrSt
  deriving DecidableEq, Repr, Inhabited

/-- The state of a declared station. -/
structure StnSt where
  sid : Nat
  link : LinkSt
  miss : Nat
  /-- The image: the last valid answer counted since entry into RUN. -/
  img : Option StnAns
  /-- Valid answers not yet counted, oldest first. -/
  cands : List StnAns
  win : Option AnsWin
  /-- Simulation forcing in force. -/
  sim : Option (List Byte)
  /-- SEQ of the last WRITE completed. -/
  lastWr : Option Nat
  wfail : Bool
  held : Bool
  exch : Option Exch
  deriving DecidableEq, Repr, Inhabited

/-- An accepted simulation command that waits for its snapshot (10 R299, 01 Table 1-7). -/
structure SimReq where
  seq : Nat
  acc : Nat
  stn : Nat
  force : Option (List Byte)
  deriving DecidableEq, Repr, Inhabited

/-- The counter of a group: SEQ once polled since cold start, POLLDT of its last slot (10, Messages). -/
structure GroupSt where
  seq : Option Nat
  pollDt : Nat
  deriving DecidableEq, Repr, Inhabited

/-- An open station cell: entry, Read cell, end tick, groups still to be served, open slot with its closing DT and
whether its group was polled, whether a completion at or after the end tick made it an overrun. -/
structure StnCell where
  e : Nat
  link : Nat
  read : Bool
  stop : Nat
  groups : List Nat
  slot : Option (Nat × Nat × Bool)
  ovr : Bool
  deriving DecidableEq, Repr, Inhabited

/-- Where a received WFP message came from: a CAN identifier, or a UDP sender. -/
inductive WfpFrom where
  | can (type addr : Nat) (fd : Bool)
  | udp (ip : List Byte) (port : Nat) (sumOk : Bool)
  deriving DecidableEq, Repr, Inhabited

/-- A received WFP message on its crossing to the station engine (12 R342, R344; 13 R362). -/
structure WfpMsg where
  link : Nat
  t : Nat
  src : WfpFrom
  bytes : List Byte
  deriving DecidableEq, Repr, Inhabited

structure Stn where
  st : SMap (Option StnSt)
  groups : SMap GroupSt
  cells : List StnCell
  /-- Chain heads read since the last snapshot, with the end tick of their Read cell. -/
  readHeads : List (Nat × Nat)
  inbox : List WfpMsg
  sims : List SimReq
  /-- Key cache of the field island: the key of each slot named (12 R352). -/
  keys : SMap (Option (List Byte))
  present : Nat
  stale : Nat
  absent : Nat
  simulated : Nat
  noans : Nat
  wrfail : Nat
  heldCnt : Nat
  late : Nat
  undecl : Nat
  badfrm : Nat
  badseq : Nat
  authfail : Nat
  simsup : Nat
  lastAbs : Option Nat
  deriving DecidableEq, Repr, Inhabited

/-! ## CAN (12) -/

/-- What a message object holds: a poll of a group with its SEQ and POLLDT, a WRITE to a station with its SEQ and
POLLDT, or a received frame for the host. -/
inductive ObjUse where
  | gpoll (g seq pollDt : Nat)
  | write (stn seq pollDt : Nat)
  | host
  deriving DecidableEq, Repr, Inhabited

/-- A message object (12 Table 12-3), with the entry of the cell it was armed in; `ended` once that cell has ended. -/
structure CanObj where
  use : ObjUse
  ide : Bool
  fdf : Bool
  brs : Bool
  esi : Bool
  id : Nat
  data : List Byte
  ts : Nat
  late : Bool
  e : Nat
  ended : Bool
  deriving DecidableEq, Repr, Inhabited

/-- Fault confinement states (12 Table 12-8, ESTATE). -/
inductive CanErr where
  | active | passive | boffWait | boffRec
  deriving DecidableEq, Repr, Inhabited

/-- A CAN channel: the queue of ARMED objects, head first; since when the head is head, and whether it was tried. -/
structure CanCh where
  armed : List CanObj
  headSince : Nat
  tried : Bool
  tx : Option CanObj
  /-- RXU objects of host-bound frames, in receive order. -/
  rx : List CanObj
  est : CanErr
  boffAt : Nat
  recAt : Nat
  tec : Nat
  rxec : Nat
  lec : Nat
  txok : Nat
  rxok : Nat
  late : Nat
  retry : Nat
  rxdrop : Nat
  noobj : Nat
  reject : Nat
  boffcnt : Nat
  lost : Nat
  deriving DecidableEq, Repr, Inhabited

structure Can where
  ch : List CanCh
  deriving DecidableEq, Repr, Inhabited

/-! ## Ethernet (13) -/

/-- What a queued frame is. -/
inductive EthUse where
  | poll (g stn seq pollDt : Nat)
  | write (stn seq pollDt : Nat)
  /-- A frame of an ETH_TX entry of the queue pair. -/
  | host (qp : Nat)
  deriving DecidableEq, Repr, Inhabited

/-- A queued frame: its WFP payload or host bytes, the DT from which it may start, late, cell entry, cell ended. -/
structure EthFrm where
  use : EthUse
  data : List Byte
  ready : Nat
  late : Bool
  e : Nat
  ended : Bool
  /-- Withheld for want of a key, and counted (13 R370). -/
  withheld : Bool
  deriving DecidableEq, Repr, Inhabited

/-- A receive secure channel with its replay state per association number (13 R369). -/
structure RxSc where
  sci : Nat
  pn0 : Nat
  pn1 : Nat
  deriving DecidableEq, Repr, Inhabited

/-- A source of the duplicate table: MAC, sequence numbers seen, newest first, DT of the last frame (13 R366). -/
structure DupEnt where
  mac : Nat
  seqs : List Nat
  t : Nat
  deriving DecidableEq, Repr, Inhabited

structure EthPort where
  link : Bool
  /-- WFP frames and host frames waiting, and the frame in transmission with its start. -/
  wfp : List EthFrm
  hostq : List EthFrm
  busy : Option (EthFrm × Nat)
  freeAt : Nat
  /-- HOST-class frames received: bytes, receive timestamp, VLAN tag present. -/
  rx : List (List Byte × Nat × Bool)
  an : Nat
  pn0 : Nat
  pn1 : Nat
  exh0 : Bool
  exh1 : Bool
  /-- Key cache: the keys of association numbers 0 and 1 (13 R370). -/
  key0 : Option (List Byte)
  key1 : Option (List Byte)
  rxsc : List RxSc
  dup : List DupEnt
  rxok : Nat
  txok : Nat
  rxerr : Nat
  hostdrop : Nat
  dupdisc : Nat
  dupnoent : Nat
  hsrret : Nat
  fwd : Nat
  icv : Nat
  replay : Nat
  untag : Nat
  nosc : Nat
  nokey : Nat
  late : Nat
  deriving DecidableEq, Repr, Inhabited

structure Eth where
  ports : List EthPort
  /-- TX_AN commands that wait for the next boundary: sequence, port, association number. -/
  txan : List (Nat × Nat × Nat)
  /-- DT of the last dormant request answered (13 R371). -/
  dormLast : Option Nat
  deriving DecidableEq, Repr, Inhabited

/-! ## Reset -/

def Stn.reset : Stn where
  st := []
  groups := []
  cells := []
  readHeads := []
  inbox := []
  sims := []
  keys := []
  present := 0
  stale := 0
  absent := 0
  simulated := 0
  noans := 0
  wrfail := 0
  heldCnt := 0
  late := 0
  undecl := 0
  badfrm := 0
  badseq := 0
  authfail := 0
  simsup := 0
  lastAbs := none

def CanCh.reset : CanCh where
  armed := []
  headSince := 0
  tried := false
  tx := none
  rx := []
  est := .active
  boffAt := 0
  recAt := 0
  tec := 0
  rxec := 0
  lec := 0
  txok := 0
  rxok := 0
  late := 0
  retry := 0
  rxdrop := 0
  noobj := 0
  reject := 0
  boffcnt := 0
  lost := 0

def Can.reset : Can := ⟨List.replicate 56 CanCh.reset⟩

def EthPort.reset : EthPort where
  link := false
  wfp := []
  hostq := []
  busy := none
  freeAt := 0
  rx := []
  an := 0
  pn0 := 1
  pn1 := 1
  exh0 := false
  exh1 := false
  key0 := none
  key1 := none
  rxsc := []
  dup := []
  rxok := 0
  txok := 0
  rxerr := 0
  hostdrop := 0
  dupdisc := 0
  dupnoent := 0
  hsrret := 0
  fwd := 0
  icv := 0
  replay := 0
  untag := 0
  nosc := 0
  nokey := 0
  late := 0

def Eth.reset : Eth := ⟨List.replicate 8 EthPort.reset, [], none⟩

end Sys2Proof.Machine
end

