-- ==== Sys2Proof/Machine/Units5.lean ====
section
/-!
DEFINITION. Sys2Proof/Machine/Units5.lean: the state of the metering, analogue and axis islands and of the snapshot
last distributed (11, 14, 15, 01 R20).
-/
namespace Sys2Proof.Machine

/-! ## The snapshot last distributed (01 R18, R20) -/

structure Dist where
  words : SMap Word
  items : SMap Item
  /-- The snapshot instant; none before the first snapshot. -/
  instant : Option Nat
  deriving DecidableEq, Repr, Inhabited

/-! ## Metering (11) -/

/-- A honey register with its hidden fraction, in 2^-32 of its unit, and its wrap counter (11 R321). -/
structure Honey where
  v : Nat
  wrap : Nat
  deriving DecidableEq, Repr, Inhabited

/-- What sets a record apart from a whole interval of the grid. -/
structure RunFlags where
  partial_ : Bool
  step : Bool
  gap : Bool
  honeyLost : Bool
  deriving DecidableEq, Repr, Inhabited

/-- A system within an interval: start, flags, registers at the start and, once closed, at the end. -/
structure EmRun where
  em : Nat
  start : Nat
  fl : RunFlags
  regs0 : List Honey
  fin : Option (List Honey)
  errsmp : Nat
  signchg : Nat
  evmask : Nat
  deriving DecidableEq, Repr, Inhabited

/-- A point within an interval; `regs0` none until the thermal part of the interval begins; temperatures weighted by
forward volume. -/
structure TmRun where
  tm : Nat
  medium : Nat
  role : Nat
  start : Nat
  fl : RunFlags
  regs0 : Option (List Honey)
  fin : Option (List Honey)
  wsup : Rat
  wret : Rat
  wvol : Rat
  errNs : Nat
  signchg : Nat
  evmask : Nat
  deriving DecidableEq, Repr, Inhabited

/-- The balance within an interval: imported Wh, integral of the loss in mWh, counter stations that added and that
answered. -/
structure BalRun where
  start : Nat
  fl : RunFlags
  imp : Nat
  loss : Rat
  counted : List Nat
  answered : List Nat
  deriving DecidableEq, Repr, Inhabited

/-- An open or waiting interval: its end, its runs, thermal time not yet accounted, pulses stamped in it since the
last block closure. -/
structure Intv where
  stop : Nat
  ems : List EmRun
  tms : List TmRun
  bal : Option BalRun
  /-- Counter stations declared, for STN_NONE. -/
  ctrs : List Nat
  segs : List (Nat × Nat)
  pulses : SMap Nat
  merged : Bool
  untrusted : Bool
  /-- A block closed at or after its end; its closure has begun; its first cell has ended without finishing it. -/
  thermDone : Bool
  begun : Bool
  late : Bool
  /-- Records written. -/
  wrote : Nat
  deriving DecidableEq, Repr, Inhabited

/-- Detectors of a system with what their hysteresis needs (11 R314), and the crossing and sign memories (R311, R327). -/
structure EmDet where
  det : Nat
  vloss : List Bool
  seqBad : Nat
  seqGood : Nat
  neuBad : Nat
  neuGood : Nat
  armed : List Bool
  lastP : Int
  deriving DecidableEq, Repr, Inhabited

/-- Detectors of a point, NEG_DT run, sign of the last nonzero ΔE. -/
structure TmDet where
  det : Nat
  neg : Nat
  lastE : Int
  deriving DecidableEq, Repr, Inhabited

structure Mtr where
  /-- Metering runs (11 R333, Table 11-12). -/
  running : Bool
  honeyLost : Bool
  /-- The honey store holds its data (11 R322). -/
  honeyOk : Bool
  /-- Registers: six per system, four per point. -/
  em : SMap (List Honey)
  tm : SMap (List Honey)
  /-- Open interval last; waiting ones before it, oldest first. -/
  wait : List Intv
  cur : Option Intv
  /-- End of the accumulation period under way; start of the current block; start of the running thermal segment. -/
  perEnd : Nat
  blockStart : Nat
  segFrom : Option Nat
  /-- Fault spans of each MD input still needed, newest first, and the latched fault bits. -/
  flt : SMap (List (Nat × Option Nat))
  mdFlt : Nat
  satcnt : Nat
  intvHi : Nat
  lwrapLat : Nat
  archSeq : Nat
  /-- The archive, newest first. -/
  arch : List (List Byte)
  lateCnt : Nat
  mergedCnt : Nat
  balRes : Int
  bal : Bool
  emDet : SMap EmDet
  tmDet : SMap TmDet
  /-- Published items with their qualities and DT; those not crossed in time are MISSING (11 R320). -/
  emPub : SMap (List Word × Quality)
  tmPub : SMap (List Word × Quality)
  balNow : List Word
  balPub : List Word
  balClosed : Bool
  pubDt : Option Nat
  missing : Bool
  /-- Trims set by command: key 8·system + role (11 R308). -/
  trims : SMap (Option (Nat × Int))
  /-- Baselines of the station counters (11 R329). -/
  base : SMap (Option Nat)
  deriving DecidableEq, Repr, Inhabited

def dHoney : Honey := ⟨0, 0⟩
def dEm : Nat → List Honey := fun _ => List.replicate 6 dHoney
def dTm : Nat → List Honey := fun _ => List.replicate 4 dHoney
def EmDet.reset : EmDet := ⟨0, [false, false, false], 0, 0, 0, 0, [false, false, false], 0⟩
def TmDet.reset : TmDet := ⟨0, 0, 0⟩
def dEmDet : Nat → EmDet := fun _ => EmDet.reset
def dTmDet : Nat → TmDet := fun _ => TmDet.reset
def dPub : Nat → List Word × Quality := fun _ => ([], .missing)
def dSpans : Nat → List (Nat × Option Nat) := fun _ => []

def Mtr.reset : Mtr where
  running := false
  honeyLost := false
  honeyOk := true
  em := []
  tm := []
  wait := []
  cur := none
  perEnd := 0
  blockStart := 0
  segFrom := none
  flt := []
  mdFlt := 0
  satcnt := 0
  intvHi := 0
  lwrapLat := 0
  archSeq := 0
  arch := []
  lateCnt := 0
  mergedCnt := 0
  balRes := 0
  bal := false
  emDet := []
  tmDet := []
  emPub := []
  tmPub := []
  balNow := []
  balPub := []
  balClosed := false
  pubDt := none
  missing := true
  trims := []
  base := []

/-! ## Analogue inputs (14) -/

/-- A version of a result slot with the DT from which it stands (14 R382). -/
structure Slot where
  code : Int
  word : Word
  acq : Option Nat
  q : Quality
  stands : Nat
  deriving DecidableEq, Repr, Inhabited

/-- The conversion under way: its input, its urgent entry, the cycle of its hold. -/
structure Conv where
  input : Nat
  urgent : Option Nat
  hold : Nat
  deriving DecidableEq, Repr, Inhabited

/-- An open ADC cell; times count cycles of 15.625 ns of DT. -/
structure AdcRun where
  e : Nat
  stop : Nat
  inter : Bool
  /-- Conversions still to start, input and urgent entry; an interrupted one stands first. -/
  rest : List (Nat × Option Nat)
  cur : Option Conv
  /-- Admissions left (03 R75). -/
  adm : Nat
  /-- Requests waiting for an admission of this cell are counted once. -/
  waited : List Nat
  /-- Interleaved results still to come, results so far (newest first), start of the cell in cycles. -/
  left : Nat
  got : List Int
  start : Nat
  /-- Cycle at which the converter is next free when nothing converts. -/
  free : Nat
  deriving DecidableEq, Repr, Inhabited

structure AdcConv where
  run : Option AdcRun
  /-- Pending urgent entries, oldest first. -/
  pend : List Nat
  conv : Nat
  miss : Nat
  aborts : Nat
  urgRun : Nat
  urgWait : Nat
  urgMerge : Nat
  deriving DecidableEq, Repr, Inhabited

structure AdcPair where
  ok : Bool
  gain : Nat
  ofs : Int
  /-- Codes of the last completed interleaved cell, in order, and the hold DT of its first result. -/
  capture : List Int
  captureDt : Option Nat
  deriving DecidableEq, Repr, Inhabited

structure Adc where
  conv : List AdcConv
  pairs : List AdcPair
  /-- Versions of each input's slot, newest first. -/
  slots : SMap (List Slot)
  tripHi : SMap Bool
  tripLo : SMap Bool
  trip : Nat
  /-- Inputs whose threshold event was raised in this hyperperiod. -/
  evd : List Nat
  refBad : Option Nat
  /-- The last span during which REFBAD read 1. -/
  refSpan : Nat × Nat
  deriving DecidableEq, Repr, Inhabited

def AdcConv.reset : AdcConv := ⟨none, [], 0, 0, 0, 0, 0, 0⟩
def AdcPair.reset : AdcPair := ⟨false, 0x400000, 0, [], none⟩
def dSlots : Nat → List Slot := fun _ => []

def Adc.reset : Adc where
  conv := List.replicate 4 AdcConv.reset
  pairs := List.replicate 2 AdcPair.reset
  slots := []
  tripHi := []
  tripLo := []
  trip := 0
  evd := []
  refBad := none
  refSpan := (0, 0)

/-! ## Axes (15) -/

/-- What an axis carries out. -/
inductive AxJob where
  | idle
  /-- Toward `target`. -/
  | move
  /-- Decelerate to standstill; then release EN. -/
  | stop (disable : Bool)
  /-- HOME step 1, 2 and 4; the position of the reference edge once latched. -/
  | homeOff
  | homeSeek
  | homeStop (edge : Int)
  deriving DecidableEq, Repr, Inhabited

/-- A motion that begins once the axis stands still. -/
inductive AxNext where
  | none
  | move (target : Int) (vmax : Nat)
  | home (pos : Int)
  | inter
  deriving DecidableEq, Repr, Inhabited

structure Ax where
  /-- Last taken command (15 R396). -/
  cmd : List Word
  pos : Int
  /-- Speed in 10^-5 steps/s, without sign; direction of motion; distance past `pos` in 2^-1 × 10^-10 steps. -/
  v : Nat
  up : Bool
  frac : Nat
  target : Int
  vmax : Nat
  job : AxJob
  next : AxNext
  homePos : Int
  /-- Level of DIR, position at each of the last updates, newest first. -/
  dir : Bool
  trail : List (Nat × Int)
  moving : Bool
  /-- DT of the next profile update; DT at which EN_LEAD ends. -/
  upd : Nat
  lead : Option Nat
  en : Bool
  ref : Bool
  refSw : Bool
  limP : Bool
  limN : Bool
  limStop : Bool
  homeFail : Bool
  reject : Bool
  abrupt : Bool
  latchPos : Int
  latchCnt : Nat
  latchAct : Bool
  latchSw : Nat
  edgeUs : Nat
  /-- Standstill since, for automatic disable. -/
  still : Nat
  /-- Host command that the axis carries out. -/
  seq : Option Nat
  /-- What the last latch captured, its DT, and whether it crossed in time. -/
  item : List Word
  acq : Option Nat
  missing : Bool
  deriving DecidableEq, Repr, Inhabited

/-- An interpolated move: lead axis, distances of the members, lead steps issued; the move that follows it. -/
structure Inter where
  lead : Nat
  dist : List (Nat × Int)
  s : Nat
  next : List (Nat × Int × Nat)
  deriving DecidableEq, Repr, Inhabited

structure Axs where
  ax : List Ax
  inter : SMap (Option Inter)
  limit : Nat
  cmdrej : Nat
  homefail : Nat
  abrupt : Nat
  /-- PWM duty in effect and the duty that the next period start takes. -/
  pwm : List Nat
  pwmNext : List Nat
  /-- Digital inputs as last sampled, with the DT of the sample. -/
  din : Nat
  dinDt : Option Nat
  deriving DecidableEq, Repr, Inhabited

def Ax.reset : Ax where
  cmd := [0, 0, 0, 0]
  pos := 0
  v := 0
  up := false
  frac := 0
  target := 0
  vmax := 0
  job := .idle
  next := .none
  homePos := 0
  dir := false
  trail := []
  moving := false
  upd := 0
  lead := none
  en := false
  ref := false
  refSw := false
  limP := false
  limN := false
  limStop := false
  homeFail := false
  reject := false
  abrupt := false
  latchPos := 0
  latchCnt := 0
  latchAct := false
  latchSw := 0
  edgeUs := 0
  still := 0
  seq := none
  item := []
  acq := none
  missing := true

def Axs.reset : Axs where
  ax := List.replicate 16 Ax.reset
  inter := []
  limit := 0
  cmdrej := 0
  homefail := 0
  abrupt := 0
  pwm := List.replicate 16 0
  pwmNext := List.replicate 16 0
  din := 0
  dinDt := none

end Sys2Proof.Machine
end

