-- ==== Sys2Proof/Machine/Units6.lean ====
section
/-!
DEFINITION. Sys2Proof/Machine/Units6.lean: the state of the key island (18).
-/
namespace Sys2Proof.Machine

/-- Slot states (18 Table 18-8). -/
inductive SlotSt where
  | empty | key | faulted
  deriving DecidableEq, Repr, Inhabited

/-- A slot of the key array. -/
structure KeySlot where
  st : SlotSt
  alg : Nat
  bind : Nat
  origin : Nat
  exportable : Bool
  exported : Bool
  gen : Nat
  counter : Nat
  mat : List Byte
  deriving DecidableEq, Repr, Inhabited

/-- A piece of key work (18 R471), with the command it completes. -/
inductive KeyWork where
  | update (seq : Nat) (msg : List Byte)
  | attest (seq slot : Nat) (nonce : List Byte)
  | wrap (seq slot wrapSlot : Nat)
  | identity (seq : Nat)
  /-- VERIFY of a super. -/
  | verify (seq super : Nat)
  /-- The authorisation block of the command that waits (17 R449). -/
  | auth
  deriving DecidableEq, Repr, Inhabited

/-- Key work waiting or suspended: the cycles of the operations still to run; the last one is the commit of an update
when `commit` holds. -/
structure KeyJob where
  work : KeyWork
  ops : List Nat
  commit : Bool
  deriving DecidableEq, Repr, Inhabited

/-- An open KEY cell: its end tick, and the DT up to which its work reaches (18 R471). -/
structure KeyWin where
  stop : Nat
  at_ : Rat
  deriving DecidableEq, Repr, Inhabited

structure Key where
  slots : SMap KeySlot
  counter : Nat
  minEpoch : Nat
  jobs : List KeyJob
  ready : Bool
  rngFail : Bool
  updOk : Nat
  updFail : Nat
  deny : Nat
  exports : Nat
  /-- Engines denied in this hyperperiod; slots committed since the last filling of the caches. -/
  denied : List Nat
  changed : List Nat
  win : Option KeyWin
  /-- CHALLENGE commands that wait for the random number generator (18 R473). -/
  chalWait : List Nat
  deriving DecidableEq, Repr, Inhabited

/-- The slots as the factory leaves them (18 Table 18-1); the material is not in the spec (DESIGN CHOICE, log entry 5). -/
def factorySlot (n : Nat) : KeySlot :=
  let f : Nat → Nat → KeySlot := fun alg bind => ⟨.key, alg, bind, 1, false, false, 0, 0, Config.factoryKey n⟩
  match n with
  | 0 => f 0x06 0x20
  | 1 => f 0x09 0x20
  | 2 => f 0x08 0x08
  | 3 => f 0x0A 0x08
  | 4 => f 0x0B 0x40
  | 8 => f 0x03 0x10
  | 9 => f 0x05 0x10
  | _ => ⟨.empty, 0, 0, 0, false, false, 0, 0, []⟩

def Key.reset : Key := ⟨[], 0, 0, [], false, false, 0, 0, 0, 0, [], [], none, []⟩

end Sys2Proof.Machine
end

