-- ==== Sys2Proof/Machine/State.lean ====
section
/-!
DEFINITION. Sys2Proof/Machine/State.lean: the state of the block, why a step stops, and the state after reset.
-/
namespace Sys2Proof.Machine

/-- Why the machine stops with a fault. -/
inductive Fault where
  /-- A value outside a field's range written to a register: the manual calls the result unpredictable and names no
  effect (00 R7). Raised by the register writes. Safe: the model stops. -/
  | unpredictableWrite
  /-- A host error of 16 Table 16-11, whose results are unpredictable (16 R433). Raised by doorbells and host
  commands with malformed entries or fields out of range. Safe: the model stops. -/
  | hostError
  deriving DecidableEq, Repr

/-- Why the machine refuses a command. -/
inductive Refusal where
  /-- The command has no meaning yet in the model. Raised by exec only. Safe: nothing is claimed of it. -/
  | notModelled (mnemonic : String)
  deriving DecidableEq, Repr

/-- The state of the block. -/
structure State where
  pwr : Pwr
  clk : Clk
  tim : Tim
  comb : CombSt
  sup : Sup
  chn : Chn
  vot : Voter
  hst : Hst
  mgt : Mgt
  rtc : Rtc
  rcd : Rec
  pnl : Pnl
  slv : Slv
  stn : Stn
  can : Can
  eth : Eth
  dist : Dist
  mtr : Mtr
  adc : Adc
  axs : Axs
  key : Key
  /-- Writable register fields, by BAR0 offset, where they differ from their reset values (16 R414). -/
  regs : SMap Word
  /-- Free values used so far: the model's own field (DESIGN CHOICE, log entry 3). -/
  fresh : Nat
  /-- Commands waiting, first in, first out: the model's own field. -/
  pending : List Instr
  deriving DecidableEq, Repr

/-! ## Values of unlisted addresses and of unused entries -/

def dWord : Nat → Word := fun _ => 0
def dBit : Nat → Bool := fun _ => false
def dByte : Nat → Byte := fun _ => 0
def dNat : Nat → Nat := fun _ => 0
def dInt : Nat → Int := fun _ => 0
def dTimer : Nat → Timer := fun _ => ⟨0, false, false⟩
def dCounter : Nat → Counter := fun _ => ⟨0, false, false, false⟩
def dEdge : Nat → Edge := fun _ => ⟨false, false⟩
def dTask : Nat → TaskRec := fun _ => ⟨none, false, false, false, 0⟩
def dLoop : Nat → Loop := fun _ => ⟨0, 0, 0, 0, 0, none, .fresh, false, 0, false⟩
/-- An item never acquired reads MISSING (06 Table 6-2). -/
def dItem : Nat → Item := fun _ => ⟨.missing, none⟩
def dWords : Nat → List Word := fun _ => []
def dOpt {α : Type} : Nat → Option α := fun _ => none
def dGroup : Nat → GroupSt := fun _ => ⟨none, 0⟩
def dPair : Nat → Nat × Nat := fun _ => (0, 0)

def ChMem.empty : ChMem := ⟨[], [], [], [], [], [], [], [], []⟩

/-- A channel right after power-on: CHN_STATUS resets to VOTING (05 Table 5-11). -/
def Chan.reset : Chan where
  st := .voting
  ba := false
  wa := 0
  ix := 0
  ov := false
  dz := false
  iff := false
  stack := []
  scan := none
  mem := ChMem.empty
  prog := []
  consts := []
  snap := []
  items := []
  sys := []
  marks := []
  cause := 0
  attempts := 0
  excl := 0
  hist := []
  attemptDt := none
  notBefore := 0
  resetDone := false
  stres := 0
  stDone := false
  copySrc := none
  copyBnd := 0
  copyAt := 0
  copyLeft := 0
  copyInit := false
  copyFinal := false
  lay := ⟨0, 0, 0, 0, 0, 0, 0, 0, 0⟩
  touched := []
  shadowHp := 0
  clkFail := false
  restart := false
  ready := false

/-- A domain clock before its first Sync (02 Tables 2-9 to 2-12). -/
def Domain.reset : Domain := ⟨false, 0, 0, 0, false, 0, 0, 0, 0, none, 0, none, 0, none⟩

/-- DT at a cold start without the shadow: 2000-01-01 on the PTP timescale (02 R52). -/
def dtOrigin : Nat := 946684800000000000

def Tim.reset : Tim where
  dt := dtOrigin
  frac := 0
  dtHi := 0
  dtFrac := 0
  tstate := .free
  active := .pri
  everLocked := false
  bleeding := false
  stepWait := false
  stepDue := none
  fcorr := 0
  utcValid := false
  utcOfs := 0
  pri := Domain.reset
  sec := Domain.reset
  delay := []
  shadowDt := dtOrigin
  shadowNx := 0
  shadowNs := 0
  shadowMhz := 32000000

def CycleWork.none : CycleWork := ⟨[]⟩
def Cycle.reset : Cycle := ⟨0, 0, false, ⟨CycleWork.none, CycleWork.none, CycleWork.none⟩, false, 3⟩

def CombSt.reset : CombSt where
  cstate := 0
  k := 0
  gap := false
  hpHi := 0
  opened := []
  open_ := []
  ovrEv := []
  ovrNow := false
  ovrHp := false
  ovrTot := 0
  ovr := []
  cyc := Cycle.reset
  forceNext := false

def Super.reset : Super := ⟨.empty, 0, []⟩
def Sup.reset : Sup := ⟨Super.reset, Super.reset, none, none, none, [], [], [], []⟩

def Chn.reset : Chn where
  ch := ⟨Chan.reset, Chan.reset, Chan.reset⟩
  discnt := 0
  safecnt := 0
  ckptVoid := 0
  buf0 := none
  buf1 := none
  clkwait := false
  tryNext := []
  trying := none
  voted := false
  lgeFlags := []
  lgeScans := []
  lgeOvr := []
  lgeStk := []
  lgeCyc := []
  lgeEv := []
  reqdis := 0
  dlcnt := 0
  missWin := 0
  held := 0
  lastSkip := none
  dl := []

def Posted.none : Posted := ⟨[], .none, .none⟩
def Voter.reset : Voter := ⟨⟨Posted.none, Posted.none, Posted.none⟩, [], [], [], 0, [], false⟩

def SrcMon.reset : SrcMon := ⟨false, false, 0, 0⟩
def Clk.reset : Clk where
  mons := List.replicate 8 SrcMon.reset
  foscRun := false
  soscRun := false
  pllref := false
  aonSosc := false
  fail := 0
  failcnt := 0
  soscMhz := 32000000
  wait := []
  ramp := []
  force := []
  gated := false
  freqJobs := []

def Pwr.reset : Pwr where
  power := .off
  vin := false
  vaux := false
  vio := [false, false, false, false]
  lastStart := 0
  wakeSrc := 0
  wakePending := none
  dormEntry := false
  ops := 0
  opsHi := 0
  opsStart := dtOrigin
  pcyc := 0
  vinLoss := 0
  wdog := 0

def Hst.reset : Hst where
  link := false
  qps := []
  events := []
  cpls := []
  handover := []
  deleting := []
  evLost := 0
  lateRd := 0
  linkDn := 0
  cplDrop := 0
  lockWr := 0
  msixMask := []
  msixPend := []
  reads := []
  cell := none
  out := []

def Mgt.reset : Mgt where
  run := .init
  hmode := 0
  haltDue := false
  held := []
  seq := 0
  chal := none
  auth := none
  autorun := false
  forces := []
  fenceWait := []
  activate := none
  solverBuild := false
  startWork := false
  cmdOk := 0
  cmdFail := 0
  lastFail := (0, 0, 0, 0)
  authFail := 0

def Civil.origin : Civil := ⟨2000, 1, 1, 0, 0, 0⟩
/-- Alarm registers reset to zero (20 Table 20-5). -/
def Alarm.reset : Alarm := ⟨false, false, 0, ⟨0, 0, 0, 0, 0, 0⟩, none, none, 0, 0⟩

/-- The calendar of a start from OFF: 2000-01-01 00:00:00, a Saturday, OSF set (20 R510). -/
def Rtc.reset : Rtc where
  secs := 0
  start := dtOrigin
  trimSec := 0
  trim := 0
  trimNext := none
  osf := true
  stopped := false
  range := false
  summer := false
  al0f := false
  al1f := false
  waiting := []
  ptp := []
  adj := 0
  al0 := Alarm.reset
  al1 := Alarm.reset
  cal1 := 5 * 2 ^ 24
  sub := 0

/-- The recorder as manufactured: chain value 32 zero bytes (21 R529), every count zero (21 Table 21-7). -/
def Rec.reset : Rec where
  win := none
  staging := []
  stored := []
  chain := zeros 32
  chained := 0
  lastChained := 0
  sign := none
  freeze := none
  keybad := false
  ev97 := false
  ev99 := false
  written := 0
  overw := 0
  stgFull := 0
  badSeal := 0
  sigSkip := 0
  cover := 0
  refused := [0, 0, 0, 0]

def Journal.reset : Journal := ⟨0, false, 0, 0, ⟨0, 0, 0, 0⟩, 0, 0, 0⟩
def PnlRegSt.reset : PnlRegSt := ⟨none, none, Journal.reset, none, false, 0, 0, 0, false, none⟩

def Pnl.reset : Pnl where
  regs := List.replicate 16 PnlRegSt.reset
  maps := [[], [], [], []]
  store := []
  disp := []
  rails := .down
  railAt := 0
  tFrame := 0
  idleFrom := 0
  pen := [false, false, false, false, false, false]
  vcom := false
  fl := false
  cracked := false
  started := false
  recovery := false
  closing := false
  holdup := false
  band := 0
  lastTemp := none
  crkOhm := 0
  vhuMv := 0
  updOk := 0
  replCnt := 0
  cut := 0
  fdis := 0
  crkCnt := 0
  ev116 := false

/-- The block without power, every register at its reset value (DESIGN CHOICE, log entry 1): the table's events start it. -/
def State.reset : State where
  pwr := Pwr.reset
  clk := Clk.reset
  tim := Tim.reset
  comb := CombSt.reset
  sup := Sup.reset
  chn := Chn.reset
  vot := Voter.reset
  hst := Hst.reset
  mgt := Mgt.reset
  rtc := Rtc.reset
  rcd := Rec.reset
  pnl := Pnl.reset
  slv := Slv.reset
  stn := Stn.reset
  can := Can.reset
  eth := Eth.reset
  dist := ⟨[], [], none⟩
  mtr := Mtr.reset
  adc := Adc.reset
  axs := Axs.reset
  key := Key.reset
  regs := []
  fresh := 0
  pending := []

end Sys2Proof.Machine
end

