-- ==== Sys2Proof/Machine/Ops.lean ====
section
/-!
DEFINITION. Sys2Proof/Machine/Ops.lean: the operations every unit shares: register fields, device time, events,
records, ring entries, completions, free values.
-/
namespace Sys2Proof.Machine

/-! ## Codes -/

/-- BAR0 block numbers of the units, the SRC field of records (21 Table 21-1). -/
def blkHst : Nat := 0
def blkClk : Nat := 1
def blkPwr : Nat := 2
def blkRtc : Nat := 3
def blkTim : Nat := 4
def blkEth : Nat := 5
def blkCan : Nat := 6
def blkAdc : Nat := 7
def blkMtr : Nat := 8
def blkAxs : Nat := 9
def blkPnl : Nat := 10
def blkKey : Nat := 11
def blkRec : Nat := 12
def blkChn : Nat := 13
def blkSlv : Nat := 14
def blkMgt : Nat := 15

/-- Record severities (21 Table 21-1). -/
def sevInfo : Nat := 0
def sevNotice : Nat := 1
def sevFault : Nat := 2
def sevCritical : Nat := 3

/-- HST_STATE.RUNST (16 Table 16-2). -/
def Run.code : Run → Nat
  | .init => 0
  | .setup => 1
  | .run => 2
  | .halt => 3

/-- TIM_STATUS.TSTATE (02 Table 2-6). -/
def TState.code : TState → Nat
  | .free => 0
  | .holdover => 1
  | .trusted => 2

/-- The quality codes the program sees (06 Table 6-4). -/
def Quality.code : Quality → Nat
  | .good => 0
  | .stale => 1
  | .subst => 2
  | .sim => 3
  | .missing => 4
  | .void => 5

/-- Channel state codes (05 Table 5-11). -/
def ChState.code : ChState → Nat
  | .voting => 0
  | .excluded => 1
  | .selftest => 2
  | .copy => 3
  | .shadow => 4

/-- Super state codes (04 Table 4-6). -/
def SuperSt.code : SuperSt → Nat
  | .empty => 0
  | .writing => 1
  | .loaded => 2
  | .active => 3
  | .armed => 4
  | .invalid => 5

end Sys2Proof.Machine

namespace Sys2Proof

open Sys2Proof.Machine

/-- Island indices of CLK_WAIT (19). -/
def Island.code : Island → Nat
  | .hst => 0
  | .mgt => 1
  | .cha => 2
  | .chb => 3
  | .chc => 4
  | .slv => 5
  | .net => 6
  | .field => 7
  | .mtr => 8
  | .adc => 9
  | .axs => 10
  | .key => 11
  | .pnl => 12

/-- BAR0 block of an island, for EV001 (16 Table 16-10). -/
def Island.blk : Island → Nat
  | .hst => blkHst
  | .mgt => blkMgt
  | .cha | .chb | .chc => blkChn
  | .slv => blkSlv
  | .net => blkTim
  | .field => blkCan
  | .mtr => blkMtr
  | .adc => blkAdc
  | .axs => blkAxs
  | .key => blkKey
  | .pnl => blkPnl

def ClkSrc.code : ClkSrc → Nat
  | .xin1 => 0
  | .xin2 => 1
  | .plla => 2
  | .pllb => 3
  | .pllc => 4
  | .pllSlv => 5
  | .pllNet => 6
  | .pllAux => 7
  | .fosc => 8
  | .sosc => 9

def ChId.island : ChId → Island
  | .a => .cha
  | .b => .chb
  | .c => .chc

def Dom.code : Dom → Nat
  | .pri => 0
  | .sec => 1

end Sys2Proof

namespace Sys2Proof.Machine

/-! ## Free values (DESIGN CHOICE, log entry 3) -/

/-- A fresh free value: the value and the state that has used it. -/
def State.freshNat (s : State) : Nat × State := (Config.free s.fresh, { s with fresh := s.fresh + 1 })

/-- `n` free values have been used. -/
def State.spend (s : State) (n : Nat) : State := { s with fresh := s.fresh + n }

/-- `n` random bytes of the true random number generator (17 R447, 18 R473). -/
def State.random (s : State) (n : Nat) : List Byte × State :=
  ((List.range n).map (fun i => Config.trng (s.fresh + i)), { s with fresh := s.fresh + n })

/-! ## Register fields with storage (16 R414, 00 Table 0-3) -/

/-- Access type of a stored field. -/
inductive FieldTy where
  | rw | rwl
  deriving DecidableEq, Repr

/-- A stored field: offset, bits hi:lo, type, reset value, least and largest value allowed. -/
structure Field where
  off : Nat
  hi : Nat
  lo : Nat
  ty : FieldTy
  rst : Nat
  least : Nat
  most : Nat
  deriving DecidableEq, Repr

/-- Domain registers of TIM, at d (02 Tables 2-9 to 2-12). -/
def timDomFields (d : Nat) : List Field :=
  let b := 0x4020 + 0x20 * d
  [⟨b, 31, 24, .rwl, 16, 1, 255⟩, ⟨b, 23, 16, .rwl, 4, 1, 255⟩, ⟨b, 14, 8, .rwl, d, 0, 127⟩,
   ⟨b, 3, 3, .rwl, 0, 0, 1⟩, ⟨b, 2, 1, .rwl, 0, 0, 2⟩, ⟨b, 0, 0, .rwl, 0, 0, 1⟩,
   ⟨b + 4, 31, 16, .rwl, 0x0CCD, 0, 65535⟩, ⟨b + 4, 15, 0, .rwl, 0x4CCD, 0, 65535⟩,
   ⟨b + 8, 31, 16, .rwl, 1000, 0, 65535⟩, ⟨b + 8, 15, 0, .rwl, 100, 0, 65535⟩,
   ⟨b + 0x14, 15, 0, .rwl, 10000, 0, 65535⟩]

/-- Port registers of TIM, at p (02 Tables 2-13, 2-14). -/
def timPortFields (p : Nat) : List Field :=
  let b := 0x4100 + 0x10 * p
  [⟨b, 11, 8, .rwl, 0, 0, 15⟩, ⟨b, 7, 6, .rwl, 0, 0, 3⟩, ⟨b, 5, 5, .rwl, 0, 0, 1⟩, ⟨b, 4, 4, .rwl, 0, 0, 1⟩,
   ⟨b, 3, 3, .rwl, 0, 0, 1⟩, ⟨b + 4, 31, 0, .rwl, 0, 0, max32⟩, ⟨b + 8, 31, 0, .rwl, 0, 0, max32⟩,
   ⟨b + 0xC, 31, 0, .rwl, 0, 0, max32⟩]

/-- CLK_MONs (19 Table 19-13). For s = 0 and 1 FTOL reads 0 and ignores writes. -/
def clkMonFields (s : Nat) : List Field :=
  (if s < 2 then [] else [⟨0x1040 + 4 * s, 15, 12, .rwl, 9, 0, 15⟩]) ++
  [⟨0x1040 + 4 * s, 11, 8, .rwl, if s < 2 then 7 else 1, 0, 15⟩, ⟨0x1040 + 4 * s, 4, 0, .rwl, 10, 6, 16⟩]

def clkSsFields (n : Nat) : List Field :=
  [⟨0x1080 + 4 * n, 14, 8, .rwl, 10, 10, 100⟩, ⟨0x1080 + 4 * n, 4, 0, .rwl, 0, 0, 20⟩]

def clkOutFields (n : Nat) : List Field :=
  [⟨0x10C0 + 4 * n, 31, 31, .rwl, 0, 0, 1⟩, ⟨0x10C0 + 4 * n, 18, 16, .rwl, 0, 0, 4⟩,
   ⟨0x10C0 + 4 * n, 7, 0, .rwl, 0, 0, 255⟩]

/-- Every field a BAR0 write stores, other than W1C bits, AQCTL.EN and the fields with commands of their own. -/
def storedFields : List Field :=
  [⟨0x0020, 13, 8, .rw, 0, 0, 63⟩, ⟨0x0020, 4, 0, .rw, 4, 4, 16⟩,
   ⟨0x0024, 31, 0, .rw, 0, 0, max32⟩, ⟨0x0028, 31, 0, .rw, 0, 0, max32⟩,
   ⟨0x002C, 31, 0, .rw, 0, 0, max32⟩, ⟨0x0030, 31, 0, .rw, 0, 0, max32⟩,
   ⟨0x0034, 0, 0, .rw, 0, 0, 1⟩, ⟨0x0038, 7, 0, .rwl, 16, 2, 80⟩,
   ⟨0x1000, 16, 16, .rwl, 0, 0, 1⟩, ⟨0x1000, 15, 0, .rwl, 25000, 10000, 50000⟩,
   ⟨0x1004, 0, 0, .rw, 0, 0, 1⟩] ++
  (List.range 8).flatMap clkMonFields ++ (List.range 7).flatMap clkSsFields ++
  (List.range 2).flatMap clkOutFields ++
  [⟨0x2004, 7, 0, .rwl, 0xAA, 0, 255⟩, ⟨0x2008, 1, 1, .rw, 0, 0, 1⟩, ⟨0x2008, 0, 0, .rw, 0, 0, 1⟩,
   ⟨0x3010, 11, 0, .rw, 0, 0, 4095⟩,
   ⟨0x4000, 31, 16, .rwl, 100, 1, 65535⟩, ⟨0x4000, 15, 12, .rwl, 10, 1, 10⟩, ⟨0x4000, 9, 9, .rwl, 0, 0, 1⟩,
   ⟨0x4000, 8, 8, .rwl, 1, 0, 1⟩, ⟨0x4000, 0, 0, .rwl, 0, 0, 1⟩] ++
  (List.range 2).flatMap timDomFields ++ (List.range 8).flatMap timPortFields ++
  [⟨0x6010, 31, 31, .rw, 0, 0, 1⟩, ⟨0x6010, 30, 30, .rw, 0, 0, 1⟩, ⟨0x6010, 28, 0, .rw, 0, 0, 536870911⟩,
   ⟨0x6014, 28, 0, .rw, 0, 0, 536870911⟩, ⟨0xA004, 0, 0, .rw, 0, 0, 1⟩]

def fieldsAt (off : Nat) : List Field := storedFields.filter (fun f => f.off = off)

/-- Reset value of the stored fields at an offset. -/
def regReset (off : Nat) : Word :=
  (fieldsAt off).foldl (fun w f => w ||| BitVec.ofNat 32 (f.rst * 2 ^ f.lo)) 0

/-- The stored fields at an offset, all others zero. -/
def State.reg (s : State) (off : Nat) : Word := SMap.get regReset s.regs off

/-- Bits hi:lo of the stored fields at an offset. -/
def State.fld (s : State) (off hi lo : Nat) : Nat := bitsOf (s.reg off).toNat hi lo

def State.setReg (s : State) (off : Nat) (v : Word) : State := { s with regs := SMap.set regReset s.regs off v }

/-- Write bits hi:lo of a 32-bit number. -/
def putBits (w hi lo v : Nat) : Nat := w - bitsOf w hi lo * 2 ^ lo + (v % 2 ^ (hi + 1 - lo)) * 2 ^ lo

def State.setFld (s : State) (off hi lo v : Nat) : State :=
  s.setReg off (BitVec.ofNat 32 (putBits (s.reg off).toNat hi lo v))

/-! ## Power and islands -/

/-- The islands fed from VIN run: power state SERVICE. -/
def State.inService (s : State) : Bool := s.pwr.power = .service

/-- An island is powered and not in clock-failure wait. -/
def State.runs (s : State) (i : Island) : Bool := s.inService && !(s.clk.wait.contains i)

/-- Registers can be reached: the link is up and the host island runs (16 R413, R414). -/
def State.barOk (s : State) : Bool := s.hst.link && s.runs .hst

/-- DT is counted by the network island; otherwise the shadow keeps it (02 R50). -/
def State.dtLive (s : State) : Bool := s.runs .net

/-! ## Device time (02 R28 to R32, R41) -/

def Tim.domain (t : Tim) : Dom → Domain
  | .pri => t.pri
  | .sec => t.sec

def Tim.setDomain (t : Tim) : Dom → Domain → Tim
  | .pri, d => { t with pri := d }
  | .sec, d => { t with sec := d }

/-- BLEED_RATE as a rate (02 R41). -/
def State.bleedRate (s : State) : Rat := (s.fld 0x4000 15 12 : Nat) / 1000000

/-- TRUST_LIM in ns. -/
def State.trustLim (s : State) : Rat := (s.fld 0x4000 31 16 * 1000 : Nat)

/-- The frequency correction DT runs on, as a rate: the active domain's while it is locked, otherwise the last one
it supplied (02 R42). -/
def Tim.baseRate (t : Tim) : Rat := (if (t.domain t.active).lock then (t.domain t.active).freq else t.fcorr) / 1000000000

/-- The rate f of R29: frequency correction plus bleed. -/
def State.dtRate (s : State) : Rat :=
  s.tim.baseRate +
    (if s.tim.bleeding then (if (s.tim.domain s.tim.active).ofs < 0 then - s.bleedRate else s.bleedRate) else 0)

/-- A domain clock's offset from DT after DT has advanced by `d` ns at rate `f`. -/
def Domain.pass (x : Domain) (f d : Rat) : Domain :=
  { x with ofs := x.ofs + d * ((1 + x.freq / 1000000000) / (1 + f) - 1) }

/-- Both domain clocks run on while DT advances by `d` ns at rate `f`. -/
def Tim.pass (t : Tim) (f d : Rat) : Tim := { t with pri := t.pri.pass f d, sec := t.sec.pass f d }

/-- Where a bleed ends: the difference is less than 1 ns by one unit of DT's fraction (DESIGN CHOICE, log entry 92). -/
def bleedGoal : Rat := 65535 / 65536

/-- DT that must pass before a bleed ends: the difference falls below 1 ns (02 R41). -/
def State.bleedLeft (s : State) : Rat :=
  let a := (s.tim.domain s.tim.active).ofs
  let m := if a < 0 then -a else a
  let f := s.dtRate
  let q := (1 + (s.tim.domain s.tim.active).freq / 1000000000) / (1 + f) - 1
  let q := if q < 0 then -q else q
  if m < 1 || q = 0 then 0 else (m - bleedGoal) / q

/-- Put DT at an exact instant. -/
def Tim.putDt (t : Tim) (x : Rat) : Tim :=
  { t with dt := (x.floor.toNat) % 2 ^ 64, frac := x - x.floor }

/-- DT as an exact number of ns. -/
def Tim.now (t : Tim) : Rat := (t.dt : Nat) + t.frac

/-- A change of the time state or a bleed falls into the window of a frequency measurement (19 R488). -/
def FreqJob.touch (j : FreqJob) (a b : Rat) : FreqJob :=
  if a < (j.t + 1000000000 : Nat) && decide ((j.t : Rat) ≤ b) then { j with moved := true } else j

def State.touchFreq (s : State) (a b : Rat) : State :=
  { s with clk := { s.clk with freqJobs := s.clk.freqJobs.map (fun j => j.touch a b) } }

/-- DT advances by `d` ns while the network island counts it; a bleed that ends on the way ends there. -/
def State.passLive (s0 : State) (d : Rat) : State :=
  let s := if s0.tim.bleeding then s0.touchFreq s0.tim.now (s0.tim.now + (if s0.bleedLeft ≤ d then s0.bleedLeft else d)) else s0
  if s.tim.bleeding && decide (s.bleedLeft ≤ d) then
    let b := s.bleedLeft
    let t1 := { (s.tim.pass s.dtRate b) with bleeding := false }
    let t2 := t1.pass t1.baseRate (d - b)
    { s with tim := t2.putDt (s.tim.now + d) }
  else { s with tim := (s.tim.pass s.dtRate d).putDt (s.tim.now + d) }

/-- The shadow's view of DT (02 R50): rounded down to whole ns. -/
def Tim.shadowNow (t : Tim) : Nat :=
  t.shadowDt + (((t.shadowNx : Nat) * (30517578125 / 1000000 : Rat) +
    (if t.shadowMhz = 0 then (0 : Rat) else (t.shadowNs : Nat) * (1000000000000 : Rat) / (t.shadowMhz : Nat))).floor).toNat

/-- The shadow counts source cycles until it reaches `t` (02 R50). -/
def State.passShadow (s : State) (t : Nat) : State :=
  let d : Rat := ((t : Int) - (s.tim.shadowNow : Int) : Int)
  let tm :=
    if s.clk.aonSosc then { s.tim with shadowNs := s.tim.shadowNs + (d * (s.tim.shadowMhz : Nat) / 1000000000000).floor.toNat }
    else { s.tim with shadowNx := s.tim.shadowNx + (d / (30517578125 / 1000000 : Rat)).floor.toNat }
  { s with tim := { tm with dt := tm.shadowNow, frac := 0 } }

/-- Time passes until DT `t`; DT never goes back (02 R29). -/
def State.advanceTo (s : State) (t : Nat) : State :=
  if t ≤ s.tim.dt then s
  else if s.dtLive then s.passLive ((t : Nat) - s.tim.now)
  else if s.clk.aonSosc && !s.clk.soscRun then s
  else s.passShadow t

/-! ## Hyperperiods (01 R15) -/

/-- H and P of the image in use, in ns. -/
def State.hNs (s : State) : Nat := match s.sup.bank with
  | some i => i.comb.hMs * 1000000
  | none => 0
def State.pNs (s : State) : Nat := match s.sup.bank with
  | some i => i.comb.pMs * 1000000
  | none => 0

/-- The number of the hyperperiod that holds DT `t`. -/
def hpOf (h p t : Nat) : Int := if h = 0 then 0 else ((t : Int) - p) / h

/-- The DT at which hyperperiod `k` starts. -/
def hpStart (h p : Nat) (k : Int) : Nat := (k * h + p).toNat

/-- The current hyperperiod number: the comb's while it runs or waits, otherwise that of DT. -/
def State.hp (s : State) : Int := if s.comb.cstate = 2 then s.comb.k else hpOf s.hNs s.pNs s.tim.dt

/-- A hyperperiod number as 64 bits. -/
def hp64 (k : Int) : Nat := ofSigned 64 k

/-! ## Records (21 R525 to R528) -/

/-- Bytes 4 to 55 of a record (21 Table 21-1). -/
def recordBytes (s : State) (sev src code : Nat) (body : List Byte) : List Byte :=
  let ms := (s.tim.dt - s.pwr.opsStart) / 1000000
  let msf := (if ms > 999 then 999 else ms) + sev * 1024 + src * 4096
  leBytes 5 s.pwr.ops ++ leBytes 2 msf ++ leBytes 3 s.pwr.pcyc ++ leBytes 2 code ++ (body ++ zeros 40).take 40

/-- A queued event before routing: an event is routed by its ring (16 R431). -/
def State.evRing (s : State) (n : Nat) : Option Nat :=
  match s.sup.bank with
  | some i => match i.events with
    | some r => let b := r.getD n 0xFF; if b = 0xFF then none else some b
    | none => some 1
  | none => some 1

/-- Severity of an event source (16 Table 16-15). -/
def evSeverity (n res0 : Nat) : Nat :=
  if n = 133 then (if bitOf res0 0 then sevFault else sevNotice)
  else if [0, 82, 164].contains n then sevCritical
  else if [115, 116].contains n then sevInfo
  else if [3, 4, 9, 16, 17, 18, 24, 33, 50, 65, 80, 83, 98, 113, 114, 129, 131, 132, 138, 160, 161, 162, 163].contains n
    then sevNotice
  else sevFault

def State.qp? (s : State) (id : Nat) : Option Qp := s.hst.qps.find? (fun q => q.id = id)

def State.setQp (s : State) (q : Qp) : State :=
  { s with hst := { s.hst with qps := s.hst.qps.map (fun x => if x.id = q.id then q else x) } }

/-- The host island serves rings continuously: INIT, SETUP or HALT (16 R425). -/
def State.continuous (s : State) : Bool := s.runs .hst && decide (s.mgt.run ≠ .run)

def State.emit (s : State) (o : Out) : State := { s with hst := { s.hst with out := o :: s.hst.out } }

/-- Signal a completion queue's vector, or set its pending bit when it is masked (16 R429). -/
def State.signal (s : State) (q : Qp) : State :=
  if q.ien then
    if s.hst.msixMask.contains q.vector then
      { s with hst := { s.hst with msixPend := if s.hst.msixPend.contains q.vector then s.hst.msixPend
                                               else q.vector :: s.hst.msixPend } }
    else s.emit (.msix q.vector)
  else s

/-- After a posting in continuous service: signal, or wait for the hold-off to end (16 R429). -/
def State.afterPost (s : State) (id : Nat) : State :=
  match s.qp? id with
  | none => s
  | some q =>
    if s.continuous then
      if q.holdoff then s.setQp { q with sig := true }
      else (s.setQp { q with sig := false, holdoff := true }).signal q
    else s.setQp { q with sig := true }

def Qp.size (q : Qp) : Nat := 2 ^ q.sizeLog

/-- The entry written to the next CQ slot of a pair; phase 1 on the first pass (16 R422). -/
def Qp.entry (q : Qp) (res0 res1 dt cid status : Nat) : Out :=
  .cqe q.id (q.posted % q.size) (q.posted / q.size % 2 = 0) res0 res1 dt cid (q.fetched % q.size) status

/-- Post an event entry, the overflow entry, or drop the event (16 R427, R430). -/
def State.postEvent (s : State) (e : Event) : State :=
  match s.evRing e.n with
  | none => s
  | some r => match s.qp? r with
    | some q =>
      if q.kind = 2 then
        let free := q.size - (q.posted - q.released)
        let q' := { q with posted := q.posted + 1, fetched := q.posted + 1, latched := q.posted + 1 }
        if free ≥ 2 then
          (((s.emit (q.entry e.res0 (hp64 e.hp) e.dt e.n e.sev)).setQp q').afterPost r)
        else if free = 1 then
          let s1 := ((s.emit (q.entry q.id (hp64 s.hp) s.tim.dt 255 sevFault)).setQp q').afterPost r
          { s1 with hst := { s1.hst with evLost := satAdd max32 s1.hst.evLost 1 } }
        else { s with hst := { s.hst with evLost := satAdd max32 s.hst.evLost 1 } }
      else { s with hst := { s.hst with evLost := satAdd max32 s.hst.evLost 1 } }
    | none => { s with hst := { s.hst with evLost := satAdd max32 s.hst.evLost 1 } }

/-- Events wait in order of raise DT, those of one DT in ascending source number (16 R430). -/
def insertEvent (e : Event) : List Event → List Event
  | [] => [e]
  | x :: xs => if decide (e.dt < x.dt) || (x.dt = e.dt && decide (e.n < x.n)) then e :: x :: xs else x :: insertEvent e xs

/-- Events that wait are posted, in their order. -/
def State.flushEvents (s : State) : State := s.hst.events.foldl State.postEvent { s with hst := { s.hst with events := [] } }

/-- Raise an event (16 R430, R432): posted at once in continuous service, queued for the next HST cell in RUN; an
event whose ring does not exist is counted lost at once (R431). Outside SERVICE the host island has no power (R434). -/
def State.raise (s : State) (n res0 : Nat) : State :=
  let e : Event := ⟨n, res0, s.hp, s.tim.dt, evSeverity n res0⟩
  if !s.inService then s else
  match s.evRing n with
  | none => s
  | some r => match s.qp? r with
    | some q =>
      if q.kind = 2 then
        if s.continuous then (s.flushEvents).postEvent e
        else { s with hst := { s.hst with events := insertEvent e s.hst.events } }
      else { s with hst := { s.hst with evLost := satAdd max32 s.hst.evLost 1 } }
    | none => { s with hst := { s.hst with evLost := satAdd max32 s.hst.evLost 1 } }

/-- The recorder front end is powered: every power state but OFF. -/
def State.recPowered (s : State) : Bool := decide (s.pwr.power ≠ .off)

/-- Raise a record (21 R527): it takes the next RNO and a place in the staging buffer, or is refused at once. -/
def State.record (s : State) (sev src code : Nat) (body : List Byte) : State :=
  if s.recPowered then
    let rno := s.rcd.written
    let w := (s.rcd.written + 1) % 2 ^ 32
    if s.rcd.staging.length < 1024 then
      { s with rcd := { s.rcd with written := w, staging := s.rcd.staging ++ [⟨rno, sev, recordBytes s sev src code body⟩] } }
    else
      let r1 := { s.rcd with written := w, stgFull := satAdd max32 s.rcd.stgFull 1,
                             refused := updAt s.rcd.refused sev (fun n => (n + 1) % 2 ^ 32), ev97 := true }
      let s1 := { s with rcd := r1 }
      if s.rcd.ev97 then s1 else s1.raise 97 sev
  else s

/-- An event with the record that accompanies it (21 Table 21-2, codes 0x0000 to 0x00FF). -/
def State.raiseRec (s : State) (n res0 sev src : Nat) : State :=
  (s.raise n res0).record sev src n (leBytes 8 s.tim.dt ++ leBytes 8 res0 ++ leBytes 8 (hp64 s.hp))

/-- A unit record without an event, CODE 0x0108 (21 Table 21-2). No chapter gives its detail: a free value (DESIGN CHOICE, log entry 3). -/
def State.unitRec (s : State) (sev src : Nat) : State :=
  let r := s.freshNat
  r.2.record sev src 0x0108 (leBytes 8 s.tim.dt ++ leBytes 8 r.1)

/-- A critical event and its CRITICAL record (16 Table 16-10, EV000). -/
def State.critical (s : State) (src : Nat) : State := s.raiseRec 0 src sevCritical src

/-! ## Completions (17 R442, 16 R421 to R427) -/

/-- Write a completion and its read-back data to the ring (16 R425). -/
def State.postCpl (s : State) (c : Cpl) : State :=
  if c.fate ≠ 0 then s else
  match s.qp? c.qp with
  | none => { s with hst := { s.hst with cplDrop := satAdd max32 s.hst.cplDrop 1 } }
  | some q =>
    let s1 := if c.data.isEmpty then s else s.emit (.readback c.qp c.cid c.data)
    ((s1.emit (q.entry c.res0 c.res1 c.dt c.cid c.status)).setQp { q with posted := q.posted + 1 }).afterPost c.qp

/-- Completions that wait are posted, in the order produced. -/
def State.flushCpls (s : State) : State := s.hst.cpls.foldl State.postCpl { s with hst := { s.hst with cpls := [] } }

/-- Hand a completion to the host island: posted at once in continuous service, otherwise in the next HST cell. -/
def State.queueCpl (s : State) (c : Cpl) : State :=
  if c.fate = 1 then { s with hst := { s.hst with cplDrop := satAdd max32 s.hst.cplDrop 1 } }
  else if c.fate ≠ 0 then s
  else if s.continuous then (s.flushCpls).postCpl c
  else { s with hst := { s.hst with cpls := s.hst.cpls ++ [c] } }

def State.held? (s : State) (seq : Nat) : Option Held := s.mgt.held.find? (fun h => h.seq = seq)

/-- Count a completion (17 Table 17-10). -/
def Mgt.countCpl (m : Mgt) (h : Held) (status : Nat) : Mgt :=
  if status = 0 then { m with cmdOk := satAdd max32 m.cmdOk 1 }
  else { m with cmdFail := satAdd max32 m.cmdFail 1, lastFail := (status, h.opc, h.cid, h.qp) }

/-- End a command: it leaves the commands held, is counted, and its completion is produced (17 R442). -/
def State.finish (s : State) (seq status res0 : Nat) (res1 : Option Nat) (data : List Byte) : State :=
  match s.held? seq with
  | none => s
  | some h =>
    let m := { (s.mgt.countCpl h status) with held := s.mgt.held.filter (fun x => x.seq ≠ seq) }
    let c : Cpl := ⟨h.qp, h.cid, h.opc, status, res0, res1.getD h.acc, s.tim.dt, data, h.fate⟩
    { s with mgt := m }.queueCpl c

/-- Delete a queue pair: its waiting entries and buffers go with it (16 R420). -/
def State.dropQp (s : State) (id : Nat) : State :=
  { s with hst := { s.hst with qps := s.hst.qps.filter (fun q => q.id ≠ id) } }

/-- A frame of a stream waits or is in transmission. -/
def State.sending (s : State) (id : Nat) : Bool := s.eth.ports.any (fun x => x.hostq.any (fun f => decide (f.use = .host id)) ||
  (match x.busy with | some b => decide (b.1.use = .host id) | none => false))

/-- Deletions whose fetched entries have all completed end now (16 R420). -/
def State.endDeletes (s : State) : State :=
  s.hst.deleting.foldl (fun s p =>
    if s.mgt.held.any (fun h => decide (h.qp = p.2) && decide (h.seq ≠ p.1)) || s.hst.handover.contains (p.2 + 128) ||
       s.sending p.2 then s
    else ({ s with hst := { s.hst with deleting := s.hst.deleting.filter (fun x => x.1 ≠ p.1) } }).finish p.1 0 0 none []) s

/-- Complete a command with a status and results, and end deletions that waited for it. -/
def State.complete (s : State) (seq status res0 : Nat) (res1 : Option Nat) (data : List Byte) : State :=
  (s.finish seq status res0 res1 data).endDeletes

/-- Complete with SUCCESS and RESULT0. -/
def State.ok (s : State) (seq res0 : Nat) : State := s.complete seq 0 res0 none []

/-- Refuse or fail with a status. -/
def State.fail (s : State) (seq status : Nat) : State := s.complete seq status 0 none []

/-- Change the acceptance DT of a held command. -/
def State.accept (s : State) (seq : Nat) : State :=
  { s with mgt := { s.mgt with held := s.mgt.held.map (fun h => if h.seq = seq then { h with acc := s.tim.dt } else h) } }

/-! ## Completion statuses (17 Table 17-5) -/

def stRunState : Nat := 0x01
def stBusy : Nat := 0x02
def stChallengeStale : Nat := 0x03
def stSwapPending : Nat := 0x04
def stAborted : Nat := 0x05
def stNoChannel : Nat := 0x06
def stTimeState : Nat := 0x07
def stQpExists : Nat := 0x08
def stQpFixed : Nat := 0x09
def stStreamBusy : Nat := 0x0A
def stImageIncompatible : Nat := 0x11
def stCombInvalid : Nat := 0x12
def stSuperActive : Nat := 0x13
def stSuperState : Nat := 0x14
def stSwapLead : Nat := 0x15
def stSwapCommitted : Nat := 0x16
def stImageRange : Nat := 0x17
def stStagingFailed : Nat := 0x18
def stValueUnknown : Nat := 0x21
def stValueRange : Nat := 0x22
def stOverlayFull : Nat := 0x23
def stStationUndeclared : Nat := 0x31
def stTagUnknown : Nat := 0x41
def stStoreFull : Nat := 0x42
def stProblemAbsent : Nat := 0x43
def stMeterUndeclared : Nat := 0x51
def stArchiveGone : Nat := 0x52
def stFrozen : Nat := 0x61
def stNotFrozen : Nat := 0x62
def stSigFail : Nat := 0x71
def stCounterStale : Nat := 0x72
def stEngineDenied : Nat := 0x73
def stIdMismatch : Nat := 0x74
def stSlotEmpty : Nat := 0x75
def stNotExportable : Nat := 0x76
def stNotLocked : Nat := 0x81
def stInvalidDate : Nat := 0x82
def stPanelAbsent : Nat := 0x91
def stCracked : Nat := 0x92
def stAxisUnreferenced : Nat := 0xA1
def stAxisUndeclared : Nat := 0xA2
def stAxisRange : Nat := 0xA3
def stHomeFailed : Nat := 0xA4
def stCalFailed : Nat := 0xB1
def stPortDisabled : Nat := 0xC1
def stMacsecOff : Nat := 0xC2
def stWakeSource : Nat := 0xE1

/-! ## CRC-32, IEEE 802.3 polynomial (05 R151, 21 R529, 22 Table 22-3) -/

/-- One bit of the reflected CRC-32. -/
def crcBit (c : BitVec 32) : BitVec 32 := if c.getLsbD 0 then (c >>> 1) ^^^ 0xEDB88320#32 else c >>> 1

def crcByte (c : BitVec 32) (b : Byte) : BitVec 32 :=
  let x := c ^^^ b.setWidth 32
  crcBit (crcBit (crcBit (crcBit (crcBit (crcBit (crcBit (crcBit x)))))))

/-- CRC-32 of a byte string. -/
def crc32 (bs : List Byte) : BitVec 32 := ~~~ (bs.foldl crcByte 0xFFFFFFFF#32)

end Sys2Proof.Machine
end

