-- ==== Sys2Proof/Machine/Flags.lean ====
section
/-!
DEFINITION. Sys2Proof/Machine/Flags.lean: the arithmetic of the logic engine with its flags (06 R180), and the
Q16.16 arithmetic of the loop engine (07 R203).
-/
namespace Sys2Proof.Machine

/-- The result of a word operation: the word, whether it saturated, whether it divided by zero. -/
structure Res where
  w : Word
  ov : Bool
  dz : Bool
  deriving DecidableEq, Repr

/-- An exact result narrowed with saturation (06 R180). -/
def resSat (x : Int) : Res := ⟨satWord x, satOver x, false⟩

def resPlain (w : Word) : Res := ⟨w, false, false⟩

def addR (a b : Word) : Res := resSat (a.toInt + b.toInt)
def subR (a b : Word) : Res := resSat (a.toInt - b.toInt)
def mulR (a b : Word) : Res := resSat (a.toInt * b.toInt)

/-- The defined results of a division by zero, by the sign of the dividend (06 R180). -/
def divZero (a : Word) : Res :=
  ⟨if a.toInt > 0 then 0x7FFFFFFF#32 else if a.toInt < 0 then 0x80000000#32 else 0, false, true⟩

/-- DIV truncates toward zero; 0x8000_0000 by −1 saturates (06 R180). -/
def divR (a b : Word) : Res := if b = 0 then divZero a else resSat (a.toInt.tdiv b.toInt)

/-- MOD has the sign of the dividend; by zero it sets DZ and gives 0 (06 R180). -/
def modR (a b : Word) : Res := if b = 0 then ⟨0, false, true⟩ else resPlain (BitVec.ofInt 32 (a.toInt.tmod b.toInt))

/-- QMUL: 64-bit product shifted right by 16, rounded half to even (06 R180). -/
def qmulR (a b : Word) : Res := resSat (rndDiv (a.toInt * b.toInt) 65536)

/-- QDIV: WA × 2^16 ÷ op, rounded half to even (06 R180). -/
def qdivR (a b : Word) : Res :=
  if b = 0 then divZero a
  else if b.toInt < 0 then resSat (rndDiv (-(a.toInt * 65536)) (-b.toInt).toNat)
  else resSat (rndDiv (a.toInt * 65536) b.toInt.toNat)

def itoqR (a : Word) : Res := resSat (a.toInt * 65536)
def qtoiR (a : Word) : Res := resPlain (BitVec.ofInt 32 (rndDiv a.toInt 65536))
def negR (a : Word) : Res := resSat (-a.toInt)
def absR (a : Word) : Res := resSat (if a.toInt < 0 then -a.toInt else a.toInt)
def minR (a b : Word) : Res := resPlain (if a.toInt ≤ b.toInt then a else b)
def maxR (a b : Word) : Res := resPlain (if a.toInt ≤ b.toInt then b else a)
def shlR (a b : Word) : Res := resPlain (a <<< (b.toNat % 32))
def shrR (a b : Word) : Res := resPlain (a >>> (b.toNat % 32))
def asrR (a b : Word) : Res := resPlain (a.sshiftRight (b.toNat % 32))

/-! ## Q16.16 on integers (07 R203) -/

/-- qmul of the loop engine: rounded half to even and saturated; it sets no flag. -/
def qmulI (a b : Int) : Int := satInt (rndDiv (a * b) 65536)

/-- rnd(n / d): half to even, saturated to 32 bits. -/
def rndI (n : Int) (d : Nat) : Int := satInt (rndDiv n d)

def addI (a b : Int) : Int := satInt (a + b)
def subI (a b : Int) : Int := satInt (a - b)

/-- The nearest value to `x` in [lo, hi]. -/
def clampI (x lo hi : Int) : Int := if x < lo then lo else if x > hi then hi else x

end Sys2Proof.Machine
end

