-- ==== Sys2Proof/Machine/SolverNum.lean ====
section
/-!
DEFINITION. Sys2Proof/Machine/SolverNum.lean: the arithmetic of the solver lanes (08 R217 to R223): exact sums with
one rounding, normalised scalars, divisions and square roots, and the causes of NaN.
-/
namespace Sys2Proof.Machine

/-! ## Causes (08 Table 8-11) -/

def caNone : Nat := 0x00
def caBudget : Nat := 0x01
def caNewton : Nat := 0x02
def caFactor : Nat := 0x03
def caOverflow : Nat := 0x04
def caDivZero : Nat := 0x05
def caNotPd : Nat := 0x06
def caBreakdown : Nat := 0x07
def caInfeasible : Nat := 0x08
def caUnbounded : Nat := 0x09
def caLane : Nat := 0x0A
def caStore : Nat := 0x0B
def caNotRun : Nat := 0x0C

/-- A calculation of a unit: it ends with the cause of its first NaN, and it counts scalar underflows (08 R219,
R222). -/
abbrev Calc (α : Type) := ExceptT Nat (StateM Nat) α

/-- The first NaN ends the unit with its cause (08 R222). -/
def nan {α : Type} (cause : Nat) : Calc α := throw cause

/-! ## Rounding -/

/-- m × 2^k rounded half to even. -/
def shiftRnd (m : Int) (k : Int) : Int :=
  if k ≥ 0 then m * 2 ^ k.toNat else rndDiv m (2 ^ (-k).toNat)

/-- An exact value rounded to a mantissa at exponent `e`; OVERFLOW outside ±(2^31 − 1) (08 R220). -/
def roundTo (e : Int) (x : Sc) : Calc Int :=
  let m := shiftRnd x.m (x.e - e)
  if m.natAbs > 2147483647 then nan caOverflow else pure m

/-- A scalar: the first exponent of `qs` at which the rounded mantissa fits (08 R219). -/
def fitScalar (r : Int → Int) : List Int → Calc Sc
  | [] => nan caOverflow
  | q :: qs =>
    let m := r q
    if m.natAbs > 2147483647 then fitScalar r qs
    else if q > 127 then nan caOverflow
    else if q < -128 then do modify (· + 1); pure ⟨0, 0⟩
    else pure ⟨m, q⟩

/-- Normalise an exact value (08 R219). -/
def norm (x : Sc) : Calc Sc :=
  if x.m = 0 then pure ⟨0, 0⟩
  else
    let q := x.e + (Nat.log2 x.m.natAbs : Int) - 30
    fitScalar (fun q => shiftRnd x.m (x.e - q)) [q, q + 1]

/-! ## Sums and products (08 R220) -/

/-- The exact product of two values; a zero product is no term (DEDUCED, log entry 30). -/
def mulT (a b : Sc) : List Sc := if a.m = 0 || b.m = 0 then [] else [⟨a.m * b.m, a.e + b.e⟩]

def negT (l : List Sc) : List Sc := l.map (fun x => ⟨-x.m, x.e⟩)

/-- One value as a term. -/
def addT (a : Sc) : List Sc := if a.m = 0 then [] else [a]

/-- A value fits the 80-bit accumulator. -/
def fits80 (x : Int) : Bool := decide (-(2 ^ 79 : Int) ≤ x) && decide (x < (2 ^ 79 : Int))

/-- The exact sum of terms aligned at their smallest exponent, in an 80-bit accumulator (08 R220). -/
def sumT (l : List Sc) : Calc Sc :=
  match l with
  | [] => pure ⟨0, 0⟩
  | t :: ts =>
    let e := ts.foldl (fun e x => if x.e < e then x.e else e) t.e
    (l.foldlM (fun (acc : Int) x =>
      let y := x.m * 2 ^ (x.e - e).toNat
      if fits80 y && fits80 (acc + y) then pure (acc + y) else nan caOverflow) 0 : Calc Int) >>= fun m => pure ⟨m, e⟩

/-- A sum rounded once to a block exponent, and to a scalar. -/
def sumTo (e : Int) (l : List Sc) : Calc Int := sumT l >>= roundTo e
def sumSc (l : List Sc) : Calc Sc := sumT l >>= norm

def mulSc (a b : Sc) : Calc Sc := sumSc (mulT a b)

/-! ## Divisions and square roots (08 R221) -/

/-- a / b at exponent q, rounded half to even from the exact quotient; b is not zero. -/
def quotRnd (a b : Sc) (q : Int) : Int :=
  let k := a.e - b.e - q
  let num := if b.m < 0 then -a.m else a.m
  if k ≥ 0 then rndDiv (num * 2 ^ k.toNat) b.m.natAbs else rndDiv num (b.m.natAbs * 2 ^ (-k).toNat)

def divTo (e : Int) (a b : Sc) : Calc Int :=
  if b.m = 0 then nan caDivZero
  else
    let m := quotRnd a b e
    if m.natAbs > 2147483647 then nan caOverflow else pure m

def divSc (a b : Sc) : Calc Sc :=
  if b.m = 0 then nan caDivZero
  else if a.m = 0 then pure ⟨0, 0⟩
  else
    let q := a.e - b.e + (Nat.log2 a.m.natAbs : Int) - (Nat.log2 b.m.natAbs : Int) - 31
    fitScalar (quotRnd a b) [q, q + 1, q + 2]

/-- Integer square root, `fuel` binary digit pairs. -/
def isqrtAux : Nat → Nat → Nat
  | 0, _ => 0
  | f + 1, n =>
    let r := 2 * isqrtAux f (n / 4)
    if (r + 1) * (r + 1) ≤ n then r + 1 else r

def isqrt (n : Nat) : Nat := isqrtAux (Nat.log2 n / 2 + 1) n

/-- √(x) at exponent q, rounded half to even from the exact root; x is not negative. -/
def sqrtRnd (x : Sc) (q : Int) : Int :=
  let m := x.m.toNat
  let k := x.e - 2 * q
  if k ≥ 0 then
    let n := m * 2 ^ k.toNat
    let r := isqrt n
    if n ≤ r * r + r then r else r + 1
  else
    let d := 2 ^ (-k).toNat
    let r := isqrt (m / d)
    let lhs := 4 * m
    let rhs := (4 * r * r + 4 * r + 1) * d
    if lhs < rhs then r else if lhs > rhs then r + 1 else if r % 2 = 0 then r else r + 1

def sqrtTo (e : Int) (x : Sc) : Calc Int :=
  let m := sqrtRnd x e
  if m.natAbs > 2147483647 then nan caOverflow else pure m

def sqrtSc (x : Sc) : Calc Sc :=
  if x.m ≤ 0 then pure ⟨0, 0⟩
  else
    let q := (x.e + (Nat.log2 x.m.natAbs : Int)).fdiv 2 - 31
    fitScalar (sqrtRnd x) [q, q + 1, q + 2]

/-! ## Comparisons, exact -/

def Sc.le (a b : Sc) : Bool :=
  if a.e ≤ b.e then decide (a.m ≤ b.m * 2 ^ (b.e - a.e).toNat) else decide (a.m * 2 ^ (a.e - b.e).toNat ≤ b.m)

def Sc.lt (a b : Sc) : Bool := !(b.le a)
def Sc.abs (a : Sc) : Sc := ⟨a.m.natAbs, a.e⟩
def Sc.neg (a : Sc) : Sc := ⟨-a.m, a.e⟩
def Sc.zero : Sc := ⟨0, 0⟩
def Sc.one : Sc := ⟨1, 0⟩
/-- 2^k. -/
def Sc.pow2 (k : Int) : Sc := ⟨1, k⟩
def Sc.max (a b : Sc) : Sc := if a.le b then b else a

/-- The largest absolute value of a list, as a scalar. -/
def maxAbs (l : List Sc) : Calc Sc := norm (l.foldl (fun m x => m.max x.abs) Sc.zero)

/-! ## Feeds and published words (08 R223) -/

/-- The value of a feed word. -/
def feedVal (w : Word) (fshift : Int) : Sc := ⟨w.toInt, fshift - 16⟩

/-- The Q16.16 word of a value with a publication shift, and whether it saturated. -/
def pubWord (x : Sc) (pshift : Int) : Word × Bool :=
  let v := shiftRnd x.m (x.e + 16 - pshift)
  if v > 2147483647 then (0x7FFFFFFF#32, true)
  else if v < -2147483647 then (0x80000001#32, true)
  else (BitVec.ofInt 32 v, false)

/-- A short scalar of a 32-bit word: mantissa in bits 31:8, exponent in bits 7:0 (08 R219). -/
def shortOf (w : Nat) : Sc := ⟨toSigned 24 (w / 256), toSigned 8 w⟩

/-! ## Block exponents (08 R218) -/

/-- The exponent of entry `i` of an array. -/
def expAt (exps : List ExpEntry) (arr i : Nat) : Int :=
  match exps.find? (fun x => decide (x.arr = arr) && decide (x.block = i / 4096)) with
  | some x => x.exp
  | none => 0

/-- Element `i` of an array of mantissas, as a value. -/
def elem (exps : List ExpEntry) (arr : Nat) (l : List Int) (i : Nat) : Sc := ⟨l.getD i 0, expAt exps arr i⟩

/-- Fill an array of `n` entries, each a sum rounded once to its block. -/
def fillSum (exps : List ExpEntry) (arr n : Nat) (f : Nat → List Sc) : Calc (List Int) :=
  (List.range n).mapM (fun i => sumTo (expAt exps arr i) (f i))

/-- A dot product as a scalar. -/
def dotSc (n : Nat) (f g : Nat → Sc) : Calc Sc := sumSc ((List.range n).flatMap (fun i => mulT (f i) (g i)))

def ceilDiv (a b : Nat) : Nat := (a + b - 1) / b

/-- The primitives of the cost model (03 Table 3-7). -/
def costSpmv (nnz : Nat) : Nat := 320 + ceilDiv nnz 128
def costUpd (n : Nat) : Nat := 64 + ceilDiv n 128
def costDot (n : Nat) : Nat := 96 + ceilDiv n 128

/-- The budget of a solver cell of `len` µs with an assumed spread in 0.1 % (03 R64, R65; 08, One solve). -/
def solverBudget (len spread : Nat) : Nat :=
  (len * 1000 - 21) * (100000 - 21) * 800 * (1000 - spread) / (1000 * 100000 * 1000)

end Sys2Proof.Machine
end

