-- ==== Sys2Proof/Machine/AxCore.lean ====
section
/-!
DEFINITION. Sys2Proof/Machine/AxCore.lean: the motion of the valve axes (15): profile, commands and their rejection,
interpolated moves, homing, limit stops, the reference. Speeds are 10^-5 steps/s, distances 2^-1 × 10^-10 steps.
-/
namespace Sys2Proof.Machine

def State.axes? (s : State) : Option AxesDef := s.sup.bank.bind (fun i => i.axes)

def State.axDef? (s : State) (a : Nat) : Option AxisDef := s.axes?.bind (fun d => d.axes.find? (fun x => x.axis = a))

def State.ax (s : State) (a : Nat) : Ax := s.axs.ax.getD a Ax.reset

def State.setAx (s : State) (a : Nat) (x : Ax) : State :=
  { s with axs := { s.axs with ax := updAt s.axs.ax a (fun _ => x) } }

def State.setInter (s : State) (g : Nat) (x : Option Inter) : State :=
  { s with axs := { s.axs with inter := SMap.set dOpt s.axs.inter g x } }

def State.inter? (s : State) (g : Nat) : Option Inter := SMap.get dOpt s.axs.inter g

/-- The group is interpolated (15 R392). -/
def AxesDef.isInterp (d : AxesDef) (g : Nat) : Bool := d.interp.getD g false

/-- One step in units of distance. -/
def stepU : Nat := 20000000000

/-! ## Flags of an axis (15 Table 15-4) -/

def Ax.seqTag (x : Ax) : Nat := (x.cmd.getD 0 0).toNat / 65536 % 256

/-- IN_POS: the axis stands at its target (DEDUCED, log entry 51). -/
def Ax.flags (x : Ax) : Nat :=
  b2n x.ref + b2n x.moving * 2 + b2n (!x.moving && decide (x.pos = x.target)) * 4 + b2n x.en * 8 + b2n x.refSw * 16 +
  b2n x.limP * 32 + b2n x.limN * 64 + b2n x.limStop * 128 + b2n x.homeFail * 256 + b2n x.reject * 512 + b2n x.abrupt * 1024

/-- Signed speed in steps/s. -/
def Ax.vel (x : Ax) : Int := if x.up then (x.v / 100000 : Nat) else - (x.v / 100000 : Nat)

/-- The axis event (16 Table 16-10). -/
def State.axEvent (s : State) (a : Nat) : State := s.raise 72 (a + (s.ax a).flags * 16)

/-! ## The profile (15 R398) -/

/-- Twice the distance, in steps × 10^10 … exact: units needed to come down from speed `v` to V_STOP. -/
def AxisDef.decelU (d : AxisDef) (v : Nat) : Nat :=
  let v1 := d.v1 * 100000
  let vs := d.vStop * 100000
  let low : Nat → Nat := fun u => (u * u - vs * vs) / d.d1
  if v ≤ vs then 0
  else if v ≤ v1 then low v
  else (v * v - v1 * v1) / d.dmax + low v1

/-- The highest speed from which the axis can still come down to V_STOP within `r` units. -/
def AxisDef.envelope (d : AxisDef) (r : Nat) : Nat :=
  let v1 := d.v1 * 100000
  let vs := d.vStop * 100000
  let r1 := d.decelU v1
  if r ≤ r1 then isqrt (vs * vs + r * d.d1) else isqrt (v1 * v1 + (r - r1) * d.dmax)

/-- The speed one update later while rising toward `vmax`. -/
def AxisDef.faster (d : AxisDef) (v vmax : Nat) : Nat := min vmax (v + (if v < d.v1 * 100000 then d.a1 else d.amax))

/-- The speed one update later while falling, not below `low`. -/
def AxisDef.slower (d : AxisDef) (v low : Nat) : Nat := max low (v - (if d.v1 * 100000 < v then d.dmax else d.d1))

/-- Units from the axis to its target; negative when the target lies behind. -/
def Ax.left (x : Ax) : Int := (if x.up then x.target - x.pos else x.pos - x.target) * (stepU : Nat) - (x.frac : Nat)

/-- The job runs toward a target. -/
def AxJob.toTarget : AxJob → Bool
  | .move => true
  | _ => false

/-- The job decelerates to standstill without a target. -/
def AxJob.stops : AxJob → Bool
  | .stop _ => true
  | .homeStop _ => true
  | _ => false

/-- Speed after the update. A move whose remaining distance the profile fits decelerates along the envelope. -/
def Ax.speed (x : Ax) (d : AxisDef) : Nat :=
  let vs := min x.v (d.vStop * 100000)
  match x.job with
  | .idle => 0
  | .stop _ => d.slower x.v vs
  | .homeStop _ => max vs (x.v - d.d1)
  | .homeOff | .homeSeek => d.faster x.v x.vmax
  | .move =>
    let r := x.left.toNat
    if x.vmax < x.v then min (d.envelope r) (d.slower x.v x.vmax)
    else if r ≤ d.decelU x.v then max vs (min x.v (d.envelope r))
    else d.faster x.v x.vmax

/-- Distance of one update between two speeds, not past the target. -/
def Ax.advance (x : Ax) (v' : Nat) : Nat :=
  let u := x.v + v'
  match x.job with
  | .move => if x.left.toNat ≤ u then x.left.toNat else u
  | _ => u

/-- Add a distance to the position. -/
def Ax.travel (x : Ax) (u : Nat) : Ax :=
  let t := x.frac + u
  let n : Int := (t / stepU : Nat)
  { x with pos := if x.up then x.pos + n else x.pos - n, frac := t % stepU }

/-- One profile update at DT `t`. -/
def Ax.update (x : Ax) (d : AxisDef) (t : Nat) : Ax :=
  let v' := x.speed d
  let y := x.travel (x.advance v')
  { y with v := v', upd := x.upd + 10000, trail := ((t, y.pos) :: x.trail).take 128 }

/-- The axis has come to the end of what it carries out: at its target, or down at V_STOP without one. -/
def Ax.done (x : Ax) (d : AxisDef) : Bool := match x.job with
  | .move => decide (x.left ≤ 0)
  | .stop _ | .homeStop _ => decide (x.v ≤ d.vStop * 100000)
  | _ => false

/-! ## Starting (15 R394, R398) -/

/-- The DIR level of a direction. -/
def AxisDef.dirLevel (d : AxisDef) (up : Bool) : Bool := up != d.dirInv

/-- A standing axis begins to move at `t`: EN and its lead, DIR with set-up and hold, the first speed. -/
def State.begin (s : State) (a : Nat) (d : AxisDef) (job : AxJob) (up : Bool) (target : Int) (vmax : Nat) : State :=
  let x := s.ax a
  let t := s.tim.dt
  let turn := decide (x.dir ≠ d.dirLevel up)
  let dirT := if turn then max t (x.still + d.dirSu * 10) + d.dirSu * 10 else t
  let leadT := if x.en then t else t + d.enLead * 1000
  s.setAx a { x with
    job := job, up := up, target := target, vmax := vmax, dir := d.dirLevel up, moving := true, frac := 0
    v := min (d.vStart * 100000) vmax, en := true, lead := if x.en then none else some leadT
    upd := max dirT leadT + 10000, trail := [(t, x.pos)], next := .none }

/-- An active limit lies in a direction. -/
def Ax.limitAhead (x : Ax) (up : Bool) : Bool := if up then x.limP else x.limN

/-- Complete the host command an axis carries out. -/
def State.axDone (s : State) (a status : Nat) : State := match (s.ax a).seq with
  | none => s
  | some q => (s.setAx a { (s.ax a) with seq := none }).complete q status 0 none []

/-- EN is released: without RETAIN the axis becomes unreferenced, the position kept (15 R404, R405). -/
def State.releaseEn (s : State) (a : Nat) (d : AxisDef) : State :=
  s.setAx a { (s.ax a) with en := false, lead := none, ref := (s.ax a).ref && d.retain }

/-- The axis stands: speed zero, from `t` on. -/
def State.stand (s : State) (a : Nat) : State :=
  s.setAx a { (s.ax a) with v := 0, frac := 0, moving := false, job := .idle, still := s.tim.dt }

/-- A standing axis begins a MOVE; at its target already, it stays and the command completes. -/
def State.goTo (s : State) (a : Nat) (d : AxisDef) (target : Int) (vmax : Nat) : State :=
  let x := s.ax a
  if target = x.pos then (s.setAx a { x with target := target, next := .none }).axDone a 0
  else s.begin a d .move (decide (x.pos < target)) target (vmax * 100000)

/-- HOME step 1 or 2 from standstill (15 R403); a limit already active in the direction fails it. -/
def State.goHome (s : State) (a : Nat) (d : AxisDef) (p : Int) : State :=
  let x := s.ax a
  let up := if x.refSw then !d.homePos else d.homePos
  let s1 := s.setAx a { x with homePos := p, next := .none }
  if x.limitAhead up then
    let y := { x with next := AxNext.none, homePos := p, ref := false, pos := 0, homeFail := true, job := .idle, moving := false, v := 0 }
    let s2 := s1.setAx a y
    ({ s2 with axs := { s2.axs with homefail := satAdd max16 s2.axs.homefail 1 } }).axDone a stHomeFailed
  else s1.begin a d (if x.refSw then .homeOff else .homeSeek) up p (d.vHome * 100000)

/-! ## Interpolated moves (15 R400) -/

/-- Steps member Δ has issued after `k` lead steps of a lead distance. -/
def interSteps (k dl di : Nat) : Nat := if dl = 0 then 0 else (k * di + dl / 2) / dl

/-- Begin an interpolated move of a group from standstill: (axis, target, VMAX) of each member. -/
def State.beginInter (s : State) (g : Nat) (ms : List (Nat × Int × Nat)) : State :=
  let dist := ms.map (fun m => (m.1, m.2.1 - (s.ax m.1).pos))
  let lead := dist.foldl (fun (b : Nat × Int) (m : Nat × Int) =>
    if b.2.natAbs < m.2.natAbs || (b.2.natAbs = m.2.natAbs && decide (m.1 < b.1)) then m else b) (dist.headD (0, 0))
  if lead.2 = 0 then ms.foldl (fun s m => (s.setAx m.1 { (s.ax m.1) with target := m.2.1 }).axDone m.1 0) s
  else
    let s1 := ms.foldl (fun s m => match s.axDef? m.1 with
      | some d => if m.2.1 = (s.ax m.1).pos then s.setAx m.1 { (s.ax m.1) with target := m.2.1 }
                  else s.begin m.1 d .move (decide ((s.ax m.1).pos < m.2.1)) m.2.1 (m.2.2 * 100000)
      | none => s) s
    let upd := (ms.map (fun m => if (s1.ax m.1).moving then (s1.ax m.1).upd else 0)).foldl max 0
    let s2 := ms.foldl (fun s m => s.setAx m.1 { (s.ax m.1) with upd := upd }) s1
    s2.setInter g (some ⟨lead.1, dist, 0, []⟩)

/-- The members follow the lead (15 R400). -/
def State.follow (s : State) (g : Nat) : State := match s.inter? g with
  | none => s
  | some r =>
    let dl := ((r.dist.find? (fun m => m.1 = r.lead)).getD (0, 0)).2
    let x := s.ax r.lead
    let k := (x.target - dl - x.pos).natAbs
    let s1 := r.dist.foldl (fun s m =>
      if m.1 = r.lead || m.2 = 0 then s
      else
        let y := s.ax m.1
        let n : Int := interSteps k dl.natAbs m.2.natAbs
        let y0 := y.target - m.2
        s.setAx m.1 { y with pos := if 0 < m.2 then y0 + n else y0 - n, frac := 0, upd := x.upd
                             v := if dl.natAbs = 0 then 0 else x.v * m.2.natAbs / dl.natAbs
                             trail := ((s.tim.dt, if 0 < m.2 then y0 + n else y0 - n) :: y.trail).take 128 }) s
    s1.setInter g (some { r with s := k })

/-- The interpolated move under way in the axis's group, when the axis takes part. -/
def State.interOf (s : State) (a : Nat) : Option (Nat × Inter) := (s.axDef? a).bind (fun d =>
  match s.inter? d.group with
  | some r => if r.dist.any (fun m => decide (m.1 = a)) then some (d.group, r) else none
  | none => none)

/-! ## Commands (15 R395 to R397, R399, R403) -/

/-- A HOME ends at once: after the reference edge was latched the position is redefined (15 R403). -/
def Ax.endHome (x : Ax) : Ax := match x.job with
  | .homeStop edge => { x with pos := x.homePos + (x.pos - edge), ref := true, job := .stop false }
  | .homeOff | .homeSeek => { x with job := .stop false }
  | _ => x

/-- A MOVE the axis may not take (15 R397). -/
def Ax.moveBad (x : Ax) (d : AxisDef) (target : Int) (vmax : Nat) : Bool :=
  decide (vmax < 1) || decide (500000 < vmax) || decide (target < d.posMin) || decide (d.posMax < target) || !x.ref ||
  (decide (x.pos < target) && x.limP) || (decide (target < x.pos) && x.limN)

def State.clearFlags (s : State) (a : Nat) : State :=
  s.setAx a { (s.ax a) with limStop := false, homeFail := false, reject := false, abrupt := false }

/-- Bring a moving axis to standstill, then do what `next` says; a standing one does it now. -/
def State.stopThen (s : State) (a : Nat) (n : AxNext) : State :=
  s.setAx a { (s.ax a) with job := .stop false, next := n }

/-- The axis takes part in no interpolated move any longer; a lead brings the others to standstill with it. -/
def State.leaveInter (s : State) (a : Nat) : State := match s.interOf a with
  | none => s
  | some (g, r) =>
    if r.lead = a then s
    else s.setInter g (some { r with dist := r.dist.filter (fun m => m.1 ≠ a) })

/-- A single axis takes a MOVE (15 R399). -/
def State.axMove (s : State) (a : Nat) (d : AxisDef) (target : Int) (vmax : Nat) : State :=
  let s0 := s.leaveInter a
  let x := (s0.ax a).endHome
  let s1 := s0.setAx a x
  if !x.moving then s1.goTo a d target vmax
  else
    let same := if x.up then decide (x.pos < target) else decide (target < x.pos)
    let y := { x with job := AxJob.move, target := target, vmax := vmax * 100000, next := .none }
    if same && decide ((d.decelU x.v : Int) ≤ y.left) then s1.setAx a y
    else s1.stopThen a (.move target vmax)

/-- A single axis takes a HOME. -/
def State.axHome (s : State) (a : Nat) (d : AxisDef) (p : Int) : State :=
  let s0 := s.leaveInter a
  let x := (s0.ax a).endHome
  let s1 := s0.setAx a x
  if x.moving then s1.stopThen a (.home p) else s1.goHome a d p

/-- A single axis takes a STOP or DISABLE. -/
def State.axStop (s : State) (a : Nat) (d : AxisDef) (disable : Bool) : State :=
  let s0 := s.leaveInter a
  let x := (s0.ax a).endHome
  let s1 := s0.setAx a { x with next := .none }
  if x.moving then s1.setAx a { (s1.ax a) with job := .stop disable }
  else ((if disable then s1.releaseEn a d else s1)).axDone a 0

/-- CMD, TARGET, VMAX of a command; none when CMD is invalid or a reserved field is not zero (15 Table 15-3). -/
def axParse (ws : List Word) : Option (Nat × Int × Nat) :=
  let w := (ws.getD 0 0).toNat
  if w / 2 ^ 24 ≠ 0 || w / 16 % 4096 ≠ 0 || w % 16 > 4 || (ws.getD 3 0).toNat ≠ 0 then none
  else some (w % 16, (ws.getD 1 0).toInt, (ws.getD 2 0).toNat)

/-- A taken command is rejected (15 R397). -/
def State.axReject (s : State) (a : Nat) : State :=
  let s1 := s.setAx a { (s.ax a) with reject := true }
  ({ s1 with axs := { s1.axs with cmdrej := satAdd max32 s1.axs.cmdrej 1 } }).axEvent a

/-- The command a set of words gives an axis, when it is not rejected. -/
def State.axJudge (s : State) (a : Nat) (d : AxisDef) (ws : List Word) : Option (Nat × Int × Nat) := match axParse ws with
  | none => none
  | some c => if c.1 = 1 && (s.ax a).endHome.moveBad d c.2.1 c.2.2 then none else some c

/-- Carry out a command other than an interpolated MOVE. -/
def State.axDo (s : State) (a : Nat) (d : AxisDef) (c : Nat × Int × Nat) : State :=
  let s1 := s.clearFlags a
  if c.1 = 1 then s1.axMove a d c.2.1 c.2.2
  else if c.1 = 2 then s1.axHome a d c.2.1
  else if c.1 = 3 then s1.axStop a d false
  else if c.1 = 4 then s1.axStop a d true
  else s1

/-- An interpolated move of the members of a group (15 R400): rejected as a whole, begun, or begun once the running
move stands. -/
def State.interTake (s : State) (g : Nat) (ms : List (Nat × List Word)) : State :=
  let js := ms.map (fun m => (m.1, match s.axDef? m.1 with | some d => s.axJudge m.1 d m.2 | none => none))
  if js.any (fun j => j.2.isNone) then ms.foldl (fun s m => s.axReject m.1) s
  else
    let l := js.filterMap (fun j => j.2.map (fun c => (j.1, c.2.1, c.2.2)))
    let s1 := l.foldl (fun s m => (s.clearFlags m.1).setAx m.1 ((s.clearFlags m.1).ax m.1).endHome) s
    let mov := l.filter (fun m => (s1.ax m.1).moving)
    if mov.isEmpty then s1.beginInter g l
    else
      let s2 := match s1.inter? g with
        | some r => (s1.stopThen r.lead .inter).setInter g (some { r with next := l })
        | none => s1.setInter g (some ⟨(mov.headD (0, 0, 0)).1, [], 0, l⟩)
      mov.foldl (fun s m => match s.interOf m.1 with
        | some _ => s
        | none => s.stopThen m.1 .inter) s2

/-- Take voted words on axes at one tick (15 R396): only words that differ from the last taken command are taken;
MOVEs in an interpolated group form one move. -/
def State.axTake (s : State) (l : List (Nat × List Word)) : State := match s.axes? with
  | none => s
  | some d =>
    let new := l.filter (fun m => (s.axDef? m.1).isSome && decide (m.2 ≠ (s.ax m.1).cmd))
    let s1 := new.foldl (fun s m => s.setAx m.1 { (s.ax m.1) with cmd := m.2 }) s
    let isMove : List Word → Bool := fun ws => match axParse ws with | some c => decide (c.1 = 1) | none => false
    let grp : Nat → Nat := fun a => match s.axDef? a with | some x => x.group | none => 0
    let inter := new.filter (fun m => d.isInterp (grp m.1) && isMove m.2)
    let single := new.filter (fun m => !(d.isInterp (grp m.1) && isMove m.2))
    let s2 := single.foldl (fun s m => match s.axDef? m.1 with
      | some x => (match s.axJudge m.1 x m.2 with
        | some c => s.axDo m.1 x c
        | none => s.axReject m.1)
      | none => s) s1
    (List.range 4).foldl (fun (s : State) (g : Nat) =>
      let ms := inter.filter (fun m => decide (grp m.1 = g))
      if ms.isEmpty then s else s.interTake g ms) s2

/-! ## Limit stops and breaks (15 R402, R405, R407) -/

/-- An axis stops abruptly. -/
def State.abruptStop (s : State) (a : Nat) : State :=
  if (s.ax a).moving then
    let s1 := (s.stand a).setAx a { ((s.stand a).ax a) with abrupt := true, next := .none, lead := none }
    { s1 with axs := { s1.axs with abrupt := satAdd max16 s1.axs.abrupt 1 } }
  else s

/-- A HOME that a limit stops fails: unreferenced, position 0 (15 R403, R405). -/
def State.homeFails (s : State) (a : Nat) : State :=
  let s1 := s.setAx a { (s.ax a) with homeFail := true, ref := false, pos := 0 }
  ({ s1 with axs := { s1.axs with homefail := satAdd max16 s1.axs.homefail 1 } }).axDone a stHomeFailed

/-- The axis stopped by the limit itself: flags, AXS_LIMIT, the event, its job's end. -/
def State.limitStop (s : State) (a : Nat) : State :=
  let job := (s.ax a).job
  let s1 := s.abruptStop a
  let s2 := s1.setAx a { (s1.ax a) with limStop := true }
  let s3 := { s2 with axs := { s2.axs with limit := s2.axs.limit ||| 2 ^ a } }
  let s4 := match job with
    | .homeOff | .homeSeek => s3.homeFails a
    | .homeStop edge => (s3.setAx a { (s3.ax a) with pos := (s3.ax a).homePos + ((s3.ax a).pos - edge), ref := true }).axDone a 0
    | .stop disable => ((if disable then (match s3.axDef? a with | some d => s3.releaseEn a d | none => s3) else s3)).axDone a 0
    | _ => s3.axDone a stAxisRange
  s4.axEvent a

/-- Every member of an interpolated move stops when one meets its limit (15 R400, R402). -/
def State.limitAll (s : State) (a : Nat) : State := match s.interOf a with
  | none => s.limitStop a
  | some (g, r) =>
    let s1 := s.setInter g none
    let s2 := (r.dist.filter (fun m => m.1 ≠ a)).foldl (fun s m => (s.abruptStop m.1).axDone m.1 stAborted) s1
    s2.limitStop a

/-- The axis becomes unreferenced and takes position 0 (15 R405). -/
def State.unref (s : State) (a : Nat) : State := s.setAx a { (s.ax a) with ref := false, pos := 0 }

/-- The island's clock fails: motion stops abruptly, EN takes EN_SAFE, every axis is unreferenced (15 R405, R407). -/
def State.axesStop (s : State) : State :=
  let s1 := (List.range 16).foldl (fun (s : State) (a : Nat) => match s.axDef? a with
    | some d =>
      let s1 := ((s.abruptStop a).unref a).axDone a stAborted
      s1.setAx a { (s1.ax a) with en := d.enSafe, missing := true, next := .none, lead := none }
    | none => s) s
  { s1 with axs := { s1.axs with inter := [] } }

end Sys2Proof.Machine
end

