-- ==== Sys2Proof/Machine/Operands.lean ====
section
/-!
DEFINITION. Sys2Proof/Machine/Operands.lean: the operand forms of the logic engine over one channel's memory
(06 Table 6-1), the items of the snapshot, and page marking for COPY (06 R586).
-/
namespace Sys2Proof.Machine

/-! ## Page marking -/

/-- Mark a page of the channel state as written (05 R144). -/
def Chan.touch (c : Chan) (page : Nat) : Chan :=
  if c.touched.contains page then c else { c with touched := page :: c.touched }

/-! ## Bits -/

def Chan.readBit (c : Chan) : BitOp → Bool
  | .bit a => SMap.get dBit c.mem.bits a
  | .req a => SMap.get dBit c.mem.req a

def Chan.writeBit (c : Chan) (op : BitOp) (v : Bool) : Chan :=
  match op with
  | .bit a => { c with mem := { c.mem with bits := SMap.set dBit c.mem.bits a v } }.touch (a / 8 / 1024)
  | .req a => { c with mem := { c.mem with req := SMap.set dBit c.mem.req a v } }.touch (c.lay.req + a / 8 / 1024)

/-! ## Words -/

def Chan.readWord (c : Chan) : WordOp → Word
  | .word a => SMap.get dWord c.mem.words a
  | .const a => SMap.get dWord c.consts a
  | .snap a => SMap.get dWord c.snap a
  | .out a => SMap.get dWord c.mem.out a
  | .sys a => SMap.get dWord c.sys a
  | .imm v => v.signExtend 32

end Sys2Proof.Machine

namespace Sys2Proof

open Sys2Proof.Machine

/-- A SNAP operand takes one cycle more (06 R179). -/
def WordOp.extra : WordOp → Nat
  | .snap _ => 1
  | _ => 0

end Sys2Proof

namespace Sys2Proof.Machine

def Chan.storeWord (c : Chan) (a : Nat) (v : Word) : Chan :=
  { c with mem := { c.mem with words := SMap.set dWord c.mem.words a v } }.touch (c.lay.words + a / 256)

def Chan.storeOut (c : Chan) (a : Nat) (v : Word) : Chan :=
  { c with mem := { c.mem with out := SMap.set dWord c.mem.out a v } }.touch (c.lay.out + a / 256)

def Chan.store (c : Chan) : StoreOp → Word → Chan
  | .word a, v => c.storeWord a v
  | .out a, v => c.storeOut a v

/-! ## Indexed forms (06 R178) -/

/-- The extents an image gives the spaces (06 Table 6-1). -/
structure Limits where
  word : Nat
  const : Nat
  out : Nat
  deriving DecidableEq, Repr

/-- The limits in force: those of the image in use. -/
def State.limits (s : State) : Limits := match s.sup.bank with
  | some i => ⟨i.logic.wordExt, i.logic.nconst, i.logic.outExt⟩
  | none => ⟨0, 0, 0⟩

end Sys2Proof.Machine

namespace Sys2Proof

open Sys2Proof.Machine

def IdxOp.base : IdxOp → Nat
  | .word a | .const a | .snap a | .out a | .sys a => a

def IdxOp.limit (l : Limits) : IdxOp → Nat
  | .word _ => l.word
  | .const _ => l.const
  | .snap _ => 131072
  | .out _ => l.out
  | .sys _ => 64

/-- The operand moved to an address of its space. -/
def IdxOp.at : IdxOp → Nat → WordOp
  | .word _, a => .word a
  | .const _, a => .const a
  | .snap _, a => .snap a
  | .out _, a => .out a
  | .sys _, a => .sys a

def IdxOp.extra : IdxOp → Nat
  | .snap _ => 1
  | _ => 0

def StoreOp.base : StoreOp → Nat
  | .word a | .out a => a

def StoreOp.limit (l : Limits) : StoreOp → Nat
  | .word _ => l.word
  | .out _ => l.out

def StoreOp.at : StoreOp → Nat → StoreOp
  | .word _, a => .word a
  | .out _, a => .out a

end Sys2Proof

namespace Sys2Proof.Machine

/-! ## Items of the snapshot (06 Table 6-3, 08 R241, 09 R270, 11 Table 11-8, 15 R406) -/

/-- The key of the item that holds a SNAP word: the item's first word; none for reserved words. -/
def itemKey (a : Nat) : Option Nat :=
  if a < 0x10000 then some (a / 16 * 16)
  else if a < 0x10042 then some a
  else if a < 0x10080 then none
  else if a < 0x10100 then some (a / 8 * 8)
  else if a < 0x10300 then some (0x10100 + (a - 0x10100) / 64 * 64)
  else if a < 0x10B00 then some (0x10300 + (a - 0x10300) / 16 * 16)
  else if a < 0x10B10 then some 0x10B00
  else if a < 0x11000 then none
  else if a < 0x12000 then some 0x11000
  else if a < 0x13000 then some 0x12000
  else none

/-- The item of a SNAP word; a reserved word is MISSING (06 R168). -/
def Chan.itemAt (c : Chan) (a : Nat) : Item := match itemKey a with
  | some k => SMap.get dItem c.items k
  | none => ⟨.missing, none⟩

/-- LDQ's word (06 Table 6-4). -/
def Chan.qualityWord (c : Chan) (a : Nat) : Word := BitVec.ofNat 32 (c.itemAt a).q.code

/-- LDAGE's word: t_s minus the acquisition DT in whole µs, saturating at 0x7FFF_FFFF (06 R168). -/
def Chan.ageWord (c : Chan) (ts : Nat) (a : Nat) : Word := match (c.itemAt a).acq with
  | some t => BitVec.ofNat 32 (min ((ts * 1000 - t) / 1000) 0x7FFFFFFF)
  | none => 0x7FFFFFFF#32

/-! ## Timers, counters, edge memories -/

def Chan.timer (c : Chan) (i : Nat) : Timer := SMap.get dTimer c.mem.timers i
def Chan.setTimer (c : Chan) (i : Nat) (t : Timer) : Chan :=
  { c with mem := { c.mem with timers := SMap.set dTimer c.mem.timers i t } }.touch (c.lay.timers + i / 128)
def Chan.counter (c : Chan) (i : Nat) : Counter := SMap.get dCounter c.mem.counters i
def Chan.setCounter (c : Chan) (i : Nat) (t : Counter) : Chan :=
  { c with mem := { c.mem with counters := SMap.set dCounter c.mem.counters i t } }.touch (c.lay.counters + i / 128)
def Chan.edge (c : Chan) (i : Nat) : Edge := SMap.get dEdge c.mem.edges i
def Chan.setEdge (c : Chan) (i : Nat) (t : Edge) : Chan :=
  { c with mem := { c.mem with edges := SMap.set dEdge c.mem.edges i t } }.touch (c.lay.edges + i / 1024)
def Chan.task (c : Chan) (t : Nat) : TaskRec := SMap.get dTask c.mem.tasks t
def Chan.setTask (c : Chan) (t : Nat) (r : TaskRec) : Chan :=
  { c with mem := { c.mem with tasks := SMap.set dTask c.mem.tasks t r } }.touch c.lay.tasks
def Chan.loop (c : Chan) (n : Nat) : Loop := SMap.get dLoop c.mem.loops n
def Chan.setLoop (c : Chan) (n : Nat) (l : Loop) : Chan :=
  { c with mem := { c.mem with loops := SMap.set dLoop c.mem.loops n l } }.touch (c.lay.loops + n / 16)

/-- Pages a region of `n` bytes takes (06 R586). -/
def pagesOf (n : Nat) : Nat := (n + 1023) / 1024

/-- The page layout of an image (06 R586). -/
def layoutOf (i : Image) : Layout :=
  let w := pagesOf (i.logic.bitExt / 8)
  let o := w + pagesOf (4 * i.logic.wordExt)
  let r := o + pagesOf (4 * i.logic.outExt)
  let t := r + pagesOf 516
  let n := t + pagesOf (8 * i.logic.timerExt)
  let e := n + pagesOf (8 * i.logic.counterExt)
  let k := e + pagesOf i.logic.edgeExt
  let l := k + pagesOf 256
  ⟨w, o, r, t, n, e, k, l, l + pagesOf (64 * i.loops.length)⟩

end Sys2Proof.Machine
end

