-- ==== Sys2Proof/Machine/Scan.lean ====
section
/-!
DEFINITION. Sys2Proof/Machine/Scan.lean: what every instruction of the logic engine shares: the channels with an open
scan, retiring an instruction, jumps, the nesting stack, the end of a scan (06 R158 to R163, R172 to R176).
-/
namespace Sys2Proof.Machine

def State.chan (s : State) (i : ChId) : Chan := s.chn.ch.get i

def State.setChan (s : State) (i : ChId) (c : Chan) : State := { s with chn := { s.chn with ch := s.chn.ch.set i c } }

/-- The lowest-lettered VOTING channel (06 R175). -/
def State.lowVoting (s : State) : Option ChId := ChId.all.find? (fun i => decide ((s.chan i).st = .voting))

/-- The number of VOTING channels: the redundancy state (00 Table 0-1), coded as CHN_STATUS.REDUND. -/
def State.votingCount (s : State) : Nat := (ChId.all.filter (fun i => decide ((s.chan i).st = .voting))).length

/-- Run one instruction's effect in every channel with an open scan. -/
def State.lge (s : State) (f : Chan → Chan) : State :=
  { s with chn := { s.chn with ch := s.chn.ch.map (fun c => if c.scan.isSome then f c else c) } }

/-- The same in one channel. -/
def State.lgeOne (s : State) (f : Chan → Chan) (i : ChId) : State :=
  { s with chn := { s.chn with ch := s.chn.ch.set i (if (s.chan i).scan.isSome then f (s.chan i) else s.chan i) } }

/-- The instruction ends: the next one follows it and its cycles count (06 R179). -/
def Chan.retire (c : Chan) (cycles : Nat) : Chan :=
  { c with scan := c.scan.map (fun x => { x with pc := x.pc + 1, cyc := x.cyc + cycles }) }

/-- A jump with OFFSET o at address a continues at a + o (06 R177). -/
def Chan.jump (c : Chan) (o : Nat) : Chan :=
  { c with scan := c.scan.map (fun x => { x with pc := x.pc + o, cyc := x.cyc + 2 }) }

/-- WA takes a result; OV and DZ stay set once set (06 R172). -/
def Chan.putRes (c : Chan) (r : Res) : Chan :=
  { c with wa := r.w, ov := c.ov || r.ov, dz := c.dz || r.dz }

/-- The scan interval of the open scan, in µs (06 R161). -/
def Chan.scanD (c : Chan) : Nat := match c.scan with
  | some x => x.d
  | none => 0

/-- The scan time of the open scan, in µs (06 R160). -/
def Chan.scanTs (c : Chan) : Nat := match c.scan with
  | some x => x.ts
  | none => 0

/-! ## The end of a scan -/

/-- How a scan ends. -/
inductive ScanEnd where
  | completed | overrun | overflow | underflow
  deriving DecidableEq, Repr

/-- The fault flags of the scan at its end, at their bits of LGE_TtSTAT (06 Table 6-16). -/
def Chan.endFlags (c : Chan) (k : ScanEnd) : Nat :=
  b2n c.ov * 2 + b2n c.dz * 4 + b2n c.iff * 8 +
  (if k = .completed && !c.stack.isEmpty then 16 else 0) +
  (if k = .underflow then 32 else 0) + (if k = .overflow then 64 else 0) + (if k = .overrun then 128 else 0)

/-- The channel once its scan has ended: the stack is discarded, the task record keeps the flags. -/
def Chan.closeScan (c : Chan) (t : Nat) (flags : Nat) : Chan :=
  ({ c with scan := none, stack := [] }).setTask t { c.task t with flt := flags / 2 }

/-- The LGE registers after a scan of the lowest-lettered VOTING channel (06 R196). -/
def Chn.countScan (n : Chn) (t flags cyc : Nat) (k : ScanEnd) : Chn :=
  let n1 := { n with lgeFlags := SMap.set dNat n.lgeFlags t (SMap.get dNat n.lgeFlags t ||| flags) }
  match k with
  | .completed => { n1 with lgeScans := SMap.set dNat n1.lgeScans t (satAdd max32 (SMap.get dNat n1.lgeScans t) 1),
                            lgeCyc := SMap.set dNat n1.lgeCyc t (min cyc 16777215) }
  | .overrun => { n1 with lgeOvr := SMap.set dNat n1.lgeOvr t (satAdd max16 (SMap.get dNat n1.lgeOvr t) 1) }
  | .overflow | .underflow =>
    { n1 with lgeStk := SMap.set dNat n1.lgeStk t (satAdd max16 (SMap.get dNat n1.lgeStk t) 1) }

/-- A completed scan's task joins the tasks the channel completed in this control cycle (05 R124). -/
def CombSt.markDone (m : CombSt) (i : ChId) (t : Nat) : CombSt :=
  { m with cyc := { m.cyc with work := m.cyc.work.set i { (m.cyc.work.get i) with done := t :: (m.cyc.work.get i).done } } }

/-- The logic fault event and its FAULT record, at most once per task per hyperperiod (06 R175). -/
def State.logicFault (s : State) (t : Nat) : State :=
  if s.chn.lgeEv.contains t then s
  else ({ s with chn := { s.chn with lgeEv := t :: s.chn.lgeEv } }).raiseRec 11
    (t + SMap.get dNat s.chn.lgeFlags t * 256) sevFault blkChn

/-- End the scan of one channel (06 R162, R175, R176). -/
def State.endScan (s : State) (k : ScanEnd) (i : ChId) : State :=
  match (s.chan i).scan with
  | none => s
  | some x =>
    let c := s.chan i
    let flags := c.endFlags k
    let low := s.lowVoting
    let s1 := s.setChan i (c.closeScan x.task flags)
    let s2 := if k = .completed then { s1 with comb := s1.comb.markDone i x.task } else s1
    let s3 := if low = some i then { s2 with chn := s2.chn.countScan x.task flags x.cyc k } else s2
    if k = .overflow || k = .underflow then s3.logicFault x.task else s3

/-- In every channel with an open scan, in the order of the letters. -/
def State.forChans (s : State) (f : State → ChId → State) : State := ChId.all.foldl f s

/-! ## The nesting stack -/

/-- An opening instruction: push, or overflow with 16 entries on the stack (06 R173, R175). -/
def State.openOne (op : StackOp) (s : State) (i : ChId) : State :=
  if (s.chan i).scan.isNone then s
  else if (s.chan i).stack.length < 16 then
    s.setChan i ({ (s.chan i) with stack := ⟨(s.chan i).ba, (s.chan i).wa, op⟩ :: (s.chan i).stack }.retire 2)
  else s.endScan .overflow i

def State.openAll (s : State) (op : StackOp) : State := s.forChans (State.openOne op)

/-- What ")" does with the popped entry (06 R174). -/
def Chan.combine (c : Chan) (e : StackEntry) : Chan :=
  match e.op with
  | .and => { c with ba := e.ba && c.ba }
  | .or => { c with ba := e.ba || c.ba }
  | .xor => { c with ba := e.ba ^^ c.ba }
  | .add => c.putRes (addR e.wa c.wa)
  | .sub => c.putRes (subR e.wa c.wa)
  | .mul => c.putRes (mulR e.wa c.wa)
  | .qmul => c.putRes (qmulR e.wa c.wa)

/-- ")" in one channel: pop and combine, or underflow on an empty stack (06 R174, R175). -/
def State.closeOne (s : State) (i : ChId) : State :=
  if (s.chan i).scan.isNone then s
  else match (s.chan i).stack with
    | [] => s.endScan .underflow i
    | e :: rest => s.setChan i ((({ (s.chan i) with stack := rest }).combine e).retire 4)

/-- END in one channel: the scan completes (06 R162). -/
def State.endOne (s : State) (i : ChId) : State :=
  if (s.chan i).scan.isNone then s else (s.setChan i ((s.chan i).retire 4)).endScan .completed i

/-! ## Forms shared by the instructions -/

/-- A word operation with a word operand. -/
def Chan.arith (f : Word → Word → Res) (cycles : Nat) (op : WordOp) (c : Chan) : Chan :=
  (c.putRes (f c.wa (c.readWord op))).retire (cycles + op.extra)

/-- A comparison of WA with a word operand (06 Table 6-7). -/
def Chan.compare (f : Int → Int → Bool) (op : WordOp) (c : Chan) : Chan :=
  ({ c with ba := f c.wa.toInt (c.readWord op).toInt }).retire (2 + op.extra)

/-- A bit operation with a bit operand. -/
def Chan.logic (f : Bool → Bool → Bool) (op : BitOp) (c : Chan) : Chan :=
  ({ c with ba := f c.ba (c.readBit op) }).retire 2

/-- WA takes a result without operand. -/
def Chan.unary (f : Word → Res) (cycles : Nat) (c : Chan) : Chan := (c.putRes (f c.wa)).retire cycles

/-! ## Timers, counters and edge memories (06 R181 to R184) -/

/-- ET_MAX in µs (06 Table 6-8). -/
def etMax : Nat := 2147483647 * 1000 + 999

inductive TimerKind where
  | ton | tof | tp
  deriving DecidableEq, Repr

/-- The preset in µs: max(WA, 0) ms (06 R181). -/
def presetUs (wa : Word) : Nat := wa.toInt.toNat * 1000

/-- One evaluation of a timer with input `inp`, preset `pt` µs and scan interval `d` µs (06 R181). -/
def Timer.eval (k : TimerKind) (inp : Bool) (pt d : Nat) (t : Timer) : Timer :=
  let t1 : Timer := match k with
    | .ton =>
      if !inp then { t with et := 0, q := false }
      else
        let et := if t.tt then min (t.et + d) etMax else 0
        { t with et := et, q := decide (et ≥ pt) }
    | .tof =>
      if inp then { t with et := 0, q := true }
      else
        let et := if t.tt then 0 else if t.q then min (t.et + d) etMax else t.et
        { t with et := et, q := if et ≥ pt then false else t.q }
    | .tp =>
      let t2 : Timer :=
        if !t.q && inp && !t.tt then { t with q := true, et := 0 }
        else if t.q then { t with et := min (t.et + d) etMax }
        else if !inp then { t with et := 0 }
        else t
      { t2 with q := if t2.q && decide (t2.et ≥ pt) then false else t2.q }
  { t1 with tt := inp }

/-- A timer instruction in one channel. -/
def Chan.runTimer (k : TimerKind) (i : Nat) (c : Chan) : Chan :=
  let t := (c.timer i).eval k c.ba (presetUs c.wa) c.scanD
  ({ (c.setTimer i t) with ba := t.q }).retire 6

/-- One evaluation of a counter (06 R183). -/
def Counter.eval (up : Bool) (ba : Bool) (pv : Word) (n : Counter) : Counter :=
  let n1 : Counter :=
    if !n.cinit then { n with cl := ba, cinit := true }
    else if ba && !n.cl then
      { n with cv := if up then satWord (n.cv.toInt + 1) else satWord (n.cv.toInt - 1) }
    else n
  { n1 with cl := ba, q := if up then decide (n1.cv.toInt ≥ pv.toInt) else decide (n1.cv.toInt ≤ pv.toInt) }

def Chan.runCounter (up : Bool) (i : Nat) (c : Chan) : Chan :=
  let n := (c.counter i).eval up c.ba c.wa
  ({ (c.setCounter i n) with ba := n.q }).retire 5

/-- One evaluation of an edge memory: the memory and the new BA (06 R184). -/
def Edge.eval (rising : Bool) (ba : Bool) (e : Edge) : Edge × Bool :=
  if !e.einit then (⟨ba, true⟩, false)
  else (⟨ba, e.einit⟩, if rising then ba && !e.m else e.m && !ba)

def Chan.runEdge (rising : Bool) (i : Nat) (c : Chan) : Chan :=
  let r := (c.edge i).eval rising c.ba
  ({ (c.setEdge i r.1) with ba := r.2 }).retire 3

end Sys2Proof.Machine
end

