-- ==== Sys2Proof/Machine/Time.lean ====
section
/-!
DEFINITION. Sys2Proof/Machine/Time.lean: device time and its discipline (02): PTP messages, the servo, lock, the
active domain, the time state, the first-lock step, bleeds and the wrap.
-/
namespace Sys2Proof.Machine

def ratAbs (x : Rat) : Rat := if x < 0 then -x else x

/-! ## Settings (02 Tables 2-5 to 2-14) -/

def State.servoEn (s : State) : Bool := s.fld 0x4000 0 0 = 1
def State.autoCo (s : State) : Bool := s.fld 0x4000 8 8 = 1
def State.bcMode (s : State) : Bool := s.fld 0x4000 9 9 = 1
def State.domFld (s : State) (d : Dom) (ofs hi lo : Nat) : Nat := s.fld (0x4020 + 0x20 * d.code + ofs) hi lo
def State.domEn (s : State) (d : Dom) : Bool := s.domFld d 0 0 0 = 1
def State.domNum (s : State) (d : Dom) : Nat := s.domFld d 0 14 8
def State.portFld (s : State) (p hi lo : Nat) : Nat := s.fld (0x4100 + 0x10 * p) hi lo

/-- DOM_USE names the domain (02 Table 2-13). -/
def State.portUses (s : State) (p : Nat) (d : Dom) : Bool := bitOf (s.portFld p 7 6) d.code

/-! ## The time state (02 R41, R42) -/

/-- The time state that R42 gives. -/
def State.timeStateNow (s : State) : TState :=
  if !s.tim.everLocked then .free
  else if s.dtLive && (s.tim.domain s.tim.active).lock && decide (ratAbs (s.tim.domain s.tim.active).ofs ≤ s.trustLim)
  then .trusted else .holdover

/-- The last correction, BLEEDING and the time state follow the active domain; EV016 at a change (02 R41, R42). An
interval open outside TRUSTED is marked so (11 Table 11-9). -/
def State.settleTime (s : State) : State :=
  let a := s.tim.domain s.tim.active
  let t1 := { s.tim with fcorr := if a.lock then a.freq else s.tim.fcorr,
                         bleeding := s.dtLive && s.tim.everLocked && a.lock && decide (1 ≤ ratAbs a.ofs) }
  let ts := s.timeStateNow
  let m := if ts = .trusted then s.mtr else { s.mtr with cur := s.mtr.cur.map (fun i => { i with untrusted := true }) }
  let s1 := { s with tim := { t1 with tstate := ts }, mtr := m }
  if ts = s.tim.tstate then s1 else (s1.touchFreq s1.tim.now s1.tim.now).raise 16 ts.code

/-- Make a domain active; EV018 at a change (02 R45 to R48). -/
def State.setActive (s : State) (d : Dom) : State :=
  if s.tim.active = d then s else ({ s with tim := { s.tim with active := d } }).raise 18 d.code

/-! ## PTP messages (02 R34, R35, R37) -/

/-- Ingress timestamp in 2^-16 ns: raw − INGLAT (02 R34). -/
def State.ingress (s : State) (m : PtpMsg) : Int := m.raw - (s.fld (0x4104 + 0x10 * m.port) 31 0 : Nat)

/-- TIM_PpASYM, signed (02 Table 2-14). -/
def State.asym (s : State) (p : Nat) : Int := toSigned 32 (s.fld (0x410C + 0x10 * p) 31 0)

/-- A message is taken by domain `d`: PTP and the domain enabled, number and port matching, no master port. -/
def State.ptpTakes (s : State) (m : PtpMsg) (d : Dom) : Bool :=
  s.servoEn && s.domEn d && decide (s.domNum d = m.domnum) && decide (m.port < 8) && s.portUses m.port d &&
  decide (s.portFld m.port 5 5 = 0)

/-- What a message does to one domain that takes it. -/
def State.ptpDomain (s : State) (m : PtpMsg) (d : Dom) : State :=
  let x := s.tim.domain d
  match m.body with
  | .sync origin =>
    if x.slave = some m.port then
      let dom : Rat := ((origin + SMap.get dInt s.tim.delay m.port + s.asym m.port - s.ingress m : Int) : Rat) / 65536
      let x1 := if x.set then { x with sample := some (dom - x.ofs), missed := 0 }
                else { x with set := true, ofs := dom, sample := some 0, missed := 0 }
      { s with tim := s.tim.setDomain d x1 }
    else s
  | .delay _ => s
  | .announce uo uv ls best =>
    let x1 := { x with logSync := ls, slave := if best then some m.port else x.slave }
    let t1 := s.tim.setDomain d x1
    { s with tim := if s.tim.active = d then { t1 with utcOfs := uo, utcValid := uv } else t1 }

/-- A PTP message arrives (02 R34 to R37). -/
def ptpReceive (s : State) (m : PtpMsg) : State :=
  if s.dtLive then
    let s1 := s.advanceTo (s.ingress m / 65536).toNat
    let s2 := match m.body with
      | .delay mean =>
        if s1.servoEn && decide (m.port < 8) then
          { s1 with tim := { s1.tim with delay := SMap.set dInt s1.tim.delay m.port mean } }
        else s1
      | _ => s1
    let s3 := if s2.ptpTakes m .pri then s2.ptpDomain m .pri else s2
    let s4 := if s3.ptpTakes m .sec then s3.ptpDomain m .sec else s3
    s4.settleTime
  else s

def execPtpMessageReceive (msg : PtpMsg) (s : State) : Host.Outcome State Fault Refusal := .next (ptpReceive s msg)

/-! ## The servo (02 R38 to R40) -/

/-- Length of a sync interval in ns: 2^logSync s (02, Domain clocks and the servo). -/
def syncLen (l : Int) : Nat := if l ≥ 0 then 1000000000 * 2 ^ l.toNat else 1000000000 / 2 ^ (-l).toNat

/-- The end of the sync interval to be judged next: the last boundary if it has not been judged, else the next. -/
def State.intervalEnd (s : State) (d : Dom) : Nat :=
  let len := syncLen (s.tim.domain d).logSync
  if len = 0 then s.tim.dt
  else
    let b := s.tim.dt / len * len
    if (s.tim.domain d).ivEnd < b then b else b + len

/-- What the judging of an interval does to the lock: kept, gained, lost. -/
inductive LockMove where
  | keep | gain | lose
  deriving DecidableEq, Repr

/-- The servo update of R38 with offset `o` ns and interval `len` ns: the new servo state, and whether it clamped. -/
def Domain.servo (x : Domain) (o : Rat) (len outlierThr kp ki : Nat) : Domain × Bool :=
  if ratAbs o > (outlierThr : Rat) then ({ x with outliers := satAdd max16 x.outliers 1 }, false)
  else
    let e := o / ((len : Nat) / (1000000000 : Rat))
    let integ := x.integ + (ki : Rat) / 65536 * e
    let f := (kp : Rat) / 65536 * e + integ
    let clamp := decide (ratAbs f > 200000)
    let f1 := if clamp then (if f < 0 then (-200000 : Rat) else 200000) else f
    ({ x with integ := integ, freq := f1, ofs := x.ofs + o }, clamp)

/-- Judge a sync interval (02 R38 to R40). -/
def State.judge (s : State) (d : Dom) : Domain × LockMove :=
  let x := s.tim.domain d
  match x.sample with
  | none =>
    let m := satAdd max16 x.missed 1
    let x1 := { x with missed := m, good := 0 }
    if x.lock && decide (m ≥ s.domFld d 0 23 16) then ({ x1 with lock := false, set := false }, .lose) else (x1, .keep)
  | some o =>
    let r := x.servo o (syncLen x.logSync) (s.domFld d 0x14 15 0) (s.domFld d 4 15 0) (s.domFld d 4 31 16)
    let good := if ratAbs o ≤ (s.domFld d 8 15 0 : Nat) then satAdd 65535 x.good 1 else 0
    let bad := if ratAbs o > (s.domFld d 8 31 16 : Nat) then satAdd 65535 x.bad 1 else 0
    let x1 := { r.1 with sample := none, missed := 0, good := good, bad := bad }
    if x.lock then
      if r.2 || decide (bad ≥ 4) then ({ x1 with lock := false, set := false, good := 0, bad := 0 }, .lose) else (x1, .keep)
    else if !r.2 && decide (good ≥ s.domFld d 0 31 24) then ({ x1 with lock := true, bad := 0, lockDt := some s.tim.dt }, .gain)
    else (x1, .keep)

/-- A domain locks (02 R39, R43, R46): the first lock follows or steps DT, a later one takes over from an unlocked
active domain; of two that lock at one instant the primary becomes active. -/
def State.onLock (s : State) (d : Dom) : State :=
  let s1 := s.raise 17 (d.code + 2)
  if !s1.tim.everLocked then
    if s1.tim.stepDue.isSome then s1
    else if ratAbs (s1.tim.domain d).ofs ≤ s1.trustLim then
      { (s1.setActive d) with tim := { (s1.setActive d).tim with everLocked := true } }
    else { s1 with tim := { s1.tim with stepDue := some d } }
  else if !(s1.tim.domain s1.tim.active).lock then s1.setActive d
  else if d = .pri && s1.tim.active = .sec && s1.tim.sec.lockDt = some s1.tim.dt then s1.setActive .pri
  else s1

def Dom.other : Dom → Dom
  | .pri => .sec
  | .sec => .pri

/-- A domain loses lock: automatic change-over when the other is locked and AUTO_CO is set (02 R40, R45). -/
def State.onUnlock (s : State) (d : Dom) : State :=
  let s1 := s.raise 17 d.code
  if s1.tim.active = d && s1.autoCo && (s1.tim.domain (Dom.other d)).lock then s1.setActive (Dom.other d) else s1

/-- A domain's sync interval ends (02 R38). -/
def syncEnd (s : State) (d : Dom) : State :=
  if s.dtLive && s.servoEn && s.domEn d then
    let e := s.intervalEnd d
    let s1 := s.advanceTo e
    let r := s1.judge d
    let s2 := { s1 with tim := s1.tim.setDomain d { r.1 with ivEnd := e } }
    let s3 := match r.2 with
      | .keep => s2
      | .gain => s2.onLock d
      | .lose => s2.onUnlock d
    s3.settleTime
  else s

def execSyncIntervalEnd (dom : Dom) (s : State) : Host.Outcome State Fault Refusal := .next (syncEnd s dom)

/-! ## Steps, bleeds, wrap, master ports -/

/-- Set DT to a domain clock (02 R43): both offsets move with it; DT follows the domain from then on. -/
def State.stepTo (s : State) (d : Dom) : State :=
  let o := (s.tim.domain d).ofs
  let t1 := s.tim.putDt (s.tim.now + o)
  let t2 := { t1 with pri := { t1.pri with ofs := t1.pri.ofs - o }, sec := { t1.sec with ofs := t1.sec.ofs - o },
                      everLocked := true, stepDue := none }
  (({ s with tim := t2 }).setActive d).settleTime

/-- A bleed runs to its end (02 R41): the difference falls below 1 ns and BLEEDING clears. -/
def bleedEnd (s : State) : State :=
  if s.tim.bleeding && s.dtLive then
    let s1 := s.passLive s.bleedLeft
    ({ s1 with tim := { s1.tim with bleeding := false } }).settleTime
  else s

def execBleedEnd (s : State) : Host.Outcome State Fault Refusal := .next (bleedEnd s)

/-- DT passes 2^64 − 1 ns and continues from 0; hyperperiod numbers restart from that of DT = 0 (02 R32). -/
def dtWrap (s : State) : State :=
  let s1 := s.advanceTo (2 ^ 64 - 1)
  { s1 with tim := { s1.tim with dt := 0, frac := 0 },
            comb := { s1.comb with k := hpOf s1.hNs s1.pNs 0, opened := [] } }

def execDtWrap (s : State) : Host.Outcome State Fault Refusal := .next (dtWrap s)

/-- A boundary-clock master port sends Announce and Sync while the time state is TRUSTED (02 R36). -/
def masterSync (s : State) (p : Nat) : State :=
  if s.dtLive && s.servoEn && s.bcMode && decide (p < 8) && decide (s.portFld p 5 5 = 1) &&
     decide (s.tim.tstate = .trusted) then
    let s1 := if s.portUses p .pri && s.domEn .pri then s.emit (.ptp p (s.domNum .pri)) else s
    if s.portUses p .sec && s.domEn .sec then s1.emit (.ptp p (s.domNum .sec)) else s1
  else s

def execMasterSyncTransmit (port : Nat) (s : State) : Host.Outcome State Fault Refusal := .next (masterSync s port)

/-- A read of TIM_DTLO latches TIM_DTHI and TIM_DTFRAC (02 R31). -/
def timDtloRead (s : State) : State :=
  if !s.barOk then s else
  { s with tim := { s.tim with dtHi := s.tim.dt / 2 ^ 32, dtFrac := (s.tim.frac * 65536).floor.toNat % 65536 } }

def execTimDtloRead (s : State) : Host.Outcome State Fault Refusal := .next (timDtloRead s)

/-! ## The shadow (02 R50 to R52) -/

/-- The network island hands DT to the shadow (02, Clock loss, dormancy and start-up). -/
def State.handShadow (s : State) : State :=
  { s with tim := { s.tim with shadowDt := s.tim.dt, shadowNx := 0, shadowNs := 0, shadowMhz := s.clk.soscMhz } }

/-- DT is reloaded from the shadow; it never falls (02 R50). No PTP has run: no domain is locked. -/
def State.reloadDt (s : State) : State :=
  let n := s.tim.shadowNow
  let off : Domain → Domain := fun x => { x with lock := false, set := false, sample := none, good := 0, bad := 0 }
  ({ s with tim := { s.tim with dt := if n < s.tim.dt then s.tim.dt else n, frac := 0, bleeding := false,
                                stepDue := none, pri := off s.tim.pri, sec := off s.tim.sec } }).settleTime

end Sys2Proof.Machine
end

