-- ==== Sys2Proof/Machine/Comb.lean ====
section
/-!
DEFINITION. Sys2Proof/Machine/Comb.lean: running the comb (03): which cells exist in a hyperperiod, opening a cell,
control cycles, overruns and their counters.
-/
namespace Sys2Proof.Machine

/-- The comb of the image in use. -/
def State.comb? (s : State) : Option Comb := s.sup.bank.map (fun i => i.comb)

def State.entries (s : State) : List CombEntry := match s.sup.bank with
  | some i => i.comb.entries
  | none => []

/-- Entry `e` defines a cell in hyperperiod `k` (03 R57). -/
def CombEntry.runsIn (e : CombEntry) (k : Int) : Bool := decide (k % (e.mult : Int) = (e.mphase : Int))

/-- DT of the start and end ticks of a cell in hyperperiod `k` (03 R57). -/
def State.cellStart (s : State) (x : CombEntry) (k : Int) : Nat := hpStart s.hNs s.pNs k + x.start * 1000
def State.cellEnd (s : State) (x : CombEntry) (k : Int) : Nat := hpStart s.hNs s.pNs k + (x.start + x.len) * 1000

/-- Cells run: the comb runs, no gap, DT is counted (03 Table 3-9). -/
def State.cellsRun (s : State) : Bool := decide (s.comb.cstate = 2) && !s.comb.gap && s.dtLive

/-- A swap is due at the boundary just passed: no cell opens before it (03 R84, R85). -/
def State.swapDue (s : State) : Bool := match s.sup.armed with
  | some a => a.committed && decide (a.hp ≤ s.comb.k) && decide (s.comb.cstate = 2)
  | none => false

/-- Open the cell of entry `e` for a resource of the given codes: none when no such cell opens now. DT moves to its
start tick (03 R57, R78). -/
def State.openCell (s : State) (e : Nat) (res : Nat → Bool) : Option (CombEntry × State) :=
  match s.entries[e]? with
  | none => none
  | some x =>
    let t := s.cellStart x s.comb.k
    if s.cellsRun && !s.swapDue && res x.res && x.runsIn s.comb.k && decide (s.tim.dt ≤ t) && !(s.comb.opened.contains e) then
      let s1 := s.advanceTo t
      some (x, { s1 with comb := { s1.comb with opened := e :: s1.comb.opened } })
    else none

/-- Run a cell: unchanged when the cell does not open or its island waits for its clock. -/
def State.withCell (s : State) (e : Nat) (res : Nat → Bool) (isl : Option Island)
    (f : CombEntry → State → State) : State :=
  match s.openCell e res with
  | none => s
  | some (x, s1) => match isl with
    | none => f x s1
    | some i => if s1.runs i then f x s1 else s

/-! ## Overruns (03 R77 to R80) -/

/-- Count an overrun and raise EV002, at most once per resource per hyperperiod (03 R80). -/
def State.countOverrun (s : State) (e res : Nat) : State :=
  let c := SMap.get dPair s.comb.ovr res
  let m := { s.comb with ovrNow := true, ovrTot := satAdd max32 s.comb.ovrTot 1,
                         ovr := SMap.set dPair s.comb.ovr res (satAdd 16383 c.1 1, e) }
  if m.ovrEv.contains res then { s with comb := m }
  else ({ s with comb := { m with ovrEv := res :: m.ovrEv } }).raise 2 (res + e * 256)

/-- Note an activity that had not completed when its command ran. -/
def State.leaveOpen (s : State) (e res : Nat) (rest : List Nat) : State :=
  { s with comb := { s.comb with open_ := ⟨e, res, rest⟩ :: s.comb.open_ } }

/-! ## Control cycles (03 R61, 06 R160) -/

/-- The start, in µs, of the Agree cell of the control cycle under way. -/
def State.agreeUs (s : State) : Nat := (s.comb.cyc.agreeDt - hpStart s.hNs s.pNs s.comb.k) / 1000

/-- The start of the next Agree cell of the hyperperiod after `t` µs. -/
def State.nextAgree (s : State) (t : Nat) : Option Nat :=
  (s.entries.find? (fun x => decide (x.res = 3) && x.runsIn s.comb.k && decide (t < x.start))).map (fun x => x.start)

/-- Entries of the control cycle under way, from its Agree start to the next Agree start (03 R61). -/
def State.cycleEntries (s : State) : List CombEntry :=
  let t := s.agreeUs
  let stop := s.nextAgree t
  s.entries.filter (fun x => x.runsIn s.comb.k && decide (t ≤ x.start) &&
    (match stop with | none => true | some u => decide (x.start < u)))

/-- Tasks with an LGE cell in the control cycle under way. -/
def State.cycleTasks (s : State) : List Nat :=
  (s.cycleEntries.filter (fun x => decide (x.res = 1))).map (fun x => x.act)

def State.points (s : State) : List Point := match s.sup.bank with
  | some i => i.points
  | none => []

/-- The CHN cells of the comb (03 Table 3-4). -/
def CombEntry.isChn (x : CombEntry) : Bool := [1, 2, 3, 4, 6].contains x.res

/-- The next hyperperiod boundary at or after now that has not been made. -/
def State.nextBoundary (s : State) : Nat :=
  if s.comb.cstate ≠ 0 then hpStart s.hNs s.pNs (s.comb.k + 1)
  else hpStart s.hNs s.pNs (hpOf s.hNs s.pNs s.tim.dt + 1)

/-- The Read entries of the control cycle whose Agree cell starts at `a` µs (03 R61). -/
def State.cycleReads (s : State) (a : Nat) : List CombEntry :=
  let l := s.entries.filter (fun x => x.runsIn s.comb.k)
  l.filter (fun x => decide (x.cphase = 1) && decide (x.start + x.len ≤ a) &&
    !(l.any (fun y => decide (y.res = 3) && decide (x.start + x.len ≤ y.start) && decide (y.start < a))))

/-- The snapshot instant of the control cycle under way: the end of its last Read cell, or its Agree start when it has
none (01 R18). -/
def State.snapInstant (s : State) : Nat :=
  match (s.cycleReads s.agreeUs).map (fun x => x.start + x.len) with
  | [] => s.comb.cyc.agreeDt
  | t :: ts => hpStart s.hNs s.pNs s.comb.k + (ts.foldl max t) * 1000

/-- The start of the Read phase of the control cycle under way (01 Table 1-7). -/
def State.readStart (s : State) : Nat :=
  match (s.cycleReads s.agreeUs).map (fun x => x.start) with
  | [] => s.comb.cyc.agreeDt
  | t :: ts => hpStart s.hNs s.pNs s.comb.k + (ts.foldl min t) * 1000

/-- A read of CMB_HPLO latches CMB_HPHI (03 R86). -/
def cmbHploRead (s : State) : State :=
  if !s.barOk then s else
  { s with comb := { s.comb with hpHi := hp64 s.hp / 2 ^ 32 } }

def execCmbHploRead (s : State) : Host.Outcome State Fault Refusal := .next (cmbHploRead s)

end Sys2Proof.Machine
end

