-- ==== Sys2Proof/Machine/Force.lean ====
section
/-!
DEFINITION. Sys2Proof/Machine/Force.lean: smoker forcing (01 R13, R14; 19 R491): which points a cause covers, what
beginning and ending a forcing does, and driving a voted point.
-/
namespace Sys2Proof.Machine

/-- The output classes a cause of forcing covers (19 Table 19-3). -/
def ForceCause.covers (c : ForceCause) (p : Point) : Bool := match c with
  | .channelClock | .restart | .network => true
  | .solver => decide (p.oclass = 5)
  | .field => decide (p.oclass = 4)
  | .axis => decide (p.oclass ≤ 3)

/-- The smoker forces the point. -/
def State.forced (s : State) (p : Point) : Bool := s.clk.force.any (fun c => c.covers p)

/-- Bank VIOb is present (19 R493): DOUT and PWM lie on VIO3, DIN on VIO2. -/
def State.vioOn (s : State) (b : Nat) : Bool := s.pwr.vio.getD (b - 1) false

/-- The duty of a PWM word: bits 16:0, values above 65,536 count as 65,536 (15 R409). -/
def dutyOf (w : Word) : Nat := min (w.toNat % 131072) 65536

/-- A driven value reaches its output: a DOUT ball takes its level, a PWM output the duty of its next period (15 R409),
the solver island the held feed (08 R231). -/
def State.deliver (s : State) (p : Point) (ws : List Word) : State :=
  let w := ws.getD 0 0
  if p.oclass = 1 then (if s.vioOn 3 then s.emit (.ball 1 p.target w) else s)
  else if p.oclass = 2 then { s with axs := { s.axs with pwmNext := updAt s.axs.pwmNext p.target (fun _ => dutyOf w) } }
  else if p.oclass = 5 then { s with vot := { s.vot with feeds := SMap.set dWords s.vot.feeds p.target ws } }
  else s

/-- The point is driven by an OUTPUT_FORCE command (17 R440). -/
def State.cmdForced (s : State) (i : Nat) : Bool := s.mgt.forces.any (fun f => decide (f.1 = i))

/-- Point `i` takes words as its driven value; an OUTPUT_FORCE overrides them at the output. -/
def State.drive (s : State) (i : Nat) (p : Point) (ws : List Word) : State :=
  let s1 := { s with vot := { s.vot with driven := SMap.set dWords s.vot.driven i ws } }
  if s.cmdForced i && !s.forced p then s1 else s1.deliver p ws

/-- A forced point takes its safe words at once (19 R491): an axis as a command (15 R407), a PWM output its duty, and a
constant level while the axis island has no clock. -/
def State.driveForced (s : State) (i : Nat) (p : Point) : State :=
  let s1 := s.drive i p p.safe
  if p.oclass = 2 then
    let d0 := dutyOf (p.safe.getD 0 0)
    let d := if s.runs .axs then d0 else if d0 = 65536 then 65536 else 0
    let s2 := { s1 with axs := { s1.axs with pwm := updAt s1.axs.pwm p.target (fun _ => d) } }
    if s.vioOn 3 then s2.emit (.ball 2 p.target (BitVec.ofNat 32 d)) else s2
  else if p.oclass = 3 then (if s.runs .axs then s1.axTake [(p.target, p.safe)] else s1)
  else s1

/-- The output of a point takes words at once, its driven value kept (17 R440). -/
def State.deliverNow (s : State) (p : Point) (ws : List Word) : State :=
  if p.oclass = 3 then (if s.runs .axs then s.axTake [(p.target, ws)] else s) else s.deliver p ws

/-- Points with their numbers. -/
def State.pointList (s : State) : List (Nat × Point) := s.points.zipIdx.map (fun p => (p.2, p.1))

/-- Change the causes of forcing (01 R14, 19 R491): newly covered points take their safe words, points released
keep them until the next vote; a WRITE still due carries them (10 R292); EV133 marks a change of SMOKE_N, a CRITICAL record the covering of every point. -/
def State.setForce (s : State) (f : List ForceCause) : State :=
  let before := s.clk.force
  let cov : List ForceCause → Point → Bool := fun l p => l.any (fun c => c.covers p)
  let s1 := { s with clk := { s.clk with force := f } }
  let changed := s.pointList.filter (fun x => cov before x.2 != cov f x.2)
  let s2 := { s1 with vot := { s1.vot with voted := s1.vot.voted.filterMap (fun v =>
    match changed.find? (fun x => decide (x.1 = v.1)) with
    | none => some v
    | some x => if x.2.oclass = 4 then some (v.1, x.2.safe) else none) } }
  let s3 := (changed.filter (fun x => cov f x.2)).foldl (fun s x => s.driveForced x.1 x.2) s2
  let s3 := (changed.filter (fun x => !(cov f x.2))).foldl (fun (s : State) x => match s.mgt.forces.find? (fun y => decide (y.1 = x.1)) with
    | some y => s.deliverNow x.2 y.2
    | none => s) s3
  let s4 := if before.isEmpty = f.isEmpty then s3 else s3.raise 133 (b2n (!f.isEmpty))
  let all : List ForceCause → Bool := fun l => !s.points.isEmpty && s.points.all (cov l)
  if all f && !all before then s4.unitRec sevCritical blkClk else s4

def State.addForce (s : State) (c : ForceCause) : State :=
  if s.clk.force.contains c then s else s.setForce (c :: s.clk.force)

def State.endForce (s : State) (c : ForceCause) : State :=
  if s.clk.force.contains c then s.setForce (s.clk.force.filter (fun x => x ≠ c)) else s

/-- The first Write cell of a control cycle opens: the solver island holds the voted feeds (08 R231). -/
def State.takeFeeds (s : State) : State :=
  if s.vot.feedsTaken then s
  else
    let s1 := { s with vot := { s.vot with feedsTaken := true } }
    (s1.pointList.filter (fun x => decide (x.2.oclass = 5))).foldl (fun s x =>
      if s.forced x.2 then s else
      match s.vot.voted.find? (fun v => v.1 = x.1) with
      | some v => ({ s with vot := { s.vot with voted := s.vot.voted.filter (fun u => u.1 ≠ x.1) } }).drive x.1 x.2 v.2
      | none => s) s1

end Sys2Proof.Machine
end

