-- ==== Sys2Proof/Machine/Wfp.lean ====
section
/-!
DEFINITION. Sys2Proof/Machine/Wfp.lean: the Walith field protocol and the station engine (10): groups and chains,
messages and tags, slot allowances, answer windows, exchanges, link states, items.
-/
namespace Sys2Proof.Machine

/-! ## Declarations (10, Declarations) -/

def State.stations? (s : State) : Option StationsDef := s.sup.bank.bind (fun i => i.stations)

def State.stnDefs (s : State) : List StnDef := match s.stations? with
  | some d => d.stns
  | none => []

def State.stnDef? (s : State) (n : Nat) : Option StnDef := s.stnDefs.find? (fun d => d.stn = n)

def State.groupDefs (s : State) : List GroupDef := match s.stations? with
  | some d => d.groups
  | none => []

def State.groupDef? (s : State) (g : Nat) : Option GroupDef := s.groupDefs.find? (fun d => d.group = g)

/-- The members of a group in ascending STN. -/
def State.members (s : State) (g : Nat) : List StnDef := s.stnDefs.filter (fun d => decide (d.group = g))

/-- The groups of the chain that starts at a head, in chain order. -/
def chainFrom (l : List GroupDef) : Nat → Nat → List GroupDef
  | 0, _ => []
  | n + 1, g => match l.find? (fun d => d.group = g) with
    | none => []
    | some d => match d.next with
      | none => [d]
      | some h => d :: chainFrom l n h

def State.chain (s : State) (head : Nat) : List GroupDef := chainFrom s.groupDefs 512 head

/-- The link of a station resource; none for other resources (03 Table 3-4, 10 Table 10-2). -/
def linkOf (res : Nat) : Option Nat :=
  if 0x20 ≤ res && res ≤ 0x57 then some (res - 0x20)
  else if 0x58 ≤ res && res ≤ 0x5F then some (0x40 + (res - 0x58)) else none

/-- The link is a CAN channel. -/
def linkIsCan (link : Nat) : Bool := decide (link < 0x38)

def StnDef.tagLen (d : StnDef) : Nat := if !d.auth then 0 else if d.tag16 then 16 else 8

/-- The length of a GPOLL's tag: the spec gives a group no TAG16, so 8 (DESIGN CHOICE, log entry 40). -/
def GroupDef.tagLen (g : GroupDef) : Nat := if g.authPoll then 8 else 0

/-- The STATION point of a station. -/
def State.stnPoint (s : State) (n : Nat) : Option (Nat × Point) :=
  s.pointList.find? (fun x => decide (x.2.oclass = 4) && decide (x.2.target = n))

/-- OUT_LEN; 0 for a read-only station. -/
def State.outLen (s : State) (n : Nat) : Nat := match s.stnPoint n with
  | some x => 4 * x.2.nwords
  | none => 0

def canChDef? (i : Image) (c : Nat) : Option CanChDef := i.can.find? (fun d => d.chan = c)
def State.canDef? (s : State) (c : Nat) : Option CanChDef := s.sup.bank.bind (fun i => canChDef? i c)
def State.ethDef? (s : State) (p : Nat) : Option EthPortDef := s.sup.bank.bind (fun i => i.eth.find? (fun d => d.port = p))

/-! ## Messages (10 R285, R286, R288) -/

/-- The smallest CAN FD payload size that holds `n` bytes. -/
def fdSize (n : Nat) : Nat :=
  if n ≤ 8 then n else if n ≤ 12 then 12 else if n ≤ 16 then 16 else if n ≤ 20 then 20 else if n ≤ 24 then 24
  else if n ≤ 32 then 32 else if n ≤ 48 then 48 else 64

def msgGpoll : Nat := 0x01
def msgPoll : Nat := 0x02
def msgAnswer : Nat := 0x11
def msgWrite : Nat := 0x21

/-- The tag of message bytes under a key (10 R288). -/
def wfpTag (key : List Byte) (link pollDt len : Nat) (msg : List Byte) : List Byte :=
  (Config.aesCmac key (leBytes 1 link ++ [0] ++ leBytes 8 pollDt ++ msg)).take len

/-- A WFP message: header, data, padding on CAN, tag (10 R285, R286). `auth` holds the key and the tag length. -/
def wfpMessage (link code field seq : Nat) (data : List Byte) (auth : Option (List Byte × Nat)) (pollDt : Nat) : List Byte :=
  let f := field + (match auth with | some _ => 0x1000 | none => 0)
  let body := leBytes 1 code ++ leBytes 1 data.length ++ leBytes 2 f ++ leBytes 2 seq ++ leBytes 2 0 ++ data
  let tl := match auth with | some a => a.2 | none => 0
  let total := body.length + tl
  let padded := if linkIsCan link then body ++ zeros (fdSize total - total) else body
  padded ++ (match auth with | some a => wfpTag a.1 link pollDt a.2 padded | none => [])

/-- The key of a slot in the field island's cache (12 R352). -/
def State.fieldKey (s : State) (slot : Nat) : Option (List Byte) := SMap.get dOpt s.stn.keys slot

/-- The authentication of a message: none needed, a key, or a key that cannot be supplied. -/
inductive AuthNeed where
  | plain
  | key (k : List Byte) (len : Nat)
  | lacking
  deriving DecidableEq, Repr

def State.authFor (s : State) (auth : Bool) (slot len : Nat) : AuthNeed :=
  if !auth then .plain else match s.fieldKey slot with
    | some k => .key k len
    | none => .lacking

def AuthNeed.pair : AuthNeed → Option (List Byte × Nat)
  | .key k n => some (k, n)
  | _ => none

def State.countAuthFail (s : State) : State :=
  { s with stn := { s.stn with authfail := satAdd max32 s.stn.authfail 1 } }
def State.countBadFrm (s : State) : State :=
  { s with stn := { s.stn with badfrm := satAdd max32 s.stn.badfrm 1 } }
def State.countBadSeq (s : State) : State :=
  { s with stn := { s.stn with badseq := satAdd max32 s.stn.badseq 1 } }
def State.countUndecl (s : State) : State :=
  { s with stn := { s.stn with undecl := satAdd max32 s.stn.undecl 1 } }

/-- The bytes of a WRITE with LATE set and its tag recomputed (10 R293). -/
def State.lateWrite (s : State) (link stn pollDt : Nat) (bytes : List Byte) : List Byte :=
  let b := updAt bytes 3 (fun x => x ||| 0x20#8)
  match s.stnDef? stn with
  | none => b
  | some d => match s.authFor d.auth d.key d.tagLen with
    | .key k n =>
      let m := b.take (b.length - n)
      m ++ wfpTag k link pollDt n m
    | _ => b

/-! ## Bus time and slot allowance (03 R69, R71; 10 R289) -/

/-- Worst-case time of an FD frame of `n` payload bytes, in units of 12.5 ns (03 R69, Table 3-6). -/
def canTf (c : CanChDef) (ext : Bool) (n : Nat) : Nat :=
  let tn := c.nbrp * (1 + c.ntseg1 + c.ntseg2)
  let td := if c.brsEn then c.dbrp * (1 + c.dtseg1 + c.dtseg2) else tn
  (if ext then 57 else 34) * tn + ((if n ≤ 16 then 33 else 38) + 10 * n) * td

/-- Speed of a port in Mbit/s (13 Table 13-1). -/
def EthPortDef.mbit (d : EthPortDef) : Nat := 10 * 10 ^ d.speed

/-- Time of a frame with `n` UDP payload bytes, in units of 0.1 ns (03 R71). -/
def ethTf (d : EthPortDef) (n : Nat) : Nat :=
  let b := (if d.ipv6 then 66 else 46) + (if d.vlanEn then 4 else 0) + (if d.macsec then 32 else 0) +
    (if d.red ≠ 0 then 6 else 0)
  80000 * (max 64 (b + n) + 20) / d.mbit

/-- The slot allowance of a group in ns, rounded up (10 R289). -/
def State.allowance (s : State) (g : GroupDef) : Nat :=
  let ms := s.members g.group
  if linkIsCan g.link then
    match s.canDef? g.link with
    | none => 0
    | some c =>
      let u := canTf c g.ext (fdSize (16 + g.tagLen)) +
        (ms.map (fun d => canTf c g.ext (fdSize (8 + d.inLen + d.tagLen)))).sum
      2000 + g.turnUs * 1000 + (u * 25 + 1) / 2
  else match s.ethDef? (g.link - 0x40) with
    | none => 0
    | some p =>
      let u := (ms.map (fun d => ethTf p (16 + d.tagLen) + ethTf p (8 + d.inLen + d.tagLen))).sum
      g.turnUs * 1000 + (u + 9) / 10

/-! ## Station states (10 R295 to R298, R301, R302) -/

def State.stnSt? (s : State) (n : Nat) : Option StnSt := SMap.get dOpt s.stn.st n

def State.updStn (s : State) (n : Nat) (f : StnSt → StnSt) : State :=
  match s.stnSt? n with
  | none => s
  | some x => { s with stn := { s.stn with st := SMap.set dOpt s.stn.st n (some (f x)) } }

def StnDef.limit (d : StnDef) : Nat := if d.missLimit = 0 then 3 else d.missLimit

/-- A station right after entry into RUN or when newly declared (10 R298). -/
def StnDef.fresh (d : StnDef) : StnSt := ⟨d.sid, .absent, d.limit, none, [], none, none, none, false, false, none⟩

/-- A station takes a link state: EV032 and STN_LASTABS when it enters ABSENT, EV033 when it is re-admitted (10 R301). -/
def State.setLink (s : State) (n : Nat) (l : LinkSt) : State :=
  match s.stnSt? n with
  | none => s
  | some x =>
    let s1 := s.updStn n (fun x => { x with link := l })
    if l = .absent && x.link ≠ .absent then
      ({ s1 with stn := { s1.stn with lastAbs := some n } }).raise 32 n
    else if l = .present && x.link = .absent then s1.raise 33 n
    else s1

/-- MISS increments; ABSENT from MISS_LIMIT on, STALE before (10 R295). -/
def State.missStn (s : State) (d : StnDef) : State :=
  match s.stnSt? d.stn with
  | none => s
  | some x => (s.updStn d.stn (fun x => { x with miss := x.miss + 1 })).setLink d.stn
      (if x.miss + 1 ≥ d.limit then .absent else .stale)

/-- Complete an exchange (10 R296). -/
def State.endExchange (s : State) (d : StnDef) : State :=
  match s.stnSt? d.stn with
  | none => s
  | some x => match x.exch with
    | none => s
    | some e =>
      let s1 := s.updStn d.stn (fun x => { x with exch := none })
      if e.wr = .failed then s1.missStn d
      else if e.counted then s1.updStn d.stn (fun x => { x with miss := 0 })
      else s1

/-- STN_CNT1 and STN_CNT2 take the counts of one instant (10 R302). -/
def State.stnCounts (s : State) : State :=
  let c : (StnSt → Bool) → Nat := fun f =>
    (s.stnDefs.filter (fun d => match s.stnSt? d.stn with | some x => f x | none => false)).length
  { s with stn := { s.stn with present := c (fun x => x.sim.isNone && decide (x.link = .present)),
                               stale := c (fun x => x.sim.isNone && decide (x.link = .stale)),
                               absent := c (fun x => x.sim.isNone && decide (x.link = .absent)),
                               simulated := c (fun x => x.sim.isSome) } }

/-- The Write cell of the control cycle under way that carries a chain: its entry and end tick. -/
def State.writeCellOf (s : State) (link head : Nat) : Option (Nat × Nat) :=
  ((s.entries.zipIdx.filter (fun p => decide (p.1.cphase = 6) && decide (linkOf p.1.res = some link) &&
      decide (p.1.act = head) && s.cycleEntries.contains p.1)).head?).map
    (fun p => (p.2, s.cellEnd p.1 s.comb.k))

/-- The update of one station at the snapshot instant of its exchange (10 R295); an exchange without a Write cell
completes here (10 R296). -/
def State.snapStn (s : State) (instant : Nat) (wc : Option (Nat × Nat)) (d : StnDef) : State :=
  match s.stnSt? d.stn with
  | none => s
  | some x =>
    let got := (x.cands.filter (fun a => decide (a.t < instant))).getLast?
    let rest := x.cands.filter (fun a => decide (instant ≤ a.t))
    let ex : Exch := ⟨got.isSome, (wc.getD (0, 0)).1, (wc.getD (0, 0)).2, .none⟩
    let s1 := s.updStn d.stn (fun x => { x with cands := rest, exch := some ex,
                                                img := match got with | some a => some a | none => x.img })
    let s2 := match got with
      | some _ => s1.setLink d.stn .present
      | none => ({ s1 with stn := { s1.stn with noans := satAdd max32 s1.stn.noans 1 } }).missStn d
    if wc.isNone then s2.endExchange d else s2

/-- Simulation commands accepted before the Read phase of this control cycle take effect and complete (10 R299). -/
def State.applySims (s : State) (readStart : Nat) : State :=
  (s.stn.sims.filter (fun r => decide (r.acc < readStart))).foldl (fun s r =>
    ((({ s with stn := { s.stn with sims := s.stn.sims.filter (fun x => x.seq ≠ r.seq) } }).updStn r.stn
      (fun x => { x with sim := r.force })).stnCounts).ok r.seq 0) s

/-- The stations' part of a snapshot (10 R295, R296, R299, R302), stamped with the snapshot instant. -/
def State.snapStations (s0 : State) (instant readStart : Nat) : State :=
  let s := { s0 with tim := { s0.tim with dt := min s0.tim.dt instant } }
  let due := s.stn.readHeads.filter (fun h => decide (h.2 ≤ s.comb.cyc.agreeDt))
  let s1 := { s with stn := { s.stn with readHeads := s.stn.readHeads.filter (fun h => !(decide (h.2 ≤ s.comb.cyc.agreeDt))) } }
  let s2 := due.foldl (fun s h =>
    (s.chain h.1).foldl (fun s g =>
      let wc := s.writeCellOf g.link h.1
      (s.members g.group).foldl (fun s d => (s.endExchange d).snapStn instant wc d) s) s) s1
  let s3 := (s2.applySims readStart).stnCounts
  { s3 with tim := { s3.tim with dt := s0.tim.dt } }

/-! ## Items (10 R297) -/

def LinkSt.code : LinkSt → Nat
  | .present => 0
  | .stale => 1
  | .absent => 2

/-- The link word (10 Table 10-8). -/
def StnSt.linkWord (x : StnSt) : Word :=
  BitVec.ofNat 32 (min x.miss 255 * 2 ^ 24 + x.link.code * 2 ^ 16 + b2n x.sim.isSome * 2 ^ 15 +
    (match x.img with
     | some a => b2n a.isLocal * 2 ^ 14 + b2n a.restart * 2 ^ 13 + b2n (decide (x.lastWr = some a.wack)) * 2 ^ 12
     | none => 0) +
    b2n x.wfail * 2 ^ 11 + b2n x.held * 2 ^ 10)

/-- Input bytes as words 0 to 14; bytes at or beyond IN_LEN read 0. -/
def inputWords (inLen : Nat) (bs : List Byte) : List Word :=
  let l := bs.take inLen ++ zeros 60
  (List.range 15).map (fun w => BitVec.ofNat 32 (leNat ((l.drop (4 * w)).take 4)))

/-- The bytes a station item shows (10 Table 10-9). -/
def StnSt.shown (x : StnSt) (d : StnDef) : List Byte :=
  match x.sim with
  | some f => f
  | none => if x.link = .absent then d.subst else match x.img with
    | some a => a.data
    | none => []

/-- The quality of a station item (10 Table 10-9). -/
def StnSt.quality (x : StnSt) : Quality :=
  if x.sim.isSome then .sim else match x.link with
    | .present => .good
    | .stale => .stale
    | .absent => .subst

/-- The sixteen words of a station item. -/
def StnSt.item (x : StnSt) (d : StnDef) : List Word := inputWords d.inLen (x.shown d) ++ [x.linkWord]

/-! ## Answer windows (10 R290) -/

/-- The poll of a station completed at `t`: its answer window opens. -/
def State.openWindow (s : State) (n seq pollDt t : Nat) : State :=
  s.updStn n (fun x => { x with win := some ⟨seq, pollDt, t, none, false⟩ })

/-- The next poll of a station begins transmission at `t`: its answer window closes. -/
def State.closeWindow (s : State) (n t : Nat) : State :=
  s.updStn n (fun x => { x with win := x.win.map (fun w => match w.stop with
    | none => { w with stop := some t }
    | some _ => w) })

/-- The sequence counter of a group advances as its poll is armed (10, Messages). -/
def State.nextSeq (s : State) (g : Nat) : Nat :=
  match (SMap.get dGroup s.stn.groups g).seq with
  | none => 0
  | some n => (n + 1) % 65536

def State.setGroup (s : State) (g : Nat) (x : GroupSt) : State :=
  { s with stn := { s.stn with groups := SMap.set dGroup s.stn.groups g x } }

/-! ## WRITEs (10 R293) -/

/-- The due WRITE of the exchange under way completed on its link. -/
def State.writeDone (s : State) (n seq : Nat) (late : Bool) : State :=
  let s1 := s.updStn n (fun x => { x with
    lastWr := some seq,
    wfail := if late then x.wfail else false,
    exch := x.exch.map (fun e => if e.wr = .due && !late then { e with wr := .done } else e) })
  if late then { s1 with stn := { s1.stn with late := satAdd max32 s1.stn.late 1 } } else s1

/-- A due WRITE fails (10 R293). -/
def State.writeFails (s : State) (n : Nat) : State :=
  let s1 := s.updStn n (fun x => { x with wfail := true, exch := x.exch.map (fun e => { e with wr := .failed }) })
  { s1 with stn := { s1.stn with wrfail := satAdd max32 s1.stn.wrfail 1 } }

end Sys2Proof.Machine
end

