-- ==== Sys2Proof/Machine/Can.lean ====
section
/-!
DEFINITION. Sys2Proof/Machine/Can.lean: the CAN FD controllers (12): message objects, reception and filters,
transmission, fault confinement, bus-off.
-/
namespace Sys2Proof.Machine

def State.canCh (s : State) (c : Nat) : CanCh := s.can.ch.getD c CanCh.reset

def State.setCan (s : State) (c : Nat) (x : CanCh) : State :=
  { s with can := { s.can with ch := updAt s.can.ch c (fun _ => x) } }

/-- The controller of a channel runs: declared, out of INIT, its island clocked (12 Table 12-5). -/
def State.canUp (s : State) (c : Nat) : Bool :=
  (s.canDef? c).isSome && decide (s.mgt.run ≠ .init) && s.runs .field

/-- MODE NORMAL. -/
def State.canNormal (s : State) (c : Nat) : Bool := match s.canDef? c with
  | some d => s.canUp c && !d.monitor
  | none => false

/-! ## Message objects (12 R341, R342) -/

/-- RXU objects of a channel: host-bound frames, and WFP frames on their crossing. -/
def State.rxu (s : State) (c : Nat) : Nat :=
  (s.canCh c).rx.length + (s.stn.inbox.filter (fun m => decide (m.link = c))).length

/-- IDLE objects of a channel. -/
def State.canIdle (s : State) (c : Nat) : Nat :=
  128 - ((s.canCh c).armed.length + (match (s.canCh c).tx with | some _ => 1 | none => 0) + s.rxu c)

/-- Queue a frame for transmission; `none` when no object is IDLE: counted in NOOBJ (12 R342, R348). -/
def State.armCan (s : State) (c : Nat) (o : CanObj) : Option State :=
  let x := s.canCh c
  if s.canIdle c = 0 then none
  else
    let first := x.armed.isEmpty && x.tx.isNone
    some (s.setCan c { x with armed := x.armed ++ [o], headSince := if first then s.tim.dt else x.headSince,
                              tried := if first then false else x.tried })

def State.countNoobj (s : State) (c : Nat) : State :=
  s.setCan c { (s.canCh c) with noobj := satAdd max16 (s.canCh c).noobj 1 }

/-- DLC of an FD payload length (ISO 11898-1 coding, 12 R343). -/
def dlcOf (n : Nat) : Nat :=
  if n ≤ 8 then n else if n ≤ 12 then 9 else if n ≤ 16 then 10 else if n ≤ 20 then 11 else if n ≤ 24 then 12
  else if n ≤ 32 then 13 else if n ≤ 48 then 14 else 15

def CanObj.idw (o : CanObj) : Nat := b2n o.ide * 2 ^ 31 + b2n o.fdf * 2 ^ 30 + o.id

def CanObj.ctw (o : CanObj) (c : Nat) : Nat :=
  b2n o.brs * 2 ^ 31 + b2n o.esi * 2 ^ 30 + b2n o.late * 2 ^ 29 + dlcOf o.data.length * 2 ^ 20 +
    (o.data.length - 1) * 2 ^ 8 + c

/-- The 80 bytes of a message object (12 Table 12-3). -/
def CanObj.layout (o : CanObj) (c : Nat) : List Byte :=
  leBytes 4 o.idw ++ leBytes 4 (o.ctw c) ++ leBytes 8 o.ts ++ (o.data ++ zeros 64).take 64

/-! ## Transmission (12 R347 to R349) -/

/-- A channel may begin a transmission at `t`: its head has been head for 2 µs or has been tried. -/
def State.canMaySend (s : State) (c t : Nat) : Bool :=
  let x := s.canCh c
  s.canNormal c && !s.comb.gap && s.dtLive && x.tx.isNone && !x.armed.isEmpty &&
  (decide (x.est = .active) || decide (x.est = .passive)) && decide (s.tim.dt ≤ t) &&
  (x.tried || decide (x.headSince + 2000 ≤ t))

/-- The head of the queue goes on the bus at `t`. -/
def State.canStart (s : State) (c t : Nat) : State :=
  let s1 := s.advanceTo t
  let x := s1.canCh c
  match x.armed with
  | [] => s1
  | o :: rest =>
    let s2 := (s1.setCan c { x with armed := rest, tx := some o,
                                    retry := if x.tried then satAdd max32 x.retry 1 else x.retry }).emit
      (.canTx c o.idw (o.ctw c) o.data)
    match o.use with
    | .gpoll g _ _ => (s2.members g).foldl (fun s d => s.closeWindow d.stn t) s2
    | _ => s2

/-- A cell of the link whose end tick `t` has reached notes an overrun of the frame completed (03 R77). -/
def State.noteOver (s : State) (link e t : Nat) : State :=
  { s with stn := { s.stn with cells := s.stn.cells.map (fun k =>
      if k.link = link && k.e = e && decide (k.stop ≤ t) then { k with ovr := true } else k) } }

/-- Error passive leaves when both counters are at most 127 (ISO 11898-1, 12 R350). -/
def CanCh.settleOk (x : CanCh) : CanCh :=
  if x.est = .passive && x.tec ≤ 127 && x.rxec ≤ 127 then { x with est := .active } else x

/-- The frame on the bus completes at `t` (12 R346, R347). -/
def State.canDone (s : State) (c t : Nat) : State :=
  match (s.canCh c).tx with
  | none => s
  | some o =>
    let s1 := s.advanceTo t
    let x := s1.canCh c
    let s2 := s1.setCan c ({ x with tx := none, txok := satAdd max32 x.txok 1, tec := x.tec - 1, headSince := t,
                                    tried := false }).settleOk
    let s3 := s2.noteOver c o.e t
    match o.use with
    | .gpoll g seq pd => (s3.members g).foldl (fun s d => s.openWindow d.stn seq pd t) s3
    | .write n seq _ => s3.writeDone n seq o.late
    | .host => s3

/-- The frame on the bus returns to the head of the queue: arbitration lost, an error, bus-off, a lost clock. A WRITE
whose cell has ended fails and carries LATE from then on (10 R293). -/
def State.canBack (s : State) (c : Nat) : State :=
  match (s.canCh c).tx with
  | none => s
  | some o =>
    let x := s.canCh c
    match o.use with
    | .write n _ pd =>
      if o.ended && !o.late then
        (s.setCan c { x with tx := none, tried := true,
                             armed := { o with late := true, data := s.lateWrite c n pd o.data } :: x.armed }).writeFails n
      else s.setCan c { x with tx := none, tried := true, armed := o :: x.armed }
    | _ => s.setCan c { x with tx := none, tried := true, armed := o :: x.armed }

/-! ## Errors and bus-off (12 R350, R351) -/

/-- The error state follows the counters: bus-off above 255, error passive above 127. -/
def State.canConfine (s : State) (c t : Nat) : State :=
  let x := s.canCh c
  if x.tec > 255 then
    let s1 := s.canBack c
    let y := s1.canCh c
    (s1.setCan c { y with est := .boffWait, boffAt := t, boffcnt := satAdd 255 y.boffcnt 1 }).raiseRec 49 c sevFault blkCan
  else if (x.tec > 127 || x.rxec > 127) && x.est = .active then (s.setCan c { x with est := .passive }).raise 48 c
  else s

/-- A controller meets an error at `t`. -/
def State.canFault (s : State) (c t : Nat) (f : CanFault) : State :=
  if !(s.canNormal c) || !([0, 1, 8].contains f.inc) then s
  else if f.sending && (s.canCh c).tx.isNone then s
  else if (s.canCh c).est = .boffWait || (s.canCh c).est = .boffRec then s
  else
    let s1 := s.advanceTo t
    let s2 := if f.sending then s1.canBack c else s1
    let x := s2.canCh c
    let y := if f.sending then { x with tec := x.tec + f.inc, lec := f.lec } else { x with rxec := satAdd 255 x.rxec f.inc, lec := f.lec }
    (s2.setCan c y).canConfine c t

/-- Recovery starts RECOV_MS after entry into bus-off (12 R351). -/
def State.boffStart (s : State) (c : Nat) : State :=
  match s.canDef? c with
  | none => s
  | some d =>
    if s.canUp c && decide ((s.canCh c).est = .boffWait) then
      let t := (s.canCh c).boffAt + d.recovMs * 1000000
      let s1 := s.advanceTo t
      s1.setCan c { (s1.canCh c) with est := .boffRec, recAt := s1.tim.dt }
    else s

/-- The least duration of the recovery sequence in ns: 128 × 11 nominal bit times. -/
def CanChDef.recovery (d : CanChDef) : Nat := 1408 * d.nbrp * (1 + d.ntseg1 + d.ntseg2) * 25 / 2

/-- The recovery sequence ends at `t` (12 R351). -/
def State.boffEnd (s : State) (c t : Nat) : State :=
  match s.canDef? c with
  | none => s
  | some d =>
    if s.canUp c && decide ((s.canCh c).est = .boffRec) && decide ((s.canCh c).recAt + d.recovery ≤ t) then
      let s1 := s.advanceTo t
      (s1.setCan c { (s1.canCh c) with est := .active, tec := 0, rxec := 0 }).raise 50 c
    else s

/-! ## Reception (12 R344 to R346) -/

/-- TYPE and ADDR of a frame of WFP form on the channel (10 Table 10-6, 12 R344). -/
def State.wfpForm (s : State) (c : Nat) (f : CanFrame) : Option (Nat × Nat) :=
  match s.groupDefs.find? (fun g => g.link = c) with
  | none => none
  | some g =>
    if f.rtr || f.ide ≠ g.ext then none
    else
      let type := if g.ext then f.id / 2 ^ 26 % 8 else f.id / 256 % 8
      if g.ext && decide (f.id / 256 % 2 ^ 18 ≠ g.netid) then none
      else if 1 ≤ type && type ≤ 3 then some (type, f.id % 256) else none

/-- A filter element matches an identifier (12 Table 12-2). -/
def CanFilter.hits (x : CanFilter) (f : CanFrame) : Bool :=
  decide (x.ide = f.ide) &&
  (if x.ftype = 1 then decide (x.id1 ≤ f.id) && decide (f.id ≤ x.id2)
   else if x.ftype = 2 then decide (f.id = x.id1) || decide (f.id = x.id2)
   else if x.ftype = 3 then decide (f.id &&& x.id2 = x.id1 &&& x.id2)
   else false)

/-- The filter list passes a frame to the host (12 R345). -/
def CanChDef.toHost (d : CanChDef) (f : CanFrame) : Bool :=
  match d.filters.find? (fun x => x.hits f) with
  | some x => x.toHost
  | none => d.defHost

/-- A stream pair of a kind that holds a CAN channel or a port (16 R419). -/
def State.streamOf (s : State) (kind i : Nat) : Option Qp :=
  s.hst.qps.find? (fun q => decide (q.kind = kind) && bitOf q.mask i)

/-- REC after a frame received without error (ISO 11898-1): from above 127 it goes to a value from 119 to 127 that
the controller chooses (PRESUMED, log entry 41). -/
def State.recOk (s : State) (c : Nat) : State :=
  let x := s.canCh c
  if x.rxec > 127 then
    let r := s.freshNat
    r.2.setCan c ({ x with rxec := 119 + r.1 % 9 }).settleOk
  else s.setCan c ({ x with rxec := x.rxec - 1 }).settleOk

def State.canDrop (s : State) (c : Nat) : State :=
  s.setCan c { (s.canCh c) with rxdrop := satAdd max16 (s.canCh c).rxdrop 1 }

/-- A frame is received without error at `t`. -/
def State.canReceive (s : State) (c t : Nat) (f : CanFrame) : State :=
  match s.canDef? c with
  | none => s
  | some d =>
    if !(s.canUp c) || (s.canCh c).est = .boffWait || (s.canCh c).est = .boffRec then s
    else
      let s0 := s.advanceTo t
      let s1 := if d.monitor then s0 else s0.recOk c
      let s2 := s1.setCan c { (s1.canCh c) with rxok := satAdd max32 (s1.canCh c).rxok 1 }
      match (if d.monitor then none else s2.wfpForm c f) with
      | some (ty, ad) =>
        if s2.canIdle c = 0 then s2.canDrop c
        else { s2 with stn := { s2.stn with inbox := s2.stn.inbox ++ [⟨c, t, .can ty ad f.fdf, f.data⟩] } }
      | none =>
        if f.rtr || !(d.toHost f) then
          s2.setCan c { (s2.canCh c) with reject := satAdd max16 (s2.canCh c).reject 1 }
        else if (s2.streamOf 3 c).isSome && decide ((s2.canCh c).rx.length < d.hostObj) && decide (s2.canIdle c ≠ 0) then
          s2.setCan c { (s2.canCh c) with rx := (s2.canCh c).rx ++
            [⟨.host, f.ide, f.fdf, f.brs, f.esi, f.id, f.data, t, false, 0, false⟩] }
        else s2.canDrop c

/-! ## Breaks (12 Table 12-5) -/

def State.allCan (s : State) (f : State → Nat → State) : State := (List.range 56).foldl f s

/-- The field island loses its clock: a frame in TX returns to ARMED. -/
def State.canStop (s : State) : State := s.allCan (fun s c => s.canBack c)

/-- Entry into DORMANT: objects are emptied, frames ARMED or in TX are counted in LOST; controllers without power. -/
def State.canDormant (s : State) : State :=
  s.allCan (fun s c =>
    let x := s.canCh c
    let n := x.armed.length + (match x.tx with | some _ => 1 | none => 0)
    s.setCan c { x with armed := [], tx := none, rx := [], lost := satAdd 255 x.lost n, est := .active, tec := 0,
                        rxec := 0, lec := 0, tried := false })

/-- Controllers held in reset in INIT (12 Table 12-5). -/
def State.canInit (s : State) : State :=
  s.allCan (fun s c => s.setCan c { (s.canCh c) with armed := [], tx := none, rx := [], est := .active, tec := 0, rxec := 0,
                                                     lec := 0, tried := false })

end Sys2Proof.Machine
end

