-- ==== Sys2Proof/Machine/Eth.lean ====
section
/-!
DEFINITION. Sys2Proof/Machine/Eth.lean: the Ethernet ports (13): queues and precedence, MACsec, redundancy, receive
classes, supervision frames.
-/
namespace Sys2Proof.Machine

def State.port (s : State) (p : Nat) : EthPort := s.eth.ports.getD p EthPort.reset

def State.setPort (s : State) (p : Nat) (x : EthPort) : State :=
  { s with eth := { s.eth with ports := updAt s.eth.ports p (fun _ => x) } }

/-- The ports run: declared, out of INIT, the network island clocked (13 Table 13-4). -/
def State.portUp (s : State) (p : Nat) : Bool :=
  (s.ethDef? p).isSome && decide (s.mgt.run ≠ .init) && s.runs .net

def partner (p : Nat) : Nat := if p % 2 = 0 then p + 1 else p - 1

/-- The lower port of a pair, else the port itself (10 Table 10-2). -/
def EthPortDef.lead (d : EthPortDef) : Nat := if d.red ≠ 0 then d.port / 2 * 2 else d.port

/-- The members that carry the frames of the port named. -/
def EthPortDef.members (d : EthPortDef) : List Nat := if d.red ≠ 0 then [d.port / 2 * 2, d.port / 2 * 2 + 1] else [d.port]

def State.pairLink (s : State) (d : EthPortDef) : Bool := d.members.any (fun p => (s.port p).link)

/-! ## Transmission (13 R363, R368, R370) -/

/-- Packet number after which nothing more is sent on an association. -/
def EthPortDef.pnLast (d : EthPortDef) : Nat := if d.xpn then 2 ^ 64 - 1 else 2 ^ 32 - 1
def EthPortDef.pnWarn (d : EthPortDef) : Nat := if d.xpn then 0xC000000000000000 else 0xC0000000

def EthPort.pn (x : EthPort) : Nat := if x.an = 0 then x.pn0 else x.pn1
def EthPort.txKey (x : EthPort) : Option (List Byte) := if x.an = 0 then x.key0 else x.key1
def EthPort.exh (x : EthPort) : Bool := if x.an = 0 then x.exh0 else x.exh1

/-- A WFP or host frame may leave: the link is up and MACsec can protect it. -/
def State.ethMayLeave (s : State) (d : EthPortDef) : Bool :=
  s.pairLink d && (!d.macsec || ((s.port d.lead).txKey.isSome && decide ((s.port d.lead).pn ≤ d.pnLast)))

/-- A station cell of the port is open at `t`. -/
def State.inStnCell (s : State) (p t : Nat) : Bool :=
  s.stn.cells.any (fun k => decide (k.link = 0x40 + p) && decide (t < k.stop))

/-- The frame a free port starts next at `t`: late WFP frames, frames of an open station cell, host frames outside
cells (13 R363). The second part says that it comes from the host queue. -/
def State.nextFrame (s : State) (p t : Nat) : Option (EthFrm × Bool) :=
  let x := s.port p
  let w := if s.comb.gap then none else match x.wfp.find? (fun f => f.late) with
    | some f => some f
    | none => x.wfp.head?
  match w with
  | some f => some (f, false)
  | none => if s.inStnCell p t then none else x.hostq.head?.map (fun f => (f, true))

/-- Take the first frame equal to `f` out of a queue. -/
def eraseFrm (l : List EthFrm) (f : EthFrm) : List EthFrm := match l with
  | [] => []
  | x :: xs => if x = f then xs else x :: eraseFrm xs f

/-- Frames withheld for want of a key are counted once each (13 R370). -/
def State.withhold (s : State) (d : EthPortDef) : State :=
  let x := s.port d.lead
  if d.macsec && x.txKey.isNone then
    let n := ((x.wfp ++ x.hostq).filter (fun f => !f.withheld)).length
    let m : List EthFrm → List EthFrm := fun l => l.map (fun f => { f with withheld := true })
    s.setPort d.lead { x with wfp := m x.wfp, hostq := m x.hostq, nokey := satAdd 255 x.nokey n }
  else s

/-- A frame leaves under MACsec: the packet number counts and EV056 is raised once past the threshold (13 R370). -/
def State.usePn (s : State) (d : EthPortDef) : State :=
  if !d.macsec then s
  else
    let x := s.port d.lead
    let n := x.pn + 1
    let x1 := if x.an = 0 then { x with pn0 := n } else { x with pn1 := n }
    if x.pn > d.pnWarn && !x.exh then
      (s.setPort d.lead (if x.an = 0 then { x1 with exh0 := true } else { x1 with exh1 := true })).raise 56 (d.lead + x.an * 8)
    else s.setPort d.lead x1

/-- A free port starts its next frame, not before `t` and the instant from which the frame may start. -/
def State.ethPump (s : State) (p : Nat) : State :=
  match s.ethDef? p with
  | none => s
  | some d =>
    let q := d.lead
    let s0 := s.withhold d
    let x := s0.port q
    if !(s0.portUp q) || x.busy.isSome || !(s0.ethMayLeave d) then s0
    else match s0.nextFrame q s0.tim.dt with
      | none => s0
      | some (f, host) =>
        let start := max (max x.freeAt f.ready) s0.tim.dt
        let s1 := s0.setPort q { x with wfp := if host then x.wfp else eraseFrm x.wfp f,
                                        hostq := if host then x.hostq.drop 1 else x.hostq, busy := some (f, start) }
        let s2 := (s1.usePn d).emit (.ethTx q f.data)
        match f.use with
        | .poll _ n _ _ => s2.closeWindow n start
        | _ => s2

/-- Queue a WFP frame at a port and let the port start. -/
def State.armEth (s : State) (p : Nat) (f : EthFrm) : State :=
  (s.setPort p { (s.port p) with wfp := (s.port p).wfp ++ [f] }).ethPump p

/-- The frame in transmission at a port ends at `t`; the result for a host frame is its queue pair. -/
def State.ethDone (s : State) (p t : Nat) : State × Option Nat :=
  match (s.port p).busy with
  | none => (s, none)
  | some (f, start) =>
    if t < start then (s, none)
    else
      let s1 := s.advanceTo t
      let mem := match s1.ethDef? p with | some d => d.members | none => [p]
      let s2 := s1.setPort p { (s1.port p) with busy := none, freeAt := t }
      let s3 := mem.foldl (fun s q => if (s.port q).link then
        s.setPort q { (s.port q) with txok := satAdd max32 (s.port q).txok 1 } else s) s2
      let s4 := s3.noteOver (0x40 + p) f.e t
      match f.use with
      | .poll _ n seq pd => (s4.openWindow n seq pd t, none)
      | .write n seq _ => (s4.writeDone n seq f.late, none)
      | .host q => (s4, some q)

/-! ## Reception (13 R360 to R362, R365 to R369) -/

/-- The association of a received frame verifies: the key of its association number is in the cache and the ICV is
good. -/
def EthPort.verifies (x : EthPort) (g : SecTag) : Bool :=
  g.icvOk && (if g.an = 0 then x.key0.isSome else x.key1.isSome)

/-- MACsec processing of a received frame: the port afterwards, and whether the frame goes on (13 R368, R369). -/
def EthPort.macsecRx (x : EthPort) (d : EthPortDef) (sec : Option SecTag) : EthPort × Bool :=
  match sec with
  | none => ({ x with untag := satAdd max16 x.untag 1 }, false)
  | some g =>
    if g.an > 1 then ({ x with untag := satAdd max16 x.untag 1 }, false)
    else if !(x.verifies g) then ({ x with icv := satAdd max16 x.icv 1 }, false)
    else match x.rxsc.find? (fun c => c.sci = g.sci) with
      | some c =>
        let next := if g.an = 0 then c.pn0 else c.pn1
        if g.pn + d.replayWin < next then ({ x with replay := satAdd max16 x.replay 1 }, false)
        else
          let n := max next (g.pn + 1)
          let c1 := if g.an = 0 then { c with pn0 := n } else { c with pn1 := n }
          ({ x with rxsc := x.rxsc.map (fun y => if y.sci = g.sci then c1 else y) }, true)
      | none =>
        if x.rxsc.length ≥ 256 then ({ x with nosc := satAdd 255 x.nosc 1 }, false)
        else ({ x with rxsc := ⟨g.sci, if g.an = 0 then g.pn + 1 else 1, if g.an = 1 then g.pn + 1 else 1⟩ :: x.rxsc }, true)

/-- Duplicate discard by source and sequence number (13 R366): the table afterwards, whether the frame is a copy,
whether it found no entry. -/
def dupCheck (l : List DupEnt) (mac seq t : Nat) : List DupEnt × Bool × Bool :=
  match l.find? (fun d => d.mac = mac) with
  | some d =>
    if d.seqs.contains seq then (l.map (fun x => if x.mac = mac then { x with t := t } else x), true, false)
    else (l.map (fun x => if x.mac = mac then { x with seqs := (seq :: x.seqs).take 64, t := t } else x), false, false)
  | none => if l.length ≥ 4096 then (l, false, true) else (⟨mac, [seq], t⟩ :: l, false, false)

/-- A frame carries the tag that WFP and PTP need (13 R361). -/
def EthPortDef.tagOk (d : EthPortDef) (tags : List Nat) (ptp : Bool) : Bool :=
  if d.vlanEn then (match tags with
    | [v] => decide (v % 4096 = d.vid)
    | [] => ptp && d.ptpUntag
    | _ => false)
  else tags.isEmpty

/-- A PTP frame for a domain the port uses. -/
def State.ptpFor (s : State) (p dn : Nat) : Bool :=
  (s.portUses p .pri && s.domEn .pri && decide (s.domNum .pri = dn)) ||
  (s.portUses p .sec && s.domEn .sec && decide (s.domNum .sec = dn))

/-- A HOST-class frame enters the port's buffer or is discarded (13 R362). -/
def State.toHost (s : State) (p t : Nat) (d : EthPortDef) (f : EthRx) : State :=
  let x := s.port p
  let used := (x.rx.map (fun r => r.1.length)).sum
  if d.hostRx && (s.streamOf 4 p).isSome && decide (used + f.bytes.length ≤ 65536) then
    s.setPort p { x with rx := x.rx ++ [(f.bytes, t, !f.tags.isEmpty)] }
  else s.setPort p { x with hostdrop := satAdd max16 x.hostdrop 1 }

/-- Classify an accepted frame (13 Table 13-2). -/
def State.classify (s : State) (p t : Nat) (d : EthPortDef) (f : EthRx) : State :=
  match f.body with
  | .supervision => s
  | .ptp dn => if d.tagOk f.tags true && s.ptpFor p dn then s else s.toHost p t d f
  | .udp ip port dst toIp ok pay =>
    match s.stations? with
    | none => s.toHost p t d f
    | some st =>
      if d.tagOk f.tags false && decide (dst = st.wfpPort) && decide (toIp = d.ip) then
        { s with stn := { s.stn with inbox := s.stn.inbox ++ [⟨0x40 + d.lead, t, .udp ip port ok, pay⟩] } }
      else s.toHost p t d f
  | .other => s.toHost p t d f

/-- Redundancy processing: HSR returns and forwarding, then duplicate discard (13 R365 to R367). -/
def State.redundancy (s : State) (p t : Nat) (d : EthPortDef) (f : EthRx) : State × Bool :=
  if d.red = 0 then (s, true)
  else if d.red = 1 && f.src = d.mac then
    (s.setPort p { (s.port p) with hsrret := satAdd 255 (s.port p).hsrret 1 }, false)
  else
    let s1 := if d.red = 1 && !f.toDev then
        (s.setPort p { (s.port p) with fwd := satAdd max32 (s.port p).fwd 1 }).emit (.ethTx (partner p) f.bytes)
      else s
    match f.red with
    | none => (s1, true)
    | some q =>
      let l := (s1.port d.lead)
      let r := dupCheck l.dup f.src q t
      let s2 := s1.setPort d.lead { l with dup := r.1 }
      if r.2.1 then (s2.setPort p { (s2.port p) with dupdisc := satAdd max16 (s2.port p).dupdisc 1 }, false)
      else if r.2.2 then (s2.setPort p { (s2.port p) with dupnoent := satAdd 255 (s2.port p).dupnoent 1 }, true)
      else (s2, true)

/-- An Ethernet frame arrives at a port at `t` (13 R360 to R369). -/
def State.ethReceive (s : State) (p t : Nat) (f : EthRx) : State :=
  match s.ethDef? p with
  | none => s
  | some d =>
    if !(s.portUp p) || !(s.port p).link then s
    else
      let s1 := s.advanceTo t
      if f.len > 1560 || !f.fcsOk then s1.setPort p { (s1.port p) with rxerr := satAdd max16 (s1.port p).rxerr 1 }
      else
        let m := if d.macsec then (s1.port p).macsecRx d f.sec else (s1.port p, true)
        let s2 := s1.setPort p m.1
        if !m.2 then s2
        else
          let r := s2.redundancy p t d f
          if !r.2 then r.1
          else (r.1.setPort p { (r.1.port p) with rxok := satAdd max32 (r.1.port p).rxok 1 }).classify p t d f

/-! ## Other events -/

/-- A supervision frame leaves on both members of a pair, every 2 s (13 R365). -/
def supervision (s : State) (p : Nat) : State :=
  match s.ethDef? p with
  | none => s
  | some d =>
    if s.portUp p && decide (d.red ≠ 0) then
      d.members.foldl (fun s q => if (s.port q).link then
        (s.setPort q { (s.port q) with txok := satAdd max32 (s.port q).txok 1 }).emit (.ethTx q []) else s) s
    else s

def execSupervisionFrameTransmit (port : Nat) (s : State) : Host.Outcome State Fault Refusal := .next (supervision s port)

/-- A source of the duplicate table ages out after 400 ms without traffic (13 R366). -/
def dupAgeOut (s : State) (p mac : Nat) : State :=
  match (s.port p).dup.find? (fun d => d.mac = mac) with
  | none => s
  | some d =>
    if s.portUp p then
      let s1 := s.advanceTo (d.t + 400000000)
      s1.setPort p { (s1.port p) with dup := (s1.port p).dup.filter (fun x => x.mac ≠ mac) }
    else s

def execDuplicateEntryAgeOut (port : Nat) (mac : Nat) (s : State) : Host.Outcome State Fault Refusal :=
  .next (dupAgeOut s port mac)

/-- The link of a port comes up or goes down; a disabled port has no link (13 R357, R374). -/
def portLink (s : State) (p : Nat) (up : Bool) : State :=
  if s.portUp p then (s.setPort p { (s.port p) with link := up }).ethPump p
  else s

def execPortLinkChange (port : Nat) (up : Bool) (s : State) : Host.Outcome State Fault Refusal := .next (portLink s port up)

def State.allPorts (s : State) (f : State → Nat → State) : State := (List.range 8).foldl f s

/-- MACs in reset or without clock: links down (13 Table 13-4); a frame in transmission waits again. -/
def State.linksDown (s : State) : State :=
  s.allPorts (fun s p =>
    let x := s.port p
    match x.busy with
    | none => s.setPort p { x with link := false }
    | some (f, _) =>
      let y := match f.use with
        | .host _ => { x with hostq := f :: x.hostq }
        | _ => { x with wfp := f :: x.wfp }
      s.setPort p { y with link := false, busy := none })

/-- Entry into DORMANT: host buffers and queued frames go with the power (13 Table 13-4). -/
def State.portsDormant (s : State) : State :=
  s.allPorts (fun s p =>
    let x := s.port p
    s.setPort p { x with link := false, busy := none, wfp := [], hostq := [], rx := [], rxsc := [], dup := [],
                         hostdrop := satAdd max16 x.hostdrop x.rx.length })

end Sys2Proof.Machine
end

