-- ==== Sys2Proof/Machine/MeterCalc.lean ====
section
/-!
DEFINITION. Sys2Proof/Machine/MeterCalc.lean: the arithmetic of metering (11): the sample chain, the Hilbert filter,
block quantities, period energies, water properties.
-/
namespace Sys2Proof.Machine

/-! ## Rationals -/

def Sc.toRat (x : Sc) : Rat := if x.e ≥ 0 then (x.m * 2 ^ x.e.toNat : Int) else mkRat x.m (2 ^ (-x.e).toNat)

/-- An exact value rounded half to even to an integer (11 R311). -/
def ratRnd (x : Rat) : Int := rndDiv x.num x.den

/-- The square root of an exact value rounded half to even. -/
def ratSqrt (x : Rat) : Int :=
  let n := x.num.toNat
  let r := isqrt (n / x.den)
  let lhs := 4 * n
  let rhs := (4 * r * r + 4 * r + 1) * x.den
  if lhs < rhs then r else if lhs > rhs then r + 1 else if r % 2 = 0 then r else r + 1

/-- An integer power of a nonzero rational. -/
def ratPow (x : Rat) (k : Int) : Rat := if k ≥ 0 then x ^ k.toNat else (x⁻¹) ^ (-k).toNat

/-! ## The sample chain (11 R307, R308) -/

/-- Largest magnitude of a sample, in units of 2^-22. -/
def clipMax : Int := 8388607 * 4194304

/-- A sample after the gain trim, in units of 2^-22, and whether it was clipped. -/
def chainSample (gain : Nat) (raw : Int) : Int × Bool :=
  let y := raw * gain
  if y > clipMax then (clipMax, true) else if y < -clipMax then (-clipMax, true) else (y, false)

/-- The samples of one role over a window of `n` samples with 63 on each side; `zero` tells which sample is taken as 0
because its input is faulted. The second part counts the saturated samples of the window itself. -/
def roleSamples (gain : Nat) (neg : Bool) (zero : Int → Bool) (n : Nat) (raw : List Int) : Array Int × Nat :=
  let a := raw.toArray
  (List.range (n + 126)).foldl (fun (r : Array Int × Nat) (i : Nat) =>
    let k : Int := (i : Int) - 63
    if zero k then (r.1.push 0, r.2)
    else
      let y := chainSample gain (a.getD i 0)
      (r.1.push (if neg then -y.1 else y.1), if y.2 && 63 ≤ i && decide (i < n + 63) then r.2 + 1 else r.2)) (#[], 0)

/-- Coefficients h[k] of the Hilbert filter in Q1.30 for k = 1, 3, …, 63 (11 R311). -/
def hilbertTaps : List Int :=
  [682890259, 225837089, 133373063, 93024725, 70084133, 55093873, 44422622, 36380116, 30074383, 24990674, 20810970,
   17327669, 14398731, 11922806, 9824719, 8046645, 6542577, 5274771, 4211431, 3325181, 2592063, 1990874, 1502743,
   1110854, 800271, 557830, 372059, 233118, 132741, 64163, 22042, 2355]

/-- u_h at sample `n` of the window, in units of 2^-52. -/
def hilbertAt (u : Array Int) (n : Nat) : Int :=
  (hilbertTaps.zipIdx.map (fun p =>
    let k := 2 * p.2 + 1
    p.1 * (u.getD (n + 63 - k) 0 - u.getD (n + 63 + k) 0))).sum

/-- Sample `n` of the window. -/
def sampleAt (u : Array Int) (n : Nat) : Int := u.getD (n + 63) 0

/-- Σ u·i and Σ u_h·i over a window of `n` samples. -/
def powerSums (u i : Array Int) (n : Nat) : Int × Int :=
  (List.range n).foldl (fun (r : Int × Int) (k : Nat) =>
    (r.1 + sampleAt u k * sampleAt i k, r.2 + hilbertAt u k * sampleAt i k)) (0, 0)

def squareSum (u : Array Int) (n : Nat) : Int :=
  (List.range n).foldl (fun (r : Int) (k : Nat) => r + sampleAt u k * sampleAt u k) 0

/-- Full scale of a role per unit of 2^-22: FS × 2^-45. -/
def MdChan.unit (c : MdChan) : Rat := c.fs.toRat / (2 ^ 45 : Nat)

/-! ## Crossings (11 R311, R314) -/

/-- Rising crossings of a voltage in the window as sample positions, and whether the next one is armed: the signal
must have been below −2 % of U_NOM × √2 since the last one. -/
def crossings (u : Array Int) (n : Nat) (unit uNom : Rat) (armed : Bool) : List Rat × Bool :=
  let thr := 2 * (uNom / 50) * (uNom / 50)
  let r := (List.range n).foldl (fun (r : List Rat × Bool) (k : Nat) =>
    let p := u.getD (k + 62) 0
    let y := sampleAt u k
    let x : Rat := (y : Rat) * unit
    if y < 0 && decide (x * x > thr) then (r.1, true)
    else if p < 0 && 0 ≤ y && r.2 then
      ((((k : Int) : Rat) - 1 + mkRat (-p) (y - p).toNat) :: r.1, false)
    else r) ([], armed)
  (r.1.reverse, r.2)

/-- FREQ in mHz from the crossings of U1; samples lie 62.5 µs apart. -/
def freqOf (l : List Rat) : Int :=
  match l, l.getLast? with
  | a :: _ :: _, some z => ratRnd ((((l.length : Int) - 1 : Int) : Rat) / (z - a) * 16000000)
  | _, _ => 0

/-- Insert a crossing in time order, those of one instant in the order of their phases. -/
def insertCrossing (x : Rat × Nat) : List (Rat × Nat) → List (Rat × Nat)
  | [] => [x]
  | y :: ys => if x.1 < y.1 || (x.1 = y.1 && x.2 ≤ y.2) then x :: y :: ys else y :: insertCrossing x ys

/-- Crossings of the three voltages in time order, as phase numbers. -/
def phaseOrder (a b c : List Rat) : List Nat :=
  let l := a.map (fun t => (t, 0)) ++ b.map (fun t => (t, 1)) ++ c.map (fun t => (t, 2))
  (l.foldr insertCrossing []).map (fun x => x.2)

/-- The crossings follow the order that adds `d` modulo 3 at each step. -/
def followsOrder (d : Nat) : List Nat → Bool
  | x :: y :: l => decide (y = (x + d) % 3) && followsOrder d (y :: l)
  | _ => true

/-! ## Water (11 R315, R316): IAPWS-IF97 region 1 (PRESUMED, log entry 45) -/

/-- The coefficients of region 1: I, J, mantissa, decimal places. -/
def if97 : List (Nat × Int × Int × Nat) :=
  [(0, -2, 14632971213167, 14), (0, -1, -84548187169114, 14), (0, 0, -3756360367204, 12), (0, 1, 33855169168385, 13),
   (0, 2, -95791963387872, 14), (0, 3, 15772038513228, 14), (0, 4, -16616417199501, 15), (0, 5, 81214629983568, 17),
   (1, -9, 28319080123804, 17), (1, -7, -60706301565874, 17), (1, -1, -18990068218419, 15), (1, 0, -32529748770505, 15),
   (1, 1, -21841717175414, 15), (1, 3, -5283835796993, 17), (2, -3, -47184321073267, 17), (2, 0, -30001780793026, 17)] ++
  [(2, 1, 47661393906987, 18), (2, 3, -44141845330846, 19), (2, 17, -72694996297594, 29), (3, -4, -31679644845054, 18),
   (3, 0, -28270797985312, 19), (3, 6, -85205128120103, 23), (4, -5, -22425281908, 16), (4, -2, -65171222895601, 20),
   (4, 10, -14341729937924, 26), (5, -8, -40516996860117, 20), (8, -11, -12734301741641, 22), (8, -6, -17424871230634, 23),
   (21, -29, -68762131295531, 32), (23, -31, 14478307828521, 33), (29, -38, 26335781662795, 36),
   (30, -39, -11947622640071, 36), (31, -40, 18228094581404, 37), (32, -41, -93537087292458, 39)]

/-- v in m³/kg and h in kJ/kg at `p` MPa and `t` K. -/
def waterAt (p t : Rat) : Rat × Rat :=
  let a : Rat := 71 / 10 - p / (1653 / 100)
  let tau : Rat := 1386 / t
  let b : Rat := tau - 1222 / 1000
  let r : Rat := 461526 / 1000000
  let n : Int × Nat → Rat := fun c => mkRat c.1 (10 ^ c.2)
  let gp : Rat := (if97.map (fun c => if c.1 = 0 then (0 : Rat)
    else -(n c.2.2) * (c.1 : Nat) * a ^ (c.1 - 1) * ratPow b c.2.1)).sum
  let gt : Rat := (if97.map (fun c => n c.2.2 * a ^ c.1 * (c.2.1 : Int) * ratPow b (c.2.1 - 1))).sum
  (r * t * (p / (1653 / 100)) * gp / p / 1000, r * t * tau * gt)

/-- v and h at a temperature in °C, interpolated between the entries of a table of step 0.25 °C (11 R316). -/
def waterTable (p tc : Rat) : Rat × Rat :=
  let i := if (tc * 4).floor > 719 then 719 else (tc * 4).floor
  let x := tc * 4 - i
  let lo := waterAt p (27315 / 100 + i / 4)
  let hi := waterAt p (27315 / 100 + (i + 1) / 4)
  (lo.1 + x * (hi.1 - lo.1), lo.2 + x * (hi.2 - lo.2))

/-- ΔE of a thermal sample in mWh, exact (11 R315): `dv` in m³. -/
def thermalEnergy (d : TmDef) (tsup tret dv : Rat) : Rat :=
  let p := d.pDecl.toRat
  let s := waterTable p tsup
  let r := waterTable p tret
  let rho := 1 / (if d.sensorRet then r.1 else s.1)
  let dh := if d.medium = 2 then r.2 - s.2 else s.2 - r.2
  rho * dv * dh / (36 / 10000)

end Sys2Proof.Machine
end

