-- ==== Sys2Proof/Machine/Metering.lean ====
section
/-!
DEFINITION. Sys2Proof/Machine/Metering.lean: energy and quantity computation (11): honey registers, intervals and
their closure, block closures, thermal samples, detectors, records, breaks in time, program and power.
-/
namespace Sys2Proof.Machine

def State.meter? (s : State) : Option MeterDef := s.sup.bank.bind (fun i => i.meter)

def State.setMtr (s : State) (m : Mtr) : State := { s with mtr := m }

/-! ## Honey registers (11 R321) -/

/-- Add an amount in 2^-32 of the unit; WRAP counts each passage of 2^64. -/
def Honey.add (h : Honey) (n : Nat) : Honey := ⟨(h.v + n) % 2 ^ 96, (h.wrap + (h.v + n) / 2 ^ 96) % 256⟩

/-- The 64-bit register value. -/
def Honey.val (h : Honey) : Nat := h.v / 2 ^ 32

/-- An amount of a unit rounded half to even to 2^-32. -/
def toFrac (x : Rat) : Nat := (ratRnd (x * (2 ^ 32 : Nat))).toNat

def Mtr.addEm (m : Mtr) (e r n : Nat) : Mtr :=
  { m with em := SMap.set dEm m.em e (updAt (SMap.get dEm m.em e) r (fun h => h.add n)) }

def Mtr.addTm (m : Mtr) (t r n : Nat) : Mtr :=
  { m with tm := SMap.set dTm m.tm t (updAt (SMap.get dTm m.tm t) r (fun h => h.add n)) }

/-- The legacy view in Wh and its wrap counter (11 R323). -/
def Honey.legacy (h : Honey) : Nat := h.val / 1000 % 2 ^ 32
def Honey.lwrap (h : Honey) : Nat := h.val / (1000 * 2 ^ 32) % 256

/-! ## Intervals (11 R325, R326) -/

def MeterDef.lenNs (d : MeterDef) : Nat := d.intvS * 1000000000

/-- The interval boundary after `t`. -/
def MeterDef.gridEnd (d : MeterDef) (t : Nat) : Nat := (t / d.lenNs + 1) * d.lenNs

def RunFlags.none : RunFlags := ⟨false, false, false, false⟩

def RunFlags.join (a b : RunFlags) : RunFlags :=
  ⟨a.partial_ || b.partial_, a.step || b.step, a.gap || b.gap, a.honeyLost || b.honeyLost⟩

def Mtr.newEm (m : Mtr) (d : EmDef) (t : Nat) (fl : RunFlags) : EmRun := ⟨d.em, t, fl, SMap.get dEm m.em d.em, none, 0, 0, 0⟩
def newTm (d : TmDef) (t : Nat) (fl : RunFlags) : TmRun := ⟨d.tm, d.medium, d.role, t, fl, none, none, 0, 0, 0, 0, 0, 0⟩

/-- A new open interval from `t` (11 R325, R326). -/
def State.newIntv (s : State) (d : MeterDef) (t : Nat) (fl : RunFlags) : Intv where
  stop := d.gridEnd t
  ems := d.ems.map (fun x => s.mtr.newEm x t fl)
  tms := d.tms.map (fun x => newTm x t fl)
  bal := some ⟨t, fl, 0, 0, [], []⟩
  ctrs := d.ctrs.map (fun c => c.stn)
  segs := []
  pulses := []
  merged := false
  untrusted := decide (s.tim.tstate ≠ .trusted)
  thermDone := false
  begun := false
  late := false
  wrote := 0

def mergeEm (a b : EmRun) : EmRun :=
  { a with fl := a.fl.join b.fl, fin := b.fin, errsmp := a.errsmp + b.errsmp, signchg := a.signchg + b.signchg,
           evmask := a.evmask ||| b.evmask }

def mergeTm (a b : TmRun) : TmRun :=
  { a with fl := a.fl.join b.fl, fin := b.fin, wsup := a.wsup + b.wsup, wret := a.wret + b.wret, wvol := a.wvol + b.wvol,
           errNs := a.errNs + b.errNs, signchg := a.signchg + b.signchg, evmask := a.evmask ||| b.evmask,
           regs0 := match a.regs0 with | some r => some r | none => b.regs0 }

/-- A fifth waiting closure joins the fourth (11 R326). -/
def Intv.merge (a b : Intv) : Intv :=
  { a with stop := b.stop,
           ems := a.ems.map (fun r => match b.ems.find? (fun q => q.em = r.em) with | some q => mergeEm r q | none => r) ++
             b.ems.filter (fun q => !(a.ems.any (fun r => decide (r.em = q.em)))),
           tms := a.tms.map (fun r => match b.tms.find? (fun q => q.tm = r.tm) with | some q => mergeTm r q | none => r) ++
             b.tms.filter (fun q => !(a.tms.any (fun r => decide (r.tm = q.tm)))),
           bal := match a.bal, b.bal with
             | some x, some y => some {
                 x with
                 fl := x.fl.join y.fl, imp := x.imp + y.imp, loss := x.loss + y.loss,
                 counted := x.counted ++ y.counted.filter (fun n => !(x.counted.contains n)),
                 answered := x.answered ++ y.answered.filter (fun n => !(x.answered.contains n)) }
             | some x, none => some x
             | none, y => y,
           segs := a.segs ++ b.segs,
           pulses := b.pulses.foldl (fun m p => SMap.set dNat m p.1 (SMap.get dNat m p.1 + p.2)) a.pulses,
           merged := true, untrusted := a.untrusted || b.untrusted, thermDone := false }

/-- An ended interval begins to wait for its closure (11 R326). -/
def Mtr.pushWait (m : Mtr) (i : Intv) : Mtr :=
  if m.wait.length < 4 then { m with wait := m.wait ++ [i] }
  else match m.wait.getLast? with
    | some w => { m with wait := m.wait.dropLast ++ [w.merge i], mergedCnt := satAdd max16 m.mergedCnt 1 }
    | none => { m with wait := [i] }

/-- Registers of the systems at the end of an interval that ends at `t`: taken now unless the accumulation period that
ends there is still to be added. -/
def Mtr.endEms (m : Mtr) (t : Nat) (l : List EmRun) : List EmRun :=
  l.map (fun r => if m.perEnd = t then r else { r with fin := some (SMap.get dEm m.em r.em) })

/-- The running thermal segment up to `t` joins the interval. -/
def Mtr.segTo (m : Mtr) (t : Nat) (i : Intv) : List (Nat × Nat) := match m.segFrom with
  | some a => if a < t then i.segs ++ [(a, t)] else i.segs
  | none => i.segs

/-- The open interval ends at `t` with flags added, and a new one opens at `t'`. -/
def State.turnIntv (s : State) (d : MeterDef) (t t' : Nat) (fl fl' : RunFlags) : State :=
  match s.mtr.cur with
  | none => s
  | some i =>
    let m := s.mtr
    let j := { i with stop := t, segs := m.segTo t i, ems := m.endEms t (i.ems.map (fun r => { r with fl := r.fl.join fl })),
                      tms := i.tms.map (fun r => { r with fl := r.fl.join fl }),
                      bal := i.bal.map (fun b => { b with fl := b.fl.join fl }) }
    let s1 := s.setMtr (m.pushWait j)
    s1.setMtr { s1.mtr with cur := some (s1.newIntv d t' fl'), segFrom := some t' }

/-- Interval boundaries up to and including DT `t` (11 R325). -/
def State.catchIntv : Nat → State → Nat → State
  | 0, s, _ => s
  | n + 1, s, t => match s.meter?, s.mtr.cur with
    | some d, some i =>
      if s.mtr.running && decide (i.stop ≤ t) then
        State.catchIntv n (s.turnIntv d i.stop i.stop RunFlags.none RunFlags.none) t
      else s
    | _, _ => s

/-- Boundaries passed until DT `t`, as many as the grid has. -/
def State.intvTo (s : State) (t : Nat) : State := match s.meter?, s.mtr.cur with
  | some d, some i => if d.lenNs = 0 then s else State.catchIntv ((t - i.stop) / d.lenNs + 1) s t
  | _, _ => s

/-- METERING_INTERVAL_BOUNDARY: the open interval ends on its boundary and the next one opens (11 R325, R326). -/
def intervalBoundary (s : State) : State := match s.mtr.cur with
  | some i =>
    if s.mtr.running && s.dtLive && s.runs .mtr then
      let s1 := s.advanceTo i.stop
      s1.intvTo i.stop
    else s
  | none => s

def execMeteringIntervalBoundary (s : State) : Host.Outcome State Fault Refusal := .next (intervalBoundary s)

/-! ## MD inputs (11 R308) -/

/-- MDm is faulted at DT `t`: no transition for 4,096 cycles of its MCK. -/
def mdFault (s : State) (m t : Nat) : State :=
  if s.mtr.running && s.runs .mtr && decide (m < 48) then
    let s1 := s.advanceTo t
    let l := SMap.get dSpans s1.mtr.flt m
    match l with
    | (_, none) :: _ => s1
    | _ => s1.setMtr { s1.mtr with flt := SMap.set dSpans s1.mtr.flt m ((t, none) :: l), mdFlt := s1.mtr.mdFlt ||| 2 ^ m }
  else s

def execMdInputFault (m : Nat) (t : Nat) (s : State) : Host.Outcome State Fault Refusal := .next (mdFault s m t)

/-- Transitions of MDm resume at DT `t`. -/
def mdResume (s : State) (m t : Nat) : State :=
  if s.mtr.running && s.runs .mtr then
    let s1 := s.advanceTo t
    match SMap.get dSpans s1.mtr.flt m with
    | (a, none) :: l => s1.setMtr { s1.mtr with flt := SMap.set dSpans s1.mtr.flt m ((a, some t) :: l) }
    | _ => s1
  else s

def execMdTransitionResume (m : Nat) (t : Nat) (s : State) : Host.Outcome State Fault Refusal := .next (mdResume s m t)

/-- A fault span holds the instant `t`. -/
def inSpan (l : List (Nat × Option Nat)) (t : Nat) : Bool :=
  l.any (fun p => decide (p.1 ≤ t) && (match p.2 with | none => true | some b => decide (t < b)))

/-- A fault span meets the window [a, b). -/
def meetsSpan (l : List (Nat × Option Nat)) (a b : Nat) : Bool :=
  l.any (fun p => decide (p.1 < b) && (match p.2 with | none => true | some e => decide (a < e)))

/-- Spans that ended before `t` are needed no more. -/
def Mtr.pruneSpans (m : Mtr) (t : Nat) : Mtr :=
  { m with flt := m.flt.foldl (fun r p => SMap.set dSpans r p.1 (p.2.filter (fun x => match x.2 with
      | none => true
      | some b => decide (t < b + 10000000)))) [] }

/-- The trimmed GAIN of a role (11 R308). -/
def Mtr.gainOf (m : Mtr) (e r : Nat) (c : MdChan) : Nat := match SMap.get dOpt m.trims (8 * e + r) with
  | some g => g.1
  | none => c.gain

/-- First sample index at or after DT `t`. -/
def firstSample (t : Nat) : Nat := (t + 62499) / 62500

/-- The samples of a system over `n` samples from index `k0`: arrays by role, saturated samples, faulted samples. -/
def Mtr.emArrays (m : Mtr) (d : EmDef) (x : EmSamples) (k0 n : Nat) : List (Array Int) × Nat × Nat :=
  let rows := d.chans.zipIdx.map (fun (c : MdChan × Nat) => match c.1.md with
    | none => ((#[] : Array Int), 0, 0)
    | some i =>
      let sp := SMap.get dSpans m.flt i
      let zero : Int → Bool := fun (k : Int) => inSpan sp (((k0 : Int) + k) * 62500).toNat
      let a := roleSamples (m.gainOf d.em c.2 c.1) (d.invert && decide (3 ≤ c.2)) zero n (x.roles.getD c.2 [])
      let z := if sp.isEmpty then 0 else ((List.range n).filter (fun (k : Nat) => zero (k : Int))).length
      (a.1, a.2, z))
  (rows.map (fun r => r.1), (rows.map (fun r => r.2.1)).sum, (rows.map (fun r => r.2.2)).sum)

def noSamples (e : Nat) : EmSamples := ⟨e, [[], [], [], [], [], []]⟩

/-- The measured pairs of a system: indices of the voltage and the current role. -/
def EmDef.pairs (d : EmDef) : List (Nat × Nat) := if d.four then [(0, 3), (1, 4), (2, 5)] else [(0, 3), (2, 5)]

/-- Σ u·i and Σ u_h·i of one pair in watt-samples. -/
def EmDef.pairPower (d : EmDef) (a : List (Array Int)) (n : Nat) (p : Nat × Nat) : Rat × Rat :=
  let k := (d.chans.getD p.1 default).unit * (d.chans.getD p.2 default).unit
  let r := powerSums (a.getD p.1 #[]) (a.getD p.2 #[]) n
  ((r.1 : Rat) * k, (r.2 : Rat) * k / (2 ^ 30 : Nat))

/-! ## Accumulation periods (11 R312) -/

def periodNs : Nat := 50000000

/-- The energies of a period join the honey registers of a system (11 R312). -/
def Mtr.addPeriod (m : Mtr) (d : EmDef) (a : List (Array Int)) : Mtr :=
  let ps := d.pairs.map (d.pairPower a 800)
  let ep : Rat := (ps.map (fun p => p.1)).sum * (625 / 10000000) / (36 / 10)
  let eq : Rat := (ps.map (fun p => p.2)).sum * (625 / 10000000) / (36 / 10)
  let m1 := if ep > 0 then m.addEm d.em 0 (toFrac ep) else if ep < 0 then m.addEm d.em 1 (toFrac (-ep)) else m
  if eq > 0 then m1.addEm d.em (if ep ≥ 0 then 2 else 3) (toFrac eq)
  else if eq < 0 then m1.addEm d.em (if ep < 0 then 4 else 5) (toFrac (-eq))
  else m1

/-- Count faulted samples in the interval that holds the instant `t`. -/
def Intv.countErr (i : Intv) (e n : Nat) : Intv :=
  { i with ems := i.ems.map (fun r => if r.em = e then { r with errsmp := satAdd max32 r.errsmp n } else r) }

/-- Apply `f` to the interval that holds DT `t`: the first that ends after it (11 R325). -/
def Mtr.atInstant (m : Mtr) (t : Nat) (f : Intv → Intv) : Mtr :=
  match m.wait.findIdx? (fun i => decide (t < i.stop)) with
  | some k => { m with wait := updAt m.wait k f }
  | none => { m with cur := m.cur.map f }

/-- ACCUMULATION_PERIOD_END: 800 samples of every system (11 R307, R312). -/
def periodEnd (s : State) (sys : List EmSamples) : State := match s.meter? with
  | none => s
  | some d =>
    if s.mtr.running && s.dtLive && s.runs .mtr && decide (0 < s.mtr.perEnd) then
      let b := s.mtr.perEnd
      let s1 := s.advanceTo b
      let k0 := (b - periodNs) / 62500
      let m1 := d.ems.foldl (fun (m : Mtr) (e : EmDef) =>
        let x := (sys.find? (fun q => q.em = e.em)).getD (noSamples e.em)
        let a := m.emArrays e x k0 800
        let m' := (m.addPeriod e a.1).atInstant (b - periodNs) (fun i => i.countErr e.em a.2.2)
        { m' with satcnt := satAdd max32 m'.satcnt a.2.1 }) s1.mtr
      let m2 := {
          m1 with
          perEnd := b + periodNs,
          wait := m1.wait.map (fun (i : Intv) => if i.stop ≤ b then
            { i with ems := i.ems.map (fun (r : EmRun) => if r.fin.isNone then { r with fin := some (SMap.get dEm m1.em r.em) } else r) }
            else i) }
      let m3 := { m2 with cur := m2.cur.map (fun (i : Intv) => { i with ems := i.ems.map (fun (r : EmRun) =>
            if r.start = b then { r with regs0 := SMap.get dEm m2.em r.em } else r) }) }
      s1.setMtr (m3.pruneSpans (min b m3.blockStart))
    else s

def execAccumulationPeriodEnd (sys : List EmSamples) (s : State) : Host.Outcome State Fault Refusal := .next (periodEnd s sys)

/-! ## Pulses (11 R315) -/

/-- A pulse at a PIN input, stamped `t`, joins its interval. -/
def pinPulse (s : State) (pin t : Nat) : State :=
  if s.mtr.running && s.dtLive && s.runs .mtr then
    let s1 := (s.advanceTo t).intvTo t
    s1.setMtr (s1.mtr.atInstant t (fun i => { i with pulses := SMap.set dNat i.pulses pin (SMap.get dNat i.pulses pin + 1) }))
  else s

def execPinPulse (pin : Nat) (t : Nat) (s : State) : Host.Outcome State Fault Refusal := .next (pinPulse s pin t)

/-! ## Sources (11 Table 11-4) -/

/-- The value of a source and whether it is GOOD, from the snapshot last distributed. -/
def State.mtrSrc (s : State) : MtrSrc → Rat × Bool
  | .pulse _ => (0, true)
  | .ain i => (mkRat (SMap.get dWord s.dist.words (0x10000 + i)).toInt 65536,
      decide ((SMap.get dItem s.dist.items (0x10000 + i)).q = .good))
  | .station n w => (mkRat (SMap.get dWord s.dist.words (16 * n + w)).toInt 65536,
      decide ((SMap.get dItem s.dist.items (16 * n)).q = .good))
  | .feed p w => (mkRat ((SMap.get dWords s.vot.feeds p).getD w 0).toInt 65536, true)

/-- The level of a digital input and whether its item is GOOD. -/
def State.mtrDin (s : State) (n : Nat) : Bool × Bool :=
  let a := 0x10040 + n / 32
  (bitOf (SMap.get dWord s.dist.words a).toNat (n % 32), decide ((SMap.get dItem s.dist.items a).q = .good))

/-! ## Thermal samples (11 R315 to R319) -/

/-- What a thermal sample takes from the snapshot. -/
structure ThermSrc where
  tsup : Rat
  tret : Rat
  rate : Rat
  reverse : Bool
  volOk : Bool
  err : Bool
  trange : Bool
  srcBad : Bool
  deriving DecidableEq, Repr

def State.thermSrc (s : State) (d : TmDef) : ThermSrc :=
  let a := s.mtrSrc d.tsup
  let b := s.mtrSrc d.tret
  let f := s.mtrSrc d.flow
  let dir := match d.flow, d.dir with
    | .pulse _, some n => s.mtrDin n
    | _, _ => (false, true)
  let out : Rat → Bool := fun t => decide (t < 0) || decide (t > 180)
  let bad := !(a.2 && b.2 && f.2 && dir.2)
  ⟨a.1, b.1, f.1, dir.1, f.2 && dir.2, bad || out a.1 || out b.1, out a.1 || out b.1, bad⟩

/-- ΔV in m³ of a part: pulses stamped in it, or rate times time. -/
def TmDef.volume (d : TmDef) (x : ThermSrc) (pulses ns : Nat) : Rat := match d.flow with
  | .pulse _ =>
    let v := (pulses : Nat) * d.pulseL.toRat / 1000
    if x.reverse then -v else v
  | _ => x.rate * (ns : Nat) / 3600000000000

/-- ΔE of a part in mWh: exact but for a relative error of at most 10^-6 that the spec leaves open (11 R315). -/
def State.partEnergy (s : State) (d : TmDef) (x : ThermSrc) (dv : Rat) : Rat × State :=
  let e := Config.freeRat s.fresh
  let eps : Rat := if e > 1 / 1000000 then 1 / 1000000 else if e < -1 / 1000000 then -1 / 1000000 else e
  (thermalEnergy d x.tsup x.tret dv * (1 + eps), { s with fresh := s.fresh + 1 })

/-- Sign of a rational. -/
def ratSign (x : Rat) : Int := if x > 0 then 1 else if x < 0 then -1 else 0

/-- One part of a thermal sample: its run, the registers and the detector memory take it (11 R317, R318). The last
components are ΔV and ΔE of the part. -/
def State.thermPart (s : State) (d : TmDef) (x : ThermSrc) (r : TmRun) (pulses ns : Nat) : State × TmRun × Rat × Rat :=
  let r0 := { r with regs0 := match r.regs0 with | some q => some q | none => some (SMap.get dTm s.mtr.tm d.tm) }
  let dv := d.volume x pulses ns
  let addV : Mtr → Mtr := fun m =>
    if dv > 0 then m.addTm d.tm 2 (toFrac (dv * 1000000)) else if dv < 0 then m.addTm d.tm 3 (toFrac (-dv * 1000000)) else m
  let fw : TmRun → TmRun := fun r => if dv > 0 then
    { r with wsup := r.wsup + x.tsup * dv, wret := r.wret + x.tret * dv, wvol := r.wvol + dv } else r
  if x.err then
    (s.setMtr (if x.volOk then addV s.mtr else s.mtr), { r0 with errNs := r0.errNs + ns }, dv, 0)
  else
    let e := s.partEnergy d x dv
    let de := e.1
    let m := addV e.2.mtr
    let m1 := if de > 0 then m.addTm d.tm 0 (toFrac de) else if de < 0 then m.addTm d.tm 1 (toFrac (-de)) else m
    let t := SMap.get dTmDet m1.tmDet d.tm
    let sg := ratSign de
    let m2 := if sg = 0 then m1 else { m1 with tmDet := SMap.set dTmDet m1.tmDet d.tm { t with lastE := sg } }
    let r1 := if sg ≠ 0 && t.lastE ≠ 0 && decide (t.lastE ≠ sg) then { r0 with signchg := satAdd max16 r0.signchg 1 } else r0
    (e.2.setMtr m2, fw r1, dv, de)

/-- Pulses of a point's flow source stamped in an interval since the last block closure. -/
def TmDef.pulsesIn (d : TmDef) (i : Intv) : Nat := match d.flow with
  | .pulse p => SMap.get dNat i.pulses p
  | _ => 0

def segNs (l : List (Nat × Nat)) : Nat := (l.map (fun p => p.2 - p.1)).sum

/-- The sample of one point over the parts that lie in the intervals, oldest first (11 R319); the time of an interval's
segments is one part. -/
def State.thermOne (s : State) (d : TmDef) (is : List Intv) : State × List Intv × Rat × Rat :=
  let x := s.thermSrc d
  is.foldl (fun (a : State × List Intv × Rat × Rat) (i : Intv) =>
    let ns := segNs i.segs
    match i.tms.find? (fun r => r.tm = d.tm) with
    | none => (a.1, a.2.1 ++ [i], a.2.2.1, a.2.2.2)
    | some r =>
      if ns = 0 && d.pulsesIn i = 0 then (a.1, a.2.1 ++ [i], a.2.2.1, a.2.2.2)
      else
        let p := a.1.thermPart d x r (d.pulsesIn i) ns
        (p.1, a.2.1 ++ [{ i with tms := i.tms.map (fun q => if q.tm = d.tm then p.2.1 else q) }],
          a.2.2.1 + p.2.2.1, a.2.2.2 + p.2.2.2)) (s, [], 0, 0)

/-- Registers of the points at the end of an interval whose thermal part is complete. -/
def Mtr.endTms (m : Mtr) (l : List TmRun) : List TmRun :=
  l.map (fun r => { r with fin := some (SMap.get dTm m.tm r.tm),
                           regs0 := match r.regs0 with | some q => some q | none => some (SMap.get dTm m.tm r.tm) })

/-- The sample of one point, interval by interval, so that each interval's registers at its end are those before the
next interval's part (11 R319). -/
def State.thermAll (s : State) (d : MeterDef) (is : List Intv) : State × List Intv × List (Nat × Rat × Rat) :=
  is.foldl (fun (a : State × List Intv × List (Nat × Rat × Rat)) (i : Intv) =>
    let r := d.tms.foldl (fun (b : State × Intv × List (Nat × Rat × Rat)) (t : TmDef) =>
      let p := b.1.thermOne t [b.2.1]
      (p.1, p.2.1.headD b.2.1, b.2.2 ++ [(t.tm, p.2.2.1, p.2.2.2)])) (a.1, i, [])
    (r.1, a.2.1 ++ [{ r.2.1 with tms := r.1.mtr.endTms r.2.1.tms }], a.2.2 ++ r.2.2)) (s, [], [])

/-! ## Detectors (11 R314) -/

/-- Put bit `i` of a mask. -/
def putBit (m i : Nat) (v : Bool) : Nat := if bitOf m i = v then m else if v then m + 2 ^ i else m - 2 ^ i

/-- The detectors of an owner change; EV040 when one becomes set. -/
def State.detEvent (s : State) (kind index old new : Nat) : State :=
  if (List.range 6).any (fun i => bitOf new i && !(bitOf old i)) then s.raise 40 (kind + index * 256 + new * 65536) else s

/-- The detectors of a point after a sample. -/
def TmDet.after (t : TmDet) (x : ThermSrc) (dv de : Rat) : TmDet :=
  let n := if x.err then 0 else if dv > 0 && decide (de < 0) then satAdd 10 t.neg 1 else 0
  let neg := if !x.err && decide (de ≥ 0) then false else if n ≥ 10 then true else bitOf t.det 1
  { t with det := b2n x.trange + b2n neg * 2 + b2n x.srcBad * 4, neg := n }

/-! ## Block closure: systems (11 R311) -/

/-- What a block gives for one system. -/
structure Block where
  words : List Int
  p : Rat
  det : EmDet
  faulted : Bool
  deriving DecidableEq, Repr

/-- Mean square of a role's physical value. -/
def EmDef.meanSq (d : EmDef) (a : List (Array Int)) (n r : Nat) : Rat :=
  let k := (d.chans.getD r default).unit
  (squareSum (a.getD r #[]) n : Rat) * k * k / (n : Nat)

/-- Mean square of a combination of two or three roles. -/
def EmDef.meanSqSum (d : EmDef) (a : List (Array Int)) (n : Nat) (l : List (Nat × Int)) : Rat :=
  let sq := (List.range n).foldl (fun (acc : Rat) (k : Nat) =>
    let v : Rat := (l.map (fun r => (sampleAt (a.getD r.1 #[]) k * r.2 : Int) * (d.chans.getD r.1 default).unit)).sum
    acc + v * v) 0
  sq / (n : Nat)

/-- The block quantities of a system over `n` samples, n > 0 (11 Table 11-5), with its detectors (Table 11-6). -/
def EmDef.block (d : EmDef) (a : List (Array Int)) (n sat : Nat) (faulted : Bool) (t : EmDet) : Block :=
  let u := d.uNom.toRat
  let ms : Nat → Rat := fun r =>
    if d.four then d.meanSq a n r
    else if r = 1 then d.meanSqSum a n [(0, 1), (2, -1)]
    else if r = 4 then d.meanSqSum a n [(3, -1), (5, -1)]
    else d.meanSq a n r
  let rms : Nat → Int := fun r => ratSqrt (ms r * 1000000)
  let pq : Nat → Rat × Rat := fun k =>
    match d.pairs.find? (fun p => p.1 = k) with
    | some p =>
      let x := d.pairPower a n p
      (x.1 / (n : Nat), x.2 / (n : Nat))
    | none => (0, 0)
  let p := (pq 0).1 + (pq 1).1 + (pq 2).1
  let q := (pq 0).2 + (pq 1).2 + (pq 2).2
  let s2 := p * p + q * q
  let pf : Int := if s2 = 0 then 0 else
    let m := ratSqrt (p * p * 4294967296 / s2)
    if p < 0 then -m else m
  let u0 := if d.four then d.meanSqSum a n [(0, 1), (1, 1), (2, 1)] / 9 else 0
  let c : Nat → List Rat × Bool := fun r =>
    crossings (a.getD r #[]) n (d.chans.getD r default).unit u (t.armed.getD r false)
  let c0 := c 0
  let c1 := c 1
  let c2 := c 2
  let f := freqOf c0.1
  -- detectors
  let meas := if d.four then [0, 1, 2] else [0, 2]
  let lim : Nat → Rat := fun pct => (u * pct / 100) * (u * pct / 100)
  let vl := (List.range 3).map (fun r => meas.contains r &&
    (if decide (ms r < lim d.vlossPct) then true
     else if decide (ms r ≥ lim (d.vlossPct + 5)) then false else t.vloss.getD r false))
  let anyLoss := vl.any id
  let order := phaseOrder c0.1 c1.1 c2.1
  let threeUp := d.four && !anyLoss && decide (order.length > 2)
  let rev := threeUp && followsOrder 2 order
  let fwd := threeUp && followsOrder 1 order
  let sb := if rev then satAdd 3 t.seqBad 1 else 0
  let sg := if fwd then satAdd 3 t.seqGood 1 else 0
  let seq := if sb ≥ 3 then true else if sg ≥ 3 then false else bitOf t.det 1
  let nb := if d.four && !anyLoss && decide (u0 > lim d.nthrPct) then satAdd 3 t.neuBad 1 else 0
  let ng := if decide (u0 * 4 < lim d.nthrPct) then satAdd 3 t.neuGood 1 else 0
  let neu := d.four && (if nb ≥ 3 then true else if ng ≥ 3 then false else bitOf t.det 2)
  let det := b2n anyLoss + b2n seq * 2 + b2n neu * 4 + b2n (decide (sat ≠ 0)) * 8 + b2n faulted * 16 +
    b2n (decide (f < 45000) || decide (f > 65000)) * 32
  { words := [f, rms 0, rms 1, rms 2, rms 3, rms 4, rms 5, ratRnd (pq 0).1, ratRnd (pq 1).1, ratRnd (pq 2).1,
              ratRnd (pq 0).2, ratRnd (pq 1).2, ratRnd (pq 2).2, ratRnd p, ratRnd q, ratSqrt s2, pf, ratSqrt (u0 * 1000000)],
    p := p,
    det := ⟨det, vl, sb, sg, nb, ng, [c0.2, c1.2, c2.2], if ratSign p = 0 then t.lastP else ratSign p⟩,
    faulted := faulted }

/-- A 64-bit value as two words, low first. -/
def twoWords (n : Nat) : List Word := [BitVec.ofNat 32 n, BitVec.ofNat 32 (n / 2 ^ 32)]

/-- The item of a system (11 Table 11-7). -/
def emItem (m : Mtr) (e det : Nat) (q : List Int) : List Word :=
  [BitVec.ofNat 32 det] ++ q.map satWord ++ [0] ++ (SMap.get dEm m.em e).flatMap (fun h => twoWords h.val) ++
    List.replicate 32 0

/-- One system at a block closure over [a, c): detectors, sign changes, item (11 R311, R314, R320, R327). -/
def State.emBlock (s : State) (d : EmDef) (x : EmSamples) (a c : Nat) : State :=
  let k0 := firstSample a
  let n := firstSample c - k0
  let arr := s.mtr.emArrays d x k0 n
  let flt := d.chans.any (fun ch => match ch.md with
    | some i => meetsSpan (SMap.get dSpans s.mtr.flt i) a c
    | none => false)
  let t := SMap.get dEmDet s.mtr.emDet d.em
  if n = 0 then
    -- no sample in the block: its quantities have no stated value (DESIGN CHOICE, log entry 3)
    let r := (List.range 18).foldl (fun (r : List Int × State) (_ : Nat) =>
      let f := r.2.freshNat
      (r.1 ++ [(f.1 : Int)], f.2)) ([], s)
    r.2.setMtr { r.2.mtr with emPub := SMap.set dPub r.2.mtr.emPub d.em (emItem r.2.mtr d.em t.det r.1, .void) }
  else
    let b := d.block arr.1 n arr.2.1 flt t
    let sc := decide (ratSign b.p ≠ 0) && decide (t.lastP ≠ 0) && decide (t.lastP ≠ ratSign b.p)
    let m1 := { s.mtr with emDet := SMap.set dEmDet s.mtr.emDet d.em b.det,
                           emPub := SMap.set dPub s.mtr.emPub d.em (emItem s.mtr d.em b.det.det b.words,
                             if flt then .void else .good),
                           cur := s.mtr.cur.map (fun i => { i with ems := i.ems.map (fun r => if r.em = d.em then
                             { r with signchg := if sc then satAdd max16 r.signchg 1 else r.signchg,
                                      evmask := r.evmask ||| b.det.det } else r) }) }
    (s.setMtr m1).detEvent 1 d.em t.det b.det.det

/-! ## Block closure: points and balance (11 R315, R320) -/

/-- The current ERRTIME of a point in s. -/
def Mtr.errS (m : Mtr) (t : Nat) : Int := match m.cur with
  | none => 0
  | some i => match i.tms.find? (fun r => r.tm = t) with
    | some r => rndDiv r.errNs 1000000000
    | none => 0

/-- Item and detectors of a point after its sample over `ns`: ΔV and ΔE of the whole window. The thermal power of an
error sample has no stated value (DESIGN CHOICE, log entry 3). -/
def State.tmItem (s : State) (d : TmDef) (x : ThermSrc) (ns : Nat) (dv de : Rat) : State :=
  let t := SMap.get dTmDet s.mtr.tmDet d.tm
  let t1 := t.after x dv de
  let f := s.freshNat
  let open1 := x.err || decide (ns = 0)
  let s1 := if open1 then f.2 else s
  let pw : Int := if open1 then (f.1 : Int) else ratRnd (de * (36 / 10) / ((ns : Nat) / (1000000000 : Rat)))
  let rate : Int := match d.flow with
    | .pulse _ => if ns = 0 then (f.1 : Int) else ratRnd (dv * 1000 * 3600000000000 / (ns : Nat))
    | _ => ratRnd (x.rate * 1000)
  let w : List Word := [BitVec.ofNat 32 t1.det, satWord rate, satWord (ratRnd (x.tsup * 65536)),
    satWord (ratRnd (x.tret * 65536)), satWord pw, 0] ++ (SMap.get dTm s1.mtr.tm d.tm).flatMap (fun h => twoWords h.val) ++
    [satWord (s1.mtr.errS d.tm), 0]
  let m := { s1.mtr with tmDet := SMap.set dTmDet s1.mtr.tmDet d.tm t1,
                         tmPub := SMap.set dPub s1.mtr.tmPub d.tm (w, if x.err then .void else .good),
                         cur := s1.mtr.cur.map (fun i => { i with tms := i.tms.map (fun r => if r.tm = d.tm then
                           { r with evmask := r.evmask ||| t1.det } else r) }) }
  (s1.setMtr m).detEvent 2 d.tm t.det t1.det

/-- The loss integral of each interval takes its part of the block (11 R330). -/
def addLoss (rate : Rat) (i : Intv) : Intv :=
  { i with bal := i.bal.map (fun b => { b with loss := b.loss + rate * (segNs i.segs : Nat) / 3600000 }) }

/-- A block closes at DT `c` (11 R311, R315, R320, R326, R330). -/
def State.closeBlock (s0 : State) (d : MeterDef) (sys : List EmSamples) (c : Nat) : State :=
  let s := s0.intvTo c
  match s.mtr.cur with
  | none => s
  | some i =>
    let a := s.mtr.blockStart
    let cur := { i with segs := s.mtr.segTo c i }
    let due := s.mtr.wait.filter (fun w => !w.thermDone)
    let done := s.mtr.wait.filter (fun w => w.thermDone)
    let loss : Rat := match d.loss with | some src => (s.mtrSrc src).1 | none => 0
    let all := due ++ [cur]
    let ns := (all.map (fun w => segNs w.segs)).sum
    let r := s.thermAll d all
    let is := (r.2.1.map (addLoss loss)).map (fun w => { w with segs := [], pulses := [] })
    let wait := (is.take due.length).map (fun w => { w with thermDone := true })
    let last := match is.getLast? with
      | some w => some { w with tms := w.tms.map (fun t => { t with fin := none }) }
      | none => none
    let s1 := r.1.setMtr { r.1.mtr with wait := done ++ wait, cur := last, segFrom := some c, blockStart := c,
                                        pubDt := some c, balPub := r.1.mtr.balNow }
    let s2 := d.ems.foldl (fun (s : State) (e : EmDef) =>
      s.emBlock e ((sys.find? (fun q => q.em = e.em)).getD (noSamples e.em)) a c) s1
    let s3 := d.tms.foldl (fun (s : State) (t : TmDef) =>
      let ps := r.2.2.filter (fun p => p.1 = t.tm)
      s.tmItem t (s0.thermSrc t) ns (ps.map (fun p => p.2.1)).sum (ps.map (fun p => p.2.2)).sum) s2
    s3.setMtr (s3.mtr.pruneSpans (min c (s3.mtr.perEnd - periodNs)))

/-- MTR_BLOCK (11 R311): `sys` holds the samples of the block, `done` whether the items crossed before the end tick. -/
def mtrBlockCell (s : State) (e : Nat) (sys : List EmSamples) (done : Bool) : State :=
  s.withCell e (fun r => r = 0x0C) (some .mtr) (fun x s1 => match s1.meter? with
    | none => s1
    | some d =>
      if s1.mtr.running then
        let s2 := s1.closeBlock d sys (s.cellStart x s.comb.k)
        let s3 := s2.setMtr { s2.mtr with missing := !done }
        if done then s3 else s3.leaveOpen e 0x0C []
      else s1)

def execMtrBlockCell (e : Nat) (sys : List EmSamples) (done : Bool) (s : State) : Host.Outcome State Fault Refusal :=
  .next (mtrBlockCell s e sys done)

/-! ## Records (11 R327, R328, R330) -/

/-- An interval energy or volume: register difference modulo 2^64. -/
def regDiff (a b : Honey) : Nat := (b.val + 2 ^ 64 - a.val) % 2 ^ 64

def rflags (late merged untr err : Bool) (fl : RunFlags) : Nat :=
  b2n late + b2n fl.partial_ * 2 + b2n fl.step * 4 + b2n merged * 8 + b2n untr * 16 + b2n fl.gap * 32 +
    b2n fl.honeyLost * 64 + b2n err * 128

/-- A record of 192 bytes from its common part and body (11 Table 11-9). -/
def intvRecord (kind index fl seq start stop : Nat) (body : List Byte) : List Byte :=
  let b := (leBytes 1 kind ++ leBytes 1 index ++ leBytes 2 fl ++ leBytes 4 seq ++ leBytes 8 start ++ leBytes 8 stop ++
    body ++ zeros 164).take 188
  b ++ leBytes 4 (crc32 b).toNat

/-- The net of two interval quantities, signed. -/
def netOf (l : List Nat) : Int := toSigned 64 (ofSigned 64 ((l.getD 0 0 : Int) - (l.getD 1 0 : Int)))

def s64 (x : Int) : List Byte := leBytes 8 (ofSigned 64 x)

/-- The body of a system record (11 Table 11-10). -/
def EmRun.body (r : EmRun) (now : List Honey) : List Byte :=
  let fin := r.fin.getD now
  let e := (List.range 6).map (fun i => regDiff (r.regs0.getD i dHoney) (fin.getD i dHoney))
  e.flatMap (leBytes 8) ++ s64 (netOf e) ++ fin.flatMap (fun h => leBytes 8 h.val) ++ leBytes 4 r.errsmp ++
    leBytes 2 r.signchg ++ leBytes 2 r.evmask ++ fin.flatMap (fun h => leBytes 1 h.wrap) ++ leBytes 2 0

/-- The four interval quantities of a point. -/
def TmRun.diffs (r : TmRun) (now : List Honey) : List Nat :=
  let fin := r.fin.getD now
  let r0 := r.regs0.getD fin
  (List.range 4).map (fun i => regDiff (r0.getD i dHoney) (fin.getD i dHoney))

/-- The body of a point record; the averages of an interval without forward volume have no stated value, `f` and `g`
stand for them (DESIGN CHOICE, log entry 3). -/
def TmRun.body (r : TmRun) (now : List Honey) (f g : Nat) : List Byte :=
  let fin := r.fin.getD now
  let e := r.diffs now
  let avg : Rat → Nat → List Byte := fun w x => if r.wvol = 0 then leBytes 4 x else leBytes 4 (ofSigned 32 (satInt (ratRnd (w / r.wvol * 65536))))
  leBytes 8 (e.getD 0 0) ++ leBytes 8 (e.getD 1 0) ++ s64 (netOf e) ++ leBytes 8 (e.getD 2 0) ++ leBytes 8 (e.getD 3 0) ++
    fin.flatMap (fun h => leBytes 8 h.val) ++ avg r.wsup f ++ avg r.wret g ++
    leBytes 4 (min (rndDiv r.errNs 1000000).toNat max32) ++ leBytes 2 r.signchg ++ leBytes 2 r.evmask ++
    fin.flatMap (fun h => leBytes 1 h.wrap)

/-- EXPORT, IMPORT, STORAGE, LOSS and RESIDUAL of an interval in mWh (11 R330). -/
def Intv.balance (i : Intv) (m : Mtr) (b : BalRun) : List Int :=
  let net : Nat → Int := fun role => ((i.tms.filter (fun r => decide (r.medium = 1) && decide (r.role = role))).map
    (fun r => netOf (r.diffs (SMap.get dTm m.tm r.tm)))).sum
  let ex := net 1
  let im : Int := b.imp * 1000
  let st := net 2
  let lo := ratRnd b.loss
  [ex, im, st, lo, ex - im - st - lo]

/-- The body of the balance record. -/
def balBody (q : List Int) (counted none_ : Nat) : List Byte := q.flatMap s64 ++ leBytes 4 counted ++ leBytes 4 none_

/-- A record joins the archive (11 R328). -/
def Mtr.archive (m : Mtr) (r : List Byte) (late : Bool) : Mtr :=
  { m with arch := (r :: m.arch).take 32768, archSeq := (m.archSeq + 1) % 2 ^ 32,
           lateCnt := if late then satAdd max16 m.lateCnt 1 else m.lateCnt }

/-- The balance of an interval is written, published with the next block, and judged (11 R314, R330). -/
def State.writeBal (s : State) (d : Option MeterDef) (i : Intv) (b : BalRun) : State :=
  let q := i.balance s.mtr b
  let none_ := (i.ctrs.filter (fun n => !(b.answered.contains n))).length
  let m := s.mtr
  let rec_ := intvRecord 3 0 (rflags i.late i.merged i.untrusted false b.fl) (m.archSeq + 1) b.start i.stop
    (balBody q b.counted.length none_)
  let kwh : Int → Int := fun x => rndDiv x 1000000
  let res := q.getD 4 0
  let bal := match d with
    | some d => decide ((res.natAbs : Rat) > d.balThr.toRat * 1000000)
    | none => false
  let m1 := {
      (m.archive rec_ i.late) with
      balRes := satInt (kwh res), bal := bal, balClosed := true,
      balNow := [BitVec.ofNat 32 (b2n bal)] ++ twoWords (b.start / 1000000000) ++ q.map (fun x => satWord (kwh x)) ++
        [BitVec.ofNat 32 none_] ++ List.replicate 7 0 }
  (s.setMtr m1).detEvent 3 0 (b2n m.bal) (b2n bal)

/-- Records of an interval: its systems, its points, its balance. -/
def Intv.records (i : Intv) : Nat := i.ems.length + i.tms.length + (match i.bal with | some _ => 1 | none => 0)

/-- Write the next record of an interval (11 R326, R327). -/
def State.writeNext (s : State) (i : Intv) : State :=
  let m := s.mtr
  match i.ems[i.wrote]? with
  | some r =>
    let b := intvRecord 1 r.em (rflags i.late i.merged i.untrusted (decide (r.errsmp ≠ 0)) r.fl) (m.archSeq + 1) r.start i.stop
      (r.body (SMap.get dEm m.em r.em))
    s.setMtr (m.archive b i.late)
  | none => match i.tms[i.wrote - i.ems.length]? with
    | some r =>
      let f := s.freshNat
      let g := f.2.freshNat
      let s1 := if r.wvol = 0 then g.2 else s
      let b := intvRecord 2 r.tm (rflags i.late i.merged i.untrusted (decide (r.errNs ≠ 0)) r.fl) (m.archSeq + 1) r.start i.stop
        (r.body (SMap.get dTm m.tm r.tm) f.1 g.1)
      s1.setMtr (s1.mtr.archive b i.late)
    | none => match i.bal with
      | some b => s.writeBal s.meter? i b
      | none => s

/-- The first waiting interval with a record to write. -/
def Mtr.nextOpen (m : Mtr) : Option (Nat × Intv) :=
  (m.wait.zipIdx.find? (fun p => p.1.begun && p.1.thermDone && decide (p.1.wrote < p.1.records))).map (fun p => (p.2, p.1))

/-- Write up to `n` records of the closures that have begun. -/
def State.writeRecords : Nat → State → State
  | 0, s => s
  | n + 1, s => match s.mtr.nextOpen with
    | none => s
    | some (k, i) =>
      let s1 := s.writeNext i
      State.writeRecords n (s1.setMtr { s1.mtr with wait := updAt s1.mtr.wait k (fun x => { x with wrote := x.wrote + 1 }) })

/-- MTR_INTV (11 R326): closures begin or resume; `records` of them are written before the cell's end. -/
def mtrIntvCell (s : State) (e records : Nat) : State :=
  s.withCell e (fun r => r = 0x0D) (some .mtr) (fun _ s1 =>
    let m := { s1.mtr with wait := s1.mtr.wait.map (fun i => if i.thermDone then { i with begun := true } else i) }
    let s2 := State.writeRecords records (s1.setMtr m)
    let left := s2.mtr.wait.filter (fun i => !(i.begun && decide (i.records ≤ i.wrote)))
    let s3 := s2.setMtr { s2.mtr with wait := left.map (fun i => if i.begun then { i with late := true } else i) }
    if left.any (fun i => i.begun) then s3.leaveOpen e 0x0D [] else s3)

def execMtrIntvCell (e : Nat) (records : Nat) (s : State) : Host.Outcome State Fault Refusal := .next (mtrIntvCell s e records)

/-! ## Station counters (11 R329) -/

/-- A valid answer of a counter station, received at `t`, with its input bytes. -/
def State.counterAnswer (s : State) (n t : Nat) (data : List Byte) : State := match s.meter? with
  | none => s
  | some d => match d.ctrs.find? (fun c => c.stn = n) with
    | none => s
    | some c =>
      let v := leNat ((data.drop c.ofs).take 4)
      let old : Option Nat := SMap.get dOpt s.mtr.base n
      let m := { s.mtr with base := SMap.set dOpt s.mtr.base n (some v) }
      let add : BalRun → BalRun := fun b =>
        let b1 := { b with answered := if b.answered.contains n then b.answered else n :: b.answered }
        match old with
        | none => b1
        | some o => { b1 with imp := b1.imp + (v + 2 ^ 32 - o) % 2 ^ 32,
                              counted := if b1.counted.contains n then b1.counted else n :: b1.counted }
      s.setMtr (m.atInstant t (fun i => { i with bal := i.bal.map add }))

/-! ## Breaks in time, program and power (11 R331 to R333) -/

/-- Metering starts or resumes at the current DT: a GAP record opens (11 R333). -/
def State.mtrResume (s : State) : State := match s.meter? with
  | none => s
  | some d =>
    if s.mtr.running then s
    else
      let t := s.tim.dt
      let fl := { RunFlags.none with gap := true, honeyLost := s.mtr.honeyLost && s.mtr.wait.isEmpty && s.mtr.pubDt.isNone }
      s.setMtr { s.mtr with running := true, cur := some (s.newIntv d t fl), segFrom := some t, blockStart := t,
                            perEnd := (t / periodNs + 1) * periodNs, missing := true }

/-- Metering stops at the current DT (11 R333); the accumulation period under way adds nothing (DEDUCED, log entry 46). -/
def State.mtrStop (s0 : State) : State :=
  if !s0.mtr.running then s0
  else
    let t := s0.tim.dt
    let s := s0.intvTo t
    let s1 := match s.meter?, s.mtr.cur with
      | some d, some i =>
        if (i.ems.map (fun (r : EmRun) => r.start) ++ i.tms.map (fun (r : TmRun) => r.start)).all (fun a => decide (t ≤ a)) then s
        else s.turnIntv d t t { RunFlags.none with partial_ := true, gap := true } RunFlags.none
      | _, _ => s
    s1.setMtr { s1.mtr with running := false, cur := none, segFrom := none, missing := true }

/-- A first-lock step from DT `t` to `t'` (11 R332). -/
def State.mtrStepTime (s : State) (t t' : Nat) : State := match s.meter? with
  | none => s
  | some d =>
    if !s.mtr.running then s
    else
      let s1 := (s.intvTo t).turnIntv d t t' { RunFlags.none with step := true } { RunFlags.none with step := true }
      s1.setMtr { s1.mtr with blockStart := t', perEnd := (t' / periodNs + 1) * periodNs }

/-- A system of `a` continues unchanged in `b` (11 R331). -/
def sameEm (a b : MeterDef) (e : EmDef) : Bool :=
  decide (a.intvS = b.intvS) && decide (a.fNom = b.fNom) && b.ems.contains e &&
  e.chans.all (fun c => match c.md with | none => true | some m => decide (a.mckDiv.getD (m / 6) 0 = b.mckDiv.getD (m / 6) 0))

def sameTm (a b : MeterDef) (t : TmDef) : Bool :=
  decide (a.intvS = b.intvS) && decide (a.fNom = b.fNom) && b.tms.contains t

/-- Baselines of counters whose declaration changed are reset (11 R331). -/
def Mtr.swapCtrs (m : Mtr) (a : Option MeterDef) (b : Option MeterDef) : Mtr :=
  let oldL := match a with | some d => d.ctrs | none => []
  let newL := match b with | some d => d.ctrs | none => []
  { m with base := m.base.filter (fun p => (newL.any (fun c => decide (c.stn = p.1) && oldL.contains c))) }

/-- Metering at a swap boundary, DT `t`: `a` is the old declaration, the new image is in use (11 R331). -/
def State.mtrSwap (s0 : State) (a : Option MeterDef) (s' : State) : State :=
  let t := s'.tim.dt
  -- boundaries of the old grid come first
  let m0 := (s0.intvTo t).mtr
  let s := s'.setMtr (m0.swapCtrs a s'.meter?)
  match a, s.meter? with
  | none, none => s
  | none, some _ =>
    let s1 := s.mtrResume
    s1.setMtr { s1.mtr with cur := s1.mtr.cur.map (fun i =>
      let fl : RunFlags → RunFlags := fun f => { f with gap := false, partial_ := match s.meter? with
        | some d => decide (t % d.lenNs ≠ 0)
        | none => false }
      { i with ems := i.ems.map (fun r => { r with fl := fl r.fl }), tms := i.tms.map (fun r => { r with fl := fl r.fl }),
               bal := i.bal.map (fun b => { b with fl := fl b.fl }) }) }
  | some _, none =>
    match s.mtr.cur with
    | none => s
    | some i =>
      let fl : RunFlags → RunFlags := fun f => { f with partial_ := true }
      let j := { i with stop := t, segs := s.mtr.segTo t i,
                        ems := s.mtr.endEms t (i.ems.map (fun r => { r with fl := fl r.fl })),
                        tms := i.tms.map (fun r => { r with fl := fl r.fl }), bal := i.bal.map (fun b => { b with fl := fl b.fl }) }
      let whole := (match i.bal with | some b => decide (t ≤ b.start) | none => false)
      let m := if whole then s.mtr else s.mtr.pushWait j
      s.setMtr { m with running := false, cur := none, segFrom := none, missing := true }
  | some old, some new =>
    match s.mtr.cur with
    | none => s
    | some i =>
      let keepE : EmRun → Bool := fun r => old.ems.any (fun e => decide (e.em = r.em) && sameEm old new e)
      let keepT : TmRun → Bool := fun r => old.tms.any (fun e => decide (e.tm = r.tm) && sameTm old new e)
      let atB := match i.bal with | some b => decide (t ≤ b.start) | none => false
      let part := decide (t % new.lenNs ≠ 0)
      let fl : RunFlags := { RunFlags.none with partial_ := part }
      let changed := i.ems.any (fun r => !keepE r) || i.tms.any (fun r => !keepT r)
      let close := changed && !atB
      let j := { i with stop := t, segs := s.mtr.segTo t i,
                        ems := s.mtr.endEms t ((i.ems.filter (fun r => !keepE r)).map (fun r => { r with fl := { r.fl with partial_ := true } })),
                        tms := (i.tms.filter (fun r => !keepT r)).map (fun r => { r with fl := { r.fl with partial_ := true } }),
                        bal := i.bal.map (fun b => { b with fl := { b.fl with partial_ := true } }) }
      let m := if close then s.mtr.pushWait j else s.mtr
      let cur : Intv := { i with
        stop := new.gridEnd t,
        ems := new.ems.map (fun e => match i.ems.find? (fun r => decide (r.em = e.em) && keepE r) with
          | some r => r
          | none => m.newEm e t fl),
        tms := new.tms.map (fun e => match i.tms.find? (fun r => decide (r.tm = e.tm) && keepT r) with
          | some r => r
          | none => newTm e t fl),
        bal := if close then some ⟨t, fl, 0, 0, [], []⟩ else i.bal,
        ctrs := new.ctrs.map (fun c => c.stn) }
      s.setMtr { m with cur := some cur }

/-! ## Register reads (11 R323, R336) -/

/-- The honey register that a legacy register shows: offset within BAR0 (11 Table 11-14). -/
def Mtr.legacyAt (m : Mtr) (off : Nat) : Option Honey :=
  if 0x8400 ≤ off && off < 0x84C0 && off % 4 = 0 then
    let k := (off - 0x8400) / 4
    some ((SMap.get dEm m.em (k / 6)).getD (k % 6) dHoney)
  else if 0x8500 ≤ off && off < 0x8900 && off % 4 = 0 then
    let k := (off - 0x8500) / 4
    some ((SMap.get dTm m.tm (k / 2)).getD (k % 2) dHoney)
  else none

/-- A read of a legacy register latches its LWRAP (11 R323). -/
def legacyRead (s : State) (off : Nat) : State := if !s.barOk then s else match s.mtr.legacyAt off with
  | none => s
  | some h => s.setMtr { s.mtr with lwrapLat := h.lwrap }

def execLegacyRegisterRead (off : Nat) (s : State) : Host.Outcome State Fault Refusal := .next (legacyRead s off)

/-- The number of the current metering interval. -/
def State.intvNo (s : State) : Nat := match s.meter? with
  | some d => if d.lenNs = 0 then 0 else s.tim.dt / d.lenNs
  | none => 0

/-- A read of MTR_INTVLO latches MTR_INTVHI (11 R336). -/
def mtrIntvloRead (s : State) : State :=
  if !s.barOk then s else s.setMtr { s.mtr with intvHi := s.intvNo / 2 ^ 32 % 2 ^ 32 }

def execMtrIntvloRead (s : State) : Host.Outcome State Fault Refusal := .next (mtrIntvloRead s)

end Sys2Proof.Machine
end

