-- ==== Sys2Proof/Machine/Stations.lean ====
section
/-!
DEFINITION. Sys2Proof/Machine/Stations.lean: the exchange of the stations (10): Read and Write cells, slots, polls,
answers, WRITEs, and what the end tick of a station cell does.
-/
namespace Sys2Proof.Machine

/-! ## End ticks (03 R77, R80, R83; 10 R293, R296; 12 R349) -/

/-- A frame of the cell still ARMED at the end tick is late (12 R349, 10 R293). -/
def State.lateCan (s : State) (c : Nat) (o : CanObj) : CanObj := match o.use with
  | .write n _ pd => { o with late := true, data := s.lateWrite c n pd o.data }
  | _ => { o with late := true }

def EthFrm.isWrite (f : EthFrm) : Option Nat := match f.use with
  | .write n _ _ => some n
  | _ => none

def CanObj.isWrite (o : CanObj) : Option Nat := match o.use with
  | .write n _ _ => some n
  | _ => none

/-- The end tick on a CAN channel: frames of the cell still ARMED become late, a frame in TX is noted. -/
def State.endCanCell (s : State) (c e : Nat) : State :=
  let x := s.canCh c
  let hit : CanObj → Bool := fun o => decide (o.e = e) && !o.late && decide (o.use ≠ .host)
  let n := (x.armed.filter hit).length
  let s1 := s.setCan c { x with
    armed := x.armed.map (fun o => if hit o then s.lateCan c o else o)
    tx := x.tx.map (fun o => if decide (o.e = e) then { o with ended := true } else o)
    late := satAdd max16 x.late n }
  ((x.armed.filter hit).filterMap (fun o => o.isWrite)).foldl (fun s k => s.writeFails k) s1

/-- The end tick `t` at a port. -/
def State.endEthCell (s : State) (p e t : Nat) : State :=
  let link := 0x40 + p
  let x := s.port p
  let back := match x.busy with
    | some (f, start) => f.e = e && !f.late && decide (t ≤ start) && decide (f.isWrite.isSome || (match f.use with | .poll .. => true | _ => false))
    | none => false
  let wfp := (if back then (match x.busy with | some (f, _) => [f] | none => []) else []) ++ x.wfp
  let hit : EthFrm → Bool := fun f => decide (f.e = e) && !f.late
  let lateOf : EthFrm → EthFrm := fun f => match f.use with
    | .write n _ pd => { f with late := true, data := s.lateWrite link n pd f.data }
    | _ => { f with late := true }
  let n := (wfp.filter hit).length
  let s1 := s.setPort p { x with
    wfp := (wfp.filter (fun f => f.late)) ++ ((wfp.filter (fun f => !f.late)).map (fun f => if hit f then lateOf f else f))
    busy := if back then none else x.busy.map (fun b => if decide (b.1.e = e) then ({ b.1 with ended := true }, b.2) else b)
    late := satAdd max16 x.late n }
  ((wfp.filter hit).filterMap (fun f => f.isWrite)).foldl (fun s k => s.writeFails k) s1

/-- A frame of the cell is still pending, or a completion came at or after the end tick. -/
def State.cellPending (s : State) (k : StnCell) : Bool :=
  if linkIsCan k.link then
    let x := s.canCh k.link
    x.armed.any (fun o => decide (o.e = k.e) && !o.late && decide (o.use ≠ .host)) ||
      (match x.tx with | some o => decide (o.e = k.e) && decide (o.use ≠ .host) && !o.late | none => false)
  else
    let x := s.port (k.link - 0x40)
    x.wfp.any (fun f => decide (f.e = k.e) && !f.late) ||
      (match x.busy with | some b => decide (b.1.e = k.e) && !b.1.late | none => false)

/-- The WRITE of a station is on its link and began before its cell ended (10 R293). -/
def State.writeInTx (s : State) (n : Nat) : Bool :=
  s.can.ch.any (fun x => match x.tx with
    | some o => decide (o.isWrite = some n) && o.ended && !o.late
    | none => false) ||
  s.eth.ports.any (fun x => match x.busy with
    | some b => decide (b.1.isWrite = some n) && b.1.ended && !b.1.late
    | none => false)

/-- Complete the exchange of a station, unless its WRITE is in transmission (10 R296). -/
def State.completeExchange (s : State) (d : StnDef) : State :=
  if s.writeInTx d.stn then s else s.endExchange d

/-- The last slot of a Read cell is over: all groups were served and the last one answered or its allowance passed. -/
def StnCell.served (k : StnCell) (s : State) : Bool :=
  k.groups.isEmpty && (match k.slot with
    | none => true
    | some (g, close, polled) => decide (close < k.stop) ||
        (polled && (s.members g).all (fun d => match s.stnSt? d.stn with
          | some x => (match x.win with | some w => w.answered | none => false)
          | none => false)))

/-- The end tick of a station cell. -/
def State.endStnCell (s : State) (k : StnCell) : State :=
  let s0 := s.advanceTo k.stop
  let k1 := (s0.stn.cells.find? (fun x => decide (x.e = k.e))).getD k
  let ovr := k1.ovr || s0.cellPending k1 || (k1.read && !(k1.served s0))
  let s1 := { s0 with stn := { s0.stn with cells := s0.stn.cells.filter (fun x => x.e ≠ k.e) } }
  let s2 := if linkIsCan k.link then s1.endCanCell k.link k.e else (s1.endEthCell (k.link - 0x40) k.e k.stop)
  let s3 := if k.read then s2 else
    (s2.stnDefs.filter (fun d => match s2.stnSt? d.stn with
      | some x => (match x.exch with | some e => decide (e.e = k.e) | none => false)
      | none => false)).foldl (fun s d => s.completeExchange d) s2
  if ovr then s3.countOverrun k.e (match s3.entries[k.e]? with | some x => x.res | none => 0) else s3

/-- End the station cells whose end tick lies before `t`, in order of their end ticks. -/
def State.endStnCells (s : State) (t : Nat) : State :=
  (s.stn.cells.filter (fun k => decide (k.stop < t))).foldl (fun s k => s.endStnCell k) s

/-- End the station cells whose end tick is at most `t`: at the start of another cell, a boundary, a stop. -/
def State.endStnCellsTo (s : State) (t : Nat) : State := s.endStnCells (t + 1)

/-! ## Judging received messages (10 R290, R291, R300) -/

def WfpMsg.field (m : WfpMsg) : Nat := leNat ((m.bytes.drop 2).take 2)

/-- A frame the device counts in STN_BADFRM whatever its sender (10 R287, R300). -/
def WfpMsg.malformed (m : WfpMsg) : Bool :=
  decide (m.bytes.length < 8) || decide ((m.bytes.getD 0 0).toNat ≠ msgAnswer) || bitOf m.field 15 ||
  (match m.src with
   | .can type _ fd => decide (type ≠ 2) || !fd
   | .udp _ _ ok => !ok)

/-- The station at the sender's address. -/
def State.senderOf (s : State) (m : WfpMsg) : Option StnDef :=
  s.stnDefs.find? (fun d => match s.groupDef? d.group with
    | none => false
    | some g => decide (g.link = m.link) && (match m.src with
      | .can _ addr _ => decide (d.addr = addr)
      | .udp ip port _ => decide (d.ip = ip) && decide (d.uport = port)))

/-- The tag of an answer verifies under the entry of the key cache (10 R288). -/
def State.tagOk (s : State) (m : WfpMsg) (d : StnDef) (pollDt : Nat) : Bool :=
  match s.authFor d.auth d.key d.tagLen with
  | .plain => true
  | .lacking => false
  | .key k n =>
    let body := m.bytes.take (m.bytes.length - n)
    decide (wfpTag k m.link pollDt n body = m.bytes.drop (m.bytes.length - n))

/-- Length an answer must have on its link. -/
def StnDef.answerLen (d : StnDef) (link : Nat) : Nat :=
  let n := 8 + d.inLen + d.tagLen
  if linkIsCan link then fdSize n else n

/-- A message that is not malformed is judged against the poll of its station (10 R290). -/
def State.judgeAnswer (s : State) (m : WfpMsg) : State :=
  match s.senderOf m with
  | none => s.countUndecl
  | some d =>
    if m.field % 4096 ≠ d.stn then s.countUndecl
    else match (s.stnSt? d.stn).bind (fun x => x.win) with
      | none => s.countBadSeq
      | some w =>
        let seq := leNat ((m.bytes.drop 4).take 2)
        if seq ≠ w.seq then s.countBadSeq
        else if (m.bytes.getD 1 0).toNat ≠ d.inLen || m.bytes.length ≠ d.answerLen m.link then s.countBadFrm
        else if bitOf m.field 12 ≠ d.auth || !(s.tagOk m d w.pollDt) then s.countAuthFail
        else if m.t < w.start || (match w.stop with | some e => decide (e ≤ m.t) | none => false) || w.answered then s.countBadSeq
        else
          let data := (m.bytes.drop 8).take d.inLen
          let a : StnAns := ⟨data, m.t, leNat ((m.bytes.drop 6).take 2), bitOf m.field 13, bitOf m.field 14⟩
          (s.updStn d.stn (fun x => { x with cands := x.cands ++ [a], win := some { w with answered := true } })).counterAnswer
            d.stn m.t data

/-- Take a message out of the inbox. -/
def State.takeMsg (s : State) (m : WfpMsg) : State :=
  { s with stn := { s.stn with inbox := s.stn.inbox.erase m } }

def State.judgeMsg (s : State) (m : WfpMsg) : State :=
  let s1 := s.takeMsg m
  if m.malformed then s1.countBadFrm else s1.judgeAnswer m

def State.firstMsg (s : State) (link : Nat) : Option WfpMsg := s.stn.inbox.find? (fun m => decide (m.link = link))

/-- Every message received is judged: its crossing has ended (03 R66). -/
def State.drainInbox (s : State) : State := s.stn.inbox.foldl (fun s m => s.judgeMsg m) s

/-- ANSWER: the first message received on the link, one that is not malformed, reaches the station engine. -/
def answer (s : State) (link : Nat) : State := match s.firstMsg link with
  | none => s
  | some m => if m.malformed || !(s.runs .field) then s else (s.takeMsg m).judgeAnswer m

def execAnswer (link : Nat) (s : State) : Host.Outcome State Fault Refusal := .next (answer s link)

/-- MALFORMED_WFP_FRAME: the first message received on the link is one that R300 counts in STN_BADFRM. -/
def malformedWfp (s : State) (link : Nat) : State := match s.firstMsg link with
  | none => s
  | some m => if m.malformed && s.runs .field then (s.takeMsg m).countBadFrm else s

def execMalformedWfpFrame (link : Nat) (s : State) : Host.Outcome State Fault Refusal := .next (malformedWfp s link)

/-! ## Read cells (10 R289) -/

/-- A Read cell of a station resource opens: the chain of its head is to be served. -/
def State.openRead (s : State) (e : Nat) (x : CombEntry) (link : Nat) : State :=
  let s0 := s.endStnCellsTo s.tim.dt
  let stop := s0.cellEnd x s0.comb.k
  let c : StnCell := ⟨e, link, true, stop, (s0.chain x.act).map (fun g => g.group), none, false⟩
  { s0 with stn := { s0.stn with cells := s0.stn.cells ++ [c], readHeads := s0.stn.readHeads ++ [(x.act, stop)] } }

def stationReadCell (s : State) (e : Nat) : State :=
  s.withCell e (fun r => (linkOf r).isSome) (some .field) (fun x s1 =>
    if x.cphase = 1 then match linkOf x.res with
      | some l => s1.openRead e x l
      | none => s1
    else s1)

def execStationReadCell (e : Nat) (s : State) : Host.Outcome State Fault Refusal := .next (stationReadCell s e)

/-- The identifier of a WFP frame on CAN (10 Table 10-6). -/
def GroupDef.wfpId (g : GroupDef) (type addr : Nat) : Nat :=
  if g.ext then type * 2 ^ 26 + g.netid * 256 + addr else type * 256 + addr

/-- Arm the GPOLL of a group; the second part says whether it was armed (10 R285, R288; 12 R342). -/
def State.armGpoll (s : State) (g : GroupDef) (e seq : Nat) : State × Bool :=
  match s.canDef? g.link with
  | none => (s, false)
  | some c => match s.authFor g.authPoll g.gkey g.tagLen with
    | .lacking => (s.countAuthFail, false)
    | a =>
      let pd := s.tim.dt
      let msg := wfpMessage g.link msgGpoll g.group seq (leBytes 8 pd) a.pair pd
      match s.armCan g.link ⟨.gpoll g.group seq pd, g.ext, true, c.brsEn, false, g.wfpId 1 255, msg, 0, false, e, false⟩ with
      | some s1 => (s1, true)
      | none => (s.countNoobj g.link, false)

/-- Arm the POLLs of a group on UDP, in ascending STN (10 R289). -/
def State.armPolls (s : State) (g : GroupDef) (e seq : Nat) : State × Bool :=
  let pd := s.tim.dt
  (s.members g.group).foldl (fun (p : State × Bool) (d : StnDef) => match p.1.authFor d.auth d.key d.tagLen with
    | .lacking => (p.1.countAuthFail, p.2)
    | a =>
      let msg := wfpMessage g.link msgPoll d.stn seq (leBytes 8 pd) a.pair pd
      (p.1.armEth (g.link - 0x40) ⟨.poll g.group d.stn seq pd, msg, pd + 2000, false, e, false, false⟩, true)) (s, false)

/-- The slot of a group opens now: the poll is armed and the counter of the group advances with it (10, Messages). -/
def State.openSlot (s : State) (k : StnCell) (g : GroupDef) : State :=
  let seq := s.nextSeq g.group
  let pd := s.tim.dt
  let r := if linkIsCan g.link then s.armGpoll g k.e seq else s.armPolls g k.e seq
  let s1 := if r.2 then r.1.setGroup g.group ⟨some seq, pd⟩ else r.1
  { s1 with stn := { s1.stn with cells := s1.stn.cells.map (fun x =>
      if x.e = k.e then { x with groups := x.groups.drop 1, slot := some (g.group, pd + s1.allowance g, r.2) } else x) } }

/-- Every member of a polled group has answered its poll. -/
def State.allAnswered (s : State) (g : Nat) : Bool :=
  (s.members g).all (fun d => match s.stnSt? d.stn with
    | some x => (match x.win with
      | some w => w.answered && decide (some w.seq = (SMap.get dGroup s.stn.groups g).seq)
      | none => false)
    | none => false)

/-- When the slot now open in a cell is over (10 R289). -/
def State.slotOver (s : State) (k : StnCell) : Nat := match k.slot with
  | none => s.tim.dt
  | some (g, close, polled) => if polled && s.allAnswered g then min s.tim.dt close else close

/-- STATION_SLOT_OPEN: the slot of the next group of an open Read cell opens, unless that instant lies at or after the
end tick (10 R289). -/
def stationSlotOpen (s : State) (g : Nat) : State :=
  match s.stn.cells.find? (fun k => k.read && decide (k.groups.head? = some g)) with
  | none => s
  | some k => match s.groupDef? g with
    | none => s
    | some d =>
      let t := s.slotOver k
      if !s.cellsRun || !(s.runs .field) || decide (k.stop ≤ max t s.tim.dt) then s
      else (s.advanceTo t).openSlot k d

def execStationSlotOpen (g : Nat) (s : State) : Host.Outcome State Fault Refusal := .next (stationSlotOpen s g)

/-! ## Write cells (10 R292, R293) -/

/-- The words a WRITE carries: the voted ones, or the safe words while the smoker forces the point (10 R292). -/
def State.writeWords (s : State) (n : Nat) : Option (Nat × Point × List Word) :=
  match s.stnPoint n with
  | none => none
  | some x => match s.vot.voted.find? (fun v => decide (v.1 = x.1)) with
    | none => none
    | some v => some (x.1, x.2, if s.forced x.2 then x.2.safe else v.2)

/-- Arm the WRITE of a station; the second part says whether it was armed. -/
def State.armWrite (s : State) (g : GroupDef) (d : StnDef) (e : Nat) (ws : List Word) : State × Bool :=
  match s.authFor d.auth d.key d.tagLen with
  | .lacking => (s.countAuthFail, false)
  | a =>
    let grp := SMap.get dGroup s.stn.groups g.group
    let seq := grp.seq.getD 0
    let msg := wfpMessage g.link msgWrite d.stn seq (ws.flatMap (fun w => leBytes 4 w.toNat)) a.pair grp.pollDt
    if linkIsCan g.link then match s.canDef? g.link with
      | none => (s, false)
      | some c =>
        match s.armCan g.link ⟨.write d.stn seq grp.pollDt, g.ext, true, c.brsEn, false, g.wfpId 3 d.addr, msg, 0, false, e, false⟩ with
        | some s1 => (s1, true)
        | none => (s.countNoobj g.link, false)
    else (s.armEth (g.link - 0x40) ⟨.write d.stn seq grp.pollDt, msg, s.tim.dt + 2000, false, e, false, false⟩, true)

def State.setWr (s : State) (n : Nat) (w : WrSt) : State :=
  s.updStn n (fun x => { x with exch := x.exch.map (fun e => { e with wr := w }) })

/-- The WRITE of one station in a Write cell (10 R292, R299). -/
def State.writeStn (s : State) (g : GroupDef) (e : Nat) (d : StnDef) : State :=
  match s.stnSt? d.stn with
  | none => s
  | some x => match s.writeWords d.stn with
    | none => s
    | some (i, p, ws) =>
      let counted := match x.exch with | some ex => ex.counted && decide (ex.e = e) | none => false
      let s1 := ({ s with vot := { s.vot with voted := s.vot.voted.filter (fun v => v.1 ≠ i) } }).updStn d.stn
        (fun x => { x with held := false })
      if !counted then s1
      else if x.sim.isSome then { s1 with stn := { s1.stn with simsup := satAdd max32 s1.stn.simsup 1 } }
      else if SMap.get dBit s.vot.hold d.stn then
        { (s1.updStn d.stn (fun x => { x with held := true })) with
          stn := { (s1.updStn d.stn (fun x => { x with held := true })).stn with heldCnt := satAdd max32 s1.stn.heldCnt 1 } }
      else
        let r := ((s1.setWr d.stn .due).drive i p ws).armWrite g d e ws
        if r.2 then r.1 else r.1.writeFails d.stn

/-- A Write cell of a station resource opens (10 R292). -/
def State.openWrite (s : State) (e : Nat) (x : CombEntry) (link : Nat) : State :=
  let s0 := (s.endStnCellsTo s.tim.dt).takeFeeds
  let c : StnCell := ⟨e, link, false, s0.cellEnd x s0.comb.k, [], none, false⟩
  let s1 := { s0 with stn := { s0.stn with cells := s0.stn.cells ++ [c] } }
  (s1.chain x.act).foldl (fun s g => (s.members g.group).foldl (fun s d => s.writeStn g e d) s) s1

def stationWriteCell (s : State) (e : Nat) : State :=
  s.withCell e (fun r => (linkOf r).isSome) (some .field) (fun x s1 =>
    if x.cphase = 6 then match linkOf x.res with
      | some l => s1.openWrite e x l
      | none => s1
    else s1)

def execStationWriteCell (e : Nat) (s : State) : Host.Outcome State Fault Refusal := .next (stationWriteCell s e)

/-- EXCHANGE_COMPLETE: the exchange of a station completes at the end tick of its Write cell, or later when its WRITE
was in transmission there (10 R296). -/
def exchangeComplete (s : State) (n : Nat) : State :=
  match s.stnDef? n, (s.stnSt? n).bind (fun x => x.exch) with
  | some d, some ex =>
    let s1 := match s.stn.cells.find? (fun k => !k.read && decide (k.e = ex.e)) with
      | some k => s.endStnCell k
      | none => s
    if s1.runs .field then s1.completeExchange d else s1
  | _, _ => s

def execExchangeComplete (stn : Nat) (s : State) : Host.Outcome State Fault Refusal := .next (exchangeComplete s stn)

/-! ## CAN events (12 R346 to R351) -/

/-- A CAN controller begins to send the head of its queue. -/
def canTransmitStart (s : State) (c t : Nat) : State :=
  let s1 := s.endStnCells t
  if s1.canMaySend c t then s1.canStart c t else s1

def execCanTransmitStart (ch : Nat) (t : Nat) (s : State) : Host.Outcome State Fault Refusal := .next (canTransmitStart s ch t)

def canTransmitComplete (s : State) (c t : Nat) : State :=
  let s1 := s.endStnCells t
  if s1.canNormal c then s1.canDone c t else s1

def execCanTransmitComplete (ch : Nat) (t : Nat) (s : State) : Host.Outcome State Fault Refusal :=
  .next (canTransmitComplete s ch t)

/-- The frame on the bus loses arbitration: it stays the head of the queue (12 R347). -/
def canArbitrationLost (s : State) (c t : Nat) : State :=
  let s1 := s.endStnCells t
  if s1.canNormal c then (s1.advanceTo t).canBack c else s1

def execCanArbitrationLost (ch : Nat) (t : Nat) (s : State) : Host.Outcome State Fault Refusal :=
  .next (canArbitrationLost s ch t)

def canError (s : State) (c t : Nat) (f : CanFault) : State := (s.endStnCells t).canFault c t f

def execCanError (ch : Nat) (t : Nat) (err : CanFault) (s : State) : Host.Outcome State Fault Refusal := .next (canError s ch t err)

def busOffRecoveryStart (s : State) (c : Nat) : State := s.boffStart c

def execBusOffRecoveryStart (ch : Nat) (s : State) : Host.Outcome State Fault Refusal := .next (busOffRecoveryStart s ch)

def busOffRecoveryEnd (s : State) (c t : Nat) : State := (s.endStnCells t).boffEnd c t

def execBusOffRecoveryEnd (ch : Nat) (t : Nat) (s : State) : Host.Outcome State Fault Refusal := .next (busOffRecoveryEnd s ch t)

/-! ## Entry into RUN, swaps, DORMANT (10 R298, R303; 04 R112) -/

/-- At entry into RUN every declared station is ABSENT with MISS = MISS_LIMIT; accepted simulations stay. -/
def State.stnRun (s : State) : State :=
  let st := s.stnDefs.foldl (fun (m : SMap (Option StnSt)) (d : StnDef) =>
    SMap.set dOpt m d.stn (some { d.fresh with sim := (s.stnSt? d.stn).bind (fun x => x.sim) })) []
  ({ s with stn := { s.stn with st := st, cells := [], readHeads := [], inbox := [] } }).stnCounts

end Sys2Proof.Machine
end

