-- ==== Sys2Proof/Machine/Ring.lean ====
section
/-!
DEFINITION. Sys2Proof/Machine/Ring.lean: the rings of the host interface (16): transfers and their cost, posting,
latching, fetch passes, streams, doorbells, HST cells.
-/
namespace Sys2Proof.Machine

/-! ## Cost of transfers (16 Table 16-9, R428; 03 R65, R73) -/

/-- Time of `c` cycles of the host island in ns: 250 MHz less the assumed down-spread of PLL_AUX. -/
def State.hostNs (s : State) (c : Nat) : Rat :=
  (c : Nat) * (4000 : Rat) / ((1000 - (match s.comb? with | some x => x.spreadAux | none => 0) : Nat) : Rat)

/-- T_RD in ns. -/
def State.tRd (s : State) : Rat := (s.fld 0x38 7 0 * 250 : Nat)

/-- Start a transfer of `c` cycles, with a host read when `rd`: free in continuous service, inside an open HST cell only
when it completes before the cell ends; none otherwise. -/
def State.hostTime (s : State) (c : Nat) (rd : Bool) : Option State :=
  if s.continuous then some s
  else match s.hst.cell with
    | none => none
    | some w =>
      let b := w.busy + s.hostNs c + (if rd then s.tRd else 0)
      if b < (w.stop : Nat) then some { s with hst := { s.hst with cell := some { w with busy := b } } } else none

/-! ## Latching (16 R424) -/

/-- Latch the doorbells of a pair. -/
def Qp.latch (q : Qp) : Qp :=
  if q.kind = 2 then
    { q with released := min q.posted (q.released + (q.headDb + q.size - q.released % q.size) % q.size) }
  else
    { q with latched := q.latched + (q.tailDb + q.size - q.latched % q.size) % q.size,
             released := min q.posted (q.released + (q.headDb + q.size - q.released % q.size) % q.size) }

def State.latchAll (s : State) : State := { s with hst := { s.hst with qps := s.hst.qps.map Qp.latch } }

/-! ## Posting (16 R422, R425, R427, R429) -/

/-- Signal a CQ inside an HST cell, at most once per cell, when the message fits (16 R429). -/
def State.cellSignal (s : State) (id : Nat) : State := match s.qp? id, s.hst.cell with
  | some q, some w =>
    if q.sig && !(w.signalled.contains id) then
      if q.ien then match s.hostTime 8 false with
        | some s1 =>
          let v := s1.hst.cell.map (fun (v : HostWin) => { v with signalled := id :: v.signalled })
          ({ s1 with hst := { s1.hst with cell := v } }.setQp { q with sig := false }).signal q
        | none => s
      else s.setQp { q with sig := false }
    else s
  | _, _ => s

/-- The first `n` completions for one pair without data. -/
def cplRun (qp : Nat) : Nat → List Cpl → Nat
  | 0, _ => 0
  | _, [] => 0
  | n + 1, c :: cs => if c.qp = qp && c.data.isEmpty then 1 + cplRun qp n cs else 0

/-- Largest batch of at most `b` entries whose posting fits. -/
def State.fitBatch (s : State) : Nat → Option (Nat × State)
  | 0 => none
  | b + 1 => match s.hostTime (16 + (b + 1)) false with
    | some s1 => some (b + 1, s1)
    | none => s.fitBatch b

/-- Post waiting completions once: the read-back data of the first one, or a batch of consecutive entries. -/
def postCplOnce (s : State) : Option State :=
  match s.hst.cpls with
  | [] => none
  | c :: cs => match s.qp? c.qp with
    | none => some ({ s with hst := { s.hst with cpls := cs } }.postCpl c)
    | some q =>
      if !c.data.isEmpty then match s.hostTime (16 + (c.data.length + 31) / 32) false with
        | none => none
        | some s1 => some ({ s1 with hst := { s1.hst with cpls := { c with data := [] } :: cs } }.emit
            (.readback c.qp c.cid c.data))
      else match s.fitBatch (min (q.size - q.posted % q.size) (cplRun c.qp (c :: cs).length (c :: cs))) with
        | none => none
        | some (b, s1) =>
          let rest := (c :: cs).drop b
          some (((c :: cs).take b).foldl (fun s x => s.postCpl x) { s1 with hst := { s1.hst with cpls := rest } })

/-- Post waiting events once: a batch of consecutive entries for one ring. -/
def postEventOnce (s : State) : Option State :=
  match s.hst.events with
  | [] => none
  | e :: es =>
    let ring := s.evRing e.n
    let n := ((e :: es).takeWhile (fun x => s.evRing x.n = ring)).length
    match s.fitBatch n with
    | none => none
    | some (b, s1) =>
      let rest := (e :: es).drop b
      some (((e :: es).take b).foldl (fun s x => s.postEvent x) { s1 with hst := { s1.hst with events := rest } })

def State.postAll (s : State) : State :=
  let s1 := iter (2 * s.hst.cpls.length) postCplOnce s
  iter s1.hst.events.length postEventOnce s1

/-! ## Streams (16 R423; 12 R342; 13 R362, R363) -/

/-- A completion of a stream entry. -/
def State.streamCpl (s : State) (qp status res0 res1 dt : Nat) : State :=
  let fate := if (s.qp? qp).isSome then 0 else if s.hst.deleting.any (fun p => decide (p.2 = qp)) then 2 else 1
  s.queueCpl ⟨qp, 0, 0, status, res0, res1, dt, [], fate⟩

/-- A CAN_RX buffer is completed with the objects it gathered. -/
def State.endCanBuf (s : State) (id dt : Nat) : State := match s.qp? id with
  | none => s
  | some q =>
    if q.gathered.isEmpty then s
    else
      let s1 := (s.setQp { q with bufs := q.bufs.drop 1, gathered := [] }).emit (.readback id 0 q.gathered.flatten)
      s1.streamCpl id 0 q.gathered.length 0 dt

/-- The lowest channel of a mask with a host-bound frame waiting. -/
def State.canWaiting (s : State) (mask : Nat) : Option Nat :=
  (List.range 56).find? (fun c => bitOf mask c && !(s.canCh c).rx.isEmpty)

/-- Copy one received frame to the open buffer of a CAN_RX pair. -/
def canRxOnce (id : Nat) (s : State) : Option State := match s.qp? id with
  | none => none
  | some q => match q.bufs, s.canWaiting q.mask with
    | b :: _, some c => match (s.canCh c).rx, s.hostTime 19 false with
      | o :: rest, some s1 =>
        let s2 := (s1.setCan c { (s1.canCh c) with rx := rest }).setQp { q with gathered := q.gathered ++ [o.layout c] }
        some (if (q.gathered.length + 2) * 80 > b.bufLen then s2.endCanBuf id s2.tim.dt else s2)
      | _, _ => none
    | _, _ => none

/-- Copy one received frame to a buffer of an ETH_RX pair. -/
def ethRxOnce (id : Nat) (s : State) : Option State := match s.qp? id with
  | none => none
  | some q => match q.bufs, (List.range 8).find? (fun p => bitOf q.mask p && !(s.port p).rx.isEmpty) with
    | _ :: bs, some p => match (s.port p).rx with
      | (bytes, t, vlan) :: rest => match s.hostTime (16 + (bytes.length + 31) / 32) false with
        | some s1 =>
          let s2 := ((s1.setPort p { (s1.port p) with rx := rest }).setQp { q with bufs := bs }).emit (.readback id 0 bytes)
          some (s2.streamCpl id 0 (bytes.length % 2048 + p * 2 ^ 16 + b2n vlan * 2 ^ 19) t s2.tim.dt)
        | none => none
      | [] => none
    | _, _ => none

/-- Frames received for the host go to the buffers of their streams; in continuous service a partly filled buffer is
completed at once, in RUN at the end of its HST window. -/
def State.copyRx (s : State) : State :=
  s.hst.qps.foldl (fun s q =>
    if q.kind = 3 then
      let t := iter 7168 (canRxOnce q.id) s
      if t.continuous then t.endCanBuf q.id t.tim.dt else t
    else if q.kind = 4 then iter 8192 (ethRxOnce q.id) s
    else s) s

/-- Buffers partly filled in the last HST window were completed at its end (16 R423). -/
def State.closeCan (s : State) : State := match s.hst.cell with
  | some w => if w.stop ≤ s.tim.dt then s.hst.qps.foldl (fun s q => s.endCanBuf q.id w.stop) s else s
  | none => s

/-- A frame of an ETH_TX entry goes to its port, or completes with PORT_DISABLED (16 R423). -/
def State.sendHost (s : State) (id : Nat) (e : SqEntry) : State := match s.ethDef? e.port with
  | none => s.streamCpl id stPortDisabled 0 0 s.tim.dt
  | some d =>
    let p := d.lead
    (s.setPort p { (s.port p) with hostq := (s.port p).hostq ++ [⟨.host id, e.data, s.tim.dt, false, 0, false, false⟩] }).ethPump p

/-- Read the frame of one fetched ETH_TX entry from host memory and send it. -/
def ethTxOnce (id : Nat) (s : State) : Option State := match s.qp? id with
  | none => none
  | some q => match q.bufs with
    | [] => none
    | e :: es => match s.hostTime (32 + (e.bufLen + 31) / 32) true with
      | some s1 => some ((s1.setQp { q with bufs := es }).sendHost id e)
      | none => none

def State.sendTx (s : State) : State :=
  s.hst.qps.foldl (fun s q => if q.kind = 5 then iter q.bufs.length (ethTxOnce q.id) s else s) s

/-! ## Fetch (16 R425, 17 R445) -/

/-- Commands between hand-over and completion, and those about to be handed over. -/
def State.heldCount (s : State) : Nat := s.mgt.held.length + s.mgt.fenceWait.length + s.hst.handover.length

def State.outstanding (s : State) (id : Nat) : Nat := ((s.hst.reads.filter (fun r => r.qp = id)).map (fun r => r.d)).sum

/-- Entries of CMD pairs on their way. -/
def State.cmdReads (s : State) : Nat := ((s.hst.reads.filter (fun r => match s.qp? r.qp with
  | some q => decide (q.kind = 1)
  | none => false)).map (fun r => r.d)).sum

/-- Issue the read of one batch of a pair: none when there is nothing to fetch or it does not fit. -/
def State.issueBatch (s : State) (id : Nat) : Option State := match s.qp? id with
  | none => none
  | some q =>
    let pos := q.fetched + s.outstanding id
    let d0 := min 32 (min (q.latched - pos) (q.size - pos % q.size))
    let d := if q.kind = 1 then min d0 (1024 - (s.heldCount + s.cmdReads)) else d0
    if d = 0 || q.kind = 2 then none
    else match s.hostTime (32 + 2 * d) true with
      | none => none
      | some s1 =>
        let due := match s1.hst.cell with
          | some w => if s1.continuous then s1.tim.dt else w.busy.floor.toNat
          | none => s1.tim.dt
        some { s1 with hst := { s1.hst with reads := s1.hst.reads ++ [⟨id, d, due, false⟩] } }

/-- A fetch pass: doorbells are latched, then every pair is visited in ascending order; none when nothing was issued. -/
def fetchPass (s : State) : Option State :=
  let s0 := s.latchAll
  let r := (List.range 64).foldl (fun (p : State × Bool) (id : Nat) => match p.1.issueBatch id with
    | some s1 => (s1, true)
    | none => p) (s0, false)
  if r.2 then some r.1 else none

/-- Passes repeat while latched entries remain unfetched. -/
def State.fetchPasses (s : State) : State := (iter 131072 fetchPass s).latchAll

/-- The data of a batch have arrived: its entries are fetched (16 R425). -/
def State.fetched (s : State) (r : HostRead) : State :=
  let s0 := { s with hst := { s.hst with reads := s.hst.reads.erase r } }
  match s0.qp? r.qp with
  | none => s0
  | some q =>
    let q1 := { q with fetched := q.fetched + r.d }
    if q.kind = 1 then
      let s1 := s0.setQp q1
      { s1 with hst := { s1.hst with handover := s1.hst.handover ++ List.replicate r.d r.qp } }
    else
      let s1 := s0.setQp { q1 with bufs := q.bufs ++ q.wait.take r.d, wait := q.wait.drop r.d }
      if q.kind = 5 then s1.sendTx else s1.copyRx

/-- Continuous service: what waits is posted, frames are copied and sent, latched entries are fetched (16 R425). -/
def State.serve (s : State) : State :=
  if s.continuous then (((((s.closeCan).copyRx).postAll).sendTx).fetchPasses).postAll else s

/-- Signals still due in this cell. -/
def State.signalRest (s : State) : State := s.hst.qps.foldl (fun s q => s.cellSignal q.id) s

/-- Nothing fetched is still on its way. -/
def State.hostIdle (s : State) : Bool :=
  s.hst.handover.isEmpty && s.hst.reads.all (fun r => r.late || decide (r.due ≤ s.tim.dt))

/-- Service inside an open HST cell: what waits is posted, frames are copied and sent, passes fetch, and a queue whose
last entry has been posted is signalled (16 R425, R429; DEDUCED, log entry 90). -/
def State.cellServe (s : State) : State := match s.hst.cell with
  | none => s
  | some w =>
    if s.runs .hst && !s.continuous && decide (s.tim.dt < w.stop) then
      let s1 := { s with hst := { s.hst with cell := some { w with busy := max w.busy (s.tim.dt : Nat) } } }
      let s2 := (((s1.copyRx).postAll).sendTx).fetchPasses
      if s2.hostIdle then s2.signalRest else s2
    else s

/-- Service as the run state has it. -/
def State.hostServe (s : State) : State := if s.continuous then s.serve else s.cellServe

/-! ## Doorbells and arrivals (16 R424, R428) -/

/-- The ring index is one a host may write (16 Table 16-11). -/
def State.ringIndexOk (s : State) (id v : Nat) : Bool := match s.qp? id with
  | some q => decide (v < q.size)
  | none => decide (v < 65536)

/-- An SQ tail doorbell, with the stream entries the host wrote before it (16 R424). -/
def sqTail (s : State) (id v : Nat) (entries : List SqEntry) : State := match s.qp? id with
  | none => s
  | some q =>
    if !(s.runs .hst) then s
    else
      let w := if q.kind = 3 || q.kind = 4 || q.kind = 5 then q.wait ++ entries else q.wait
      let s1 := s.setQp { q with tailDb := v, wait := w }
      s1.hostServe

def execSqTailDoorbell (qp : Nat) (value : Nat) (entries : List SqEntry) (s : State) : Host.Outcome State Fault Refusal :=
  if s.ringIndexOk qp value then .next (sqTail s qp value entries) else .fault .hostError

/-- A CQ head doorbell: the host has consumed entries (16 R424). -/
def cqHead (s : State) (id v : Nat) : State := match s.qp? id with
  | none => s
  | some q =>
    if !(s.runs .hst) then s
    else
      let s1 := s.setQp { q with headDb := v }
      if s1.continuous then s1.latchAll else s1.cellServe

def execCqHeadDoorbell (qp : Nat) (value : Nat) (s : State) : Host.Outcome State Fault Refusal :=
  if s.ringIndexOk qp value then .next (cqHead s qp value) else .fault .hostError

/-! ## HST cells (16 R425, R427, R428) -/

/-- Reads that came late are processed when the next HST cell opens. -/
def State.lateReads (s : State) : State := (s.hst.reads.filter (fun r => r.late)).foldl (fun s r => s.fetched r) s

/-- A HST cell: what waits is posted, frames are copied and sent, passes fetch, queues are signalled. -/
def hstCell (s : State) (e : Nat) : State :=
  s.withCell e (fun r => decide (r = 0x14)) (some .hst) (fun x s1 =>
    let s2 := s1.closeCan
    let s3 := { s2 with hst := { s2.hst with cell := some ⟨s2.cellEnd x s2.comb.k, (s2.tim.dt : Nat), []⟩ } }
    (s3.lateReads).cellServe)

def execHstCell (e : Nat) (s : State) : Host.Outcome State Fault Refusal := .next (hstCell s e)

/-- The hold-off of a pair's MSI-X message ends: postings not yet signalled are signalled now (16 R429). -/
def msiHoldoffEnd (s : State) (id : Nat) : State := match s.qp? id with
  | none => s
  | some q =>
    if q.sig && q.holdoff && s.runs .hst then (s.setQp { q with sig := false, holdoff := s.continuous }).signal q
    else s.setQp { q with holdoff := false }

def execMsiXHoldoffEnd (qp : Nat) (s : State) : Host.Outcome State Fault Refusal := .next (msiHoldoffEnd s qp)

/-- Data of the oldest read under way arrive. Data later than the cost model has them, or after their HST cell has
ended, are counted in HST_LATERD and processed in the next HST cell (16 R428, Table 16-13). -/
def hostReadArrival (s : State) (late : Bool) : State :=
  match s.hst.reads.find? (fun r => !r.late) with
  | none => s
  | some r =>
    if !(s.runs .hst) then s
    else if s.continuous then
      let s1 := if late then { s with hst := { s.hst with lateRd := satAdd max32 s.hst.lateRd 1 } } else s
      (s1.fetched r).serve
    else
      let closed := match s.hst.cell with | some w => decide (w.stop ≤ s.tim.dt) | none => true
      if late || closed then
        { s with hst := { s.hst with
            lateRd := satAdd max32 s.hst.lateRd 1
            reads := s.hst.reads.map (fun x => if x = r then { x with late := true } else x) } }
      else ((s.advanceTo r.due).fetched r).cellServe

def execHostReadDataArrival (late : Bool) (s : State) : Host.Outcome State Fault Refusal := .next (hostReadArrival s late)

/-! ## Link and admin queue (16 R415, R418) -/

/-- Every pair goes with its link: entries not fetched are never executed, completions and read-back data are
discarded (16 R415). -/
def State.dropAllQps (s : State) : State :=
  let lost := s.hst.cpls.length
  { s with
    hst := { s.hst with qps := [], cpls := [], reads := [],
                        handover := s.hst.handover.map (fun x => if x < 64 then x + 64 else x), deleting := [], cell := none,
                        cplDrop := satAdd max32 s.hst.cplDrop lost }
    mgt := { s.mgt with held := s.mgt.held.map (fun h => { h with fate := if h.fate = 0 then 1 else h.fate }),
                        fenceWait := s.mgt.fenceWait.map (fun x => if x.1 < 64 then (x.1 + 64, x.2) else x) } }

/-- Link down or hot reset (16 R415): events not yet posted lose their rings. -/
def State.linkDown (s : State) : State :=
  let s1 := s.dropAllQps
  let ev := s1.hst.events.length
  let h := { s1.hst with link := false, linkDn := satAdd max32 s1.hst.linkDn 1, events := [], evLost := satAdd max32 s1.hst.evLost ev }
  ({ s1 with hst := h }.setReg 0x34 0).unitRec sevNotice blkHst

def pcieLinkDown (s : State) : State := if s.hst.link && s.runs .hst then s.linkDown else s

def execPcieLinkDown (s : State) : Host.Outcome State Fault Refusal := .next (pcieLinkDown s)

/-- The link comes up: registers can be reached, the admin queue is set up again by the host (16 R413, R415). -/
def pcieLinkUp (s : State) : State :=
  if s.runs .hst && !s.hst.link then { s with hst := { s.hst with link := true } } else s

def execPcieLinkUp (s : State) : Host.Outcome State Fault Refusal := .next (pcieLinkUp s)

/-- A new queue pair (16 R419). -/
def newQp (id kind sizeLog vector : Nat) (ien : Bool) (sq cq mask : Nat) : Qp :=
  ⟨id, kind, sizeLog, vector, ien, mask, sq, cq, 0, 0, 0, 0, 0, 0, [], [], [], false, false, false⟩

def State.addQp (s : State) (q : Qp) : State :=
  { s with hst := { s.hst with qps := (s.hst.qps.filter (fun x => x.id < q.id)) ++ [q] ++ (s.hst.qps.filter (fun x => q.id < x.id)) } }

/-- Writing EN = 1 creates QP00 from AQA, ASQ and ACQ; its interrupt is enabled (16 R418; DEDUCED, log entry 50). -/
def aqctlSet (s : State) : State :=
  if !s.barOk || s.fld 0x34 0 0 = 1 then s
  else
    let q := newQp 0 1 (s.fld 0x20 4 0) (s.fld 0x20 13 8) true (s.fld 0x24 31 0 + s.fld 0x28 31 0 * 2 ^ 32)
      (s.fld 0x2C 31 0 + s.fld 0x30 31 0 * 2 ^ 32) 0
    (s.setReg 0x34 1).addQp q

def execAqctlEnSet (s : State) : Host.Outcome State Fault Refusal := .next (aqctlSet s)

/-- Completions of a deleted pair's entries are not posted, its FENCE-waiting commands never execute (16 R420, Table 16-13). -/
def State.deleteQp (s : State) (id : Nat) : State :=
  let s1 := s.dropQp id
  { s1 with
    hst := { s1.hst with reads := s1.hst.reads.filter (fun r => r.qp ≠ id), cpls := s1.hst.cpls.filter (fun c => c.qp ≠ id),
                         handover := s1.hst.handover.map (fun x => if x = id then x + 128 else x) }
    mgt := { s1.mgt with fenceWait := s1.mgt.fenceWait.filter (fun x => decide (x.1 ≠ id)), held := s1.mgt.held.map (fun h => if h.qp = id && h.fate = 0 then { h with fate := 2 } else h) } }

/-- Writing EN = 0 deletes QP00 (16 R418). -/
def aqctlClear (s : State) : State :=
  if !s.barOk || s.fld 0x34 0 0 = 0 then s else (s.setReg 0x34 0).deleteQp 0

def execAqctlEnClear (s : State) : Host.Outcome State Fault Refusal := .next (aqctlClear s)

/-! ## Receive events that fill streams (12 R344, 13 R362) -/

/-- A CAN frame arrives; in continuous service a host-bound frame goes to its stream at once. -/
def canFrameReceive (s : State) (c t : Nat) (f : CanFrame) : State := ((s.endStnCells t).canReceive c t f).serve

def execCanFrameReceive (ch : Nat) (t : Nat) (f : CanFrame) (s : State) : Host.Outcome State Fault Refusal :=
  .next (canFrameReceive s ch t f)

def ethFrameReceive (s : State) (p t : Nat) (f : EthRx) : State := ((s.endStnCells t).ethReceive p t f).serve

def execEthFrameReceive (port : Nat) (t : Nat) (f : EthRx) (s : State) : Host.Outcome State Fault Refusal :=
  .next (ethFrameReceive s port t f)

/-- The frame in transmission at a port ends; the completion of a host frame carries the transmit timestamp (16 R423). -/
def ethTransmitComplete (s : State) (p t : Nat) : State :=
  let s0 := s.endStnCells t
  let start := match (s0.port p).busy with | some b => b.2 | none => 0
  let r := s0.ethDone p t
  let s1 := match r.2 with
    | some q => r.1.streamCpl q 0 0 start r.1.tim.dt
    | none => r.1
  (s1.ethPump p).endDeletes

def execEthTransmitComplete (port : Nat) (t : Nat) (s : State) : Host.Outcome State Fault Refusal :=
  .next (ethTransmitComplete s port t)

end Sys2Proof.Machine
end

