-- ==== Sys2Proof/Machine/Analog.lean ====
section
/-!
DEFINITION. Sys2Proof/Machine/Analog.lean: the analogue inputs (14): cells, conversions, result slots, thresholds,
urgent requests, pair calibration, the reference.
-/
namespace Sys2Proof.Machine

def State.analog? (s : State) : Option AnalogDef := s.sup.bank.bind (fun i => i.analog)

def State.adcConv (s : State) (n : Nat) : AdcConv := s.adc.conv.getD n AdcConv.reset

def State.setConv (s : State) (n : Nat) (x : AdcConv) : State :=
  { s with adc := { s.adc with conv := updAt s.adc.conv n (fun _ => x) } }

def State.adcPair (s : State) (q : Nat) : AdcPair := s.adc.pairs.getD q AdcPair.reset

def State.setPair (s : State) (q : Nat) (x : AdcPair) : State :=
  { s with adc := { s.adc with pairs := updAt s.adc.pairs q (fun _ => x) } }

def AnalogDef.ain (d : AnalogDef) (i : Nat) : AinDef := d.ains.getD i ⟨0, none, 0, 0, 0, 0, 0⟩

/-- The input of urgent entry j of ADCn; none when it is not declared. -/
def AnalogDef.urg (d : AnalogDef) (n j : Nat) : Option Nat := d.urgent.getD (8 * n + j) none

/-- DT in ns of a cycle of the analogue island, 15.625 ns. -/
def cycNs (c : Nat) : Nat := c * 125 / 8

/-- Cycles of a DT on a whole microsecond. -/
def nsCyc (t : Nat) : Nat := t / 1000 * 64

/-! ## Slots (14 R382, R383) -/

def State.slotVers (s : State) (i : Nat) : List Slot := SMap.get dSlots s.adc.slots i

def State.setSlot (s : State) (i : Nat) (v : Slot) : State :=
  { s with adc := { s.adc with slots := SMap.set dSlots s.adc.slots i (v :: s.slotVers i) } }

/-- A slot that never held a result. -/
def Slot.none : Slot := ⟨0, 0, .none, .missing, 0⟩

/-- The version that stands just before an instant (01 R18). -/
def State.slotAt (s : State) (i t : Nat) : Slot := ((s.slotVers i).find? (fun v => decide (v.stands < t))).getD Slot.none

/-- Keep the versions a later snapshot can still need. -/
def State.pruneSlots (s : State) (t : Nat) : State :=
  { s with adc := { s.adc with slots := s.adc.slots.map (fun p =>
      (p.1, p.2.takeWhile (fun v => decide (t ≤ v.stands)) ++ (p.2.dropWhile (fun v => decide (t ≤ v.stands))).take 1)) } }

/-- A dropped conversion marks its slot MISSING from the end tick on; code, word and timestamp stay (14 R383, R387). -/
def State.markMissing (s : State) (i stop : Nat) : State :=
  let v := ((s.slotVers i).head?).getD Slot.none
  s.setSlot i { v with q := .missing, stands := stop - 1 }

/-! ## Results (14 R376, R377, R383, R384, R386) -/

def AinDef.clip (a : AinDef) (c : Int) : Int := if a.mode = 2 then clampI c (-32768) 32767 else clampI c 0 65535

/-- The correction of the odd converter: GAIN × code + OFS, half to even, clipped (14 R386). -/
def AdcPair.correct (p : AdcPair) (a : AinDef) (c : Int) : Int :=
  a.clip (rndDiv ((p.gain : Int) * c + p.ofs * 4194304) 4194304)

/-- REFBAD reads 1 at DT `t`. -/
def State.refBadAt (s : State) (t : Nat) : Bool :=
  (match s.adc.refBad with | some a => decide (a ≤ t) | none => false) ||
  (decide (s.adc.refSpan.1 ≤ t) && decide (t < s.adc.refSpan.2))

/-- Choose what a free converter starts at cycle `c`: admitted pending requests, then the conversions in order; with
the sequence finished, any pending request (14 R380, R385; 03 R75). -/
def State.adcNext (s : State) (n c : Nat) : State := match s.analog?, (s.adcConv n).run with
  | some d, some r =>
    let x := s.adcConv n
    let mayGo : Bool := decide (0 < r.adm) || r.rest.isEmpty
    match x.pend with
    | j :: js =>
      if mayGo then match d.urg n j with
        | some i => s.setConv n { x with pend := js, run := some { r with
            adm := r.adm - 1, cur := some ⟨i, some j, c + (d.ain i).tset⟩ } }
        | none => s.setConv n { x with pend := js }
      else
        let new := x.pend.filter (fun p => !(r.waited.contains p))
        let y := { x with urgWait := satAdd 255 x.urgWait new.length }
        match r.rest with
        | (i, u) :: rest => s.setConv n { y with run := some { r with
            waited := r.waited ++ new, rest := rest, cur := some ⟨i, u, c + (d.ain i).tset⟩ } }
        | [] => s.setConv n { y with run := some { r with cur := none, free := c } }
    | [] => match r.rest with
      | (i, u) :: rest => s.setConv n { x with run := some { r with rest := rest, cur := some ⟨i, u, c + (d.ain i).tset⟩ } }
      | [] => s.setConv n { x with run := some { r with cur := none, free := c } }
  | _, _ => s

/-- Abort the running conversion at cycle `c` for urgent entry `j`: two admissions (14 R385). -/
def State.adcAbort (s : State) (n j c : Nat) : State := match s.analog?, (s.adcConv n).run with
  | some d, some r => match r.cur, d.urg n j with
    | some cv, some i =>
      let x := s.adcConv n
      s.setConv n { x with
        pend := x.pend.filter (fun p => p ≠ j), aborts := satAdd max16 x.aborts 1
        run := some { r with adm := r.adm - 2, rest := (cv.input, cv.urgent) :: r.rest,
                             cur := some ⟨i, some j, c + (d.ain i).tset⟩ } }
    | _, _ => s
  | _, _ => s

/-- Submit an urgent request at cycle `c`; `trip` when a threshold raised it (14 R385). -/
def State.urgent (s : State) (n j c : Nat) (trip : Bool) : State :=
  let x := s.adcConv n
  if x.pend.contains j then s.setConv n { x with urgMerge := satAdd 255 x.urgMerge 1 }
  else
    let s1 := s.setConv n { x with pend := x.pend ++ [j] }
    match x.run with
    | none => s1
    | some r =>
      if !trip || r.inter || decide (r.stop ≤ cycNs c) then s1
      else match r.cur with
        | none => s1.adcNext n (max c r.free)
        | some cv =>
          if 2 ≤ r.adm && decide (c < cv.hold + 32) then s1.adcAbort n j c
          else if r.adm = 0 && !r.rest.isEmpty && !(r.waited.contains j) then
            let y := s1.adcConv n
            s1.setConv n { y with urgWait := satAdd 255 y.urgWait 1, run := some { r with waited := j :: r.waited } }
          else s1

/-- Compare a result with its thresholds: trip bits, ADC_TRIP, EV065 once per hyperperiod, the trip's request 4 cycles
after completion (14 R384). -/
def State.threshold (s : State) (i : Nat) (a : AinDef) (w : Word) (comp : Nat) : State :=
  let hi := decide (w.toInt > a.thrHi)
  let lo := decide (w.toInt < a.thrLo)
  let rose := (hi && !(SMap.get dBit s.adc.tripHi i)) || (lo && !(SMap.get dBit s.adc.tripLo i))
  let s1 := { s with adc := { s.adc with tripHi := SMap.set dBit s.adc.tripHi i hi, tripLo := SMap.set dBit s.adc.tripLo i lo } }
  if !rose then s1
  else
    let s2 := { s1 with adc := { s1.adc with trip := s1.adc.trip ||| 2 ^ i } }
    let s3 := if s2.adc.evd.contains i then s2
      else ({ s2 with adc := { s2.adc with evd := i :: s2.adc.evd } }).raise 65 (i + b2n hi * 256 + b2n lo * 512)
    match a.trig with
    | some (n, j) => s3.urgent n j (comp + 4) true
    | none => s3

/-- A result of converter `n` for input `i`, held at cycle `hold`: slot, quality, counters (14 R382, R383). -/
def State.adcResult (s : State) (d : AnalogDef) (n i hold : Nat) (raw : Int) (urg : Bool) : State :=
  let a := d.ain i
  let p := s.adcPair (n / 2)
  let odd := decide (n % 2 = 1)
  let c0 := a.clip raw
  let c := if odd then p.correct a c0 else c0
  let w := satWord (c * a.mul + a.ofs)
  let t := cycNs hold
  let q : Quality := if s.refBadAt t || (odd && !p.ok) then .void else .good
  let x := s.adcConv n
  let s1 := (s.setSlot i ⟨c, w, some t, q, cycNs (hold + 32)⟩).setConv n
    { x with conv := satAdd max32 x.conv 1, urgRun := if urg then satAdd max16 x.urgRun 1 else x.urgRun }
  s1.threshold i a w (hold + 32)

/-! ## End of a cell (14 R387) -/

/-- The end tick of an ADC cell: what has not completed is dropped. -/
def State.endAdc (s : State) (n : Nat) : State := match (s.adcConv n).run with
  | none => s
  | some r =>
    let x := s.adcConv n
    let drop : List (Nat × Option Nat) := (match r.cur with | some c => [(c.input, c.urgent)] | none => []) ++ r.rest
    let cnt := if r.inter then r.left else drop.length
    let re := drop.filterMap (fun p => p.2)
    let s1 := s.setConv n { x with run := none, miss := satAdd max16 x.miss cnt,
                                   pend := re ++ x.pend.filter (fun j => !(re.contains j)) }
    let s2 := if r.inter then (match r.rest with
        | (i, _) :: _ => if r.left = 0 then s1 else s1.markMissing i r.stop
        | [] => s1)
      else drop.foldl (fun s p => s.markMissing p.1 r.stop) s1
    let ovr := if r.inter then decide (0 < r.left) else drop.any (fun p => p.2.isNone) || !r.rest.isEmpty
    if ovr then s2.countOverrun r.e (0x18 + n) else s2

/-- ADC cells whose end tick is at most `t` end. -/
def State.endAdcs (s : State) (t : Nat) : State :=
  (List.range 4).foldl (fun (s : State) (n : Nat) => match (s.adcConv n).run with
    | some r => if r.stop ≤ t then s.endAdc n else s
    | none => s) s

/-! ## Pair calibration (14 R386) -/

/-- Gain × 2^22 rounded, offset in codes, and whether the calibration is good. -/
def calResult (c : CalSums) : Option (Nat × Int) :=
  let dn := c.o2 - c.o1
  if dn = 0 then none
  else
    let g : Rat := ((c.e2 - c.e1 : Int) : Rat) / ((dn : Int) : Rat)
    if g < (98 : Rat) / 100 || g > (102 : Rat) / 100 then none
    else
      let q := rndDiv ((if dn < 0 then -(c.e2 - c.e1) else c.e2 - c.e1) * 4194304) dn.natAbs
      let ofs := rndDiv (c.e1 * 4194304 - q * c.o1) (16 * 4194304)
      if ofs.natAbs ≤ 512 then some (q.toNat, ofs) else none

/-- Calibrate a pair: the new correction, or CAL_OK 0 with the previous one. -/
def State.calibratePair (s : State) (q : Nat) (c : CalSums) : State :=
  let p := s.adcPair q
  match calResult c with
  | some (g, o) => s.setPair q { p with ok := true, gain := g, ofs := o }
  | none => s.setPair q { p with ok := false }

/-! ## Cells (14 R380, R381) -/

/-- Cycles a calibration takes: 81 µs. -/
def calCycles : Nat := 81 * 64

/-- An ADC cell opens: set-up, pending requests, the sequence; an interleaved sequence or a calibration. -/
def State.openAdc (s : State) (e : Nat) (x : CombEntry) (cal : CalSums) : State := match s.analog? with
  | none => s
  | some d =>
    let n := x.res - 0x18
    let s0 := s.endAdcs s.tim.dt
    let stop := s0.cellEnd x s0.comb.k
    let c0 := nsCyc s0.tim.dt
    let u := x.act / 65536 % 256
    let sq := x.act % 256
    let y := s0.adcConv n
    if sq = 255 then
      if x.len > 81 then s0.calibratePair (n / 2) cal else s0.countOverrun e x.res
    else match d.seqs.find? (fun q => decide (q.seqno = sq) && decide (q.adc = n)) with
      | none => s0
      | some q =>
        let r : AdcRun := ⟨e, stop, q.inter, q.list.map (fun i => (i, none)), none, u, [], if q.inter then q.nconv else 0, [], c0, c0⟩
        let s1 := s0.setConv n { y with run := some r }
        if q.inter then s1 else s1.adcNext n (c0 + 64)

def adcCell (s : State) (e : Nat) (cal : CalSums) : State :=
  s.withCell e (fun r => decide (0x18 ≤ r) && decide (r ≤ 0x1B)) (some .adc) (fun x s1 => s1.openAdc e x cal)

def execAdcCell (e : Nat) (cal : CalSums) (s : State) : Host.Outcome State Fault Refusal := .next (adcCell s e cal)

/-- A result of an interleaved sequence on the pair of converter `n`. -/
def State.interDone (s : State) (n : Nat) (r : AdcRun) (d : AnalogDef) (code : Int) : State :=
  let k := r.got.length
  let hold := r.start + 48 + 16 * k
  let m := if k % 2 = 0 then n else n + 1
  if r.left = 0 || decide (r.stop ≤ cycNs (hold + 32)) then s
  else match r.rest with
    | [] => s
    | (i, _) :: _ =>
      let s1 := (s.advanceTo (cycNs (hold + 32))).adcResult d m i hold code false
      let y := s1.adcConv n
      let got := ((s1.slotVers i).head?.getD Slot.none).code :: r.got
      let s2 := s1.setConv n { y with run := y.run.map (fun q => { q with left := r.left - 1, got := got }) }
      if r.left = 1 then s2.setPair (n / 2) { (s2.adcPair (n / 2)) with capture := got.reverse, captureDt := some (cycNs (r.start + 48)) } else s2

/-- ADC_CONVERSION_COMPLETE: the conversion under way on converter `n` completes with a code, before the end tick
(14 R382). An interleaved sequence completes its results on the even converter of the pair. -/
def adcDone (s : State) (n : Nat) (code : Int) : State := match s.analog?, (s.adcConv n).run with
  | some d, some r =>
    if !s.cellsRun || !(s.runs .adc) then s
    else if r.inter then s.interDone n r d code
    else match r.cur with
      | none => s
      | some c =>
        let comp := c.hold + 32
        if r.stop ≤ cycNs comp then s
        else
          let s1 := s.advanceTo (cycNs comp)
          let s2 := (s1.setConv n { (s1.adcConv n) with run := some { r with cur := none, free := comp } }).adcNext n comp
          s2.adcResult d n c.input c.hold code c.urgent.isSome
  | _, _ => s

def execAdcConversionComplete (n : Nat) (code : Int) (s : State) : Host.Outcome State Fault Refusal := .next (adcDone s n code)

/-! ## The reference (14 R377) -/

/-- The selected reference leaves its range at `t`. -/
def referenceOut (s : State) (t : Nat) : State :=
  if s.runs .adc && s.adc.refBad.isNone then
    let s1 := s.advanceTo t
    ({ s1 with adc := { s1.adc with refBad := some s1.tim.dt } }).raise 64 0
  else s

def execReferenceOutOfRange (t : Nat) (s : State) : Host.Outcome State Fault Refusal := .next (referenceOut s t)

/-- The selected reference returns to its range at `t`. -/
def referenceIn (s : State) (t : Nat) : State := match s.adc.refBad with
  | none => s
  | some a =>
    if s.runs .adc then
      let s1 := s.advanceTo t
      { s1 with adc := { s1.adc with refBad := none, refSpan := (a, s1.tim.dt) } }
    else s

def execReferenceInRange (t : Nat) (s : State) : Host.Outcome State Fault Refusal := .next (referenceIn s t)

/-! ## Breaks (14 R388, R389) -/

/-- The converters stop: cells in progress are given up without an overrun, their requests stay pending. -/
def State.adcStop (s : State) : State :=
  (List.range 4).foldl (fun (s : State) (n : Nat) =>
    let x := s.adcConv n
    match x.run with
    | some r =>
      let re := (match r.cur with | some c => c.urgent.toList | none => []) ++ r.rest.filterMap (fun p => p.2)
      s.setConv n { x with run := none, pend := re ++ x.pend.filter (fun j => !(re.contains j)) }
    | none => s) s

/-- Entry into DORMANT: pending requests are discarded. -/
def State.adcDormant (s : State) : State :=
  let s1 := s.adcStop
  { s1 with adc := { s1.adc with conv := s1.adc.conv.map (fun x => { x with pend := [] }) } }

/-- Entry into RUN: every slot is MISSING (14 R383). -/
def State.adcRun (s : State) : State := { s with adc := { s.adc with slots := [] } }

/-- A swap: pending requests whose entry the new image does not declare are discarded and counted (14 R388). -/
def State.adcSwap (s : State) : State :=
  (List.range 4).foldl (fun (s : State) (n : Nat) =>
    let x := s.adcConv n
    let keep := x.pend.filter (fun j => match s.analog? with | some d => (d.urg n j).isSome | none => false)
    s.setConv n { x with pend := keep, urgMerge := satAdd 255 x.urgMerge (x.pend.length - keep.length) }) s

end Sys2Proof.Machine
end

