-- ==== Sys2Proof/Machine/Axes.lean ====
section
/-!
DEFINITION. Sys2Proof/Machine/Axes.lean: the events and cells of the axis island (15): profile updates, standstill,
switches, automatic disable, PWM, the latch, command and output cells.
-/
namespace Sys2Proof.Machine

/-- The axis runs: declared, its island clocked, out of INIT (15 Table 15-6). -/
def State.axUp (s : State) : Bool := s.runs .axs && decide (s.mgt.run ≠ .init)

/-! ## Motion (15 R394, R398 to R400, R403, R404) -/

/-- A member of an interpolated move other than its lead: it steps on the lead's edges. -/
def State.follows (s : State) (a : Nat) : Bool := match s.interOf a with
  | some (_, r) => decide (r.lead ≠ a)
  | none => false

def axisUpdate (s : State) (a : Nat) : State := match s.axDef? a with
  | none => s
  | some d =>
    let x := s.ax a
    if !s.axUp || !x.moving || x.lead.isSome || x.done d || s.follows a then s
    else
      let s1 := s.advanceTo x.upd
      let s2 := s1.setAx a ((s1.ax a).update d x.upd)
      match s.interOf a with
      | some (g, _) => s2.follow g
      | none => s2

def execAxisProfileUpdate (ax : Nat) (s : State) : Host.Outcome State Fault Refusal := .next (axisUpdate s ax)

def axisLeadEnd (s : State) (a : Nat) : State := match (s.ax a).lead with
  | none => s
  | some t => if s.axUp then
      let s1 := s.advanceTo t
      s1.setAx a { (s1.ax a) with lead := none }
    else s

def execAxisEnableLeadEnd (ax : Nat) (s : State) : Host.Outcome State Fault Refusal := .next (axisLeadEnd s ax)

/-- What a group's interpolated move waits for has come to standstill: the next one begins. -/
def State.interNext (s : State) (g : Nat) : State := match s.inter? g with
  | none => s
  | some r =>
    if (r.dist.any (fun m => (s.ax m.1).moving)) || (r.next.any (fun m => (s.ax m.1).moving)) then s
    else
      let s1 := s.setInter g none
      if r.next.isEmpty then s1
      else
        let s2 := r.next.foldl (fun s m => s.setAx m.1 { (s.ax m.1) with next := .none }) s1
        s2.beginInter g r.next

/-- The members of an interpolated move stand with their lead. -/
def State.standAll (s : State) (a : Nat) : State := match s.interOf a with
  | none => s
  | some (_, r) => (r.dist.filter (fun m => m.1 ≠ a)).foldl (fun s m => (s.stand m.1).axDone m.1 0) s

/-- The motion that follows a standstill. -/
def State.axNext (s : State) (a : Nat) (d : AxisDef) : State := match (s.ax a).next with
  | .none => s.interNext d.group
  | .move t v => s.goTo a d t v
  | .home p => s.goHome a d p
  | .inter => s.interNext d.group

/-- AXIS_STANDSTILL: the axis has come to the end of its motion: the command completes, a HOME gives the position. -/
def axisStandstill (s : State) (a : Nat) : State := match s.axDef? a with
  | none => s
  | some d =>
    let x := s.ax a
    if !s.axUp || !x.moving || x.lead.isSome || !(x.done d) || s.follows a then s
    else
      let s1 := s.standAll a
      let s2 := s1.stand a
      let y := s2.ax a
      match x.job with
      | .homeStop edge => ((s2.setAx a { y with pos := x.homePos + (x.pos - edge), ref := true }).axDone a 0).axNext a d
      | .stop disable =>
        let s3 := if disable then s2.releaseEn a d else s2
        (if x.next = .none then s3.axDone a 0 else s3).axNext a d
      | _ => ((s2.setAx a { y with pos := x.target }).axDone a 0).axNext a d

def execAxisStandstill (ax : Nat) (s : State) : Host.Outcome State Fault Refusal := .next (axisStandstill s ax)

/-- AUTO_DISABLE: the axis has stood still for IDLE_MS (15 R404). -/
def autoDisable (s : State) (a : Nat) : State := match s.axDef? a with
  | none => s
  | some d =>
    let x := s.ax a
    if s.axUp && d.autoDis && x.en && !x.moving then
      (s.advanceTo (x.still + d.idleMs * 1000000)).releaseEn a d
    else s

def execAutoDisable (ax : Nat) (s : State) : Host.Outcome State Fault Refusal := .next (autoDisable s ax)

/-! ## Switches (15 R401 to R403) -/

/-- Position of an axis at an instant, from its last updates. -/
def Ax.posAt (x : Ax) (t : Nat) : Int := match x.trail.find? (fun p => decide (p.1 ≤ t)) with
  | some p => p.2
  | none => x.pos

/-- What an accepted edge does to the motion. -/
def State.switchAct (s : State) (a sw : Nat) (active : Bool) : State :=
  let x := s.ax a
  if sw = 0 then
    match x.job with
    | .homeSeek => if active then s.setAx a { x with job := .homeStop x.latchPos } else s
    | .homeOff => if active then s else s.stopThen a (.home x.homePos)
    | _ => s
  else
    let arrived := decide (x.job = .move) && decide (x.left ≤ 0)
    if active && x.moving && (x.up == decide (sw = 1)) && !arrived then s.limitAll a else s

/-- A switch edge accepted after FILT µs, its edge instant `t`. -/
def switchEdge (s : State) (a sw : Nat) (active : Bool) (t : Nat) : State := match s.axDef? a with
  | none => s
  | some d =>
    let old := if sw = 0 then (s.ax a).refSw else if sw = 1 then (s.ax a).limP else (s.ax a).limN
    if !s.axUp || 2 < sw || old = active then s
    else
      let s1 := s.advanceTo (t + d.filt * 1000)
      let x := s1.ax a
      let y := { x with latchPos := x.posAt t, latchCnt := (x.latchCnt + 1) % 256, latchAct := active, latchSw := sw,
                        edgeUs := t / 1000,
                        refSw := if sw = 0 then active else x.refSw, limP := if sw = 1 then active else x.limP,
                        limN := if sw = 2 then active else x.limN }
      (s1.setAx a y).switchAct a sw active

def execSwitchEdge (ax : Nat) (sw : Nat) (active : Bool) (t : Nat) (s : State) : Host.Outcome State Fault Refusal :=
  .next (switchEdge s ax sw active t)

/-! ## PWM (15 R409) -/

/-- A PWM period starts: the duty driven last takes effect. -/
def pwmPeriod (s : State) (n : Nat) : State := match s.axes? with
  | none => s
  | some d =>
    if s.axUp && decide (d.pwm.getD n 0 ≠ 0) && decide (n < 16) then
      let v := s.axs.pwmNext.getD n 0
      let s1 := { s with axs := { s.axs with pwm := updAt s.axs.pwm n (fun _ => v) } }
      if s.axs.pwm.getD n 0 = v || !(s.vioOn 3) then s1 else s1.emit (.ball 2 n (BitVec.ofNat 32 v))
    else s

def execPwmPeriodStart (n : Nat) (s : State) : Host.Outcome State Fault Refusal := .next (pwmPeriod s n)

/-! ## Cells (15 R396, R406, R408; 01 R21) -/

/-- The eight words of an axis item (15 Table 15-4). -/
def Ax.words (x : Ax) : List Word :=
  [BitVec.ofNat 32 (x.seqTag * 65536 + x.flags), BitVec.ofInt 32 x.pos, BitVec.ofInt 32 x.vel, BitVec.ofInt 32 x.target,
   BitVec.ofInt 32 x.latchPos, BitVec.ofNat 32 (x.latchCnt * 256 + b2n x.latchAct * 4 + x.latchSw),
   BitVec.ofNat 32 (x.edgeUs % 2 ^ 32), BitVec.ofNat 32 (x.edgeUs / 2 ^ 32)]

/-- AXS_LATCH: every declared axis is captured at the start tick; items not yet crossed at the end take MISSING. -/
def axsLatch (s : State) (e : Nat) (done : Bool) : State :=
  s.withCell e (fun r => decide (r = 0x0E)) (some .axs) (fun _ s1 =>
    let s2 := (List.range 16).foldl (fun (s : State) (a : Nat) => if (s.axDef? a).isSome then
        s.setAx a { (s.ax a) with item := (s.ax a).words, acq := some s.tim.dt, missing := !done }
      else s) s1
    if done then s2 else s2.leaveOpen e 0x0E [])

def execAxsLatchCell (e : Nat) (done : Bool) (s : State) : Host.Outcome State Fault Refusal := .next (axsLatch s e done)

/-- Take the voted words of a point: out of the voted values, driven. -/
def State.takeVoted (s : State) (i : Nat) : State × Option (List Word) :=
  match s.vot.voted.find? (fun v => decide (v.1 = i)) with
  | none => (s, none)
  | some v => ({ s with vot := { s.vot with voted := s.vot.voted.filter (fun u => u.1 ≠ i) } }, some v.2)

/-- Words the axes of a mask take at a write tick: voted ones, or the safe words while the smoker forces the point. -/
def State.axWords (s : State) (mask : Nat) : State × List (Nat × List Word) :=
  (s.pointList.filter (fun x => decide (x.2.oclass = 3) && (match s.axDef? x.2.target with
      | some d => bitOf mask d.group
      | none => false))).foldl (fun (p : State × List (Nat × List Word)) x =>
    let r := p.1.takeVoted x.1
    if s.forced x.2 then (r.1, p.2 ++ [(x.2.target, x.2.safe)])
    else match r.2 with
      | some ws => (r.1.drive x.1 x.2 ws, p.2 ++ [(x.2.target, ws)])
      | none => (r.1, p.2)) (s, [])

/-- AXS_CMD: the axes of the groups named compare and take their words; an overrun drops them for this cycle. -/
def axsCmd (s : State) (e : Nat) (done : Bool) : State :=
  s.withCell e (fun r => decide (r = 0x0F)) (some .axs) (fun x s1 =>
    let s2 := s1.takeFeeds
    if done then
      let r := s2.axWords (x.act % 16)
      r.1.axTake r.2
    else
      let drop := (s2.pointList.filter (fun p => decide (p.2.oclass = 3) && (match s2.axDef? p.2.target with
        | some d => bitOf (x.act % 16) d.group
        | none => false))).map (fun p => p.1)
      ({ s2 with vot := { s2.vot with voted := s2.vot.voted.filter (fun v => !(drop.contains v.1)) } }).leaveOpen e 0x0F [])

def execAxsCmdCell (e : Nat) (done : Bool) (s : State) : Host.Outcome State Fault Refusal := .next (axsCmd s e done)

/-- OUT: digital and PWM outputs take their voted words; an overrun drops them for this cycle. -/
def outCell (s : State) (e : Nat) (done : Bool) : State :=
  s.withCell e (fun r => decide (r = 0x10)) (some .axs) (fun _ s1 =>
    let s2 := s1.takeFeeds
    let pts := s2.pointList.filter (fun p => decide (p.2.oclass = 1) || decide (p.2.oclass = 2))
    let s3 := pts.foldl (fun s p =>
      let r := s.takeVoted p.1
      match r.2 with
      | some ws => if done && !(s.forced p.2) then r.1.drive p.1 p.2 ws else r.1
      | none => r.1) s2
    if done then s3 else s3.leaveOpen e 0x10 [])

def execOutCell (e : Nat) (done : Bool) (s : State) : Host.Outcome State Fault Refusal := .next (outCell s e done)

/-! ## States and swaps (15 R396, R405, Table 15-6; 17 R446) -/

/-- Entry into RUN: every last taken command is zero, host axis commands end and their axes stop. -/
def State.axesRun (s : State) : State :=
  (List.range 16).foldl (fun (s : State) (a : Nat) => match s.axDef? a with
    | some d =>
      let host := (s.ax a).seq.isSome
      let s1 := s.axDone a stAborted
      let s2 := if host then s1.axStop a d false else s1
      s2.setAx a { (s2.ax a) with cmd := [0, 0, 0, 0] }
    | none => s) s

/-- A start or a wake: every axis unreferenced at position 0, outputs at their INIT levels. -/
def State.axesReset (s : State) : State :=
  { s with axs := { s.axs with ax := List.replicate 16 Ax.reset, inter := [], pwm := List.replicate 16 0,
                               pwmNext := List.replicate 16 0 } }

/-- A swap (15 Table 15-6): an axis whose entry is unchanged carries on; any other declared axis stops abruptly. -/
def State.axesSwap (s : State) (old : Option AxesDef) : State :=
  let s1 := (List.range 16).foldl (fun (s : State) (a : Nat) =>
    let o := old.bind (fun d => d.axes.find? (fun x => x.axis = a))
    match s.axDef? a with
    | some d => if o = some d then s
      else
        let s1 := ((s.abruptStop a).unref a).axDone a stAborted
        s1.setAx a { (s1.ax a) with cmd := [0, 0, 0, 0], job := .idle, next := .none }
    | none => s.setAx a Ax.reset) s
  { s1 with axs := { s1.axs with inter := s1.axs.inter.filter (fun p => match p.2 with
      | some r => r.dist.all (fun m => (s1.ax m.1).moving || decide (m.2 = 0))
      | none => false) } }

end Sys2Proof.Machine
end

