-- ==== Sys2Proof/Machine/Hydraulic.lean ====
section
/-!
DEFINITION. Sys2Proof/Machine/Hydraulic.lean: the hydraulic problem (08): its structure, units, linear solvers,
factorisation and store allocation. The sequencer of a solve is in Machine/Solver.lean.
-/
namespace Sys2Proof.Machine

/-! ## Structure (08 R229, R230) -/

/-- Node indices of the junctions, in matrix row order. -/
def HydDef.junctions (d : HydDef) : List Nat :=
  (d.nodes.zipIdx.filter (fun p => p.1.junction)).map (fun p => p.2)

def HydDef.n (d : HydDef) : Nat := d.junctions.length

/-- The matrix row of a node, when it is a junction. -/
def HydDef.row? (d : HydDef) (node : Nat) : Option Nat := d.junctions.findIdx? (fun j => j = node)

/-- The index of a fixed-head node in FIXH. -/
def HydDef.fixIdx (d : HydDef) (node : Nat) : Nat :=
  ((d.nodes.zipIdx.filter (fun p => !p.1.junction)).map (fun p => p.2)).findIdx (fun j => j = node)

/-- The (row, column) pairs an element adds. -/
def HydDef.elemPairs (d : HydDef) (x : HydElem) : List (Nat × Nat) :=
  let f := d.row? x.src
  let t := d.row? x.dst
  let pair : Option Nat → Option Nat → List (Nat × Nat) := fun a b => match a, b with
    | some i, some j => [(i, j)]
    | _, _ => []
  pair f t ++ pair t f ++
    (match x.sense with
     | some k => if x.etype = 4 then pair f (d.row? k) ++ pair t (d.row? k) else []
     | none => [])

/-- Stored columns of each row, ascending, the diagonal included. -/
def HydDef.rows (d : HydDef) : List (List Nat) :=
  let ps := d.elems.flatMap d.elemPairs
  (List.range d.n).map (fun i => (List.range d.n).filter (fun j => decide (i = j) || ps.contains (i, j)))

/-- Stored entries in row order. -/
def HydDef.entries (d : HydDef) : List (Nat × Nat) := d.rows.zipIdx.flatMap (fun p => p.1.map (fun j => (p.2, j)))

def HydDef.nnz (d : HydDef) : Nat := d.entries.length

/-- Lower level of each row. -/
def lowerLevels (rows : List (List Nat)) : List Nat :=
  rows.zipIdx.foldl (fun lv p =>
    let l := (p.1.filter (fun j => decide (j < p.2))).map (fun j => lv.getD j 0 + 1)
    lv ++ [l.foldl Nat.max 0]) []

/-- Upper level of each row: the lower level of the reversed pattern. -/
def upperLevels (rows : List (List Nat)) : List Nat :=
  let n := rows.length
  (lowerLevels (rows.reverse.map (fun r => r.map (fun j => n - 1 - j)))).reverse

def levelCount (lv : List Nat) : Nat := match lv with
  | [] => 0
  | _ => lv.foldl Nat.max 0 + 1

/-- The stored factor entries: the lower triangle for IC(0), the whole pattern for ILU(0) (08 R239). -/
def HydDef.facEntries (d : HydDef) : List (Nat × Nat) :=
  if d.method = 0 then d.entries.filter (fun p => decide (p.2 ≤ p.1)) else d.entries

/-- Products in the sum of a factor entry. -/
def HydDef.facProducts (d : HydDef) (p : Nat × Nat) : List Nat :=
  let es := d.facEntries
  (List.range (min p.1 p.2)).filter (fun k =>
    if d.method = 0 then es.contains (p.1, k) && es.contains (p.2, k) else es.contains (p.1, k) && es.contains (k, p.2))

/-- Rows of a lower level. -/
def HydDef.levelRows (d : HydDef) (l : Nat) : List Nat :=
  ((lowerLevels d.rows).zipIdx.filter (fun p => decide (p.1 = l))).map (fun p => p.2)

/-- Cost of a level in a factorisation: 16 + ⌈f_level/32⌉. -/
def HydDef.levelCost (d : HydDef) (l : Nat) : Nat :=
  let rs := d.levelRows l
  let f := ((d.facEntries.filter (fun p => rs.contains p.1)).map (fun p => 4 + (d.facProducts p).length)).foldl (· + ·) 0
  16 + ceilDiv f 32

/-- Group consecutive levels into segments of at most 131,072 cycles (08 R239). -/
def segmentsOf (costs : List Nat) : List (List Nat) :=
  let r := costs.zipIdx.foldl (fun (q : List (List Nat) × List Nat × Nat) p =>
    if q.2.1.isEmpty then (q.1, [p.2], p.1)
    else if q.2.2 + p.1 ≤ 131072 then (q.1, q.2.1 ++ [p.2], q.2.2 + p.1)
    else (q.1 ++ [q.2.1], [p.2], p.1)) ([], [], 0)
  if r.2.1.isEmpty then r.1 else r.1 ++ [r.2.1]

def HydDef.segments (d : HydDef) : List (List Nat) :=
  segmentsOf ((List.range (levelCount (lowerLevels d.rows))).map d.levelCost)

/-! ## Costs (08 Table 8-9) -/

/-- A triangular solve over levels with the entries of a triangle. -/
def triCost (lv : List Nat) (es : List (Nat × Nat)) : Nat :=
  320 + ((List.range (levelCount lv)).map (fun l =>
    16 + ceilDiv ((es.filter (fun p => decide (lv.getD p.1 0 = l))).length) 32)).foldl (· + ·) 0

def HydDef.triL (d : HydDef) : Nat :=
  triCost (lowerLevels d.rows) (d.entries.filter (fun p => if d.method = 0 then decide (p.2 ≤ p.1) else decide (p.2 < p.1)))
def HydDef.triU (d : HydDef) : Nat := triCost (upperLevels d.rows) (d.entries.filter (fun p => decide (p.1 ≤ p.2)))

/-- Feed words latched. -/
def HydDef.feedWords (d : HydDef) : Nat :=
  (d.nodes.filter (fun x => x.feed.isSome)).length + (d.elems.filter (fun x => x.feed.isSome)).length

def HydDef.costLatch (d : HydDef) : Nat := 256 + ceilDiv d.feedWords 16
def HydDef.costA (d : HydDef) : Nat :=
  let m := d.elems.length
  (128 + ceilDiv m 16) + (320 + ceilDiv (d.nnz + 2 * m) 64) + (96 + ceilDiv d.n 128) +
    (64 + ceilDiv d.pubs.length 32) + 128
def HydDef.costSeg (d : HydDef) (sg : List Nat) : Nat := (sg.map d.levelCost).foldl (· + ·) 0 + 128
def HydDef.costB (d : HydDef) : Nat := 320 + (d.segments.map d.costSeg).foldl (· + ·) 0
def HydDef.costC (d : HydDef) : Nat :=
  if d.method = 0 then 2 * costUpd d.n + 2 * d.triL + costDot d.n + 128
  else 3 * costUpd d.n + 2 * costDot d.n + 128
def HydDef.costD (d : HydDef) : Nat :=
  if d.method = 0 then costSpmv d.nnz + 2 * costDot d.n + 3 * costUpd d.n + 2 * d.triL + 128
  else 2 * costSpmv d.nnz + 5 * costDot d.n + 6 * costUpd d.n + 2 * d.triL + 2 * d.triU + 128
def HydDef.costE (d : HydDef) : Nat := costUpd d.n + costDot d.n + 128

/-! ## Store (08 Table 8-1) -/

def blocks4k (b : Nat) : Nat := ceilDiv b 4096

/-- Bytes of the pattern, the model, the matrix values and one factor buffer. -/
def HydDef.patternBytes (d : HydDef) : Nat := 4 * d.nnz + 8 * d.n + 4
def HydDef.modelBytes (d : HydDef) : Nat :=
  64 + 16 * d.nodes.length + 32 * d.elems.length + 8 * d.pubs.length + 4 * d.exps.length
def HydDef.factorBytes (d : HydDef) : Nat := if d.method = 0 then 2 * (d.nnz + d.n) else 4 * d.nnz
def HydDef.workBytes (d : HydDef) : Nat :=
  if d.method = 0 then 4 * (6 * d.n + 2 * d.elems.length) else 4 * (10 * d.n + 2 * d.elems.length)

/-- Allocated blocks with one or two factor buffers. -/
def HydDef.blocks (d : HydDef) (bufs : Nat) : Nat :=
  blocks4k d.patternBytes + blocks4k d.modelBytes + blocks4k (4 * d.nnz) + bufs * blocks4k d.factorBytes +
    2 * blocks4k d.workBytes

/-- Bytes of the resident structures a rebuild writes (08 R213, R216). -/
def HydDef.residentBytes (d : HydDef) : Nat := d.patternBytes + d.modelBytes + 4 * d.nnz + d.factorBytes

/-! ## Unit A: element laws, residual, matrix (08 R228, R229) -/

/-- The working set of a solve. -/
structure HydWork where
  heads : List Int
  fixh : List Int
  demand : List Sc
  svals : List Sc
  q : List Int
  g : List Int
  mat : List Int
  f : List Int
  fnorm : Sc
  x : List Int
  r : List Int
  rh : List Int
  p : List Int
  z : List Int
  rho : Sc
  rr : Sc
  first : Sc
  dhnorm : Option Sc
  deriving Repr

def HydDef.ex (d : HydDef) (arr i : Nat) : Int := expAt d.exps arr i

/-- The head of a node. -/
def HydDef.head (d : HydDef) (w : HydWork) (node : Nat) : Sc := match d.row? node with
  | some i => elem d.exps 0x01 w.heads i
  | none => elem d.exps 0x0B w.fixh (d.fixIdx node)

/-- Flow and derivative of one element, rounded to FLOW and GEL (08 Table 8-7). -/
def HydDef.law (d : HydDef) (w : HydWork) (k : Nat) (x : HydElem) : Calc (Int × Int) := do
  let hf := d.head w x.src
  let ht := d.head w x.dst
  let eq := d.ex 0x04 k
  let eg := d.ex 0x05 k
  let s := w.svals.getD k Sc.zero
  if x.etype = 4 then
    let u ← sumSc (addT (d.head w (x.sense.getD 0)) ++ negT (addT ht))
    let v ← sumSc (addT hf ++ negT (addT ht) ++ negT (mulT x.p2 u))
    let q ← sumTo eq (addT s ++ mulT x.p1 v)
    let g ← roundTo eg x.p1
    pure (q, g)
  else
    let reff ← (if x.etype = 2 then do
        let c0 := if s.le x.p2 then x.p2 else if Sc.one.le s then Sc.one else s
        let c ← norm c0
        let c2 ← mulSc c c
        divSc x.p1 c2
      else norm x.p1)
    let y ← (if x.etype = 3 then do
        let s2 ← mulSc s s
        sumSc (addT hf ++ negT (addT ht) ++ mulT s2 x.p2)
      else sumSc (addT hf ++ negT (addT ht)))
    if d.xLam.le y.abs then
      let v ← divSc y.abs reff
      let q ← sqrtTo eq v
      let u ← mulSc reff y.abs
      let root ← sqrtSc u
      let g ← divTo eg Sc.one ⟨root.m, root.e + 1⟩
      pure (if y.m < 0 then -q else q, g)
    else
      let u ← mulSc reff d.xLam
      let root ← sqrtSc u
      let q ← divTo eq y root
      let g ← divTo eg Sc.one root
      pure (q, g)

/-- Terms the derivatives of an element add to entry (i, j) of the Jacobian (08 R228, R229). -/
def HydDef.jacTerms (d : HydDef) (g : List Int) (om : Sc) (k : Nat) (x : HydElem) (i j : Nat) : List Sc :=
  let gk := elem d.exps 0x05 g k
  let col : Option Nat → List Sc → List Sc := fun c t => if c = some j then t else []
  let derivs : List Sc :=
    if x.etype = 4 then
      col (d.row? x.src) (addT gk) ++ col (d.row? x.dst) (negT (mulT gk om)) ++
        (match x.sense with | some k => col (d.row? k) (negT (mulT gk x.p2)) | none => [])
    else col (d.row? x.src) (addT gk) ++ col (d.row? x.dst) (negT (addT gk))
  (if d.row? x.src = some i then derivs else []) ++ (if d.row? x.dst = some i then negT derivs else [])

/-- Element evaluation, assembly and residual norm. -/
def HydDef.unitA (d : HydDef) (w : HydWork) : Calc HydWork := do
  let qg ← (d.elems.zipIdx).mapM (fun p => d.law w p.2 p.1)
  let q := qg.map (fun p => p.1)
  let g := qg.map (fun p => p.2)
  let oms ← d.elems.mapM (fun x => sumSc ([Sc.one] ++ negT (addT x.p2)))
  let mat ← (d.entries.zipIdx).mapM (fun p =>
    sumTo (d.ex 0x06 p.2) (d.elems.zipIdx.flatMap (fun e => d.jacTerms g (oms.getD e.2 Sc.zero) e.2 e.1 p.1.1 p.1.2)))
  let f ← fillSum d.exps 0x03 d.n (fun i =>
    addT (w.demand.getD i Sc.zero) ++ d.elems.zipIdx.flatMap (fun e =>
      let t := addT (elem d.exps 0x04 q e.2)
      (if d.row? e.1.src = some i then t else []) ++ (if d.row? e.1.dst = some i then negT t else [])))
  let fn ← maxAbs ((List.range d.n).map (fun i => elem d.exps 0x03 f i))
  pure { w with q := q, g := g, mat := mat, f := f, fnorm := fn }

/-- The feed latch of the first unit A (08 R223, R231): the head of a FIXED_HEAD node, the withdrawn flow of a
junction, the feed value of an element. -/
def HydDef.latch (d : HydDef) (feed : Nat × Nat → Word) (w : HydWork) : Calc HydWork := do
  let fixed := d.nodes.filter (fun x => !x.junction)
  let fixh ← (fixed.zipIdx).mapM (fun p => match p.1.feed with
    | some k => roundTo (d.ex 0x0B p.2) (feedVal (feed k) p.1.fshift)
    | none => pure 0)
  let demand ← (d.nodes.filter (fun x => x.junction)).mapM (fun x => match x.feed with
    | some k => norm (feedVal (feed k) x.fshift)
    | none => pure Sc.zero)
  let sv ← d.elems.mapM (fun x => match x.feed with
    | some k => norm (feedVal (feed k) x.fshift)
    | none => pure Sc.zero)
  pure { w with fixh := fixh, demand := demand, svals := sv }

/-! ## Factorisation (08 R239) -/

def HydDef.facIdx (d : HydDef) (p : Nat × Nat) : Option Nat := d.facEntries.findIdx? (fun q => q = p)

/-- A factor entry by its position, zero when it is not stored. -/
def HydDef.facAt (d : HydDef) (v : SMap Int) (p : Nat × Nat) : Sc := match d.facIdx p with
  | some i => ⟨SMap.get (fun _ => 0) v i, d.ex 0x07 i⟩
  | none => Sc.zero

def HydDef.matAt (d : HydDef) (mat : List Int) (p : Nat × Nat) : Sc := match d.entries.findIdx? (fun q => q = p) with
  | some i => elem d.exps 0x06 mat i
  | none => Sc.zero

/-- One factor entry. -/
def HydDef.facEntry (d : HydDef) (mat : List Int) (v : SMap Int) (ip : (Nat × Nat) × Nat) : Calc (SMap Int) := do
  let p := ip.1
  let e := d.ex 0x07 ip.2
  let ks := d.facProducts p
  let terms := addT (d.matAt mat p) ++ ks.flatMap (fun k =>
    negT (if d.method = 0 then mulT (d.facAt v (p.1, k)) (d.facAt v (p.2, k))
          else mulT (d.facAt v (p.1, k)) (d.facAt v (k, p.2))))
  let sum ← sumT terms
  let m ← (if d.method = 0 then
      if p.1 = p.2 then (if sum.m ≤ 0 then nan caNotPd else sqrtTo e sum) else divTo e sum (d.facAt v (p.2, p.2))
    else if p.2 < p.1 then divTo e sum (d.facAt v (p.2, p.2)) else roundTo e sum)
  pure (SMap.set (fun _ => 0) v ip.2 m)

/-- One segment: the rows of its levels in order of level, each row's entries by column. -/
def HydDef.factorSegment (d : HydDef) (mat : List Int) (v : SMap Int) (sg : List Nat) : Calc (SMap Int) :=
  let rs := sg.flatMap d.levelRows
  let work := rs.flatMap (fun i => d.facEntries.zipIdx.filter (fun q => decide (q.1.1 = i)))
  work.foldlM (d.facEntry mat) v

/-- z := M⁻¹ r by the two triangular solves, rounded to PRE (08 R237, R239). -/
def HydDef.applyFactor (d : HydDef) (v : SMap Int) (r : List Int) (rArr : Nat) : Calc (List Int) := do
  let n := d.n
  let y ← (List.range n).foldlM (fun (y : List Int) i => do
    let s ← sumT (addT (elem d.exps rArr r i) ++ (List.range i).flatMap (fun j =>
      negT (mulT (d.facAt v (i, j)) (elem d.exps 0x0A y j))))
    let m ← (if d.method = 0 then divTo (d.ex 0x0A i) s (d.facAt v (i, i)) else roundTo (d.ex 0x0A i) s)
    pure (y ++ [m])) []
  (List.range n).reverse.foldlM (fun (z : List Int) i => do
    let s ← sumT (addT (elem d.exps 0x0A z i) ++ ((List.range n).filter (fun j => decide (i < j))).flatMap (fun j =>
      negT (mulT (if d.method = 0 then d.facAt v (j, i) else d.facAt v (i, j)) (elem d.exps 0x0A z j))))
    let m ← divTo (d.ex 0x0A i) s (d.facAt v (i, i))
    pure (updAt z i (fun _ => m))) y

/-- mat × vector, rounded to DIR. -/
def HydDef.spmv (d : HydDef) (mat p : List Int) (pArr : Nat) : Calc (List Int) :=
  fillSum d.exps 0x09 d.n (fun i => (d.rows.getD i []).flatMap (fun j => mulT (d.matAt mat (i, j)) (elem d.exps pArr p j)))

/-- A vector update: a + k·b rounded to an array. -/
def HydDef.upd (d : HydDef) (arr : Nat) (aArr : Nat) (a : List Int) (k : Sc) (bArr : Nat) (b : List Int) : Calc (List Int) :=
  fillSum d.exps arr d.n (fun i => addT (elem d.exps aArr a i) ++ mulT k (elem d.exps bArr b i))

def HydDef.dot (d : HydDef) (aArr : Nat) (a : List Int) (bArr : Nat) (b : List Int) : Calc Sc :=
  dotSc d.n (fun i => elem d.exps aArr a i) (fun i => elem d.exps bArr b i)

/-! ## Linear solvers (08 R237, R238) -/

/-- Unit C. -/
def HydDef.unitC (d : HydDef) (v : SMap Int) (w : HydWork) : Calc HydWork := do
  let zero := List.replicate d.n (0 : Int)
  let r ← fillSum d.exps 0x08 d.n (fun i => negT (addT (elem d.exps 0x03 w.f i)))
  if d.method = 0 then
    let z ← d.applyFactor v r 0x08
    let p ← fillSum d.exps 0x09 d.n (fun i => addT (elem d.exps 0x0A z i))
    let rz ← d.dot 0x08 r 0x0A z
    pure { w with x := zero, r := r, z := z, p := p, rho := rz, rr := rz, first := rz }
  else
    let p ← fillSum d.exps 0x09 d.n (fun i => addT (elem d.exps 0x08 r i))
    let rho ← d.dot 0x08 r 0x08 r
    let rr ← d.dot 0x08 r 0x08 r
    pure { w with x := zero, r := r, rh := r, p := p, rho := rho, rr := rr, first := rr }

/-- lin_done: rz or rr at most τ² times its first value. -/
def HydDef.linDone (d : HydDef) (w : HydWork) : Calc Bool := do
  let t ← norm d.linTol
  let t2 ← mulSc t t
  let lim ← mulSc t2 w.first
  pure (w.rr.le lim)

/-- Unit D, PCG. -/
def HydDef.unitDcg (d : HydDef) (v : SMap Int) (w : HydWork) : Calc HydWork := do
  let ap ← d.spmv w.mat w.p 0x09
  let pap ← d.dot 0x09 w.p 0x09 ap
  if pap.m ≤ 0 then nan caNotPd
  else
    let alpha ← divSc w.rho pap
    let x ← d.upd 0x02 0x02 w.x alpha 0x09 w.p
    let r ← d.upd 0x08 0x08 w.r alpha.neg 0x09 ap
    let z ← d.applyFactor v r 0x08
    let rz ← d.dot 0x08 r 0x0A z
    let beta ← divSc rz w.rho
    let p ← d.upd 0x09 0x0A z beta 0x09 w.p
    pure { w with x := x, r := r, z := z, rho := rz, rr := rz, p := p }

/-- Unit D, BiCGSTAB. -/
def HydDef.unitDbi (d : HydDef) (v : SMap Int) (w : HydWork) : Calc HydWork := do
  let ph ← d.applyFactor v w.p 0x09
  let vv ← d.spmv w.mat ph 0x0A
  let dd ← d.dot 0x08 w.rh 0x09 vv
  if dd.m = 0 then nan caBreakdown
  else
    let alpha ← divSc w.rho dd
    let s ← d.upd 0x08 0x08 w.r alpha.neg 0x09 vv
    let sh ← d.applyFactor v s 0x08
    let t ← d.spmv w.mat sh 0x0A
    let tt ← d.dot 0x09 t 0x09 t
    if tt.m = 0 then nan caBreakdown
    else
      let ts ← d.dot 0x09 t 0x08 s
      let omega ← divSc ts tt
      if omega.m = 0 then nan caBreakdown
      else
        let x1 ← d.upd 0x02 0x02 w.x alpha 0x0A ph
        let x ← d.upd 0x02 0x02 x1 omega 0x0A sh
        let r ← d.upd 0x08 0x08 s omega.neg 0x09 t
        let rr ← d.dot 0x08 r 0x08 r
        let rho ← d.dot 0x08 w.rh 0x08 r
        let done ← d.linDone { w with rr := rr }
        if rho.m = 0 && !done then nan caBreakdown
        else
          let b1 ← divSc rho w.rho
          let b2 ← divSc alpha omega
          let beta ← mulSc b1 b2
          let pv ← d.upd 0x09 0x09 w.p omega.neg 0x09 vv
          let p ← d.upd 0x09 0x08 r beta 0x09 pv
          pure { w with x := x, r := r, rr := rr, rho := rho, p := p }

def HydDef.unitD (d : HydDef) (v : SMap Int) (w : HydWork) : Calc HydWork :=
  if d.method = 0 then d.unitDcg v w else d.unitDbi v w

/-- Unit E: the clamped step, the heads, the step norm (08 R229). -/
def HydDef.unitE (d : HydDef) (w : HydWork) : Calc HydWork := do
  let step ← (List.range d.n).mapM (fun i =>
    let x := elem d.exps 0x02 w.x i
    let e := d.ex 0x02 i
    if d.dhMax.m = 0 then pure x.m
    else if d.dhMax.lt x then roundTo e d.dhMax
    else if x.lt d.dhMax.neg then roundTo e d.dhMax.neg
    else pure x.m)
  let h ← fillSum d.exps 0x01 d.n (fun i => addT (elem d.exps 0x01 w.heads i) ++ addT (elem d.exps 0x02 step i))
  let nrm ← maxAbs ((List.range d.n).map (fun i => elem d.exps 0x02 step i))
  pure { w with heads := h, x := step, dhnorm := some nrm }

/-! ## Published values and deltas -/

/-- The value of a publish entry: the head of a node or the flow of an element. -/
def HydDef.pubValue (d : HydDef) (w : HydWork) (p : PubEntry) : Sc :=
  if p.kind = 1 then d.head w p.index else elem d.exps 0x04 w.q p.index

/-- Whether a delta record applies to the problem (08 R232). -/
def HydDef.deltaOk (d : HydDef) (r : DeltaRec) : Bool :=
  match r.dkind with
  | 1 => d.elems.any (fun x => decide (x.tag = r.tag))
  | 2 => d.elems.any (fun x => decide (x.tag = r.tag) && decide (x.etype ≠ 1))
  | 3 => d.nodes.any (fun x => decide (x.tag = r.tag) && x.junction)
  | _ => false

/-- Apply a delta to the resident parameters. -/
def HydDef.applyDelta (d : HydDef) (r : DeltaRec) : HydDef :=
  match r.dkind with
  | 1 => { d with elems := d.elems.map (fun x => if x.tag = r.tag then { x with p1 := shortOf r.value.toNat } else x) }
  | 2 => { d with elems := d.elems.map (fun x => if x.tag = r.tag then { x with p2 := shortOf r.value.toNat } else x) }
  | 3 => { d with nodes := d.nodes.map (fun x => if x.tag = r.tag && x.junction then { x with dflt := r.value.toInt } else x) }
  | _ => d

/-- The default head of a junction in HEAD; a free value where it lies outside its block (DESIGN CHOICE, log entry 31). -/
def HydDef.defaultHead (d : HydDef) (i : Nat) : Int :=
  let node := d.nodes.getD (d.junctions.getD i 0) default
  let m := shiftRnd node.dflt (-16 - d.ex 0x01 i)
  if m.natAbs > 2147483647 then (Config.headDefault node.tag) else m

/-- Heads of a new structure: carried by tag, otherwise DEFAULT (08 R244, R245). -/
def HydDef.startHeads (d : HydDef) (old : Option HydDef) (heads : List Int) : List Int :=
  (List.range d.n).map (fun i =>
    let node := d.nodes.getD (d.junctions.getD i 0) default
    match old with
    | none => d.defaultHead i
    | some o => match o.junctions.findIdx? (fun j => decide ((o.nodes.getD j default).tag = node.tag)) with
      | none => d.defaultHead i
      | some k =>
        let v := elem o.exps 0x01 heads k
        let m := shiftRnd v.m (v.e - d.ex 0x01 i)
        if m.natAbs > 2147483647 then (Config.headDefault node.tag) else m)

/-- The tag a publish entry carries by. -/
def HydDef.pubTag (d : HydDef) (p : PubEntry) : Nat :=
  if p.kind = 1 then (d.nodes.getD p.index default).tag else (d.elems.getD p.index default).tag

/-- Published values of a new structure, by tag and KIND; 0x8000_0000 without a match (08 R244). -/
def HydDef.carryPubs (d : HydDef) (old : Option HydDef) (vals : List Word) : List Word :=
  d.pubs.map (fun p => match old with
    | none => 0x80000000#32
    | some o => match o.pubs.findIdx? (fun q => decide (q.kind = p.kind) && decide (o.pubTag q = d.pubTag p)) with
      | some k => vals.getD k 0x80000000#32
      | none => 0x80000000#32)

end Sys2Proof.Machine
end

