-- ==== Sys2Proof/Machine/DispatchQp.lean ====
section
/-!
DEFINITION. Sys2Proof/Machine/DispatchQp.lean: the dispatch quadratic program (09): structure, symbolic and numeric
factorisation, one iteration, the checks, the step size, series shifts and the warm start.
-/
namespace Sys2Proof.Machine

def DispDef.n (d : DispDef) : Nat := d.vars.length
def DispDef.m (d : DispDef) : Nat := d.rows.length
def DispDef.nn (d : DispDef) : Nat := d.n + d.m
def DispDef.ex (d : DispDef) (arr i : Nat) : Int := expAt d.exps arr i

/-! ## KKT pattern, elimination tree, levels (09 R263, R264) -/

/-- Position of a KKT index in the elimination order. -/
def DispDef.pos (d : DispDef) (k : Nat) : Nat := d.order.findIdx (fun o => o = k)

/-- Off-diagonal pairs of K as positions, lower first. -/
def DispDef.kktPairs (d : DispDef) : List (Nat × Nat) :=
  let sort : Nat → Nat → Nat × Nat := fun a b => if a ≤ b then (b, a) else (a, b)
  ((d.p.filter (fun x => decide (x.row ≠ x.col))).map (fun x => sort (d.pos x.row) (d.pos x.col))) ++
    (d.a.map (fun x => sort (d.pos (d.n + x.row)) (d.pos x.col)))

/-- Symbolic factorisation: for each column the rows of its strictly lower entries, ascending. -/
def DispDef.symbolic (d : DispDef) : List (List Nat) :=
  let ps := d.kktPairs
  (List.range d.nn).foldl (fun (cols : List (List Nat)) j =>
    let mine := (List.range d.nn).filter (fun i => decide (j < i) &&
      (ps.contains (i, j) ||
       cols.any (fun c => decide (c.head? = some j) && c.contains i)))
    cols ++ [mine]) []

/-- Level of each column (09 R264). -/
def colLevels (cols : List (List Nat)) : List Nat :=
  (List.range cols.length).foldl (fun lv j =>
    let kids := (List.range j).filter (fun c => decide ((cols.getD c []).head? = some j))
    lv ++ [(kids.map (fun c => lv.getD c 0 + 1)).foldl Nat.max 0]) []

/-- The strictly lower factor entries (row, column), by column. -/
def facPairs (cols : List (List Nat)) : List (Nat × Nat) := cols.zipIdx.flatMap (fun p => p.1.map (fun i => (i, p.2)))

def DispDef.nnzL (d : DispDef) : Nat := (facPairs d.symbolic).length

/-- Terms in the sum of entry (i, j), and in the pivot when i = j. -/
def termsOf (cols : List (List Nat)) (i j : Nat) : List Nat :=
  (List.range j).filter (fun k => (cols.getD k []).contains j && (decide (i = j) || (cols.getD k []).contains i))

def levelCols (cols : List (List Nat)) (l : Nat) : List Nat :=
  ((colLevels cols).zipIdx.filter (fun p => decide (p.1 = l))).map (fun p => p.2)

/-- Cost of a level in a factorisation. -/
def dispLevelCost (cols : List (List Nat)) (l : Nat) : Nat :=
  let f := ((levelCols cols l).flatMap (fun j =>
    (4 + (termsOf cols j j).length) :: (cols.getD j []).map (fun i => 4 + (termsOf cols i j).length))).foldl (· + ·) 0
  16 + ceilDiv f 32

def DispDef.segments (d : DispDef) : List (List Nat) :=
  let cols := d.symbolic
  segmentsOf ((List.range (levelCount (colLevels cols))).map (dispLevelCost cols))

/-! ## Costs and store (09 Tables 9-7 and 9-9) -/

def DispDef.triK (d : DispDef) : Nat :=
  let cols := d.symbolic
  320 + ((List.range (levelCount (colLevels cols))).map (fun l =>
    16 + ceilDiv (((levelCols cols l).map (fun j => (cols.getD j []).length)).foldl (· + ·) 0) 32)).foldl (· + ·) 0

/-- Stored entries of the whole symmetric P. -/
def DispDef.nnzPs (d : DispDef) : Nat := 2 * d.p.length - (d.p.filter (fun x => decide (x.row = x.col))).length

def DispDef.feedWords (d : DispDef) : Nat :=
  (d.vars.filter (fun x => x.feed.isSome)).length + (d.rows.filter (fun x => x.feed.isSome)).length

def DispDef.costW (d : DispDef) (nd : Nat) : Nat :=
  256 + ceilDiv d.feedWords 16 + ceilDiv nd 16 + 3 * costUpd d.n + 2 * costUpd d.m + 128
def DispDef.costK (d : DispDef) : Nat :=
  320 + ceilDiv (d.nnzL + d.nn) 128 + ceilDiv (d.p.length + d.a.length + d.nn) 64 + 128
def DispDef.costS (d : DispDef) (sg : List Nat) : Nat := (sg.map (dispLevelCost d.symbolic)).foldl (· + ·) 0 + 128
def DispDef.costD (d : DispDef) : Nat := 6 * costUpd d.n + 5 * costUpd d.m + costUpd d.nn + 2 * d.triK + 128
def DispDef.costF (d : DispDef) : Nat :=
  4 * costSpmv d.a.length + 2 * costSpmv d.nnzPs + 10 * costDot d.n + 8 * costDot d.m + 128
def DispDef.costP (d : DispDef) : Nat := 64 + ceilDiv d.pubs.length 32 + 128

def DispDef.modelBytes (d : DispDef) : Nat :=
  64 + 32 * d.n + 32 * d.m + 8 * d.pubs.length + 4 * d.nn + 4 * d.exps.length
def DispDef.patternBytes (d : DispDef) : Nat := 8 * (d.p.length + d.a.length) + 4 * d.nnzL + 16 * d.nn
def DispDef.valueBytes (d : DispDef) : Nat := 4 * (d.p.length + d.a.length) + 12 * d.n + 8 * d.m
def DispDef.factorBytes (d : DispDef) : Nat := 4 * (d.nnzL + d.nn)
def DispDef.workBytes (d : DispDef) : Nat := 4 * (8 * d.n + 6 * d.m + 2 * d.nn)
def DispDef.blocks (d : DispDef) (bufs : Nat) : Nat :=
  blocks4k d.modelBytes + blocks4k d.patternBytes + blocks4k d.valueBytes + bufs * blocks4k d.factorBytes +
    2 * blocks4k d.workBytes
def DispDef.residentBytes (d : DispDef) : Nat := d.modelBytes + d.patternBytes + d.valueBytes + d.factorBytes

/-! ## Values -/

def DispDef.rowAt (d : DispDef) (i : Nat) : DispRow := d.rows.getD i default
def DispDef.varAt (d : DispDef) (i : Nat) : DispVar := d.vars.getD i default

/-- ρ_r of a row at exponent ρe. -/
def DispDef.rhoRow (d : DispDef) (rho : Int) (i : Nat) : Int := rho + (if (d.rowAt i).eq then (d.eqShift : Int) else 0)

/-- Stored values of P and A, rounded to their blocks (08 R220). -/
def DispDef.pv (d : DispDef) (k : Nat) : Calc Sc := do
  let x := d.p.getD k default
  let e := d.ex 0x19 k
  let m ← roundTo e x.v
  pure ⟨m, e⟩
def DispDef.av (d : DispDef) (k : Nat) : Calc Sc := do
  let x := d.a.getD k default
  let e := d.ex 0x1A k
  let m ← roundTo e x.v
  pure ⟨m, e⟩

/-- All values of P and of A. -/
def DispDef.pvals (d : DispDef) : Calc (List Sc) := (List.range d.p.length).mapM d.pv
def DispDef.avals (d : DispDef) : Calc (List Sc) := (List.range d.a.length).mapM d.av

/-- Terms of (P v)_i. -/
def DispDef.pTerms (d : DispDef) (pv : List Sc) (v : Nat → Sc) (i : Nat) : List Sc :=
  d.p.zipIdx.flatMap (fun x =>
    let k := pv.getD x.2 Sc.zero
    (if x.1.row = i then mulT k (v x.1.col) else []) ++
      (if x.1.col = i && decide (x.1.row ≠ x.1.col) then mulT k (v x.1.row) else []))

/-- Terms of (Aᵀ v)_j and of (A v)_i. -/
def DispDef.atTerms (d : DispDef) (av : List Sc) (v : Nat → Sc) (j : Nat) : List Sc :=
  d.a.zipIdx.flatMap (fun x => if x.1.col = j then mulT (av.getD x.2 Sc.zero) (v x.1.row) else [])
def DispDef.aTerms (d : DispDef) (av : List Sc) (v : Nat → Sc) (i : Nat) : List Sc :=
  d.a.zipIdx.flatMap (fun x => if x.1.row = i then mulT (av.getD x.2 Sc.zero) (v x.1.col) else [])

/-! ## The factorisation (09 R263) -/

/-- Index of a strictly lower entry in KF; pivots follow at nnzL + j. -/
def facIndex (pairs : List (Nat × Nat)) (p : Nat × Nat) : Option Nat := pairs.findIdx? (fun q => q = p)

def kfAt (d : DispDef) (pairs : List (Nat × Nat)) (v : SMap Int) (p : Nat × Nat) : Sc := match facIndex pairs p with
  | some i => ⟨SMap.get (fun _ => 0) v i, d.ex 0x1B i⟩
  | none => Sc.zero

def kfPivot (d : DispDef) (pairs : List (Nat × Nat)) (v : SMap Int) (j : Nat) : Sc :=
  ⟨SMap.get (fun _ => 0) v (pairs.length + j), d.ex 0x1B (pairs.length + j)⟩

/-- Terms of the KKT entry at positions (i, j). -/
def DispDef.kktTerms (d : DispDef) (pv av : List Sc) (rho : Int) (i j : Nat) : List Sc :=
  let a := d.order.getD i 0
  let b := d.order.getD j 0
  let diag : List Sc := if a = b then
      (if a < d.n then [Sc.pow2 d.sigmaExp, Sc.pow2 rho] else [⟨-1, -(d.rhoRow rho (a - d.n))⟩])
    else []
  diag ++
    d.p.zipIdx.flatMap (fun x => if (x.1.row = a && x.1.col = b) || (x.1.row = b && x.1.col = a) then
      addT (pv.getD x.2 Sc.zero) else []) ++
    d.a.zipIdx.flatMap (fun x => if (d.n + x.1.row = a && x.1.col = b) || (d.n + x.1.row = b && x.1.col = a) then
      addT (av.getD x.2 Sc.zero) else [])

/-- One column: the pivot, then its entries. -/
def DispDef.factorColumn (d : DispDef) (cols : List (List Nat)) (pairs : List (Nat × Nat)) (pv av : List Sc) (rho : Int)
    (v : SMap Int) (j : Nat) : Calc (SMap Int) := do
  let sub : Nat → Nat → Calc (List Sc) := fun i k => do
    let dk := kfPivot d pairs v k
    match mulT (kfAt d pairs v (i, k)) (kfAt d pairs v (j, k)) with
    | [] => pure []
    | t :: _ => pure (negT (mulT t dk))
  let ds ← (termsOf cols j j).mapM (fun k => sub j k)
  let pe := d.ex 0x1B (pairs.length + j)
  let piv ← sumTo pe (d.kktTerms pv av rho j j ++ ds.flatMap (fun x => x))
  let isVar := decide (d.order.getD j 0 < d.n)
  if (isVar && decide (piv ≤ 0)) || (!isVar && decide (piv ≥ 0)) then nan caNotPd
  else
    let v1 := SMap.set (fun _ => 0) v (pairs.length + j) piv
    (cols.getD j []).foldlM (fun (u : SMap Int) i => do
      let ts ← (termsOf cols i j).mapM (fun k => sub i k)
      let s ← sumT (d.kktTerms pv av rho i j ++ ts.flatMap (fun x => x))
      match facIndex pairs (i, j) with
      | none => pure u
      | some k => do
        let m ← divTo (d.ex 0x1B k) s ⟨piv, pe⟩
        pure (SMap.set (fun _ => 0) u k m)) v1

/-- One segment of levels. -/
def DispDef.factorSegment (d : DispDef) (rho : Int) (v : SMap Int) (sg : List Nat) : Calc (SMap Int) := do
  let cols := d.symbolic
  let pairs := facPairs cols
  let pv ← d.pvals
  let av ← d.avals
  (sg.flatMap (levelCols cols)).foldlM (d.factorColumn cols pairs pv av rho) v

/-- K x = rhs by position: forward, pivot scaling, backward; rounded to RH by KKT index (09 R259). -/
def DispDef.solveKkt (d : DispDef) (v : SMap Int) (rhs : List Int) : Calc (List Int) := do
  let cols := d.symbolic
  let pairs := facPairs cols
  let nn := d.nn
  let e : Nat → Int := fun i => d.ex 0x1C (d.order.getD i 0)
  let at_ : List Int → Nat → Sc := fun w i => ⟨w.getD i 0, e i⟩
  let w0 : List Int := (List.range nn).map (fun i => rhs.getD (d.order.getD i 0) 0)
  let w1 ← (List.range nn).foldlM (fun (w : List Int) i => do
    let m ← sumTo (e i) (addT (at_ w i) ++ ((List.range i).filter (fun k => (cols.getD k []).contains i)).flatMap (fun k =>
      negT (mulT (kfAt d pairs v (i, k)) (at_ w k))))
    pure (updAt w i (fun _ => m))) w0
  let w2 ← (List.range nn).mapM (fun i => divTo (e i) (at_ w1 i) (kfPivot d pairs v i))
  let w3 ← (List.range nn).reverse.foldlM (fun (w : List Int) i => do
    let m ← sumTo (e i) (addT (at_ w i) ++ (cols.getD i []).flatMap (fun k => negT (mulT (kfAt d pairs v (k, i)) (at_ w k))))
    pure (updAt w i (fun _ => m))) w2
  pure ((List.range nn).map (fun k => w3.getD (d.pos k) 0))

/-! ## Bounds, feeds, deltas (09 R256 to R258) -/

/-- clamp with missing sides; hi when lo > hi (09, The iteration). -/
def clampSc (v lo hi : Sc) (noLo noUp : Bool) : Sc :=
  if !noUp && (hi.le v || (!noLo && hi.lt lo)) then hi else if !noLo && v.le lo then lo else v

def DispDef.varDelta (d : DispDef) (r : DeltaRec) (v : DispVar) : DispVar :=
  if v.tag ≠ r.tag then v else
  let x := shortOf r.value.toNat
  match r.dkind with
  | 1 => { v with q := x }
  | 2 => { v with lo := x }
  | 3 => { v with up := x }
  | 4 => { v with dflt := x }
  | _ => v

def DispDef.rowDelta (d : DispDef) (r : DeltaRec) (v : DispRow) : DispRow :=
  if v.tag ≠ r.tag then v else
  let x := shortOf r.value.toNat
  match r.dkind with
  | 5 => { v with lo := x }
  | 6 => { v with up := x }
  | _ => v

def DispDef.applyDelta (d : DispDef) (r : DeltaRec) : DispDef :=
  { d with vars := d.vars.map (d.varDelta r), rows := d.rows.map (d.rowDelta r) }

/-- Whether a delta record applies (09 R258). -/
def DispDef.deltaOk (d : DispDef) (r : DeltaRec) : Bool := match r.dkind with
  | 1 => d.vars.any (fun v => decide (v.tag = r.tag))
  | 2 => d.vars.any (fun v => decide (v.tag = r.tag) && !v.noLo)
  | 3 => d.vars.any (fun v => decide (v.tag = r.tag) && !v.noUp)
  | 4 => d.vars.any (fun v => decide (v.tag = r.tag))
  | 5 => d.rows.any (fun v => decide (v.tag = r.tag) && (v.eq || !v.noLo))
  | 6 => d.rows.any (fun v => decide (v.tag = r.tag) && !v.eq && !v.noUp)
  | _ => false

/-- A latched feed value; a hydraulic word 0x8000_0000 ends the solve with OVERFLOW (09 R256). -/
def latchFeed (point : Nat × Nat → Word) (hyd : Nat → Word) (fshift : Int) : FeedSrc → Calc Sc
  | .point p w => pure (feedVal (point (p, w)) fshift)
  | .hyd i => if hyd i = 0x80000000#32 then nan caOverflow else pure (feedVal (hyd i) fshift)

/-- The bounds of one entry at solve start: resident values, overridden by its feed (09 R257). -/
def boundsOf (point : Nat × Nat → Word) (hyd : Nat → Word) (lo up : Sc) (feedk : Nat) (fshift : Int)
    (feed : Option FeedSrc) : Calc (Sc × Sc) := do
  match feed with
  | none => pure (lo, up)
  | some f => do
    let v ← latchFeed point hyd fshift f
    pure (if feedk = 1 then (v, v) else if feedk = 2 then (v, up) else if feedk = 3 then (lo, v) else (lo, up))

/-- Costs and bounds of a solve, rounded to QV, BR and BV. -/
def DispDef.latchAll (d : DispDef) (point : Nat × Nat → Word) (hyd : Nat → Word) (s : DispSt) : Calc DispSt := do
  let q ← d.vars.zipIdx.mapM (fun p => roundTo (d.ex 0x16 p.2) p.1.q)
  let vb ← d.vars.zipIdx.mapM (fun p => do
    let b ← boundsOf point hyd p.1.lo p.1.up p.1.feedk p.1.fshift p.1.feed
    let l ← roundTo (d.ex 0x18 p.2) b.1
    let u ← roundTo (d.ex 0x18 p.2) b.2
    pure (l, u))
  let rb ← d.rows.zipIdx.mapM (fun p => do
    let up := if p.1.eq then p.1.lo else p.1.up
    let b ← boundsOf point hyd p.1.lo up p.1.feedk p.1.fshift p.1.feed
    let l ← roundTo (d.ex 0x17 p.2) b.1
    let u ← roundTo (d.ex 0x17 p.2) b.2
    pure (l, u))
  pure { s with q := q, xl := vb.map (fun b => b.1), xu := vb.map (fun b => b.2),
                lo := rb.map (fun b => b.1), up := rb.map (fun b => b.2) }

def DispDef.clampVar (d : DispDef) (s : DispSt) (i : Nat) (v : Sc) : Sc :=
  clampSc v (elem d.exps 0x18 s.xl i) (elem d.exps 0x18 s.xu i) (d.varAt i).noLo (d.varAt i).noUp
def DispDef.clampRow (d : DispDef) (s : DispSt) (i : Nat) (v : Sc) : Sc :=
  clampSc v (elem d.exps 0x17 s.lo i) (elem d.exps 0x17 s.up i) (d.rowAt i).noLo (d.rowAt i).noUp

/-! ## Series shifts (09 R272, R274) -/

/-- The variable, and the row, one step later in the same series. -/
def DispDef.nextVar (d : DispDef) (i : Nat) : Nat := match (d.varAt i).step with
  | none => i
  | some t => (d.vars.findIdx? (fun v => decide (v.series = (d.varAt i).series) && decide (v.step = some (t + 1)))).getD i
def DispDef.nextRow (d : DispDef) (i : Nat) : Nat := match (d.rowAt i).step with
  | none => i
  | some t => (d.rows.findIdx? (fun v => decide (v.series = (d.rowAt i).series) && decide (v.step = some (t + 1)))).getD i

/-- An array moved one step along its series; a value whose block differs is rounded to its new block. -/
def shiftArr (d : DispDef) (arr : Nat) (next : Nat → Nat) (l : List Int) : Calc (List Int) :=
  (List.range l.length).mapM (fun i => roundTo (d.ex arr i) (elem d.exps arr l (next i)))

/-- One shift of the warm start. -/
def DispDef.shiftWarm (d : DispDef) (s : DispSt) : Calc DispSt := do
  let x ← shiftArr d 0x11 d.nextVar s.x
  let zb ← shiftArr d 0x14 d.nextVar s.zb
  let yb ← shiftArr d 0x15 d.nextVar s.yb
  let z ← shiftArr d 0x12 d.nextRow s.z
  let y ← shiftArr d 0x13 d.nextRow s.y
  pure { s with x := x, zb := zb, yb := yb, z := z, y := y }

def repeatM {α : Type} (f : α → Calc α) : Nat → α → Calc α
  | 0, a => pure a
  | n + 1, a => f a >>= repeatM f n

/-- Unit W: bounds and costs, the shift, the projection (09 R274). -/
def DispDef.unitW (d : DispDef) (point : Nat × Nat → Word) (hyd : Nat → Word) (s : DispSt) : Calc DispSt := do
  let s1 ← d.latchAll point hyd s
  let s2 ← repeatM d.shiftWarm (min s.ends d.nstep) s1
  let z ← (List.range d.m).mapM (fun i => roundTo (d.ex 0x12 i) (d.clampRow s2 i (elem d.exps 0x12 s2.z i)))
  let zb ← (List.range d.n).mapM (fun i => roundTo (d.ex 0x14 i) (d.clampVar s2 i (elem d.exps 0x14 s2.zb i)))
  pure { s2 with z := z, zb := zb }

/-! ## The iteration (09 R259) -/

/-- Unit D with the active factor at ρe. -/
def DispDef.unitD (d : DispDef) (v : SMap Int) (s0 : DispSt) : Calc DispSt := do
  let keep := decide ((s0.it + 1) % d.checkEvery = 0)
  let s := if keep then { s0 with xPrev := s0.x, yPrev := s0.y, ybPrev := s0.yb } else s0
  let n := d.n
  let rho := s.rho
  let xe : Nat → Sc := elem d.exps 0x11 s.x
  let ze : Nat → Sc := elem d.exps 0x12 s.z
  let ye : Nat → Sc := elem d.exps 0x13 s.y
  let zbe : Nat → Sc := elem d.exps 0x14 s.zb
  let ybe : Nat → Sc := elem d.exps 0x15 s.yb
  let scale : Sc → Int → Sc := fun x k => ⟨x.m, x.e + k⟩
  let rhs ← (List.range d.nn).mapM (fun k =>
    if k < n then sumTo (d.ex 0x1C k) (addT (scale (xe k) d.sigmaExp) ++ negT (addT (elem d.exps 0x16 s.q k)) ++
      addT (scale (zbe k) rho) ++ negT (addT (ybe k)))
    else
      let i := k - n
      sumTo (d.ex 0x1C k) (addT (ze i) ++ negT (addT (scale (ye i) (-(d.rhoRow rho i))))))
  let sol ← d.solveKkt v rhs
  let xt : Nat → Sc := elem d.exps 0x1C sol
  let nu : Nat → Sc := fun i => elem d.exps 0x1C sol (n + i)
  let al ← norm d.alpha
  let om ← sumSc ([Sc.one] ++ negT (addT d.alpha))
  let zt ← fillSum d.exps 0x12 d.m (fun i => addT (ze i) ++ addT (scale (nu i) (-(d.rhoRow rho i))) ++
    negT (addT (scale (ye i) (-(d.rhoRow rho i)))))
  let w ← fillSum d.exps 0x12 d.m (fun i => mulT al (elem d.exps 0x12 zt i) ++ mulT om (ze i))
  let wb ← fillSum d.exps 0x14 n (fun i => mulT al (xt i) ++ mulT om (zbe i))
  let x ← fillSum d.exps 0x11 n (fun i => mulT al (xt i) ++ mulT om (xe i))
  let z ← (List.range d.m).mapM (fun i => do
    let t ← sumT (addT (elem d.exps 0x12 w i) ++ addT (scale (ye i) (-(d.rhoRow rho i))))
    roundTo (d.ex 0x12 i) (d.clampRow s i t))
  let zb ← (List.range n).mapM (fun i => do
    let t ← sumT (addT (elem d.exps 0x14 wb i) ++ addT (scale (ybe i) (-rho)))
    roundTo (d.ex 0x14 i) (d.clampVar s i t))
  let y ← fillSum d.exps 0x13 d.m (fun i => addT (ye i) ++ addT (scale (elem d.exps 0x12 w i) (d.rhoRow rho i)) ++
    negT (addT (scale (elem d.exps 0x12 z i) (d.rhoRow rho i))))
  let yb ← fillSum d.exps 0x15 n (fun i => addT (ybe i) ++ addT (scale (elem d.exps 0x14 wb i) rho) ++
    negT (addT (scale (elem d.exps 0x14 zb i) rho)))
  pure { s with x := x, z := z, zb := zb, y := y, yb := yb, it := s.it + 1,
                fDue := decide ((s.it + 1) % d.checkEvery = 0) }

/-! ## The check (09 R260 to R262, R266) -/

/-- What unit F finds. -/
structure Check where
  conv : Bool
  primal : Bool
  dual : Bool
  pr : Sc
  dr : Sc
  /-- The step-size exponent at which a factorisation starts. -/
  rho : Option Int
  deriving Repr

/-- EPS_ABS + EPS_REL × v. -/
def DispDef.tol (d : DispDef) (v : Sc) : Calc Sc := sumSc (addT d.epsAbs ++ mulT d.epsRel v)

/-- The new step-size exponent (09 R266). -/
def newRho (rho : Int) (ratio : Sc) : Int :=
  let l := if ratio.m < 0x5A827999 then ratio.e + 30 else ratio.e + 31
  let r := rho + rndDiv l 2
  if r < -16 then -16 else if r > 16 then 16 else r

/-- The exact difference of two entries of one array. -/
def diffT (exps : List ExpEntry) (arr : Nat) (a b : List Int) (i : Nat) : Sc := ⟨a.getD i 0 - b.getD i 0, expAt exps arr i⟩

/-- One side of the sum S: the bound met by a dual change; none when that bound is missing. -/
def sideTerm (dy lo up : Sc) (noLo noUp : Bool) : Option (List Sc) :=
  if dy.m > 0 then (if noUp then none else some (mulT up dy))
  else if dy.m < 0 then (if noLo then none else some (mulT lo dy))
  else some []

/-- A direction entry against its bounds for a dual certificate. -/
def dirOk (v lim : Sc) (noLo noUp : Bool) : Bool :=
  (noUp || v.le lim) && (noLo || lim.neg.le v)

/-- Unit F. -/
def DispDef.unitF (d : DispDef) (s : DispSt) : Calc Check := do
  let n := d.n
  let pv ← d.pvals
  let av ← d.avals
  let xe : Nat → Sc := elem d.exps 0x11 s.x
  let ze : Nat → Sc := elem d.exps 0x12 s.z
  let ye : Nat → Sc := elem d.exps 0x13 s.y
  let zbe : Nat → Sc := elem d.exps 0x14 s.zb
  let ybe : Nat → Sc := elem d.exps 0x15 s.yb
  let dx : Nat → Sc := diffT d.exps 0x11 s.x s.xPrev
  let dy : Nat → Sc := diffT d.exps 0x13 s.y s.yPrev
  let dyb : Nat → Sc := diffT d.exps 0x15 s.yb s.ybPrev
  let rs : Nat → (Nat → List Sc) → Calc (List Sc) := fun o f =>
    (List.range (if o = 0 then n else d.m)).mapM (fun i => do
      let e := d.ex 0x1D (o + i)
      let m ← sumTo e (f i)
      pure ⟨m, e⟩)
  let px ← rs 0 (d.pTerms pv xe)
  let pdx ← rs 0 (d.pTerms pv dx)
  let aty ← rs 0 (d.atTerms av ye)
  let atdy ← rs 0 (d.atTerms av dy)
  let ax ← (if d.m = 0 then pure [] else rs n (d.aTerms av xe))
  let adx ← (if d.m = 0 then pure [] else rs n (d.aTerms av dx))
  let g : List Sc → Nat → Sc := fun l i => l.getD i Sc.zero
  let rows := List.range d.m
  let vars := List.range n
  let sums : List Nat → (Nat → List Sc) → Calc Sc := fun l f => do
    let vs ← l.mapM (fun i => sumT (f i))
    maxAbs vs
  let pr1 ← sums rows (fun i => addT (g ax i) ++ negT (addT (ze i)))
  let pr2 ← sums vars (fun i => addT (xe i) ++ negT (addT (zbe i)))
  let pr := pr1.max pr2
  let pn ← maxAbs (ax ++ rows.map ze ++ vars.map xe ++ vars.map zbe)
  let qe : Nat → Sc := elem d.exps 0x16 s.q
  let dr ← sums vars (fun i => addT (g px i) ++ addT (qe i) ++ addT (g aty i) ++ addT (ybe i))
  let dn2 ← sums vars (fun i => addT (g aty i) ++ addT (ybe i))
  let dn1 ← maxAbs (px ++ vars.map qe)
  let dn := dn1.max dn2
  let tp ← d.tol pn
  let td ← d.tol dn
  let conv := pr.le tp && dr.le td
  let ny ← maxAbs (rows.map dy ++ vars.map dyb)
  let nx ← maxAbs (vars.map dx)
  let limY ← mulSc d.epsInf ny
  let limX ← mulSc d.epsInf nx
  let cert ← sums vars (fun i => addT (g atdy i) ++ addT (dyb i))
  let sides := rows.map (fun i => sideTerm (dy i) (elem d.exps 0x17 s.lo i) (elem d.exps 0x17 s.up i)
      (d.rowAt i).noLo (d.rowAt i).noUp) ++
    vars.map (fun i => sideTerm (dyb i) (elem d.exps 0x18 s.xl i) (elem d.exps 0x18 s.xu i) (d.varAt i).noLo (d.varAt i).noUp)
  let sneg ← (if sides.all (fun t => t.isSome) then do
      let t ← sumSc (sides.flatMap (fun t => t.getD []))
      pure (t.lt limY.neg)
    else pure false)
  let primal := decide (ny.m > 0) && cert.le limY && sneg
  let np ← maxAbs pdx
  let qd ← sumSc (vars.flatMap (fun i => mulT (qe i) (dx i)))
  let dual := decide (nx.m > 0) && np.le limX && qd.lt limX.neg &&
    rows.all (fun i => dirOk (g adx i) limX (d.rowAt i).noLo (d.rowAt i).noUp) &&
    vars.all (fun i => dirOk (dx i) limX (d.varAt i).noLo (d.varAt i).noUp)
  let due := decide (d.rhoEvery ≠ 0) && decide (s.it % d.rhoEvery = 0) && decide (pr.m ≠ 0) && decide (pn.m ≠ 0) &&
    decide (dr.m ≠ 0) && decide (dn.m ≠ 0) && s.pend.isNone && !s.frozen
  let rho ← (if due then do
      let num ← mulSc pr dn
      let den ← mulSc pn dr
      let ratio ← divSc num den
      let r := newRho s.rho ratio
      pure (if (r - s.rho).natAbs ≥ d.rhoTol then some r else none)
    else pure none)
  pure ⟨conv, primal, dual, pr, dr, rho⟩

/-- Unit P: the staged words (09 R270). -/
def DispDef.unitP (d : DispDef) (s : DispSt) : Calc (List Word × Bool) := do
  let av ← d.avals
  let ws ← d.pubs.mapM (fun p => do
    let v ← (if p.kind = 1 then pure (elem d.exps 0x11 s.x p.index)
             else if p.kind = 2 then pure (elem d.exps 0x13 s.y p.index)
             else do
               let e := d.ex 0x1D (d.n + p.index)
               let m ← sumTo e (d.aTerms av (elem d.exps 0x11 s.x) p.index)
               pure ⟨m, e⟩)
    pure (pubWord v p.pshift))
  pure (ws.map (fun w => w.1), ws.any (fun w => w.2))

/-! ## Shift of the publication, starting values, carry by tag (09 R272, R275, R277) -/

/-- The publish entry of the same KIND one step later in the series. -/
def DispDef.nextPub (d : DispDef) (i : Nat) : Nat :=
  let p := d.pubs.getD i default
  let nxt := if p.kind = 1 then d.nextVar p.index else d.nextRow p.index
  if nxt = p.index then i else (d.pubs.findIdx? (fun q => decide (q.kind = p.kind) && decide (q.index = nxt))).getD i

def DispDef.shiftPub (d : DispDef) (vals : List Word) : List Word :=
  (List.range vals.length).map (fun i => vals.getD (d.nextPub i) 0)

/-- A value rounded to its block, a free value where it lies outside (DESIGN CHOICE, log entry 31). -/
def fitBlock (e : Int) (x : Sc) (k : Nat) : Int :=
  let m := shiftRnd x.m (x.e - e)
  if m.natAbs > 2147483647 then Config.blockFit k else m

/-- The iterate of a new structure by tag (09 R275). -/
def DispDef.startIterate (d : DispDef) (old : Option DispDef) (s : DispSt) : DispSt :=
  let ov : Nat → Option Nat := fun t => match old with
    | none => none
    | some o => o.vars.findIdx? (fun v => decide (v.tag = t))
  let orow : Nat → Option Nat := fun t => match old with
    | none => none
    | some o => o.rows.findIdx? (fun v => decide (v.tag = t))
  let oe : List ExpEntry := match old with | some o => o.exps | none => []
  let dflt : Nat → Sc := fun i => let v := d.varAt i; clampSc v.dflt v.lo v.up v.noLo v.noUp
  let pick : Nat → List Int → (Nat → Option Nat) → Nat → Nat → (Nat → Sc) → Int := fun arr l o i t f =>
    fitBlock (d.ex arr i) (match o t with | some k => elem oe arr l k | none => f i) t
  let vs := List.range d.n
  let rs := List.range d.m
  let zr : Nat → Sc := fun i =>
    let r := d.rowAt i
    clampSc Sc.zero r.lo (if r.eq then r.lo else r.up) r.noLo r.noUp
  { s with x := vs.map (fun i => pick 0x11 s.x ov i (d.varAt i).tag dflt),
           zb := vs.map (fun i => pick 0x14 s.zb ov i (d.varAt i).tag dflt),
           yb := vs.map (fun i => pick 0x15 s.yb ov i (d.varAt i).tag (fun _ => Sc.zero)),
           z := rs.map (fun i => pick 0x12 s.z orow i (d.rowAt i).tag zr),
           y := rs.map (fun i => pick 0x13 s.y orow i (d.rowAt i).tag (fun _ => Sc.zero)) }

def DispDef.pubTag (d : DispDef) (p : PubEntry) : Nat :=
  if p.kind = 1 then (d.varAt p.index).tag else (d.rowAt p.index).tag

def DispDef.carryPubs (d : DispDef) (old : Option DispDef) (vals : List Word) : List Word :=
  d.pubs.map (fun p => match old with
    | none => 0x80000000#32
    | some o => match o.pubs.findIdx? (fun q => decide (q.kind = p.kind) && decide (o.pubTag q = d.pubTag p)) with
      | some k => vals.getD k 0x80000000#32
      | none => 0x80000000#32)

/-- Take a dispatch structure into force (09 R275, R277). -/
def DispSt.adopt (s : DispSt) (d : DispDef) : DispSt :=
  let s1 := d.startIterate s.defn s
  { s1 with defn := some d, base := some d, factor := none, pend := none, rho := d.rhoExp, frozen := false, deltas := [],
            topo := none, staged := none, pub := { s1.pub with vals := d.carryPubs s.defn s1.pub.vals } }

end Sys2Proof.Machine
end

