-- ==== Sys2Proof/Machine/Solver.lean ====
section
/-!
DEFINITION. Sys2Proof/Machine/Solver.lean: the solver sequencer (08): units with their lane comparison, the hydraulic
solve of a cell, publication and reuse, the lane self-test, store errors and rebuilds.
-/
namespace Sys2Proof.Machine

/-! ## Running a unit (08 R214, R234) -/

/-- The sequencer within a cell: cycles consumed, ordinal of the next unit run, digest differences, underflows, and
whether a working-set error still counts against the next unit. -/
structure Seq where
  c : Nat
  run : Nat
  mis : Nat
  uflow : Nat
  wsErr : Bool
  deriving DecidableEq, Repr

/-- How a unit ends. -/
inductive UnitEnd (α : Type) where
  | ok (a : α)
  | nan (cause : Nat)
  | lane
  | store
  | cut
  | nofit

/-- One run of a unit whose digests agree. -/
def evalUnit {α : Type} (q : Seq) (cost : Nat) (f : Calc α) : UnitEnd α × Seq :=
  let r := f.run.run q.uflow
  let q1 := { q with c := q.c + cost, run := q.run + 1, uflow := r.2 }
  match r.1 with
  | .ok a => (.ok a, q1)
  | .error c => (.nan c, q1)

/-- Run a unit: it must fit; a digest difference runs it once more; a second one is LANE_MISMATCH (08 R214). -/
def runUnit {α : Type} (b cost : Nat) (cond : SolveCond) (q : Seq) (f : Calc α) : UnitEnd α × Seq :=
  if q.c + cost > b then (.nofit, q)
  else if cond.ecc = some q.run then (.store, { q with run := q.run + 1 })
  else if cond.cut = some q.run then (.cut, { q with run := q.run + 1 })
  else if cond.diffs.contains q.run || q.wsErr then
    let q1 := { q with c := q.c + cost, run := q.run + 1, mis := q.mis + 1, wsErr := false }
    if q1.c + cost > b then (.nofit, q1)
    else if cond.ecc = some q1.run then (.store, { q1 with run := q1.run + 1 })
    else if cond.cut = some q1.run then (.cut, { q1 with run := q1.run + 1 })
    else if cond.diffs.contains q1.run then
      (.lane, { q1 with c := q1.c + cost, run := q1.run + 1, mis := q1.mis + 1 })
    else evalUnit q1 cost f
  else evalUnit q cost f

/-- The cause with which a unit that did not commit ends a hydraulic solve. -/
def UnitEnd.cause {α : Type} : UnitEnd α → Nat
  | .ok _ => caNone
  | .nan c => c
  | .lane => caLane
  | .store => caStore
  | .cut => caBudget
  | .nofit => caBudget

/-! ## The hydraulic solve (08 R234) -/

/-- A solve under way. -/
structure HydRun where
  q : Seq
  w : HydWork
  fac : Option (SMap Int)
  pend : Option FacJob
  newton : Nat
  iters : Nat
  first : Bool

/-- A solve that goes on, or that has ended with a cause. -/
inductive SolveFlow where
  | go (r : HydRun)
  | stop (r : HydRun) (cause : Nat)

/-- Run the remaining segments of a factorisation while they fit; `extra` is the 320 cycles of a fresh start. -/
def HydDef.runSegments (d : HydDef) (b : Nat) (cond : SolveCond) (mat : List Int) :
    List (List Nat) → Nat → FacJob → HydRun → SolveFlow
  | [], _, job, r => .go { r with fac := some job.vals, pend := none }
  | sg :: rest, extra, job, r =>
    match runUnit b (extra + d.costSeg sg) cond r.q (d.factorSegment mat job.vals sg) with
    | (.ok v, q) => d.runSegments b cond mat rest 0 { job with seg := job.seg + 1, vals := v } { r with q := q }
    | (.nofit, q) => .stop { r with q := q, pend := some job } caFactor
    | (.nan c, q) => .stop { r with q := q, pend := none } c
    | (u, q) => .stop { r with q := q, pend := some job } u.cause

/-- The linear iterations of a Newton step: while not done, below LIN_MAX, and the next one fits with unit E. -/
def HydDef.iterate (d : HydDef) (b : Nat) (cond : SolveCond) (v : SMap Int) : Nat → HydRun → SolveFlow
  | 0, r => .go r
  | n + 1, r =>
    match (d.linDone r.w).run.run 0 with
    | (.ok true, _) => .go r
    | (.error c, _) => .stop r c
    | (.ok false, _) =>
      if r.q.c + d.costD + d.costE > b then .go r
      else match runUnit b d.costD cond r.q (d.unitD v r.w) with
        | (.ok w, q) => d.iterate b cond v n { r with q := q, w := w, iters := r.iters + 1 }
        | (u, q) => .stop { r with q := q } u.cause

/-- Units C, D and E of one Newton step with an active factor. -/
def HydDef.newtonStep (d : HydDef) (b : Nat) (cond : SolveCond) (r : HydRun) : SolveFlow :=
  match r.fac with
  | none => .stop r caFactor
  | some v =>
    if r.q.c + d.costC + d.costE > b then .stop r caBudget
    else match runUnit b d.costC cond r.q (d.unitC v r.w) with
      | (.ok w, q) =>
        match d.iterate b cond v d.linMax { r with q := q, w := w } with
        | .stop r1 c => .stop r1 c
        | .go r1 => match runUnit b d.costE cond r1.q (d.unitE r1.w) with
          | (.ok w2, q2) => .go { r1 with q := q2, w := w2, newton := r1.newton + 1 }
          | (u, q2) => .stop { r1 with q := q2 } u.cause
      | (u, q) => .stop { r with q := q } u.cause

/-- Unit B when it fits; otherwise the active factor serves, or a factorisation starts (08 R234, R240). -/
def HydDef.factorStep (d : HydDef) (b : Nat) (cond : SolveCond) (r : HydRun) : SolveFlow :=
  let job : FacJob := ⟨0, [], 0, true⟩
  if r.q.c + d.costB ≤ b then
    d.runSegments b cond r.w.mat d.segments 320 job { r with pend := some job }
  else match r.fac with
    | some _ => .go r
    | none => match d.runSegments b cond r.w.mat d.segments 320 job { r with pend := some job } with
      | .go r1 => .stop r1 caFactor
      | .stop r1 c => .stop r1 c

/-- The loop of a solve, `fuel` Newton steps. -/
def HydDef.solveLoop (d : HydDef) (b : Nat) (cond : SolveCond) (feed : Nat × Nat → Word) : Nat → HydRun → SolveFlow
  | 0, r => .stop r caNewton
  | n + 1, r =>
    let cost := d.costA + (if r.first then d.costLatch else 0)
    let unit : Calc HydWork := do
      let w ← (if r.first then d.latch feed r.w else pure r.w)
      d.unitA w
    match runUnit b cost cond r.q unit with
    | (.ok w, q) =>
      let r1 := { r with q := q, w := w, first := false }
      let converged := match w.dhnorm with
        | some dh => w.fnorm.le d.tolF && dh.le d.tolH
        | none => false
      if converged then .stop r1 caNone
      else if r1.newton = d.newtonMax then .stop r1 caNewton
      else match d.factorStep b cond r1 with
        | .stop r2 c => .stop r2 c
        | .go r2 => match d.newtonStep b cond r2 with
          | .stop r3 c => .stop r3 c
          | .go r3 => d.solveLoop b cond feed n r3
    | (u, q) => .stop { r with q := q } u.cause

/-- One solve: a pending factorisation first, then Newton steps (08 R234). -/
def HydDef.solve (d : HydDef) (b : Nat) (cond : SolveCond) (feed : Nat × Nat → Word) (r : HydRun) : HydRun × Nat :=
  let r0 : SolveFlow := match r.pend with
    | none => .go r
    | some job => d.runSegments b cond r.w.mat (d.segments.drop job.seg) (if job.seg = 0 then 320 else 0) job r
  match r0 with
  | .stop r1 c => (r1, c)
  | .go r1 => match d.solveLoop b cond feed (d.newtonMax + 1) r1 with
    | .go r2 => (r2, caNewton)
    | .stop r2 c => (r2, c)

/-! ## Feeds (08 R231) -/

/-- The held word of a SOLVER_FEED point. -/
def State.feedWord (s : State) (k : Nat × Nat) : Word := (SMap.get dWords s.vot.feeds k.1).getD k.2 0

/-! ## Publication (08 R241 to R243) -/

def limitOf (l : Nat) : Nat := if l = 0 then 4 else l

/-- The quality of a published item (08 R243, under R4). -/
def PubBuf.quality (p : PubBuf) (limit : Nat) : Quality :=
  let reuse := bitsOf (p.status.getD 0 0).toNat 23 16
  if p.vals.contains 0x80000000#32 then .void
  else if p.missing then .missing
  else if reuse > limitOf limit then .stale
  else .good

/-- Status word 0 (08 Table 8-10). -/
def statusWord0 (cause reuse : Nat) (sat fpend lane : Bool) (low : Nat) : Word :=
  BitVec.ofNat 32 (cause * 2 ^ 24 + min reuse 255 * 2 ^ 16 + b2n (decide (reuse > 0)) * 2 ^ 15 + b2n sat * 2 ^ 14 +
    b2n fpend * 2 ^ 13 + b2n lane * 2 ^ 12 + min low 255)

/-- A norm as a Q16.16 word, saturating. -/
def normWord (x : Sc) : Word := (pubWord x 0).1

/-- The solver island's clock in units of 0.1 % of MHz: 800 MHz less its down-spread. -/
def State.slvRate (s : State) : Nat := 800 * (1000 - s.fld 0x108C 4 0)

/-- DT at which a unit commits after `c` cycles of a cell that opened at `t` (08 Table 8-12). -/
def State.commitDt (s : State) (t c : Nat) : Nat := t + c * 1000 * 1000 / s.slvRate

/-- The working set a solve starts from. -/
def HydSt.work (h : HydSt) : HydWork :=
  ⟨h.heads, h.fixh, [], [], h.flows, [], h.mat, [], Sc.zero, [], [], [], [], [], Sc.zero, Sc.zero, Sc.zero, none⟩

/-- Count a solve's end for the lane self-test (08 R215). -/
def Slv.countEnd (v : Slv) (cause : Nat) : Slv :=
  if cause = caLane then
    let m := v.misrun + 1
    { v with misrun := min m 255, laneTest := if m ≥ 3 then 600000 else v.laneTest }
  else { v with misrun := 0 }

/-- The publication after a solve that did not publish values: words 0 and 1 (08 R242, R243). -/
def HydSt.republish (h : HydSt) (lane : Bool) (iters newton dt : Nat) : PubBuf :=
  let sat := bitOf (h.pub.status.getD 0 0).toNat 14
  let vals := if h.pub.vals.isEmpty then
      List.replicate (match h.defn with | some d => d.pubs.length | none => 0) 0x80000000#32 else h.pub.vals
  { h.pub with status := (updAt (updAt h.pub.status 0 (fun _ => statusWord0 h.cause h.reuse sat h.pend.isSome lane newton))
                          1 (fun _ => BitVec.ofNat 32 iters)),
               vals := vals, missing := false, dt := dt }

/-- A solve that did not run: lane self-test, rebuild (08 R215, R216). -/
def State.hydNotRun (s : State) (t : Nat) : State :=
  let h := { s.slv.hyd with cause := caNotRun, reuse := satAdd 255 s.slv.hyd.reuse 1, newton := 0, iters := 0 }
  { s with slv := { s.slv with hyd := { h with prev := h.pub, pub := { (h.republish s.slv.laneFailed 0 0 t) with
      missing := h.pub.missing } } } }

/-- A failing or passing end of the lane self-test (08 R215). -/
def State.laneTestEnd (s : State) (pass : Bool) : State :=
  if pass then { s with slv := { s.slv with laneTest := 0, laneFailed := false, misrun := 0 } }
  else ({ s with slv := { s.slv with laneTest := 600000, laneFailed := true } }).critical blkSlv

/-- A cell spent on the lane self-test. -/
def State.runLaneTest (s : State) (b : Nat) (pass : Bool) : State :=
  let left := s.slv.laneTest - (b - 16)
  if left = 0 then s.laneTestEnd pass else { s with slv := { s.slv with laneTest := left } }

/-- An uncorrectable error in a resident structure of the hydraulic problem (08 R216): FAULT record, EV024, rebuild
from the ACTIVE super; deltas are lost and the factor is invalid. -/
def State.hydEcc (s : State) : State :=
  let img := s.sup.bank.bind (fun i => i.hyd)
  let h := { s.slv.hyd with defn := img, base := img, factor := none, pend := none, deltas := [],
                            rebuild := match img with | some d => d.residentBytes | none => 0,
                            pub := { s.slv.hyd.pub with missing := true } }
  ({ s with slv := { s.slv with eccUnc := satAdd max32 s.slv.eccUnc 1, hyd := h } }).raiseRec 24 1 sevFault blkSlv

/-- Take a hydraulic structure into force, its warm start formed by tag (08 R233, R244). -/
def HydSt.adopt (h : HydSt) (d : HydDef) : HydSt :=
  { h with defn := some d, base := some d, heads := d.startHeads h.defn h.heads,
           flows := List.replicate d.elems.length 0, fixh := [], mat := [], factor := none, pend := none, deltas := [],
           topo := none, pub := { h.pub with vals := d.carryPubs h.defn h.pub.vals } }

/-- The end of a solve with cause `cause` (08 R242, R243). -/
def State.endHyd (s : State) (d : HydDef) (t : Nat) (r : HydRun) (cause : Nat) : State :=
  let h0 := s.slv.hyd
  let dt := s.commitDt t r.q.c
  let h1 := { h0 with heads := r.w.heads, flows := r.w.q, fixh := r.w.fixh, mat := r.w.mat, factor := r.fac, pend := r.pend,
                      wsErr := r.q.wsErr, cause := cause, newton := r.newton, iters := r.iters, cyc := r.q.c,
                      reuse := if cause = caNone then 0 else satAdd 255 h0.reuse 1, prev := h0.pub }
  let words := d.pubs.map (fun p => pubWord (d.pubValue r.w p) p.pshift)
  let pub : PubBuf :=
    if cause = caNone then
      let k := hp64 s.comb.k
      ⟨[statusWord0 0 0 (words.any (fun w => w.2)) r.pend.isSome s.slv.laneFailed r.newton, BitVec.ofNat 32 r.iters,
        BitVec.ofNat 32 k, BitVec.ofNat 32 (k / 2 ^ 32), normWord r.w.fnorm,
        normWord (r.w.dhnorm.getD Sc.zero), 0, 0], words.map (fun w => w.1), false, some dt, dt⟩
    else h1.republish s.slv.laneFailed r.iters r.newton dt
  let v := { s.slv with laneMis := satAdd max32 s.slv.laneMis r.q.mis, uflow := satAdd max32 s.slv.uflow r.q.uflow,
                        hyd := { h1 with pub := pub, pubs := if cause = caNone then satAdd max32 h1.pubs 1 else h1.pubs } }
  let s1 := { s with slv := v.countEnd cause }
  if cause = caStore then s1.hydEcc else s1

/-- A built topology structure takes effect at the start of a cell, and its command completes (08 R233). -/
def State.takeHydTopo (s : State) : State := match s.slv.hyd.topo with
  | some (seq, d, true) => ({ s with slv := { s.slv with hyd := s.slv.hyd.adopt d } }).ok seq 0
  | _ => s

/-- The work of one SLV_HYD cell that opened at `t` (08 R215, R216, R234). -/
def State.hydCell (s0 : State) (x : CombEntry) (cond : SolveCond) (t : Nat) : State :=
  let s := s0.takeHydTopo
  let b := solverBudget x.len (match s.comb? with | some c => c.spreadSlv | none => 0)
  if s.slv.laneTest > 0 then (s.hydNotRun t).runLaneTest b cond.test
  else if s.slv.hyd.rebuild > 0 then
    let s1 := s.hydNotRun t
    { s1 with slv := { s1.slv with hyd := { s1.slv.hyd with rebuild := s1.slv.hyd.rebuild - 16 * (b - 16) } } }
  else match s.slv.hyd.defn with
    | none => s
    | some d0 =>
      let d := s.slv.hyd.deltas.foldl HydDef.applyDelta d0
      let s1 := { s with slv := { s.slv with hyd := { s.slv.hyd with defn := some d, deltas := [] } } }
      let h := s1.slv.hyd
      let r : HydRun := ⟨⟨16, 0, 0, 0, h.wsErr⟩, h.work, h.factor, h.pend, 0, 0, true⟩
      let e := d.solve b cond s1.feedWord r
      s1.endHyd d t e.1 e.2

/-- SLV_HYD: a solve, or a cell that did not run because the island waits for its clock (08 R246). -/
def slvHydCell (s : State) (e : Nat) (cond : SolveCond) : State :=
  match s.openCell e (fun r => r = 9) with
  | none => s
  | some (x, s1) =>
    if s1.runs .slv then s1.hydCell x cond (s.cellStart x s.comb.k)
    else { s1 with slv := { s1.slv with hyd := { s1.slv.hyd with missed := satAdd 255 s1.slv.hyd.missed 1 } } }

def execSlvHydCell (e : Nat) (cond : SolveCond) (s : State) : Host.Outcome State Fault Refusal :=
  .next (slvHydCell s e cond)

/-- SLV_PUB: the snapshot takes each publication completed before the cell's start (01 R19). -/
def State.takePub (t : Nat) (pub prev : PubBuf) (old : Option PubBuf) : Option PubBuf :=
  if pub.dt < t then some pub else if prev.dt < t then some prev else old

def slvPubCell (s : State) (e : Nat) (done : Bool) : State :=
  s.withCell e (fun r => r = 8) (some .slv) (fun x s1 =>
    let t := s.cellStart x s.comb.k
    if done then
      let v := s1.slv
      { s1 with slv := { v with
          snapHyd := if v.hyd.defn.isSome then State.takePub t v.hyd.pub v.hyd.prev v.snapHyd else none,
          snapDisp := if v.disp.defn.isSome then State.takePub t v.disp.pub v.disp.prev v.snapDisp else none } }
    else s1.leaveOpen e 8 [])

def execSlvPubCell (e : Nat) (done : Bool) (s : State) : Host.Outcome State Fault Refusal := .next (slvPubCell s e done)

end Sys2Proof.Machine
end

