-- ==== Sys2Proof/Machine/DispRun.lean ====
section
/-!
DEFINITION. Sys2Proof/Machine/DispRun.lean: the dispatch sequencer (09 R267), windows, publication and shifts (R270 to
R273), interruptions (R278), store errors and deltas of both problems.
-/
namespace Sys2Proof.Machine

/-! ## The sequencer in a cell (09 R267) -/

structure DispCell where
  q : Seq
  fspent : Nat
  st : DispSt

/-- Whether a cell goes on, ends, or ends with a store error. -/
inductive DispFlow where
  | go (r : DispCell)
  | stop (r : DispCell)
  | ecc (r : DispCell)

/-- End the solve in progress with a cause; the iterate is adjusted under R276. -/
def DispSt.endSolve (s : DispSt) (d : DispDef) (cause : Nat) : DispSt :=
  let s1 := { s with running := false, pDue := false, fDue := false, cause := cause }
  if cause = caInfeasible then { s1 with y := s1.y.map (fun _ => 0), yb := s1.yb.map (fun _ => 0) }
  else if cause = caUnbounded then
    let v : Nat → Sc := fun i => d.clampVar s1 i (d.varAt i).dflt
    { s1 with x := (List.range d.n).map (fun i => fitBlock (d.ex 0x11 i) (v i) (d.varAt i).tag),
              zb := (List.range d.n).map (fun i => fitBlock (d.ex 0x14 i) (v i) (d.varAt i).tag) }
  else s1

/-- LANE_MISMATCH and STORE_ECC end the solve and abandon a pending factorisation (09 R278). -/
def DispSt.abort (s : DispSt) (d : DispDef) (cause : Nat) : DispSt := { (s.endSolve d cause) with pend := none }

/-- What a unit that did not commit does to the cell (09 R269, R278). -/
def DispCell.failed {α : Type} (r : DispCell) (d : DispDef) (u : UnitEnd α) (q : Seq) : DispFlow := match u with
  | .ok _ => .go { r with q := q }
  | .nan c => .go { r with q := q, st := r.st.endSolve d c }
  | .lane => .stop { r with q := q, st := r.st.abort d caLane }
  | .store => .ecc { r with q := q, st := r.st.abort d caStore }
  | .cut => .stop { r with q := q }
  | .nofit => .stop { r with q := q }

/-- A factorisation that yields NaN (09 R265). -/
def DispSt.facNan (s : DispSt) (d : DispDef) (c : Nat) : DispSt :=
  let s1 := { s with pend := none }
  if s1.factor.isSome then { s1 with frozen := true } else if s1.running then s1.endSolve d c else { s1 with cause := c }

/-- Run the next factor unit: K, then segments; the last one swaps the factor in. -/
def DispCell.factorUnit (r : DispCell) (d : DispDef) (b : Nat) (cond : SolveCond) (job : FacJob) (cost : Nat) : DispFlow :=
  if !job.ready then
    match runUnit b cost cond r.q (do let _ ← d.pvals; let _ ← d.avals; pure ()) with
    | (.ok _, q) => .go { r with q := q, fspent := r.fspent + cost, st := { r.st with pend := some { job with ready := true } } }
    | (.nan c, q) => .go { r with q := q, fspent := r.fspent + cost, st := r.st.facNan d c }
    | (u, q) => r.failed d u q
  else
    match runUnit b cost cond r.q (d.factorSegment job.rho job.vals (d.segments.getD job.seg [])) with
    | (.ok v, q) =>
      let st := r.st
      let st1 := if job.seg + 1 ≥ d.segments.length
        then { st with pend := none, factor := some v, rho := job.rho, refac := satAdd 255 st.refac 1 }
        else { st with pend := some { job with seg := job.seg + 1, vals := v } }
      .go { r with q := q, fspent := r.fspent + cost, st := st1 }
    | (.nan c, q) => .go { r with q := q, fspent := r.fspent + cost, st := r.st.facNan d c }
    | (u, q) => r.failed d u q

/-- Unit P: the converged solve is staged. -/
def DispCell.stage (r : DispCell) (d : DispDef) (b : Nat) (cond : SolveCond) : DispFlow :=
  match runUnit b d.costP cond r.q (d.unitP r.st) with
  | (.ok p, q) => .go { r with q := q, st := { r.st with staged := some p, running := false, conv := true, pDue := false,
                                                         cause := caNone } }
  | (u, q) => r.failed d u q

/-- What a committed check does (09 R262, R266). -/
def DispSt.applyCheck (s : DispSt) (d : DispDef) (k : Check) : DispSt :=
  let s1 := { s with fDue := false, pres := k.pr, dres := k.dr }
  if k.conv then { s1 with pDue := true, primal := k.primal, dual := k.dual }
  else if k.primal && s.primal then s1.endSolve d caInfeasible
  else if k.dual && s.dual && !k.primal then s1.endSolve d caUnbounded
  else { s1 with primal := k.primal, dual := k.dual,
                 pend := match k.rho with | some r => some ⟨0, [], r, false⟩ | none => s1.pend }

/-- The part of the loop after the factor units: check, or iterate. -/
def DispCell.work (r : DispCell) (d : DispDef) (b : Nat) (cond : SolveCond) : DispFlow :=
  match r.st.factor with
  | none => .stop r
  | some v =>
    if !r.st.running then .stop r
    else if r.st.pDue then r.stage d b cond
    else if r.st.fDue then
      if r.q.c + d.costF + d.costP > b then .stop r
      else match runUnit b d.costF cond r.q (d.unitF r.st) with
        | (.ok k, q) => .go { r with q := q, st := r.st.applyCheck d k }
        | (u, q) => r.failed d u q
    else match runUnit b d.costD cond r.q (d.unitD v r.st) with
      | (.ok st, q) => .go { r with q := q, st := st }
      | (u, q) => r.failed d u q

/-- One turn of the loop. -/
def DispCell.turn (r : DispCell) (d : DispDef) (b : Nat) (cond : SolveCond) : DispFlow :=
  match r.st.pend with
  | some job =>
    let allow := if r.st.running && r.st.factor.isSome then b * d.fshare / 16 else b
    let cost := if job.ready then d.costS (d.segments.getD job.seg []) else d.costK
    if r.q.c + cost ≤ b && r.fspent + cost ≤ allow then r.factorUnit d b cond job cost else r.work d b cond
  | none => r.work d b cond

def DispCell.loop (d : DispDef) (b : Nat) (cond : SolveCond) : Nat → DispCell → DispFlow
  | 0, r => .stop r
  | n + 1, r => match r.turn d b cond with
    | .go r1 => DispCell.loop d b cond n r1
    | f => f

/-! ## Solve start (09 R257, R274) -/

/-- A topology structure built by now takes effect at this solve start, unless its build completed exactly at the
window's start (09 R275). -/
def State.takeDispTopo (s : State) : State := match s.slv.disp.topo, s.slv.disp.win with
  | some (seq, d, true, t), some k =>
    if t = hpStart s.hNs s.pNs k then s
    else
      let s1 := { s with slv := { s.slv with disp := s.slv.disp.adopt d } }
      let s2 := { s1 with slv := { s1.slv with disp := { s1.slv.disp with win := s.slv.disp.win, startDue := true,
                                                                           pend := some ⟨0, [], d.rhoExp, false⟩ } } }
      s2.ok seq 0
  | _, _ => s

/-- A factorisation is pending whenever no factor is valid at a solve start. -/
def DispSt.ensureFactor (s : DispSt) : DispSt :=
  if s.factor.isNone && s.pend.isNone then { s with pend := some ⟨0, [], s.rho, false⟩ } else s

/-- Unit W in the window's first cell. -/
def State.startDispSolve (s : State) (d0 : DispDef) (b : Nat) (cond : SolveCond) (r : DispCell) : DispFlow :=
  let nd := r.st.deltas.length
  let d := r.st.deltas.foldl DispDef.applyDelta d0
  let fresh := { r.st with defn := some d, deltas := [], it := 0, refac := 0, frozen := false, primal := false, dual := false,
                           fDue := false, pDue := false, conv := false, staged := none }
  match runUnit b (d.costW nd) cond r.q (d.unitW s.feedWord (fun i => s.slv.hyd.pub.vals.getD i 0) fresh) with
  | (.ok st, q) =>
    .go { r with q := q, st := ({ st with startDue := false, running := true, ends := 0,
                                           solves := satAdd max32 st.solves 1 }).ensureFactor }
  | (.nan c, q) => .go { r with q := q, st := { r.st with startDue := false, running := false, cause := c, conv := false,
                                                          staged := none, solves := satAdd max32 r.st.solves 1 } }
  | (.lane, q) => .stop { r with q := q, st := { (r.st.abort d caLane) with startDue := false } }
  | (.store, q) => .ecc { r with q := q, st := { (r.st.abort d caStore) with startDue := false } }
  | (.cut, q) => .stop { r with q := q }
  | (.nofit, q) => .stop { r with q := q }

/-- An uncorrectable error in a resident structure of the dispatch problem (08 R216, 09 R278). -/
def State.dispEcc (s : State) : State :=
  let img := s.sup.bank.bind (fun i => i.disp)
  let p := s.slv.disp
  let p1 := { p with defn := img, base := img, factor := none, pend := none, deltas := [], staged := none, conv := false,
                     running := false, startDue := false, rho := match img with | some d => d.rhoExp | none => p.rho,
                     rebuild := match img with | some d => d.residentBytes | none => 0,
                     pub := { p.pub with missing := true } }
  ({ s with slv := { s.slv with eccUnc := satAdd max32 s.slv.eccUnc 1, disp := p1 } }).raiseRec 24 2 sevFault blkSlv

/-- The work of one SLV_DISP cell (08 R215, R216; 09 R267). -/
def State.dispCell (s0 : State) (x : CombEntry) (cond : SolveCond) : State :=
  let b := solverBudget x.len (match s0.comb? with | some c => c.spreadSlv | none => 0)
  if s0.slv.laneTest > 0 then s0.runLaneTest b cond.test
  else if s0.slv.disp.rebuild > 0 then
    { s0 with slv := { s0.slv with disp := { s0.slv.disp with rebuild := s0.slv.disp.rebuild - 16 * (b - 16) } } }
  else
    let s := if s0.slv.disp.startDue then s0.takeDispTopo else s0
    match s.slv.disp.defn with
    | none => s
    | some d0 =>
      let r : DispCell := ⟨⟨16, 0, 0, 0, s.slv.disp.wsErr⟩, 0, s.slv.disp⟩
      let f0 := if s.slv.disp.startDue then s.startDispSolve d0 b cond r else .go r
      let f := match f0 with
        | .go r1 => DispCell.loop (r1.st.defn.getD d0) b cond (b / 64 + 8) r1
        | f => f
      let put : DispCell → State := fun r1 =>
        let v := { s.slv with disp := { r1.st with wsErr := r1.q.wsErr }, laneMis := satAdd max32 s.slv.laneMis r1.q.mis,
                              uflow := satAdd max32 s.slv.uflow r1.q.uflow }
        { s with slv := if s.slv.disp.running || s.slv.disp.startDue then
            (if r1.st.running || r1.st.startDue then v else v.countEnd r1.st.cause) else v }
      match f with
      | .go r1 => put r1
      | .stop r1 => put r1
      | .ecc r1 => (put r1).dispEcc

def slvDispCell (s : State) (e : Nat) (cond : SolveCond) : State :=
  s.withCell e (fun r => r = 10) (some .slv) (fun x s1 => s1.dispCell x cond)

def execSlvDispCell (e : Nat) (cond : SolveCond) (s : State) : Host.Outcome State Fault Refusal :=
  .next (slvDispCell s e cond)

/-! ## Windows (09 R254, R270 to R273, R278, R279) -/

/-- k0 of the window that holds hyperperiod `k`. -/
def DispDef.windowOf (d : DispDef) (k : Int) : Int := k - (k - (d.phaseHp : Int)) % (d.periodHp : Int)

/-- Put two words as one 64-bit number at index `i`. -/
def putHp (st : List Word) (i : Nat) (k : Int) : List Word :=
  updAt (updAt st i (fun _ => BitVec.ofNat 32 (hp64 k))) (i + 1) (fun _ => BitVec.ofNat 32 (hp64 k / 2 ^ 32))

/-- The number in status words 6 and 7. -/
def step0Of (st : List Word) : Nat := (st.getD 6 0).toNat + (st.getD 7 0).toNat * 2 ^ 32

/-- The publication of a converged solve of window `k0` at its end, hyperperiod `k1` at DT `t` (09 R271). -/
def DispSt.publishConv (p : DispSt) (lane : Bool) (k0 k1 : Int) (t : Nat) (w : List Word × Bool) : DispSt :=
  let st0 := [statusWord0 0 0 w.2 p.pend.isSome lane p.refac, BitVec.ofNat 32 p.it, 0, 0, normWord p.pres, normWord p.dres, 0, 0]
  { p with pub := ⟨putHp (putHp st0 2 k0) 6 k1, w.1, false, some t, t⟩, prev := p.pub, reuse := 0, cause := caNone,
           pubs := satAdd max32 p.pubs 1 }

/-- Shift the publication `n` times with a cause (09 R271, R272, R278). -/
def DispSt.publishShift (p : DispSt) (d : DispDef) (lane : Bool) (cause n : Nat) (t : Nat) : DispSt :=
  let reuse := satAdd 255 p.reuse n
  let sat := bitOf (p.pub.status.getD 0 0).toNat 14
  let st1 := updAt p.pub.status 0 (fun _ => statusWord0 cause reuse sat p.pend.isSome lane p.refac)
  let st2 := updAt (updAt (updAt st1 1 (fun _ => BitVec.ofNat 32 p.it)) 4 (fun _ => normWord p.pres)) 5
    (fun _ => normWord p.dres)
  let k := (step0Of p.pub.status + n * d.periodHp) % 2 ^ 64
  let st3 := updAt (updAt st2 6 (fun _ => BitVec.ofNat 32 k)) 7 (fun _ => BitVec.ofNat 32 (k / 2 ^ 32))
  { p with pub := ⟨st3, forN n (fun _ v => d.shiftPub v) p.pub.vals, false, some t, t⟩, prev := p.pub, reuse := reuse,
           cause := cause, shifts := satAdd max32 p.shifts n }

/-- The cause with which a window's solve ends at its deadline (09 R254, R271). -/
def DispSt.deadlineCause (p : DispSt) : Nat :=
  if p.startDue then caBudget
  else if p.running then (if p.factor.isNone then caFactor else caBudget)
  else p.cause

/-- A window ends and the next begins at hyperperiod `k`, DT `t` (09 R254, R271). -/
def Slv.windowEnd (v : Slv) (d : DispDef) (k : Int) (t : Nat) : Slv :=
  let p := v.disp
  let p1 := match p.win with
    | none => p
    | some k0 =>
      let q := match p.conv, p.staged with
        | true, some w => p.publishConv v.laneFailed k0 k t w
        | _, _ => p.publishShift d v.laneFailed p.deadlineCause 1 t
      { q with ends := q.ends + 1, solves := if p.startDue then satAdd max32 q.solves 1 else q.solves }
  { v with disp := { p1 with win := some k, startDue := true, running := false, conv := false, staged := none,
                             fDue := false, pDue := false } }

/-- A window end or the first window start falls at the boundary the comb stands at, and has not been acted on. -/
def State.windowDue (s : State) : Option DispDef := match s.slv.disp.defn with
  | none => none
  | some d =>
    if s.cellsRun && s.runs .slv && decide (s.tim.dt = hpStart s.hNs s.pNs s.comb.k) &&
       decide (d.windowOf s.comb.k = s.comb.k) && decide (s.slv.disp.win ≠ some s.comb.k) then some d else none

def State.windowEnd (s : State) : State := match s.windowDue with
  | none => s
  | some d => { s with slv := s.slv.windowEnd d s.comb.k s.tim.dt }

def execDispatchWindowEnd (s : State) : Host.Outcome State Fault Refusal := .next s.windowEnd

/-- After a clock-failure wait or HALT: shift once for each window end that passed; a solve ends and one starts in
the current window, otherwise the solve continues (09 R278). -/
def State.dispCatchUp (s : State) : State := match s.slv.disp.defn, s.slv.disp.win with
  | some d, some k0 =>
    let k := d.windowOf (if s.comb.cstate = 2 then s.comb.k else hpOf s.hNs s.pNs s.tim.dt)
    let n := ((k - k0) / (d.periodHp : Int)).toNat
    if n = 0 then s
    else
      let p := s.slv.disp.publishShift d s.slv.laneFailed caNotRun n s.tim.dt
      { s with slv := { s.slv with disp := { p with win := some k, startDue := true, running := false, conv := false,
                                                    staged := none, fDue := false, pDue := false, ends := p.ends + n } } }
  | _, _ => s

/-- HALT and a first-lock step end the solve in progress without publication (09 R278). -/
def State.dispInterrupt (s : State) : State :=
  let p := s.slv.disp
  { s with slv := { s.slv with disp := { p with running := false, conv := false, staged := none, startDue := false,
                                                fDue := false, pDue := false,
                                                cause := if p.running || p.startDue || p.conv then caNotRun else p.cause } } }

/-- A read of SLV_DWINLO latches SLV_DWINHI (09 R282). -/
def slvDwinloRead (s : State) : State :=
  if !s.barOk then s else
  let k := match s.slv.disp.win with | some k => hp64 k | none => 0
  { s with slv := { s.slv with disp := { s.slv.disp with winHi := k / 2 ^ 32 } } }

def execSlvDwinloRead (s : State) : Host.Outcome State Fault Refusal := .next (slvDwinloRead s)

/-! ## Store errors and builds (08 R216, R225, R230, R233, R245) -/

/-- An uncorrectable ECC error in the solver store (08 R216): in a working set it counts as a digest difference of
the problem's next unit, in a resident structure it starts a rebuild. -/
def solverStoreEcc (s : State) (prob : Nat) (resident : Bool) : State :=
  if !s.inService then s
  else if resident then
    if prob = 1 then s.hydEcc
    else if prob = 2 then
      let s1 := if s.slv.disp.running || s.slv.disp.startDue then
          { s with slv := { (s.slv.countEnd caStore) with disp := { s.slv.disp with cause := caStore } } } else s
      s1.dispEcc
    else s
  else if prob = 1 then
    { s with slv := { s.slv with eccUnc := satAdd max32 s.slv.eccUnc 1, hyd := { s.slv.hyd with wsErr := true } } }
  else if prob = 2 then
    { s with slv := { s.slv with eccUnc := satAdd max32 s.slv.eccUnc 1, disp := { s.slv.disp with wsErr := true } } }
  else s

def execSolverStoreEccError (prob : Nat) (resident : Bool) (s : State) : Host.Outcome State Fault Refusal :=
  .next (solverStoreEcc s prob resident)

/-- The build of a topology structure completes (08 R233, 09 R275); in SETUP and HALT it takes effect at once (17 Table
17-4, TOPOLOGY). -/
def topologyBuilt (s : State) (prob : Nat) : State :=
  if prob = 1 then match s.slv.hyd.topo with
    | some (q, d, false) =>
      let s1 := { s with slv := { s.slv with hyd := { s.slv.hyd with topo := some (q, d, true) } } }
      if s.mgt.run = .run then s1 else s1.takeHydTopo
    | _ => s
  else if prob = 2 then match s.slv.disp.topo with
    | some (q, d, false, _) =>
      if s.mgt.run ≠ .run then
        ({ s with slv := { s.slv with disp := { (s.slv.disp.adopt d) with pend := some ⟨0, [], d.rhoExp, false⟩ } } }).ok q 0
      else { s with slv := { s.slv with disp := { s.slv.disp with topo := some (q, d, true, s.tim.dt) } } }
    | _ => s
  else s

def execTopologyBuildComplete (prob : Nat) (s : State) : Host.Outcome State Fault Refusal := .next (topologyBuilt s prob)

/-- Blocks the structures in force take, with both factor buffers where a factorisation runs (08 R224, R225). -/
def Slv.alloc (v : Slv) : Nat :=
  (match v.hyd.defn with | some d => d.blocks (if v.hyd.pend.isSome then 2 else 1) | none => 0) +
  (match v.disp.defn with | some d => d.blocks (if v.disp.pend.isSome then 2 else 1) | none => 0) +
  (match v.hyd.topo with | some (_, d, _) => d.blocks 1 | none => 0) +
  (match v.disp.topo with | some (_, d, _, _) => d.blocks 1 | none => 0)

/-- The store peak of an image's two problems (08 R224). -/
def Image.storePeak (i : Image) : Nat :=
  (match i.hyd with | some d => d.blocks 2 | none => 0) + (match i.disp with | some d => d.blocks 2 | none => 0)

/-- The peak of the structures in force. -/
def Slv.peak (v : Slv) : Nat :=
  (match v.hyd.defn with | some d => d.blocks 2 | none => 0) + (match v.disp.defn with | some d => d.blocks 2 | none => 0)

/-- Resident structures built for an image at a start or an ACTIVATE (08 R245, 09 R277). -/
def Slv.build (v : Slv) (i : Image) : Slv :=
  let h0 := { HydSt.reset with pubs := v.hyd.pubs, cause := v.hyd.cause }
  let h := match i.hyd with
    | none => h0
    | some d => { h0 with defn := some d, base := some d, heads := d.startHeads none [],
                          flows := List.replicate d.elems.length 0,
                          pub := { PubBuf.reset with vals := List.replicate d.pubs.length 0 } }
  let p0 := { DispSt.reset with solves := v.disp.solves, pubs := v.disp.pubs, shifts := v.disp.shifts }
  let p := match i.disp with
    | none => p0
    | some d => { (p0.adopt d) with pend := some ⟨0, [], d.rhoExp, false⟩ }
  { v with hyd := h, disp := p, snapHyd := none, snapDisp := none }

/-- Entry into RUN: the publications are MISSING until a solve or a window has ended (08 R243, 09 R273). -/
def Slv.enterRun (v : Slv) : Slv :=
  { v with hyd := { v.hyd with pub := { v.hyd.pub with missing := true }, prev := { v.hyd.prev with missing := true } },
           disp := { v.disp with pub := { v.disp.pub with missing := true }, prev := { v.disp.prev with missing := true } },
           snapHyd := none, snapDisp := none }

end Sys2Proof.Machine
end

