-- ==== Sys2Proof/Machine/Keys.lean ====
section
/-!
DEFINITION. Sys2Proof/Machine/Keys.lean: the key store (18): slots and engines, update messages, slot records,
attestation, export, the order and cost of key work, the key caches.
-/
namespace Sys2Proof.Machine

/-! ## Slots and engines (18 R457 to R459) -/

def State.slot (s : State) (n : Nat) : KeySlot := SMap.get factorySlot s.key.slots n

def State.setSlotKey (s : State) (n : Nat) (x : KeySlot) : State :=
  { s with key := { s.key with slots := SMap.set factorySlot s.key.slots n x } }

/-- Engines by their bit in BIND. -/
def engMacsec : Nat := 0
def engField : Nat := 1
def engImage : Nat := 2
def engUpdate : Nat := 3
def engRecorder : Nat := 4
def engAttest : Nat := 5
def engDerive : Nat := 6
def engWrap : Nat := 7

/-- Algorithms an engine accepts (18 Table 18-3). -/
def engAlgs : Nat → List Nat
  | 0 => [0x02]
  | 1 => [0x01, 0x02]
  | 2 => [0x08, 0x0A]
  | 3 => [0x08, 0x0A]
  | 4 => [0x03, 0x05]
  | 5 => [0x06, 0x09]
  | 6 => [0x0B, 0x0C]
  | 7 => [0x02]
  | _ => []

/-- Bytes of key material of an algorithm (18 Table 18-2). -/
def algSize : Nat → Option Nat
  | 0x01 => some 16
  | 0x02 => some 32
  | 0x03 => some 32
  | 0x04 => some 48
  | 0x05 => some 32
  | 0x06 => some 48
  | 0x07 => some 65
  | 0x08 => some 97
  | 0x09 => some 32
  | 0x0A => some 1952
  | 0x0B => some 48
  | 0x0C => some 48
  | _ => none

/-- Fixed slots: written by the factory only. -/
def slotFixed (n : Nat) : Bool := [0, 1, 4, 8, 9].contains n

/-- Slots an update may write, with the largest material (18 Table 18-1). -/
def slotRoom (n : Nat) : Option Nat :=
  if n = 2 then some 97 else if n = 3 then some 1952
  else if n < 16 then none else if n < 32 then some 1952 else if n < 256 then some 128 else none

/-- The slot supplies its key to an engine (18 R459). -/
def KeySlot.supplies (x : KeySlot) (eng : Nat) : Bool :=
  decide (x.st = .key) && (engAlgs eng).contains x.alg && bitOf x.bind eng

/-- An engine requests a slot: the key, or a denial counted and, once per engine per hyperperiod, raised. -/
def State.keyFor (s : State) (eng n : Nat) : State × Option (List Byte) :=
  let x := s.slot n
  if s.key.ready && x.supplies eng then (s, some x.mat)
  else
    let s1 := { s with key := { s.key with deny := satAdd max32 s.key.deny 1 } }
    if s1.key.denied.contains eng then (s1, none)
    else (({ s1 with key := { s1.key with denied := eng :: s1.key.denied } }).raise 84 (n + eng * 256), none)

/-- The key as an engine would be supplied, without the request's trace. -/
def State.keyPeek (s : State) (eng n : Nat) : Option (List Byte) :=
  if s.key.ready && (s.slot n).supplies eng then some (s.slot n).mat else none

/-! ## The device ID -/

def deviceIdBytes : List Byte := leBytes 16 Config.deviceId.toNat

/-! ## Slot records, identity, attestation (18 R460, R468, R469) -/

def SlotSt.code : SlotSt → Nat
  | .empty => 0
  | .key => 1
  | .faulted => 2

def asciiBytes (t : String) : List Byte := t.toList.map (fun c => BitVec.ofNat 8 c.toNat)

def KeySlot.digest (x : KeySlot) : List Byte :=
  if x.st = .empty then zeros 48
  else if [0x07, 0x08, 0x0A].contains x.alg then Config.sha384 x.mat
  else Config.sha384 (asciiBytes "YKCV" ++ x.mat)

def KeySlot.flags (x : KeySlot) (n : Nat) : Nat :=
  b2n x.exportable + b2n (slotFixed n) * 2 + b2n (decide (16 ≤ n) && decide (n < 32)) * 4 + b2n x.exported * 8

/-- The 64-byte slot record (18 Table 18-8). -/
def State.slotRecord (s : State) (n : Nat) : List Byte :=
  let x := s.slot n
  [BitVec.ofNat 8 n, BitVec.ofNat 8 x.st.code, BitVec.ofNat 8 x.alg, BitVec.ofNat 8 x.bind, BitVec.ofNat 8 x.origin,
   BitVec.ofNat 8 (x.flags n), 0, 0] ++ leBytes 4 x.gen ++ leBytes 4 x.counter ++ x.digest

/-- The identity record in its 4,096-byte buffer (18 Table 18-4). -/
def State.identityRecord (s : State) : List Byte :=
  let pub : Nat → List Byte := fun n => Config.publicOf (s.slot n).alg (s.slot n).mat
  let body := asciiBytes "YIDN" ++ leBytes 2 1 ++ zeros 2 ++ deviceIdBytes ++ (pub 0 ++ zeros 97).take 97 ++
    (pub 1 ++ zeros 1952).take 1952 ++ (pub 4 ++ zeros 97).take 97 ++ zeros 6 ++ (Config.factoryKeyId ++ zeros 8).take 8 ++
    (Config.endorsement ++ zeros 96).take 96
  (body ++ zeros 4096).take 4096

/-- The attestation statement in its 4,096-byte buffer (18 Table 18-9). -/
def State.statement (s : State) (n : Nat) (nonce : List Byte) : List Byte :=
  let x := s.slot n
  let pk := if x.alg = 0x05 || x.alg = 0x06 then Config.publicOf x.alg x.mat
    else if x.alg = 0x07 || x.alg = 0x08 then x.mat else []
  let m := asciiBytes "YATT" ++ leBytes 2 1 ++ [BitVec.ofNat 8 n, BitVec.ofNat 8 x.alg] ++ deviceIdBytes ++
    (nonce ++ zeros 32).take 32 ++ leBytes 4 s.key.counter ++ leBytes 4 x.gen ++
    [BitVec.ofNat 8 x.origin, BitVec.ofNat 8 (x.flags n), BitVec.ofNat 8 x.bind, 0] ++ leBytes 8 s.tim.dt ++ x.digest ++
    (pk ++ zeros 100).take 100
  let ec := Config.ecdsaP384Sign (s.slot 0).mat m
  let pq := Config.mlDsa65Sign (s.slot 1).mat m
  (m ++ (ec ++ zeros 96).take 96 ++ (pq ++ zeros 3309).take 3309 ++ zeros 4096).take 4096

/-! ## Update messages (18 R461 to R467) -/

/-- An operation of an update message. -/
structure UpdOp where
  op : Nat
  slot : Nat
  alg : Nat
  aflags : Nat
  bind : Nat
  src : Nat
  dlen : Nat
  resZero : Bool
  hdr : List Byte
  data : List Byte
  deriving DecidableEq, Repr

/-- Up to `n` operations of a body; none when the lengths do not come out. -/
def parseOps : Nat → List Byte → Option (List UpdOp)
  | 0, bs => if bs.isEmpty then some [] else none
  | n + 1, bs =>
    let h := bs.take 16
    let dl := leNat ((h.drop 6).take 2)
    if h.length < 16 || bs.length < 16 + dl then none
    else
      let at_ : Nat → Nat := fun i => (h.getD i 0).toNat
      let o : UpdOp := ⟨at_ 0, at_ 1, at_ 2, at_ 3, at_ 4, at_ 5, dl, decide (leNat (h.drop 8) = 0), h, (bs.drop 16).take dl⟩
      (parseOps n (bs.drop (16 + dl))).map (fun l => o :: l)

def fieldAt (bs : List Byte) (o n : Nat) : Nat := leNat ((bs.drop o).take n)

/-- BODY_LEN and NOP of a message. -/
def updBody (m : List Byte) : Nat := fieldAt m 28 4
def updNop (m : List Byte) : Nat := fieldAt m 6 2
def updCounter (m : List Byte) : Nat := fieldAt m 24 4
def updSigned (m : List Byte) : List Byte := m.take (64 + updBody m)
def updSigEc (m : List Byte) : List Byte := (m.drop (64 + updBody m)).take 96
def updSigPq (m : List Byte) : List Byte := (m.drop (64 + updBody m + 96)).take 3309

def updOps (m : List Byte) : Option (List UpdOp) := parseOps (updNop m) ((m.drop 164).take (updBody m - 100))

/-- BIND names only engines that accept the algorithm (18 R458). -/
def bindOk (alg bind : Nat) : Bool :=
  (List.range 8).all (fun e => !(bitOf bind e) || (engAlgs e).contains alg) && decide (bind < 256)

/-- EXPORTABLE as R465 allows it. -/
def exportOk (o : UpdOp) : Bool :=
  o.aflags = 0 || (o.aflags = 1 && decide (224 ≤ o.slot) && (o.alg = 1 || o.alg = 2) && decide (o.bind &&& 0xBC = 0))

/-- Check 5 of one operation (18 Table 18-7). -/
def State.opOk (s : State) (o : UpdOp) : Bool :=
  o.resZero && (match slotRoom o.slot with
  | none => false
  | some room =>
    let size := algSize o.alg
    let fits := match size with | some n => decide (n ≤ room) | none => false
    let auth := o.slot = 2 || o.slot = 3
    let authOk := !auth || (o.op = 3 && o.bind = 8 && o.alg = (if o.slot = 2 then 0x08 else 0x0A))
    let secret := [1, 2, 3, 4, 5, 6, 9, 0x0B, 0x0C].contains o.alg
    authOk && exportOk o && decide (o.aflags ≤ 1) &&
    (if o.op = 1 then secret && o.alg ≠ 9 && fits && bindOk o.alg o.bind && o.src = 0 && o.dlen = 0
     else if o.op = 2 then secret && fits && bindOk o.alg o.bind && o.src = 0 && decide (size = some (o.dlen - 16)) && decide (16 ≤ o.dlen)
     else if o.op = 3 then [7, 8, 0x0A].contains o.alg && fits && bindOk o.alg o.bind && o.src = 0 && decide (size = some o.dlen)
     else if o.op = 4 then
       [1, 2, 3, 4, 0x0C].contains o.alg && fits && bindOk o.alg o.bind && decide (1 ≤ o.dlen) && decide (o.dlen ≤ 64) &&
       (s.slot o.src).supplies engDerive && decide ((s.slot o.src).alg = 0x0C)
     else o.op = 5 && o.alg = 0 && o.bind = 0 && o.aflags = 0 && o.src = 0 && o.dlen = 0))

/-- The key-encryption key of a message (18 R462). -/
def State.updKek (s : State) (m : List Byte) : List Byte :=
  let shared := Config.ecdh (s.slot 4).mat ((m.drop 64).take 97)
  Config.hkdf shared deviceIdBytes (asciiBytes "YUPD" ++ leBytes 4 (updCounter m)) 32

/-- The plain key of an IMPORT_SECRET, its index among the operations given. -/
def State.importKey (s : State) (m : List Byte) (i : Nat) (o : UpdOp) : Option (List Byte) :=
  Config.aesGcmOpen (s.updKek m) (leBytes 4 (updCounter m) ++ leBytes 4 i ++ zeros 4) o.hdr o.data

/-- Checks 1 and 2 of Table 18-7. -/
def State.updEarly (s : State) (m : List Byte) : Nat :=
  if m.take 4 ≠ asciiBytes "YUPD" || fieldAt m 4 2 ≠ 1 || decide (m.length ≠ 64 + updBody m + 3408) || decide (updBody m < 100) ||
     decide ((m.drop 8).take 16 ≠ deviceIdBytes) then stIdMismatch
  else if (s.keyPeek engUpdate 2).isNone || (s.keyPeek engUpdate 3).isNone then stEngineDenied
  else 0

def State.updEcOk (s : State) (m : List Byte) : Bool := Config.ecdsaP384Verify (s.slot 2).mat (updSigned m) (updSigEc m)
def State.updPqOk (s : State) (m : List Byte) : Bool := Config.mlDsa65Verify (s.slot 3).mat (updSigned m) (updSigPq m)

/-- Checks 4 and 5. -/
def State.updMid (s : State) (m : List Byte) : Nat :=
  if updCounter m ≤ s.key.counter then stCounterStale
  else match updOps m with
    | none => stEngineDenied
    | some ops =>
      if updNop m < 1 || 32 < updNop m || !(ops.all s.opOk) || decide (¬ (ops.map (fun o => o.slot)).Nodup) ||
         fieldAt m 32 32 ≠ 0 || fieldAt m 161 3 ≠ 0 then stEngineDenied else 0

/-- Check 6. -/
def State.updImports (s : State) (m : List Byte) : Bool := match updOps m with
  | none => false
  | some ops => ops.zipIdx.all (fun p => p.1.op ≠ 2 || (match s.importKey m p.2 p.1 with
    | some k => decide (algSize p.1.alg = some k.length)
    | none => false))

/-- The status of an update message: the first check of Table 18-7 that fails, 0 when all pass. -/
def State.updStatus (s : State) (m : List Byte) : Nat :=
  if s.updEarly m ≠ 0 then s.updEarly m
  else if !(s.updEcOk m) || !(s.updPqOk m) then stSigFail
  else if s.updMid m ≠ 0 then s.updMid m
  else if !(s.updImports m) then stSigFail
  else 0

/-- SHA-384 of `n` bytes, in cycles (18 Table 18-10). -/
def shaCycles (n : Nat) : Nat := 160 * ((n + 17 + 127) / 128)

/-- Cycles of key generation. -/
def genCycles (alg : Nat) : Nat := if alg = 5 then 100000 else if alg = 6 || alg = 0x0B then 240000 else 0

/-- The operations an update costs, as far as its checks get (18 R471, R472). -/
def State.updWork (s : State) (m : List Byte) : List Nat × Bool :=
  if s.updEarly m ≠ 0 then ([], false)
  else
    let h := [shaCycles (64 + updBody m), 480000]
    if !(s.updEcOk m) then (h, false)
    else if !(s.updPqOk m) || s.updMid m ≠ 0 then (h ++ [120000], false)
    else
      let ops := (updOps m).getD []
      let imp := (ops.filter (fun o => o.op = 2)).length
      let dec := if imp = 0 then [] else [240000, 4000] ++ List.replicate imp 2000
      let rest := ops.filterMap (fun o => if o.op = 1 then some (genCycles o.alg) else if o.op = 4 then some 4000 else none)
      if !(s.updImports m) then (h ++ [120000] ++ dec, false)
      else (h ++ [120000] ++ dec ++ rest ++ [200000 + 10000 * ops.length], true)

/-- The slot an operation leaves (18 R461, R463, R466). -/
def State.applyOp (s : State) (m : List Byte) (i : Nat) (o : UpdOp) : State :=
  let old := s.slot o.slot
  let mk : Nat → List Byte → KeySlot := fun origin mat =>
    ⟨.key, o.alg, o.bind, origin, decide (o.aflags = 1), false, (old.gen + 1) % 2 ^ 32, updCounter m, mat⟩
  if o.op = 1 then
    let r := s.freshNat
    let sz := (algSize o.alg).getD 0
    let mat := if [5, 6, 0x0B].contains o.alg then Config.generateKey o.alg r.1 else (List.range sz).map (fun j => Config.trng (s.fresh + 1 + j))
    ({ r.2 with fresh := s.fresh + 1 + sz }).setSlotKey o.slot (mk 2 mat)
  else if o.op = 2 then s.setSlotKey o.slot (mk 3 ((s.importKey m i o).getD []))
  else if o.op = 3 then s.setSlotKey o.slot (mk 3 o.data)
  else if o.op = 4 then s.setSlotKey o.slot (mk 4 (Config.hkdf (s.slot o.src).mat deviceIdBytes o.data ((algSize o.alg).getD 0)))
  else s.setSlotKey o.slot ⟨.empty, 0, 0, 0, false, false, (old.gen + 1) % 2 ^ 32, updCounter m, []⟩

/-- Commit an update: every operation, the counter, EV080 and a NOTICE record (18 R466). Imports use the keys as they
stood before the commit. -/
def State.commitUpdate (s : State) (m : List Byte) : State :=
  let ops := ((updOps m).getD []).zipIdx
  let s1 := ops.foldl (fun (t : State) p =>
    let o := p.1
    let t1 := ({ s with fresh := t.fresh }).applyOp m p.2 o
    ({ t with fresh := t1.fresh }).setSlotKey o.slot (t1.slot o.slot)) s
  let ch := ops.map (fun p => p.1.slot)
  ({ s1 with key := { s1.key with counter := updCounter m, updOk := satAdd max32 s1.key.updOk 1,
                                  changed := ch ++ s1.key.changed } }).raiseRec 80 (updCounter m) sevNotice blkKey

/-- A refused update: EV081 and a FAULT record (18 R466). -/
def State.refuseUpdate (s : State) (m : List Byte) (st : Nat) : State :=
  ({ s with key := { s.key with updFail := satAdd max32 s.key.updFail 1 } }).raiseRec 81 (st + updCounter m * 2 ^ 32) sevFault blkKey

/-! ## The order and time of key work (18 R471, R473) -/

/-- Time of one cycle of the key island in ns: 200 MHz less its assumed down-spread. -/
def State.keyCyc (s : State) : Rat :=
  (5000 : Rat) / ((1000 - (match s.comb? with | some x => x.spreadAux | none => 0) : Nat) : Rat)

/-- The key island runs key work continuously: INIT, SETUP, HALT. -/
def State.keyFree (s : State) : Bool := s.runs .key && !s.clk.gated && decide (s.mgt.run ≠ .run)

/-- The work needs random numbers. -/
def KeyWork.random : KeyWork → Bool
  | .update _ m => ((updOps m).getD []).any (fun o => o.op = 1)
  | .wrap .. => true
  | _ => false

/-- Queue key work; an idle island in an open KEY cell begins it now. -/
def State.addJob (s : State) (j : KeyJob) : State :=
  let w := if s.key.jobs.isEmpty then s.key.win.map (fun w => { w with at_ := max w.at_ (s.tim.dt : Nat) }) else s.key.win
  { s with key := { s.key with jobs := s.key.jobs ++ [j], win := w } }

/-- Run operations from `t` until `stop`: what is left, and the time reached. -/
def runOps (cyc : Rat) (stop : Nat) (commit : Bool) : List Nat → Rat → List Nat × Rat
  | [], t => ([], t)
  | n :: ns, t =>
    let e := t + (n : Nat) * cyc
    if e < (stop : Nat) then runOps cyc stop commit ns e
    else if commit && ns.isEmpty then (n :: ns, (stop : Nat))
    else
      let k := (((stop : Nat) - t) / (640 * cyc)).ceil.toNat - 1
      let m := 640 * min k (n / 640)
      ((n - m) :: ns, (stop : Nat))

/-- Take the first job off the queue when it ends now: in continuous work at once, in RUN when the rest of its
operations fits the open KEY cell, at the instant they end. -/
def State.takeJob (s : State) : Option (KeyJob × State) := match s.key.jobs with
  | [] => none
  | j :: js =>
    if (s.key.rngFail && j.work.random) || !(s.runs .key) || s.clk.gated then none
    else if s.keyFree then some (j, { s with key := { s.key with jobs := js } })
    else match s.key.win with
      | none => none
      | some w =>
        let r := runOps s.keyCyc w.stop j.commit j.ops w.at_
        if r.1.isEmpty && decide (s.tim.dt ≤ w.stop) then
          some (j, ({ s with key := { s.key with jobs := js, win := some { w with at_ := r.2 } } }).advanceTo r.2.floor.toNat)
        else none

/-- The open KEY cell ends: the first job keeps what it has done and suspends (18 R471). -/
def State.suspendJob (s : State) : State := match s.key.win with
  | none => s
  | some w => match s.key.jobs with
    | [] => { s with key := { s.key with win := none } }
    | j :: js =>
      if s.key.rngFail && j.work.random then { s with key := { s.key with win := none } }
      else
        let r := runOps s.keyCyc w.stop j.commit j.ops w.at_
        { s with key := { s.key with win := none, jobs := { j with ops := r.1 } :: js } }

/-! ## Health of the random number generator (18 R473) -/

def rngFail (s : State) : State :=
  if s.runs .key && !s.key.rngFail then ({ s with key := { s.key with rngFail := true } }).raise 85 0 else s

def execRngHealthFail (s : State) : Host.Outcome State Fault Refusal := .next (rngFail s)

/-! ## Key caches (12 R352, 13 R370) -/

/-- Slots the field island's cache names: GKEYSLOT under AUTH_POLL, KEYSLOT under AUTH (12 R338). -/
def State.fieldSlots (s : State) : List Nat :=
  (((s.groupDefs.filter (fun g => g.authPoll)).map (fun g => g.gkey)) ++
   ((s.stnDefs.filter (fun d => d.auth)).map (fun d => d.key))).eraseDups

/-- Ports whose keys the MACsec cache names. -/
def State.macPorts (s : State) : List EthPortDef := match s.sup.bank with
  | some i => i.eth.filter (fun d => d.macsec)
  | none => []

/-- Fill the field island's entry of a slot. -/
def State.fillField (s : State) (n : Nat) : State :=
  let r := s.keyFor engField n
  { r.1 with stn := { r.1.stn with keys := SMap.set dOpt r.1.stn.keys n r.2 } }

/-- Fill one entry of the MACsec cache; a key that differs from the one held starts its packet numbers anew. -/
def State.fillMac (s : State) (d : EthPortDef) (an : Nat) : State :=
  let r := s.keyFor engMacsec (if an = 0 then d.key0 else d.key1)
  let x := r.1.port d.port
  let y := if an = 0 then
      (if x.key0 = r.2 then x else { x with key0 := r.2, pn0 := 1, exh0 := false, rxsc := x.rxsc.map (fun c => { c with pn0 := 1 }) })
    else (if x.key1 = r.2 then x else { x with key1 := r.2, pn1 := 1, exh1 := false, rxsc := x.rxsc.map (fun c => { c with pn1 := 1 }) })
  r.1.setPort d.port y

/-- Fill the caches for every slot named that satisfies a condition. -/
def State.fillCaches (s : State) (want : Nat → Bool) : State :=
  let s1 := (s.fieldSlots.filter want).foldl (fun s n => s.fillField n) s
  s1.macPorts.foldl (fun s d =>
    let s1 := if want d.key0 then s.fillMac d 0 else s
    if want d.key1 then s1.fillMac d 1 else s1) s1

/-- Entry into RUN and a swap boundary: both caches are filled anew. -/
def State.fillAll (s : State) : State :=
  let s1 := ({ s with stn := { s.stn with keys := [] } }).fillCaches (fun _ => true)
  { s1 with key := { s1.key with changed := [] } }

/-- The first boundary after a commit: entries of the slots it changed. -/
def State.fillChanged (s : State) : State :=
  if s.key.changed.isEmpty then s
  else
    let ch := s.key.changed
    let s1 := s.fillCaches (fun n => ch.contains n)
    { s1 with key := { s1.key with changed := [] } }

end Sys2Proof.Machine
end

