-- ==== Sys2Proof/Machine/Recorder.lean ====
section
/-!
DEFINITION. Sys2Proof/Machine/Recorder.lean: the event recorder (21): commit, seals, the chain and its signatures,
freeze and thaw, reading, counts.
-/
namespace Sys2Proof.Machine

/-- Run `f` with DT standing at an earlier instant: work that ended then leaves its stamps. -/
def State.stamped (s : State) (t : Nat) (f : State → State) : State :=
  let r := f { s with tim := { s.tim with dt := min t s.tim.dt } }
  { r with tim := { r.tim with dt := s.tim.dt, frac := s.tim.frac } }

/-- Records the region holds (21 R525). -/
def recPlaces : Nat := 262144

/-- Store a record under R528: a free place, the oldest record of severity at or below its own, or refusal. -/
def State.store (s : State) (r : StoredRec) : State :=
  if s.rcd.stored.length < recPlaces then { s with rcd := { s.rcd with stored := s.rcd.stored ++ [r] } }
  else match s.rcd.stored.find? (fun x => decide (x.sev ≤ r.sev)) with
    | some o => { s with rcd := { s.rcd with stored := s.rcd.stored.erase o ++ [r], overw := (s.rcd.overw + 1) % 2 ^ 32 } }
    | none =>
      ({ s with rcd := { s.rcd with refused := updAt s.rcd.refused r.sev (fun n => (n + 1) % 2 ^ 32) } }).raise 96 r.sev

/-- Start the signature of the chain, or skip it while K009 cannot be supplied (21 R530). -/
def State.startSign (s : State) : State :=
  let r := s.keyFor engRecorder 9
  match r.2 with
  | none => { r.1 with rcd := { r.1.rcd with sigSkip := satAdd max32 r.1.rcd.sigSkip 1 } }
  | some _ => { r.1 with rcd := { r.1.rcd with sign := some ⟨r.1.rcd.lastChained, r.1.rcd.chain, 100000⟩ } }

/-- The code of a staged record. -/
def StagedRec.code (r : StagedRec) : Nat := leNat ((r.bytes.drop 10).take 2)

/-- Commit the first staged record: seal, store, chain; the signature falls due (21 R528 to R530). -/
def State.commitOne (s : State) : State := match s.rcd.staging with
  | [] => s
  | r :: rest =>
    let k := s.keyFor engRecorder 8
    let s1 := { k.1 with rcd := { k.1.rcd with staging := rest, keybad := k.2.isNone, ev99 := k.1.rcd.ev99 || k.2.isNone } }
    let s2 := if k.2.isNone && !k.1.rcd.ev99 then s1.raise 99 0 else s1
    let m : List Byte := leBytes 4 r.rno ++ r.bytes
    let sl : List Byte := match k.2 with
      | some key => ((Config.hmacSha256 key m) ++ zeros 8).take 8
      | none => zeros 8
    let s3 : State := s2.store ⟨r.rno, r.sev, m ++ sl, k.2.isSome⟩
    if s3.rcd.refused.sum ≠ s2.rcd.refused.sum then s3
    else
      let n := s3.rcd.chained + 1
      let s4 := { s3 with rcd := { s3.rcd with chain := Config.sha256 (s3.rcd.chain ++ m ++ sl), chained := n % 256, lastChained := r.rno } }
      if n = 256 || r.code = 0x0105 || r.code = 0x0100 then s4.startSign else s4

/-- One record of a signature pair: raised and stored at once, unchained, SEAL zero. -/
def State.signRecord (s : State) (cover code : Nat) (half : List Byte) : State :=
  let rno := s.rcd.written
  let b := recordBytes s sevNotice blkRec code (leBytes 4 cover ++ half)
  ({ s with rcd := { s.rcd with written := (rno + 1) % 2 ^ 32 } }).store ⟨rno, sevNotice, leBytes 4 rno ++ b ++ zeros 8, false⟩

/-- Commit the signature pair (21 R530). -/
def State.commitSign (s : State) : State := match s.rcd.sign with
  | none => s
  | some j =>
    let sig := (Config.ecdsaP256Sign (s.slot 9).mat (deviceIdBytes ++ leBytes 4 j.cover ++ j.chain) ++ zeros 64).take 64
    let s1 := { s with rcd := { s.rcd with sign := none, cover := j.cover } }
    (s1.signRecord j.cover 0x0106 (sig.take 32)).signRecord j.cover 0x0107 (sig.drop 32)

/-- Commits may run: key island and always-on island clocked, no freeze. -/
def State.mayCommit (s : State) : Bool :=
  s.runs .key && !s.clk.gated && s.rcd.freeze.isNone && s.key.ready && !(s.clk.aonSosc && !s.clk.soscRun)

/-- Time of one record: 300 cycles and one MRAM write of 64 bytes. -/
def State.recNs (s : State) : Rat := 300 * s.keyCyc + 820

/-- One piece of work of an open REC cell that ends by DT `now`: a commit, a part of a signature, its pair. -/
def recOnce (now : Nat) (s : State) : Option State := match s.rcd.win with
  | none => none
  | some w =>
    let put : Rat → Nat → State → State := fun t q s => { s with rcd := { s.rcd with win := some { w with at_ := t, quota := q } } }
    if !s.mayCommit then none
    else match s.rcd.sign with
      | some j =>
        if j.work = 0 then
          let e := w.at_ + 2 * s.recNs
          if e < (w.stop : Nat) && decide (e ≤ (now : Nat)) && decide (2 ≤ w.quota) then
            some (put e (w.quota - 2) (s.stamped e.floor.toNat (fun s => s.commitSign)))
          else none
        else
          let c := min 640 j.work
          let e := w.at_ + (c : Nat) * s.keyCyc
          if e < (w.stop : Nat) && decide (e ≤ (now : Nat)) then
            some (put e w.quota { s with rcd := { s.rcd with sign := some { j with work := j.work - c } } })
          else none
      | none =>
        let e := w.at_ + s.recNs
        if !s.rcd.staging.isEmpty && decide (e < (w.stop : Nat)) && decide (e ≤ (now : Nat)) && decide (1 ≤ w.quota) then
          some (put e (w.quota - 1) (s.stamped e.floor.toNat (fun s => s.commitOne)))
        else none

/-- What the open REC cell has done by now. -/
def State.recFlush (s : State) : State :=
  let s1 := iter 4096 (recOnce s.tim.dt) s
  { s1 with rcd := { s1.rcd with win := s1.rcd.win.bind (fun w =>
      if w.stop ≤ s1.tim.dt then none
      else if s1.rcd.staging.isEmpty && s1.rcd.sign.isNone then some { w with at_ := max w.at_ (s1.tim.dt : Nat) } else some w) } }

/-- A REC cell opens: 16 cycles of dispatch, then commits up to the quota while they fit (21 R528, 03 Table 3-5). -/
def recCell (s : State) (e : Nat) : State :=
  (s.recFlush).withCell e (fun r => decide (r = 0x12)) (some .key) (fun x s1 =>
    { s1 with rcd := { s1.rcd with win := some ⟨s1.cellEnd x s1.comb.k, x.act % 65536, (s1.tim.dt : Nat) + 16 * s1.keyCyc⟩ } })

def execRecCell (e : Nat) (s : State) : Host.Outcome State Fault Refusal := .next (recCell s e)

/-- RECORD_COMMIT_END: a continuous commit ends, in INIT once the slots are checked, in SETUP and HALT; a signature due
comes before the next record. -/
def recordCommitEnd (s : State) : State :=
  if s.mgt.run = .run || !s.mayCommit then s
  else if s.rcd.sign.isSome then s.commitSign
  else s.commitOne

def execRecordCommitEnd (s : State) : Host.Outcome State Fault Refusal := .next (recordCommitEnd s)

/-- RECORD_RAISE: a unit hands over a record (21 R527). -/
def recordRaise (s : State) (sev src code : Nat) (body : List Byte) : State := s.record sev src code body

def execRecordRaise (sev : Fin 4) (src : Fin 16) (code : Nat) (body : List Byte) (s : State) :
    Host.Outcome State Fault Refusal := .next (recordRaise s sev src code body)

/-! ## Freeze (21 R531) -/

/-- Start a freeze: commits stop, the freeze record is staged (severity NOTICE: DESIGN CHOICE, log entry 52). -/
def State.freezeAt (s : State) (qp : Nat) : State :=
  let s1 := s.recFlush
  ({ s1 with rcd := { s1.rcd with freeze := some s1.tim.dt } }).record sevNotice blkRec 0x0104
    (leBytes 8 s1.tim.dt ++ [BitVec.ofNat 8 qp])

def State.thaw (s : State) (expired : Bool) : State :=
  ({ s with rcd := { s.rcd with freeze := none } }).record sevNotice blkRec 0x0105 (leBytes 8 s.tim.dt ++ [BitVec.ofNat 8 (b2n expired)])

/-- The window [t, t + 10 s) closes. -/
def freezeExpiry (s : State) : State := match s.rcd.freeze with
  | none => s
  | some t =>
    let s1 := s.advanceTo (t + 10000000000)
    (s1.thaw true).raise 98 0

def execFreezeExpiry (s : State) : Host.Outcome State Fault Refusal := .next (freezeExpiry s)

/-! ## Reading and counts (21 R532 to R535) -/

/-- Stored records from `first` on, in ascending RNO, at most `count`. -/
def State.recFrom (s : State) (first count : Nat) : List StoredRec :=
  (s.rcd.stored.filter (fun r => decide (first ≤ r.rno))).take count

/-- A seal that does not match is counted and raised (21 R532). -/
def State.checkSeal (s : State) (r : StoredRec) : State :=
  if !r.sealed then s
  else match s.keyPeek engRecorder 8 with
    | none => s
    | some k =>
      if ((Config.hmacSha256 k (r.bytes.take 56)) ++ zeros 8).take 8 = r.bytes.drop 56 then s
      else ({ s with rcd := { s.rcd with badSeal := satAdd max32 s.rcd.badSeal 1 } }).raise 100 0

def Rec.refusedSum (r : Rec) : Nat := r.refused.sum % 2 ^ 32

/-- The counts record (21 Table 21-3). -/
def State.countsRecord (s : State) : List Byte :=
  leBytes 4 s.rcd.written ++ leBytes 4 s.rcd.overw ++ leBytes 4 s.rcd.refusedSum ++ leBytes 3 s.rcd.stored.length ++
    [BitVec.ofNat 8 (b2n s.rcd.freeze.isSome + 2 * min 7 (s.rcd.staging.length / 128))]

/-- A start from OFF loses the staged records (21 R536). -/
def State.stagingLost (s : State) : State :=
  { s with rcd := { s.rcd with staging := [], written := (s.rcd.stored.length + s.rcd.overw + s.rcd.refusedSum) % 2 ^ 32 } }

end Sys2Proof.Machine
end

