-- ==== Sys2Proof/Machine/Panel.lean ====
section
/-!
DEFINITION. Sys2Proof/Machine/Panel.lean: the status panel (22): regions, starts, frames and phases, rails, the crack
loop, the journal, power loss and start-up redraw.
-/
namespace Sys2Proof.Machine

/-! ## The section and the regions -/

def State.panel? (s : State) : Option PanelDef := s.sup.bank.bind (fun i => i.panel)

def State.preg (s : State) (r : Nat) : PnlRegSt := s.pnl.regs.getD r PnlRegSt.reset

def State.setPreg (s : State) (r : Nat) (x : PnlRegSt) : State :=
  { s with pnl := { s.pnl with regs := updAt s.pnl.regs r (fun _ => x) } }

/-- The panel island runs: clocked, or fed from the hold-up store after a loss of VIN (22 R556). -/
def State.pnlOn (s : State) : Bool := s.runs .pnl || s.pnl.holdup

/-- A region is dirty (22 R554). -/
def PnlRegSt.dirty (x : PnlRegSt) : Bool := x.journal.journaled && !(decide (x.done = some x.journal.seq))

def State.anyDirty (s : State) : Bool := s.pnl.regs.any PnlRegSt.dirty
def State.anyRunning (s : State) : Bool := s.pnl.regs.any (fun x => x.run.isSome)
def State.anyPending (s : State) : Bool := s.pnl.regs.any (fun x => x.pend.isSome || x.work)

/-- Two rectangles share a pixel. -/
def PanelRegion.overlaps (a b : PanelRegion) : Bool :=
  decide (a.x < b.x + b.w) && decide (b.x < a.x + a.w) && decide (a.y < b.y + b.h) && decide (b.y < a.y + a.h)

/-- Panel phases: 0 STARTUP, 1 TEST, 2 RECOVERY, 3 NORMAL (22 R555). -/
def State.pphase (s : State) : Nat :=
  if !s.pnl.started then 0 else if s.fld 0xA004 0 0 = 1 then 1 else if s.pnl.recovery then 2 else 3

/-! ## Pixels (22 R542, R544, R547) -/

/-- The bytes of a rectangle of an image laid out in rows of 512 bytes, row by row. -/
def rectBytes (m : SMap Byte) (q : PanelRegion) : List Byte :=
  (List.range q.h).flatMap (fun (j : Nat) => (List.range (q.w / 2)).map (fun (i : Nat) => SMap.get dByte m (512 * (q.y + j) + q.x / 2 + i)))

/-- Write the bytes of a rectangle. -/
def putRect (m : SMap Byte) (q : PanelRegion) (data : List Byte) : SMap Byte :=
  (data.take (q.w / 2 * q.h)).zipIdx.foldl (fun (m : SMap Byte) (p : Byte × Nat) =>
    SMap.set dByte m (512 * (q.y + p.2 / (q.w / 2)) + q.x / 2 + p.2 % (q.w / 2)) p.1) m

/-- The nibble of a pixel. -/
def nibble (m : SMap Byte) (x y : Nat) : Nat :=
  let b := (SMap.get dByte m (512 * y + x / 2)).toNat
  if x % 2 = 0 then b % 16 else b / 16

/-- Phases of an update: clearing phases first when it is start-up work. -/
def PnlRun.total (u : PnlRun) : Nat := (if u.clear then u.wave.nphClr else 0) + u.wave.nph

/-- The drive code of a pixel in the next phase of a running update. -/
def State.pixelCode (s : State) (u : PnlRun) (x y : Nat) : Nat :=
  if u.clear && decide (u.phase < u.wave.nphClr) then (u.wave.clear.getD u.phase 0).toNat % 4
  else
    let i := u.phase - (if u.clear then u.wave.nphClr else 0)
    let a := if u.clear then 15 else nibble s.pnl.disp x y
    let b := nibble s.pnl.store x y
    let ph := (u.wave.waves.getD (min (nibble u.mapData x y) (u.nvar - 1)) []).getD i []
    ((ph.getD ((16 * a + b) / 4) 0).toNat / 4 ^ ((16 * a + b) % 4)) % 4

def State.pixelCodes (s : State) (u : PnlRun) : List Nat :=
  (List.range u.rect.h).flatMap (fun (j : Nat) => (List.range u.rect.w).map (fun (i : Nat) =>
    s.pixelCode u (u.rect.x + i) (u.rect.y + j)))

/-! ## Rails (22 R548) -/

/-- The sum of the rail delays in ns. -/
def PanelDef.railNs (d : PanelDef) : Nat := d.railUs.sum * 1000

/-- T_frame in ns (22 R546). -/
def PanelDef.frameNs (d : PanelDef) : Nat := (d.vres + d.vpad) * (d.hres / 8 + d.hpad) * (20 * d.sdiv)

/-- Begin to bring the rails up. -/
def State.railsUp (s : State) (d : PanelDef) : State :=
  { s with pnl := { s.pnl with rails := .rising, railAt := s.tim.dt + d.railNs, tFrame := d.frameNs, vcom := true,
                               pen := [true, true, true, true, true, false] } }

/-- The rails go down in order: VCOM low, PEN4 to PEN0 released, PEN5 asserted for 10 ms. -/
def State.railsDown (s : State) : State :=
  let d := match s.panel? with | some d => d.railNs | none => 0
  { s with pnl := { s.pnl with rails := .discharging, railAt := s.tim.dt + d + 10000000, vcom := false, closing := false,
                               pen := [false, false, false, false, false, true] } }

/-- What follows from the state of the regions: RECOVERY ends, the start-up work ends, the frontlight follows the dirty
regions, rails that wait for running updates go down (22 R549, R553, R555, R558). -/
def State.panelSettle (s : State) : State :=
  let p := s.pnl
  let thr := match s.panel? with | some d => d.vhuThr | none => 0
  let st := p.started || (s.key.ready && s.runs .pnl && !(p.regs.any (fun x => x.work)))
  let clean := !s.anyDirty
  let s1 := { s with pnl := { p with
    started := st
    recovery := p.recovery && !(decide (thr ≤ p.vhuMv) && clean)
    fl := st && clean && s.panel?.isSome && s.inService
    ev116 := p.ev116 || (st && clean && s.panel?.isSome) } }
  let s2 := if s1.pnl.ev116 && !p.ev116 then s1.raise 116 0 else s1
  if s2.pnl.closing && decide (s2.pnl.rails = .up) && !s2.anyRunning then s2.railsDown else s2

/-! ## Starts (22 R551, R552, R554, R558) -/

/-- The temperature at a start: the last GOOD value is kept. -/
def State.takeTemp (s : State) (d : PanelDef) : State :=
  let t := s.mtrSrc d.tempSrc
  if t.2 then { s with pnl := { s.pnl with lastTemp := some (t.1 * 65536).floor } } else s

/-- The band at a start (22 R552). -/
def State.bandNow (s : State) (d : PanelDef) : Nat := match s.pnl.lastTemp with
  | none => d.bandDef
  | some t => (d.bandT.filter (fun (k : Int) => decide (k * 65536 ≤ t * 10))).length

/-- The rectangle a start of a region drives: the journaled one for start-up work. -/
def State.startRect (s : State) (d : PanelDef) (r : Nat) : PanelRegion :=
  if (s.preg r).work then (s.preg r).journal.rect else d.regions.getD r ⟨0, 0, 0, 0⟩

/-- The journal size j of a start. -/
def State.startSize (s : State) (d : PanelDef) (r : Nat) : Nat :=
  let q := s.startRect d r
  64 + q.w * q.h / 2

/-- The region may start (22 R551). -/
def State.mayStart (s : State) (d : PanelDef) (r : Nat) : Bool :=
  let x := s.preg r
  (x.work || (x.pend.isSome && decide (r < d.regions.length))) && x.run.isNone && !s.pnl.cracked &&
  !s.pnl.closing && s.runs .pnl &&
  !((List.range 16).any (fun i => match (s.preg i).run with
    | some u => u.rect.overlaps (s.startRect d r)
    | none => false))

/-- START_DT: the first frame that begins after the journal write and after rails-up. -/
def State.firstFrame (s : State) (d : PanelDef) (wrote : Nat) : Nat :=
  let base := match s.pnl.rails with
    | .up => s.pnl.railAt
    | .rising => s.pnl.railAt + 100000
    | .down => s.tim.dt + d.railNs + 100000
    | .discharging => s.pnl.railAt + d.railNs + 100000
  let f := match s.pnl.rails with
    | .up | .rising => s.pnl.tFrame
    | _ => d.frameNs
  if wrote ≤ base || f = 0 then base else base + (wrote - base + f - 1) / f * f

/-- Step 1 of the start-up work: a rectangle of S that fails its check becomes white. -/
def State.checkRect (s : State) (r : Nat) : State :=
  let x := s.preg r
  if !x.work then s
  else if (crc32 (rectBytes s.pnl.store x.journal.rect)).toNat = x.journal.dataCrc then s
  else
    let st := putRect s.pnl.store x.journal.rect (List.replicate (x.journal.rect.w / 2 * x.journal.rect.h) 0xFF)
    let j := { x.journal with dataCrc := (crc32 (rectBytes st x.journal.rect)).toNat }
    (({ s with pnl := { s.pnl with store := st } }).setPreg r { x with journal := j }).raise 117 r

/-- A region starts; its journal write ends at `wrote`. -/
def State.startRegion (s : State) (d : PanelDef) (r wrote : Nat) : State :=
  let s0 := (s.takeTemp d).checkRect r
  let x := s0.preg r
  let q := s0.startRect d r
  let b := s0.bandNow d
  let mp := d.bandMap / 4 ^ b % 4
  let st := if x.work then s0.pnl.store else match x.pend with
    | some p => putRect s0.pnl.store q p.data
    | none => s0.pnl.store
  let id := if x.work then x.journal.frameId else match x.pend with
    | some p => p.frameId
    | none => 0
  let sq := (x.journal.seq + 1) % 2 ^ 32
  let f := s0.firstFrame d wrote
  let u : PnlRun :=
    { cmd := if x.work then x.owed else x.pend.map (fun p => p.seq)
      clear := x.work
      band := b
      map := mp
      mapData := s0.pnl.maps.getD mp []
      nvar := d.nvar
      wave := d.bands.getD b ⟨0, 0, [], []⟩
      rect := q
      frameId := id
      jseq := sq
      first := f
      phase := 0 }
  let j : Journal := ⟨sq, true, b, mp, q, id, f, (crc32 (rectBytes st q)).toNat⟩
  let y : PnlRegSt := { x with pend := if x.work then x.pend else none, owed := none, run := some u, journal := j, band := b }
  let s1 : State := ({ s0 with pnl := { s0.pnl with store := st, band := b, fl := false } }).setPreg r y
  if s1.pnl.rails = .down then s1.railsUp d else s1

/-- Time of one cycle of the panel island in ns: 50 MHz less the assumed down-spread of PLL_AUX. -/
def State.pnlCyc (s : State) : Rat :=
  (20000 : Rat) / ((1000 - (match s.comb? with | some x => x.spreadAux | none => 0) : Nat) : Rat)

/-- Starts at once: in INIT once the slots are checked, in SETUP and HALT. -/
def State.panelPump (s : State) : State := match s.panel? with
  | none => s.panelSettle
  | some d =>
    if s.mgt.run = .run || !s.key.ready || !(s.runs .pnl) then s.panelSettle
    else ((List.range 16).foldl (fun (s : State) (r : Nat) =>
      if s.mayStart d r then s.startRegion d r (s.tim.dt + 960 + 500 + 5 * s.startSize d r) else s) s).panelSettle

/-- The starts of a PNL cell of length `len` µs: in ascending order while the journal writes fit. -/
def State.cellStarts (s : State) (d : PanelDef) (len : Nat) : State :=
  let t0 := s.tim.dt
  let avail : Rat := ((len : Nat) * 1000 - 21 : Rat) * (99979 / 100000)
  let r := (List.range 16).foldl (fun (p : State × Nat × Nat) (r : Nat) =>
    if p.1.mayStart d r then
      let n := p.2.1 + 1
      let m := p.2.2 + 500 + 5 * p.1.startSize d r
      let cost : Rat := (16 + 32 * n : Nat) * s.pnlCyc + (m : Nat)
      if cost ≤ avail then (p.1.startRegion d r (t0 + cost.ceil.toNat), n, m) else p
    else p) (s, 0, 0)
  r.1

/-- A PNL cell (22 R551). -/
def pnlCell (s : State) (e : Nat) : State :=
  s.withCell e (fun r => decide (r = 0x13)) (some .pnl) (fun x s1 => match s1.panel? with
    | none => s1
    | some d => s1.cellStarts d x.len)

def execPnlCell (e : Nat) (s : State) : Host.Outcome State Fault Refusal := .next (pnlCell s e)

/-! ## Frames, completion, the crack loop (22 R547, R553) -/

/-- An update completes at the end of its last frame: its pixels hold their targets, the completion word is written. -/
def State.completeRegion (s : State) (r : Nat) : State :=
  let x := s.preg r
  match x.run with
  | none => s
  | some u =>
    let dp := putRect s.pnl.disp u.rect (rectBytes s.pnl.store u.rect)
    let y := { x with run := none, done := some u.jseq, lastId := u.frameId, work := x.work && !u.clear }
    let s1 := ({ s with pnl := { s.pnl with disp := dp, updOk := satAdd max32 s.pnl.updOk 1, idleFrom := s.tim.dt } }).setPreg r y
    match u.cmd with
    | some q => s1.complete q 0 u.frameId (some s1.tim.dt) []
    | none => s1

/-- All its phases are driven. -/
def PnlRegSt.driven (x : PnlRegSt) : Bool := match x.run with
  | some u => decide (u.total ≤ u.phase)
  | none => false

/-- PANEL_UPDATE_COMPLETE: the last frame of a region's update ends. -/
def panelUpdateComplete (s : State) (r : Nat) : State :=
  if s.pnlOn && decide (s.pnl.rails = .up) && (s.preg r).driven then
    ((s.advanceTo s.pnl.railAt).completeRegion r).panelPump
  else s

def execPanelUpdateComplete (region : Nat) (s : State) : Host.Outcome State Fault Refusal := .next (panelUpdateComplete s region)

/-- The crack loop is measured (22 R553). -/
def State.measureCrack (s : State) (ohm : Nat) : State :=
  let max_ := match s.panel? with | some d => d.crkMax | none => 65535
  let s1 := { s with pnl := { s.pnl with crkOhm := min 65535 ohm } }
  if ohm ≤ max_ || s.pnl.cracked then s1
  else
    let s2 := ({ s1 with pnl := { s1.pnl with cracked := true, crkCnt := satAdd 255 s1.pnl.crkCnt 1, recovery := true,
                                              closing := true } }).raiseRec 112 0 sevFault blkPnl
    (List.range 16).foldl (fun (s : State) (r : Nat) => match (s.preg r).pend with
      | some p => (s.setPreg r { (s.preg r) with pend := none }).fail p.seq stCracked
      | none => s) s2

/-- A frame drives the next phase of every running update that it belongs to. -/
def State.drivePhases (s : State) : State :=
  (List.range 16).foldl (fun (s : State) (r : Nat) => match (s.preg r).run with
    | some u =>
      if u.first ≤ s.tim.dt && decide (u.phase < u.total) then
        (s.emit (.panel r u.phase (s.pixelCodes u))).setPreg r { (s.preg r) with run := some { u with phase := u.phase + 1 } }
      else s
    | none => s) s

/-- PANEL_FRAME_START: updates whose last frame ended complete, the crack loop is measured, the next phases drive. -/
def panelFrameStart (s : State) (ohm : Nat) : State :=
  if s.pnlOn && decide (s.pnl.rails = .up) then
    let s1 := s.advanceTo s.pnl.railAt
    let s2 := (List.range 16).foldl (fun (s : State) (r : Nat) => if (s.preg r).driven then s.completeRegion r else s) s1
    let s3 := (s2.measureCrack ohm).panelPump
    if s3.pnl.rails = .up then
      let s4 := s3.drivePhases
      { s4 with pnl := { s4.pnl with railAt := s4.pnl.railAt + s4.pnl.tFrame } }
    else s3
  else s

def execPanelFrameStart (ohm : Nat) (s : State) : Host.Outcome State Fault Refusal := .next (panelFrameStart s ohm)

/-- RAILS_UP_COMPLETE: the rail delays end; the loop is measured in 100 µs before the first frame. -/
def railsUpComplete (s : State) (ohm : Nat) : State :=
  if s.pnlOn && decide (s.pnl.rails = .rising) then
    let s1 := s.advanceTo s.pnl.railAt
    let s2 := { s1 with pnl := { s1.pnl with rails := .up, railAt := s1.pnl.railAt + 100000, idleFrom := s1.tim.dt } }
    (s2.measureCrack ohm).panelSettle
  else s

def execRailsUpComplete (ohm : Nat) (s : State) : Host.Outcome State Fault Refusal := .next (railsUpComplete s ohm)

/-- RAIL_IDLE_EXPIRY: RAIL_IDLE_MS has passed with no update running or pending. -/
def railIdleExpiry (s : State) : State := match s.panel? with
  | none => s
  | some d =>
    if s.pnlOn && decide (s.pnl.rails = .up) && !s.anyRunning && !s.anyPending then
      (s.advanceTo (s.pnl.idleFrom + d.railIdleMs * 1000000)).railsDown
    else s

def execRailIdleExpiry (s : State) : Host.Outcome State Fault Refusal := .next (railIdleExpiry s)

/-- DISCHARGE_END: PEN5 is released 10 ms after the rails went down; an update that has started meanwhile brings them
up again; after a loss of VIN the panel island goes off. -/
def dischargeEnd (s : State) : State :=
  if s.pnl.rails = .discharging then
    let s1 := s.advanceTo s.pnl.railAt
    let s2 := { s1 with pnl := { s1.pnl with rails := .down, holdup := false, pen := updAt s1.pnl.pen 5 (fun _ => false) } }
    match s2.panel? with
    | some d => if s2.anyRunning && s2.runs .pnl then s2.railsUp d else s2
    | none => s2
  else s

def execDischargeEnd (s : State) : Host.Outcome State Fault Refusal := .next (dischargeEnd s)

/-! ## Power loss and faults (22 R555 to R557) -/

/-- Running updates are cut short: their regions stay dirty, driving ends, the rails go down in order. -/
def State.cutShort (s : State) : State :=
  let s1 := (List.range 16).foldl (fun (s : State) (r : Nat) => match (s.preg r).run with
    | some u =>
      let x := s.preg r
      let s1 := s.setPreg r { x with run := none, owed := u.cmd }
      ({ s1 with pnl := { s1.pnl with cut := satAdd max16 s1.pnl.cut 1, recovery := true } }).raiseRec 113 r sevNotice blkPnl
    | none => s) s
  if s1.pnl.rails = .up || s1.pnl.rails = .rising then s1.railsDown else s1

/-- A fast discharge: PEN0 to PEN4 released and PEN5 asserted until the next rails-up. -/
def State.fastDischarge (s : State) : State :=
  let rs := s.pnl.regs.map (fun x => match x.run with
    | some u => { x with run := none, owed := u.cmd }
    | none => x)
  ({ s with pnl := { s.pnl with regs := rs, rails := .down, vcom := false, closing := false, recovery := true,
                                pen := [false, false, false, false, false, true],
                                fdis := satAdd 255 s.pnl.fdis 1 } }).raiseRec 114 0 sevNotice blkPnl

/-- VIN is lost (22 R556). -/
def State.panelVinLoss (s : State) : State := match s.panel? with
  | none => { s with pnl := { s.pnl with fl := false } }
  | some d =>
    let s0 := { s with pnl := { s.pnl with fl := false } }
    if s0.pphase = 3 then
      if s0.pnl.rails = .down then s0
      else
        let s1 := { s0 with pnl := { s0.pnl with holdup := true } }
        if d.vhuThr ≤ s.pnl.vhuMv then
          if s1.anyRunning then { s1 with pnl := { s1.pnl with closing := true } }
          else if s1.pnl.rails = .discharging then s1 else s1.railsDown
        else s1.cutShort
    else s0.fastDischarge

/-- VHU falls below VHU_THR or VHU_MIN (22 R555, R556). -/
def vhuBelow (s : State) (mv : Nat) : State :=
  let s1 := { s with pnl := { s.pnl with vhuMv := min 65535 mv } }
  match s.panel? with
  | none => s1
  | some d =>
    if s.pnl.holdup then (if mv < d.vhuMin then s1.cutShort else s1)
    else if mv < d.vhuThr then { s1 with pnl := { s1.pnl with recovery := true } }
    else s1

def execVhuBelowThreshold (mv : Nat) (s : State) : Host.Outcome State Fault Refusal := .next (vhuBelow s mv)

def vhuRestored (s : State) (mv : Nat) : State :=
  ({ s with pnl := { s.pnl with vhuMv := min 65535 mv } }).panelSettle

def execVhuRestored (mv : Nat) (s : State) : Host.Outcome State Fault Refusal := .next (vhuRestored s mv)

/-- PNL_CTRL.TEST is written (22 R555, R562). -/
def panelTest (s : State) (on : Bool) : State := if s.barOk then s.setFld 0xA004 0 0 (b2n on) else s

def execPanelTestWrite (on : Bool) (s : State) : Host.Outcome State Fault Refusal := .next (panelTest s on)

/-- The panel island's clock fails while it runs (22 R557). -/
def State.panelStop (s : State) : State :=
  if s.pnl.rails = .up || s.pnl.rails = .rising then s.fastDischarge else s

/-- Regions left dirty are redrawn as at a start (22 R558). -/
def State.panelRedraw (s : State) : State :=
  { s with pnl := { s.pnl with regs := s.pnl.regs.map (fun x => { x with work := x.dirty }), disp := s.pnl.store } }

/-- The panel island resumes after a clock-failure wait. -/
def State.panelResume (s : State) : State := s.panelRedraw.panelPump

/-- The panel island at a start: fast discharge while the rails are up, then everything but the MRAM contents, the
completion words, the pen levels and the hold-up reading is reset; the display image is taken from S (22 R557, R558). -/
def State.panelStart (s : State) (fromOff counters : Bool) : State :=
  let s1 := s.panelStop
  let rs := s1.pnl.regs.map (fun x =>
    let y := { PnlRegSt.reset with journal := x.journal, done := if fromOff then none else x.done }
    { y with work := y.dirty })
  let p := s1.pnl
  let cnt : Nat → Nat := fun n => if counters then 0 else n
  let off := { Pnl.reset with
    regs := rs
    maps := p.maps
    store := p.store
    disp := p.store
    rails := p.rails
    railAt := p.railAt
    tFrame := p.tFrame
    pen := p.pen
    vhuMv := p.vhuMv
    updOk := cnt p.updOk
    replCnt := cnt p.replCnt
    cut := cnt p.cut
    fdis := cnt p.fdis
    crkCnt := cnt p.crkCnt }
  { s1 with pnl := off }

/-- Entry into DORMANT: running updates are cut short, the rails go down in order, the frontlight is released (22 R557). -/
def State.panelDormant (s : State) : State :=
  let s1 := s.cutShort
  { s1 with pnl := { s1.pnl with fl := false } }

/-- A swap: pending requests of regions whose entries changed complete with ABORTED (22 Table 22-5). -/
def State.panelSwap (s : State) (old : Option PanelDef) : State :=
  let reg : Option PanelDef → Nat → Option PanelRegion := fun d r => d.bind (fun d => d.regions[r]?)
  (List.range 16).foldl (fun (s : State) (r : Nat) => match (s.preg r).pend with
    | some p => if reg old r = reg s.panel? r then s else (s.setPreg r { (s.preg r) with pend := none }).fail p.seq stAborted
    | none => s) s

/-- A hyperperiod boundary lets EV115 be raised anew. -/
def State.panelBoundary (s : State) : State :=
  { s with pnl := { s.pnl with regs := s.pnl.regs.map (fun x => { x with ev115 := false }) } }

/-! ## Commands (22 R545, R550, R562) -/

/-- An accepted PANEL_UPDATE: the frame goes into the pending slot. -/
def State.placeFrame (s : State) (seq r frameId : Nat) (data : List Byte) : State :=
  let x := s.preg r
  let s1 := match x.pend with
    | none => s
    | some p =>
      let y := { x with repl := satAdd max16 x.repl 1, ev115 := true }
      let s1 := (({ s with pnl := { s.pnl with replCnt := satAdd max32 s.pnl.replCnt 1 } }).setPreg r y).fail p.seq stAborted
      if x.ev115 then s1 else s1.raise 115 r
  (s1.setPreg r { (s1.preg r) with pend := some ⟨seq, frameId, data⟩ }).panelPump

/-- MAP_WRITE: a buffer of 384 KiB. -/
def State.mapWrite (s : State) (m : Nat) (data : List Byte) : State :=
  let l := (data.take 393216).zipIdx.filterMap (fun (p : Byte × Nat) => if p.1 = 0 then none else some (p.2, p.1))
  { s with pnl := { s.pnl with maps := updAt s.pnl.maps m (fun _ => l) } }

/-- The region waits for a running update that it overlaps. -/
def State.waitsOverlap (s : State) (r : Nat) : Bool := match s.panel? with
  | none => false
  | some d => ((s.preg r).pend.isSome || (s.preg r).work) && (List.range 16).any (fun i => decide (i ≠ r) && match (s.preg i).run with
    | some u => u.rect.overlaps (s.startRect d r)
    | none => false)

/-- PANEL_STATUS: 16 bytes per region. -/
def State.panelStatus (s : State) : List Byte :=
  (List.range 16).flatMap (fun (r : Nat) =>
    let x := s.preg r
    let fl := b2n x.run.isSome + 2 * b2n x.pend.isSome + 4 * b2n x.dirty + 8 * b2n (s.waitsOverlap r)
    leBytes 4 x.lastId ++ leBytes 4 (match x.pend with | some p => p.frameId | none => 0) ++
      [BitVec.ofNat 8 fl, BitVec.ofNat 8 x.band] ++ leBytes 2 x.repl ++ zeros 4)

end Sys2Proof.Machine
end

