-- ==== Sys2Proof/Machine/ImageParse.lean ====
section
/-!
DEFINITION. Sys2Proof/Machine/ImageParse.lean: the bytes of a hive image read section by section (04 R87, R588 and
the section layouts of the unit chapters).
-/
namespace Sys2Proof.Machine

/-! ## Reading bytes -/

/-- A view of bytes: the value of the byte at an offset, and how many bytes the view has. -/
structure View where
  rd : Nat → Nat
  size : Nat

def View.u8 (v : View) (o : Nat) : Nat := v.rd o
def View.u16 (v : View) (o : Nat) : Nat := v.rd o + 256 * v.rd (o + 1)
def View.u32 (v : View) (o : Nat) : Nat := v.u16 o + 65536 * v.u16 (o + 2)
def View.i8 (v : View) (o : Nat) : Int := toSigned 8 (v.u8 o)
def View.i16 (v : View) (o : Nat) : Int := toSigned 16 (v.u16 o)
def View.i32 (v : View) (o : Nat) : Int := toSigned 32 (v.u32 o)
def View.w32 (v : View) (o : Nat) : Word := BitVec.ofNat 32 (v.u32 o)
def View.bytes (v : View) (o n : Nat) : List Byte := (List.range n).map (fun (i : Nat) => BitVec.ofNat 8 (v.rd (o + i)))
/-- An n-byte little-endian number. -/
def View.num (v : View) (o n : Nat) : Nat := leNat (v.bytes o n)
/-- All of n bytes are zero. -/
def View.zero (v : View) (o n : Nat) : Bool := (List.range n).all (fun i => v.rd (o + i) = 0)
/-- A part of a view. -/
def View.sub (v : View) (o n : Nat) : View := ⟨fun i => v.rd (o + i), n⟩
/-- Entries of a table: `n` of them, `w` bytes each, from `o` on. -/
def View.table {α : Type} (v : View) (o w n : Nat) (f : View → α) : List α := (List.range n).map (fun (i : Nat) => f (v.sub (o + w * i) w))
/-- A short scalar (08 R219). -/
def View.sc (v : View) (o : Nat) : Sc := ⟨toSigned 24 (v.u32 o / 256), toSigned 8 (v.u32 o % 256)⟩

def View.ofBytes (bs : List Byte) : View := ⟨fun i => (bs.getD i 0).toNat, bs.length⟩

def listView (m : SMap Byte) (n : Nat) : View := ⟨fun i => (SMap.get dByte m i).toNat, n⟩

def noneIf (x v : Nat) : Option Nat := if v = x then none else some v

/-! ## Comb, logic, initial areas (03 R55, R56; 06 R191, R192) -/

def View.combEntry (v : View) : CombEntry where
  cphase := bitsOf (v.u32 0) 31 29
  start := bitsOf (v.u32 0) 25 0
  len := bitsOf (v.u32 4) 25 0
  mult := v.u16 10
  mphase := v.u16 8
  res := v.u8 15
  act := bitsOf (v.u32 12) 23 0

def View.comb (v : View) : Comb where
  hMs := v.u32 0
  pMs := v.u32 4
  costRev := v.u16 12
  spreadCh := v.u8 14
  spreadSlv := v.u8 15
  spreadAux := v.u8 16
  entries := v.table 32 16 (v.u32 8) View.combEntry

def View.logic (v : View) : Logic where
  tasks := v.table 64 16 (v.u8 4) (fun t => ⟨t.u32 0, t.u32 4, t.u16 8⟩)
  retWords := v.u32 8
  bitExt := v.u32 12
  wordExt := v.u32 16
  outExt := v.u32 20
  timerExt := v.u16 24
  counterExt := v.u16 26
  edgeExt := v.u16 28
  nconst := v.u32 32
  code := (List.range (v.u32 0)).map (fun i => v.w32 (192 + 4 * i))

/-- Words of an array that are not zero. -/
def View.words (v : View) (o n : Nat) : SMap Word :=
  (List.range n).filterMap (fun i => if v.w32 (o + 4 * i) = 0 then none else some (i, v.w32 (o + 4 * i)))

def View.bitsAt (v : View) (o n : Nat) : SMap Bool :=
  (List.range n).filterMap (fun i => if bitOf (v.u32 (o + 4 * (i / 32))) (i % 32) then some (i, true) else none)

def View.init (v : View) : InitData :=
  let nc := v.u32 0
  let nb := v.u32 4
  let nw := v.u32 8
  { consts := v.words 16 nc
    bits := v.bitsAt (16 + 4 * nc) (32 * nb)
    words := v.words (16 + 4 * (nc + nb)) nw
    counters := v.words (16 + 4 * (nc + nb + nw)) (v.u32 12) }

def InitData.none : InitData := ⟨[], [], [], []⟩

/-! ## Identities, values, points, loops (04, 05 R122, 07 R197) -/

def View.ident (v : View) : List IdentEntry :=
  v.table 16 16 (v.u32 0) (fun e => ⟨e.u32 0, e.u8 4, bitOf (e.u8 5) 0, e.u32 8, e.u32 12⟩)

def View.values (v : View) : List ValueEntry :=
  v.table 16 24 (v.u32 0) (fun e => ⟨e.u32 0, e.u8 4, e.u8 5, e.u32 8, e.i32 12, e.i32 16⟩)

def View.points (v : View) : List Point :=
  let np := v.u32 0
  v.table 16 16 np (fun e =>
    { oclass := e.u8 2, nwords := e.u8 3, target := e.u16 4, owner := e.u8 6, src := e.u32 8,
      safe := (List.range (e.u8 3)).map (fun i => v.w32 (16 + 16 * np + 4 * (e.u32 12 + i))) })

def View.loop (v : View) : LoopDef where
  dir := bitOf (v.u8 2) 0
  acceptStale := bitOf (v.u8 2) 1
  group := v.u8 3
  tsUs := v.u32 4
  pvSp := bitsOf (v.u32 8) 23 21
  pvAddr := bitsOf (v.u32 8) 20 0
  spSp := bitsOf (v.u32 12) 23 21
  spAddr := bitsOf (v.u32 12) 20 0
  outAddr := v.u32 16
  manBit := noneIf max32 (v.u32 20)
  manVal := v.u32 24
  statAddr := noneIf max32 (v.u32 28)
  kp := v.i32 32
  ki := v.i32 36
  kd := v.i32 40
  alpha := v.i32 44
  outMin := v.i32 48
  outMax := v.i32 52
  rateMax := v.i32 56
  uInit := v.i32 60

def View.loops (v : View) : List LoopDef := v.table 16 64 (v.u32 0) View.loop

/-! ## Solver sections (08 R226, 09 R251) -/

/-- A SOLVER_FEED point and word; none for 0xFFFF_FFFF. -/
def feedOf (w : Nat) : Option (Nat × Nat) := if w = max32 then none else some (bitsOf w 25 16, bitsOf w 3 0)

def View.expEntry (v : View) : ExpEntry := ⟨v.u8 0, v.i8 1, v.u16 2⟩
def View.pub (v : View) : PubEntry := ⟨v.u8 0, v.i8 1, v.u32 4⟩

def View.hyd (v : View) : HydDef :=
  let nn := v.u32 0
  let ne := v.u32 4
  let np := v.u16 8
  { method := v.u8 10
    newtonMax := v.u8 11
    linMax := v.u16 12
    reuseLimit := v.u8 14
    tolF := v.sc 16
    tolH := v.sc 20
    linTol := v.sc 24
    dhMax := v.sc 28
    xLam := v.sc 32
    nodes := v.table 64 16 nn (fun e => ⟨e.u32 0, decide (e.u8 4 = 1), e.i8 5, feedOf (e.u32 8), e.i32 12⟩)
    elems := v.table (64 + 16 * nn) 32 ne (fun e =>
      ⟨e.u32 0, e.u8 4, e.i8 5, e.u32 8, e.u32 12, e.sc 16, e.sc 20, feedOf (e.u32 24), noneIf max32 (e.u32 28)⟩)
    pubs := v.table (64 + 16 * nn + 32 * ne) 8 np View.pub
    exps := v.table (64 + 16 * nn + 32 * ne + 8 * np) 4 (v.u32 36) View.expEntry }

/-- A FEED word of the DISPATCH section. -/
def feedSrcOf (w : Nat) : Option FeedSrc :=
  if w = max32 then none
  else if bitsOf w 31 30 = 1 then some (.hyd (bitsOf w 11 0))
  else some (.point (bitsOf w 25 16) (bitsOf w 3 0))

def View.dispVar (e : View) : DispVar where
  tag := e.u32 0
  noLo := bitOf (e.u8 4) 0
  noUp := bitOf (e.u8 4) 1
  feedk := bitsOf (e.u8 4) 4 3
  fshift := e.i8 5
  step := noneIf 0xFFFF (e.u16 6)
  series := e.u16 8
  q := e.sc 12
  lo := e.sc 16
  up := e.sc 20
  feed := feedSrcOf (e.u32 24)
  dflt := e.sc 28

def View.dispRow (e : View) : DispRow where
  tag := e.u32 0
  noLo := bitOf (e.u8 4) 0
  noUp := bitOf (e.u8 4) 1
  eq := bitOf (e.u8 4) 2
  feedk := bitsOf (e.u8 4) 4 3
  fshift := e.i8 5
  step := noneIf 0xFFFF (e.u16 6)
  series := e.u16 8
  lo := e.sc 12
  up := e.sc 16
  feed := feedSrcOf (e.u32 20)

def View.mat (e : View) : MatEntry := ⟨e.u32 0, e.u32 4, e.sc 8⟩

/-- Offsets of the parts of a DISPATCH section: rows, P, A, published values, order, exponents. -/
def View.dispOfs (v : View) : List Nat :=
  let r := 64 + 32 * v.u32 0
  let p := r + 32 * v.u32 4
  let a := p + 12 * v.u32 8
  let b := a + 12 * v.u32 12
  let o := b + 8 * v.u16 30
  [r, p, a, b, o, o + 4 * (v.u32 0 + v.u32 4)]

def View.disp (v : View) : DispDef :=
  let at_ : Nat → Nat := fun i => v.dispOfs.getD i 0
  { stepMs := v.u32 20
    periodHp := v.u16 24
    phaseHp := v.u16 26
    nstep := v.u16 28
    alpha := v.sc 32
    epsAbs := v.sc 36
    epsRel := v.sc 40
    epsInf := v.sc 44
    checkEvery := v.u16 48
    rhoEvery := v.u16 50
    rhoExp := v.i8 52
    sigmaExp := v.i8 53
    eqShift := v.u8 54
    rhoTol := v.u8 55
    fshare := v.u8 56
    reuseLimit := v.u8 57
    vars := v.table 64 32 (v.u32 0) View.dispVar
    rows := v.table (at_ 0) 32 (v.u32 4) View.dispRow
    p := v.table (at_ 1) 12 (v.u32 8) View.mat
    a := v.table (at_ 2) 12 (v.u32 12) View.mat
    pubs := v.table (at_ 3) 8 (v.u16 30) View.pub
    order := (List.range (v.u32 0 + v.u32 4)).map (fun i => v.u32 (at_ 4 + 4 * i))
    exps := v.table (at_ 5) 4 (v.u32 16) View.expEntry }

/-! ## Field sections (10 R283, 12 R337, 13 R357) -/

def View.group (e : View) : GroupDef where
  group := e.u16 0
  link := e.u8 2
  authPoll := bitOf (e.u8 3) 0
  next := noneIf 0xFFFF (e.u16 4)
  gkey := e.u8 6
  turnUs := e.u16 8
  nmemb := e.u16 10
  ext := decide (e.u8 12 = 1)
  netid := bitsOf (e.num 13 3) 17 0

def View.station (e : View) : StnDef where
  stn := e.u16 0
  group := e.u16 2
  sid := e.u32 4
  addr := e.u8 8
  inLen := e.u8 9
  missLimit := e.u8 10
  auth := bitOf (e.u8 11) 0
  tag16 := bitOf (e.u8 11) 1
  key := e.u8 12
  mac := e.num 16 6
  uport := e.u16 22
  ip := e.bytes 24 16
  subst := e.bytes 40 60

def View.stations (v : View) : StationsDef where
  wfpPort := v.u16 4
  groups := v.table 16 16 (v.u16 2) View.group
  stns := v.table (16 + 16 * v.u16 2) 104 (v.u16 0) View.station

def View.canCh (e : View) : CanChDef where
  chan := e.u8 0
  monitor := decide (e.u8 1 = 2)
  fdEn := bitOf (e.u8 2) 0
  brsEn := bitOf (e.u8 2) 1
  tdcEn := bitOf (e.u8 2) 2
  defHost := bitOf (e.u8 2) 3
  hostObj := e.u8 3
  nbrp := e.u16 4
  ntseg1 := e.u16 6
  ntseg2 := e.u8 8
  nsjw := e.u8 9
  dbrp := e.u8 10
  dtseg1 := e.u8 11
  dtseg2 := e.u8 12
  dsjw := e.u8 13
  tdco := e.u8 14
  recovMs := e.u16 16
  filters := e.table 64 12 64 (fun f => ⟨f.u8 0, bitOf (f.u8 1) 0, bitOf (f.u8 1) 1, f.u32 4, f.u32 8⟩)

def View.can (v : View) : List CanChDef := v.table 16 832 (v.u8 0) View.canCh

def View.ethPort (e : View) : EthPortDef where
  port := e.u8 0
  pmode := e.u8 1
  speed := e.u8 2
  red := e.u8 3
  vlanEn := bitOf (e.u16 4) 0
  macsec := bitOf (e.u16 4) 1
  xpn := bitOf (e.u16 4) 2
  hostRx := bitOf (e.u16 4) 3
  ipv6 := bitOf (e.u16 4) 4
  ptpUntag := bitOf (e.u16 4) 5
  dormEn := bitOf (e.u16 4) 6
  pcp := bitsOf (e.u16 6) 15 13
  vid := bitsOf (e.u16 6) 11 0
  mac := e.num 8 6
  ip := e.bytes 16 16
  sciPort := e.u16 32
  key0 := e.u8 34
  key1 := e.u8 35
  replayWin := e.u32 36
  dormVid := bitsOf (e.u16 40) 11 0

def View.eth (v : View) : List EthPortDef := v.table 16 64 (v.u8 0) View.ethPort

/-! ## Metering, analogue inputs, axes, panel, events (11 R309, 14 R378, 15 R392, 22 R542, 16 R431) -/

/-- A source word (11 Table 11-4); none when its kind is not listed. -/
def srcOf (w : Nat) : Option MtrSrc := match bitsOf w 31 28 with
  | 1 => some (.pulse (bitsOf w 4 0))
  | 2 => some (.ain (bitsOf w 5 0))
  | 3 => some (.station (bitsOf w 11 0) (bitsOf w 15 12))
  | 4 => some (.feed (bitsOf w 25 16) (bitsOf w 3 0))
  | _ => none

/-- The word a source is coded by, for the check of its zero bits. -/
def MtrSrc.word : MtrSrc → Nat
  | .pulse p => 0x10000000 + p
  | .ain i => 0x20000000 + i
  | .station n w => 0x30000000 + n + w * 4096
  | .feed p w => 0x40000000 + p * 65536 + w

def View.src (v : View) (o : Nat) : MtrSrc := (srcOf (v.u32 o)).getD (.pulse 0)

def View.em (e : View) : EmDef where
  em := e.u8 0
  four := decide (e.u8 1 = 1)
  invert := bitOf (e.u8 2) 0
  vlossPct := e.u8 3
  nthrPct := e.u8 4
  uNom := e.sc 8
  chans := e.table 16 16 6 (fun c => ⟨noneIf 0xFF (c.u8 0), c.i16 2, bitsOf (c.u32 4) 23 0, c.sc 8⟩)

def View.tm (e : View) : TmDef where
  tm := e.u8 0
  medium := e.u8 1
  role := e.u8 2
  sensorRet := bitOf (e.u8 3) 0
  flow := e.src 4
  tsup := e.src 8
  tret := e.src 12
  dir := noneIf max32 (e.u32 16)
  pulseL := e.sc 20
  pDecl := e.sc 24

def View.meter (v : View) : MeterDef where
  intvS := v.u16 4
  fNom := v.u8 6
  mckDiv := (List.range 8).map (fun i => v.u8 (8 + i))
  loss := if v.u32 16 = max32 then none else srcOf (v.u32 16)
  balThr := v.sc 20
  ems := v.table 32 128 (v.u8 0) View.em
  tms := v.table (32 + 128 * v.u8 0) 64 (v.u8 1) View.tm
  ctrs := v.table (32 + 128 * v.u8 0 + 64 * v.u8 1) 8 (v.u16 2) (fun c => ⟨c.u16 0, c.u8 2⟩)

def View.ain (e : View) : AinDef where
  mode := e.u8 0
  trig := if bitOf (e.u8 1) 7 then some (bitsOf (e.u8 1) 4 3, bitsOf (e.u8 1) 2 0) else none
  tset := e.u16 2
  mul := e.i32 4
  ofs := e.i32 8
  thrLo := e.i32 12
  thrHi := e.i32 16

/-- Offset of the conversion list. -/
def View.listOfs (v : View) : Nat := 1680 + 8 * v.u16 0

def View.analog (v : View) : AnalogDef where
  ext := decide (v.u8 2 = 1)
  ains := v.table 16 24 64 View.ain
  urgent := v.table 1552 4 32 (fun e => noneIf 0xFF (e.u8 0))
  seqs := v.table 1680 8 (v.u16 0) (fun e =>
    let inter := bitOf (e.u8 2) 0
    { seqno := e.u8 0, adc := e.u8 1, inter := inter, nconv := e.u16 4,
      list := (List.range (if inter then 1 else e.u16 4)).map (fun i => v.u8 (v.listOfs + e.u16 6 + i)) })

def View.axis (e : View) : AxisDef where
  axis := e.u8 0
  group := e.u8 1
  dirInv := bitOf (e.u8 2) 0
  enLow := bitOf (e.u8 2) 1
  retain := bitOf (e.u8 2) 2
  autoDis := bitOf (e.u8 2) 3
  homePos := bitOf (e.u8 2) 4
  swLow := bitOf (e.u8 2) 5
  enSafe := bitOf (e.u8 2) 7
  filt := e.u8 3
  stepW := e.u16 4
  dirSu := e.u16 6
  enLead := e.u16 8
  idleMs := e.u16 10
  vStart := e.u32 12
  vStop := e.u32 16
  v1 := e.u32 20
  a1 := e.u32 24
  amax := e.u32 28
  dmax := e.u32 32
  d1 := e.u32 36
  vHome := e.u32 40
  posMin := e.i32 44
  posMax := e.i32 48

def View.axes (v : View) : AxesDef where
  interp := (List.range 4).map (fun g => bitOf (v.u8 1) g)
  axes := v.table 16 64 (v.u8 0) View.axis
  pwm := v.table (16 + 64 * v.u8 0) 4 16 (fun e => bitsOf (e.u32 0) 23 0)

/-- Bytes of a band block at `o`. -/
def View.bandLen (v : View) (o : Nat) : Nat := 4 + 64 * v.u8 8 * v.u16 o + v.u16 (o + 2)

/-- Offsets of the eight band blocks, and the end of the last one. -/
def View.bandOfs (v : View) : List Nat :=
  (List.range 8).foldl (fun (l : List Nat) (_ : Nat) => l ++ [l.getLastD 0 + v.bandLen (l.getLastD 0)]) [64 + 16 * v.u8 7]

def View.band (v : View) (o : Nat) : PanelBand :=
  let n := v.u16 o
  { nph := n
    nphClr := v.u16 (o + 2)
    waves := (List.range (v.u8 8)).map (fun w => (List.range n).map (fun p => v.bytes (o + 4 + 64 * (w * n + p)) 64))
    clear := v.bytes (o + 4 + 64 * v.u8 8 * n) (v.u16 (o + 2)) }

def View.panel (v : View) : PanelDef where
  hres := v.u16 0
  vres := v.u16 2
  sdiv := v.u8 4
  hpad := v.u8 5
  vpad := v.u8 6
  nvar := v.u8 8
  bandDef := v.u8 9
  bandMap := v.u16 10
  tempSrc := v.src 12
  bandT := (List.range 7).map (fun i => v.i16 (16 + 2 * i))
  railUs := (List.range 6).map (fun i => v.u16 (32 + 2 * i))
  vcomCode := v.u16 44
  vhuThr := v.u16 46
  vhuMin := v.u16 48
  crkMax := v.u16 50
  railIdleMs := v.u16 52
  flDuty := v.u16 54
  regions := v.table 64 16 (v.u8 7) (fun e => ⟨e.u16 2, e.u16 4, e.u16 6, e.u16 8⟩)
  bands := (v.bandOfs.take 8).map v.band

def View.events (v : View) : List Nat := (List.range 256).map (fun n => v.u8 (16 + n))

/-! ## The image (04 R87, R588) -/

def View.nsect (v : View) : Nat := v.u16 54

/-- The section table: type, offset, size. -/
def View.sections (v : View) : List (Nat × Nat × Nat) :=
  v.table 256 16 v.nsect (fun e => (e.u16 0, e.u32 4, e.u32 8))

/-- The section of a type. -/
def View.sect (v : View) (t : Nat) : Option View :=
  (v.sections.find? (fun x => decide (x.1 = t))).map (fun x => v.sub x.2.1 x.2.2)

/-- The length a section's layout gives for the counts it declares (04 R588); INIT takes its counts from LOGIC. -/
def View.wantLen (img : View) (t : Nat) (v : View) : Nat := match t with
  | 1 => 32 + 16 * v.u32 8
  | 2 => 192 + 4 * v.u32 0
  | 3 => match img.sect 2 with
    | some l => 16 + 4 * (l.u32 32 + l.u32 12 / 32 + l.u32 16 + l.u16 26)
    | none => 16
  | 4 => 16 + 16 * v.u32 0
  | 5 => 16 + 24 * v.u32 0
  | 6 => 16 + 64 * v.u32 0
  | 7 => 16 + 16 * v.u32 0 + 4 * v.u32 4
  | 8 => 64 + 16 * v.u32 0 + 32 * v.u32 4 + 8 * v.u16 8 + 4 * v.u32 36
  | 9 => 64 + 32 * v.u32 0 + 32 * v.u32 4 + 12 * (v.u32 8 + v.u32 12) + 8 * v.u16 30 + 4 * (v.u32 0 + v.u32 4) + 4 * v.u32 16
  | 0xA => 16 + 16 * v.u16 2 + 104 * v.u16 0
  | 0xB => 16 + 832 * v.u8 0
  | 0xC => 16 + 64 * v.u8 0
  | 0xD => 32 + 128 * v.u8 0 + 64 * v.u8 1 + 8 * v.u16 2
  | 0xE => 1680 + 8 * v.u16 0 + v.u32 4
  | 0xF => 80 + 64 * v.u8 0
  | 0x10 => v.bandOfs.getLastD 0
  | 0x11 => 272
  | _ => 0

/-- The section has exactly its length. -/
def View.lenOk (img : View) (t : Nat) : Bool := match img.sect t with
  | none => true
  | some v => decide (v.size = img.wantLen t v)

/-- An image as the units load it. -/
def View.image (v : View) : Image where
  imageId := v.u32 24
  epoch := v.u32 20
  size := v.u32 8
  digestPfx := v.bytes 56 16
  autorun := bitOf (v.u16 18) 0
  raiseEpoch := bitOf (v.u16 18) 1
  comb := match v.sect 1 with | some x => x.comb | none => ⟨0, 0, 0, 0, 0, 0, []⟩
  logic := match v.sect 2 with | some x => x.logic | none => ⟨[], 0, 0, 0, 0, 0, 0, 0, 0, []⟩
  init := match v.sect 3 with | some x => x.init | none => InitData.none
  ident := match v.sect 4 with | some x => x.ident | none => []
  values := match v.sect 5 with | some x => x.values | none => []
  loops := match v.sect 6 with | some x => x.loops | none => []
  points := match v.sect 7 with | some x => x.points | none => []
  events := (v.sect 0x11).map View.events
  panel := (v.sect 0x10).map View.panel
  hyd := (v.sect 8).map View.hyd
  disp := (v.sect 9).map View.disp
  stations := (v.sect 0xA).map View.stations
  can := match v.sect 0xB with | some x => x.can | none => []
  eth := match v.sect 0xC with | some x => x.eth | none => []
  meter := (v.sect 0xD).map View.meter
  analog := (v.sect 0xE).map View.analog
  axes := (v.sect 0xF).map View.axes

/-- The bytes of a super as a view of an image. -/
def Super.view (x : Super) : View := listView x.bytes 16777216

end Sys2Proof.Machine
end

