-- ==== Sys2Proof/Machine/LgeCode.lean ====
section
/-!
DEFINITION. Sys2Proof/Machine/LgeCode.lean: the instruction words of the logic engine (06 R177, Tables 6-6 and 6-7):
decoding, with every zero field checked.
-/
namespace Sys2Proof.Machine

/-- Form M operand: SP in bits 23:21, ADDR in bits 20:0. -/
def spOf (w : Nat) : Nat := bitsOf w 23 21
def addrOf (w : Nat) : Nat := bitsOf w 20 0

def bitOpOf (w : Nat) : Option BitOp := match spOf w with
  | 0 => some (.bit (addrOf w))
  | 5 => some (.req (addrOf w))
  | _ => none

def wordOpOf (w : Nat) : Option WordOp := match spOf w with
  | 1 => some (.word (addrOf w))
  | 2 => some (.const (addrOf w))
  | 3 => some (.snap (addrOf w))
  | 4 => some (.out (addrOf w))
  | 6 => some (.sys (addrOf w))
  | 7 => some (.imm (BitVec.ofNat 21 (addrOf w)))
  | _ => none

def idxOpOf (w : Nat) : Option IdxOp := match spOf w with
  | 1 => some (.word (addrOf w))
  | 2 => some (.const (addrOf w))
  | 3 => some (.snap (addrOf w))
  | 4 => some (.out (addrOf w))
  | 6 => some (.sys (addrOf w))
  | _ => none

def storeOpOf (w : Nat) : Option StoreOp := match spOf w with
  | 1 => some (.word (addrOf w))
  | 4 => some (.out (addrOf w))
  | _ => none

/-- Forms N, I, B and J; every field they call zero must be zero. -/
def formN (w : Nat) (i : Instr) : Option Instr := if bitsOf w 23 0 = 0 then some i else none
def formI (w : Nat) (f : Nat → Instr) : Option Instr := if bitsOf w 23 14 = 0 then some (f (bitsOf w 13 0)) else none
def formB (w : Nat) (f : Fin 32 → Instr) : Option Instr :=
  if bitsOf w 23 5 = 0 then some (f (Fin.ofNat 32 (bitsOf w 4 0))) else none
def formJ (w : Nat) (f : Nat → Instr) : Option Instr := if bitsOf w 23 0 = 0 then none else some (f (bitsOf w 23 0))

/-- The instruction a program word spells; none for an opcode not listed or a field that is not zero. -/
def lgeDecode (w : Nat) : Option Instr := match bitsOf w 31 24 with
  | 0x00 => formN w .nop
  | 0x01 => formN w .endScan
  | 0x02 => formJ w .jmp
  | 0x03 => formJ w .jc
  | 0x04 => formJ w .jnc
  | 0x05 => formN w .ldix
  | 0x06 => formN w .stix
  | 0x10 => (bitOpOf w).map .ld
  | 0x11 => (bitOpOf w).map .ldn
  | 0x12 => (bitOpOf w).map .and
  | 0x13 => (bitOpOf w).map .andn
  | 0x14 => (bitOpOf w).map .or
  | 0x15 => (bitOpOf w).map .orn
  | 0x16 => (bitOpOf w).map .xor
  | 0x17 => (bitOpOf w).map .xorn
  | 0x18 => (bitOpOf w).map .st
  | 0x19 => (bitOpOf w).map .stn
  | 0x1A => (bitOpOf w).map .set
  | 0x1B => (bitOpOf w).map .rst
  | 0x20 => formN w .not
  | 0x21 => formN w .setba
  | 0x22 => formN w .clrba
  | 0x23 => formN w .ldov
  | 0x24 => formN w .lddz
  | 0x25 => formN w .ldif
  | 0x26 => formN w .btow
  | 0x27 => formN w .wtob
  | 0x28 => formB w .tbit
  | 0x29 => formB w .sbit
  | 0x30 => (wordOpOf w).map .ldw
  | 0x31 => (idxOpOf w).map .ldwx
  | 0x32 => (storeOpOf w).map .stw
  | 0x33 => (storeOpOf w).map .stwx
  | 0x34 => if spOf w = 3 then some (.ldq (addrOf w)) else none
  | 0x35 => if spOf w = 3 then some (.ldage (addrOf w)) else none
  | 0x40 => (wordOpOf w).map .add
  | 0x41 => (wordOpOf w).map .sub
  | 0x42 => (wordOpOf w).map .mul
  | 0x43 => (wordOpOf w).map .div
  | 0x44 => (wordOpOf w).map .mod
  | 0x45 => (wordOpOf w).map .min
  | 0x46 => (wordOpOf w).map .max
  | 0x47 => (wordOpOf w).map .andw
  | 0x48 => (wordOpOf w).map .orw
  | 0x49 => (wordOpOf w).map .xorw
  | 0x4A => (wordOpOf w).map .shl
  | 0x4B => (wordOpOf w).map .shr
  | 0x4C => (wordOpOf w).map .asr
  | 0x50 => (wordOpOf w).map .qmul
  | 0x51 => (wordOpOf w).map .qdiv
  | 0x52 => formN w .itoq
  | 0x53 => formN w .qtoi
  | 0x54 => formN w .neg
  | 0x55 => formN w .abs
  | 0x56 => formN w .notw
  | 0x60 => (wordOpOf w).map .eq
  | 0x61 => (wordOpOf w).map .ne
  | 0x62 => (wordOpOf w).map .lt
  | 0x63 => (wordOpOf w).map .le
  | 0x64 => (wordOpOf w).map .gt
  | 0x65 => (wordOpOf w).map .ge
  | 0x70 => formN w .andOpen
  | 0x71 => formN w .orOpen
  | 0x72 => formN w .xorOpen
  | 0x73 => formN w .addOpen
  | 0x74 => formN w .subOpen
  | 0x75 => formN w .mulOpen
  | 0x76 => formN w .qmulOpen
  | 0x77 => formN w .closeParen
  | 0x80 => formI w .ton
  | 0x81 => formI w .tof
  | 0x82 => formI w .tp
  | 0x83 => formI w .trst
  | 0x84 => formI w .ldet
  | 0x90 => formI w .ctu
  | 0x91 => formI w .ctd
  | 0x92 => formI w .crst
  | 0x93 => formI w .cld
  | 0x94 => formI w .ldcv
  | 0xA0 => formI w .redge
  | 0xA1 => formI w .fedge
  | _ => none

/-! ## Encoding -/

/-- The word of an opcode and its low 24 bits (06 Table 6-6). -/
def opWord (opc low : Nat) : Nat := opc * 2 ^ 24 + low

end Sys2Proof.Machine

namespace Sys2Proof

/-- SP and ADDR of a form M operand (06 Table 6-1, Table 6-6). -/
def BitOp.field : BitOp → Nat
  | .bit a => a
  | .req a => 5 * 2 ^ 21 + a

def WordOp.field : WordOp → Nat
  | .word a => 2 ^ 21 + a
  | .const a => 2 * 2 ^ 21 + a
  | .snap a => 3 * 2 ^ 21 + a
  | .out a => 4 * 2 ^ 21 + a
  | .sys a => 6 * 2 ^ 21 + a
  | .imm v => 7 * 2 ^ 21 + v.toNat

def IdxOp.field : IdxOp → Nat
  | .word a => 2 ^ 21 + a
  | .const a => 2 * 2 ^ 21 + a
  | .snap a => 3 * 2 ^ 21 + a
  | .out a => 4 * 2 ^ 21 + a
  | .sys a => 6 * 2 ^ 21 + a

def StoreOp.field : StoreOp → Nat
  | .word a => 2 ^ 21 + a
  | .out a => 4 * 2 ^ 21 + a

/-- The address fits the 21 bits of ADDR. -/
def BitOp.fits : BitOp → Bool
  | .bit a | .req a => decide (a < 2 ^ 21)

def WordOp.fits : WordOp → Bool
  | .word a | .const a | .snap a | .out a | .sys a => decide (a < 2 ^ 21)
  | .imm _ => true

def IdxOp.fits : IdxOp → Bool
  | .word a | .const a | .snap a | .out a | .sys a => decide (a < 2 ^ 21)

def StoreOp.fits : StoreOp → Bool
  | .word a | .out a => decide (a < 2 ^ 21)

end Sys2Proof

namespace Sys2Proof.Machine

/-- The program word of an instruction of the logic engine; none for a command that is no instruction. -/
def lgeEncode : Instr → Option Nat
  | .nop => some (opWord 0x00 0)
  | .endScan => some (opWord 0x01 0)
  | .jmp o => some (opWord 0x02 o)
  | .jc o => some (opWord 0x03 o)
  | .jnc o => some (opWord 0x04 o)
  | .ldix => some (opWord 0x05 0)
  | .stix => some (opWord 0x06 0)
  | .ld o => some (opWord 0x10 o.field)
  | .ldn o => some (opWord 0x11 o.field)
  | .and o => some (opWord 0x12 o.field)
  | .andn o => some (opWord 0x13 o.field)
  | .or o => some (opWord 0x14 o.field)
  | .orn o => some (opWord 0x15 o.field)
  | .xor o => some (opWord 0x16 o.field)
  | .xorn o => some (opWord 0x17 o.field)
  | .st o => some (opWord 0x18 o.field)
  | .stn o => some (opWord 0x19 o.field)
  | .set o => some (opWord 0x1A o.field)
  | .rst o => some (opWord 0x1B o.field)
  | .not => some (opWord 0x20 0)
  | .setba => some (opWord 0x21 0)
  | .clrba => some (opWord 0x22 0)
  | .ldov => some (opWord 0x23 0)
  | .lddz => some (opWord 0x24 0)
  | .ldif => some (opWord 0x25 0)
  | .btow => some (opWord 0x26 0)
  | .wtob => some (opWord 0x27 0)
  | .tbit b => some (opWord 0x28 b.val)
  | .sbit b => some (opWord 0x29 b.val)
  | .ldw o => some (opWord 0x30 o.field)
  | .ldwx o => some (opWord 0x31 o.field)
  | .stw o => some (opWord 0x32 o.field)
  | .stwx o => some (opWord 0x33 o.field)
  | .ldq a => some (opWord 0x34 (3 * 2 ^ 21 + a))
  | .ldage a => some (opWord 0x35 (3 * 2 ^ 21 + a))
  | .add o => some (opWord 0x40 o.field)
  | .sub o => some (opWord 0x41 o.field)
  | .mul o => some (opWord 0x42 o.field)
  | .div o => some (opWord 0x43 o.field)
  | .mod o => some (opWord 0x44 o.field)
  | .min o => some (opWord 0x45 o.field)
  | .max o => some (opWord 0x46 o.field)
  | .andw o => some (opWord 0x47 o.field)
  | .orw o => some (opWord 0x48 o.field)
  | .xorw o => some (opWord 0x49 o.field)
  | .shl o => some (opWord 0x4A o.field)
  | .shr o => some (opWord 0x4B o.field)
  | .asr o => some (opWord 0x4C o.field)
  | .qmul o => some (opWord 0x50 o.field)
  | .qdiv o => some (opWord 0x51 o.field)
  | .itoq => some (opWord 0x52 0)
  | .qtoi => some (opWord 0x53 0)
  | .neg => some (opWord 0x54 0)
  | .abs => some (opWord 0x55 0)
  | .notw => some (opWord 0x56 0)
  | .eq o => some (opWord 0x60 o.field)
  | .ne o => some (opWord 0x61 o.field)
  | .lt o => some (opWord 0x62 o.field)
  | .le o => some (opWord 0x63 o.field)
  | .gt o => some (opWord 0x64 o.field)
  | .ge o => some (opWord 0x65 o.field)
  | .andOpen => some (opWord 0x70 0)
  | .orOpen => some (opWord 0x71 0)
  | .xorOpen => some (opWord 0x72 0)
  | .addOpen => some (opWord 0x73 0)
  | .subOpen => some (opWord 0x74 0)
  | .mulOpen => some (opWord 0x75 0)
  | .qmulOpen => some (opWord 0x76 0)
  | .closeParen => some (opWord 0x77 0)
  | .ton i => some (opWord 0x80 i)
  | .tof i => some (opWord 0x81 i)
  | .tp i => some (opWord 0x82 i)
  | .trst i => some (opWord 0x83 i)
  | .ldet i => some (opWord 0x84 i)
  | .ctu i => some (opWord 0x90 i)
  | .ctd i => some (opWord 0x91 i)
  | .crst i => some (opWord 0x92 i)
  | .cld i => some (opWord 0x93 i)
  | .ldcv i => some (opWord 0x94 i)
  | .redge i => some (opWord 0xA0 i)
  | .fedge i => some (opWord 0xA1 i)
  | _ => none

/-- The operands of an instruction fit the fields of its form (06 Table 6-6): a jump's OFFSET is 1 to 2^24 − 1. -/
def lgeFits : Instr → Bool
  | .jmp o | .jc o | .jnc o => decide (0 < o) && decide (o < 2 ^ 24)
  | .ton o | .tof o | .tp o | .trst o | .ldet o | .ctu o | .ctd o | .crst o | .cld o | .ldcv o | .redge o | .fedge o => decide (o < 2 ^ 14)
  | .ldq o | .ldage o => decide (o < 2 ^ 21)
  | .ld o => o.fits
  | .ldn o => o.fits
  | .and o => o.fits
  | .andn o => o.fits
  | .or o => o.fits
  | .orn o => o.fits
  | .xor o => o.fits
  | .xorn o => o.fits
  | .st o => o.fits
  | .stn o => o.fits
  | .set o => o.fits
  | .rst o => o.fits
  | .ldw o => o.fits
  | .ldwx o => o.fits
  | .stw o => o.fits
  | .stwx o => o.fits
  | .add o => o.fits
  | .sub o => o.fits
  | .mul o => o.fits
  | .div o => o.fits
  | .mod o => o.fits
  | .min o => o.fits
  | .max o => o.fits
  | .andw o => o.fits
  | .orw o => o.fits
  | .xorw o => o.fits
  | .shl o => o.fits
  | .shr o => o.fits
  | .asr o => o.fits
  | .qmul o => o.fits
  | .qdiv o => o.fits
  | .eq o => o.fits
  | .ne o => o.fits
  | .lt o => o.fits
  | .le o => o.fits
  | .gt o => o.fits
  | .ge o => o.fits
  | _ => true

/-- The largest address the spaces of an instruction allow, checked at load (06 R193): its operand lies below the
limit of its space, given BIT_EXT, WORD_EXT, NCONST, OUT_EXT, TIMER_EXT, COUNTER_EXT and EDGE_EXT. -/
def lgeInRange (bitExt wordExt nconst outExt timerExt counterExt edgeExt : Nat) (i : Instr) : Bool :=
  let bit : BitOp → Bool := fun o => match o with
    | .bit a => decide (a < bitExt)
    | .req a => decide (a < 4128)
  let word : WordOp → Bool := fun o => match o with
    | .word a => decide (a < wordExt)
    | .const a => decide (a < nconst)
    | .snap a => decide (a < 131072)
    | .out a => decide (a < outExt)
    | .sys a => decide (a < 64)
    | .imm _ => true
  let store : StoreOp → Bool := fun o => match o with
    | .word a => decide (a < wordExt)
    | .out a => decide (a < outExt)
  match i with
  | .ld o | .ldn o | .and o | .andn o | .or o | .orn o | .xor o | .xorn o | .st o | .stn o | .set o | .rst o => bit o
  | .ldw o | .add o | .sub o | .mul o | .div o | .mod o | .min o | .max o | .andw o | .orw o | .xorw o | .shl o
  | .shr o | .asr o | .qmul o | .qdiv o | .eq o | .ne o | .lt o | .le o | .gt o | .ge o => word o
  | .stw o | .stwx o => store o
  | .ldwx o => match o with
    | .word a => decide (a < wordExt)
    | .const a => decide (a < nconst)
    | .snap a => decide (a < 131072)
    | .out a => decide (a < outExt)
    | .sys a => decide (a < 64)
  | .ldq a | .ldage a => decide (a < 131072)
  | .ton n | .tof n | .tp n | .trst n | .ldet n => decide (n < timerExt)
  | .ctu n | .ctd n | .crst n | .cld n | .ldcv n => decide (n < counterExt)
  | .redge n | .fedge n => decide (n < edgeExt)
  | _ => true

end Sys2Proof.Machine
end

