-- ==== Sys2Proof/Machine/ImageCheck.lean ====
section
/-!
DEFINITION. Sys2Proof/Machine/ImageCheck.lean: the checks on an image (04 Table 4-5): header, section table, the
limits of every section's owning chapter, the structural validity of the comb.
-/
namespace Sys2Proof.Machine

/-- lo ≤ x ≤ hi. -/
def inR (lo hi x : Nat) : Bool := decide (lo ≤ x) && decide (x ≤ hi)
def inI (lo hi x : Int) : Bool := decide (lo ≤ x) && decide (x ≤ hi)

def nodup {α : Type} [DecidableEq α] (l : List α) : Bool := decide l.Nodup

/-- Strictly rising. -/
def rising : List Nat → Bool
  | [] => true
  | [_] => true
  | a :: b :: l => decide (a < b) && rising (b :: l)

/-! ## The comb (03 R58 to R61) -/

/-- Exclusion groups of an entry, given the interleaved sequences and the redundant ports (03 Table 3-4). -/
def CombEntry.groups (x : CombEntry) (an : Option AnalogDef) (eth : List EthPortDef) : List Nat :=
  let r := x.res
  if x.isChn then (if r = 6 then [0, 1] else [0])
  else if r = 5 then [2]
  else if r = 8 || r = 9 || r = 0xA then [3]
  else if r = 0xC then [4]
  else if r = 0xD then [4, 1]
  else if r = 0xE || r = 0xF || r = 0x10 then [5]
  else if r = 0x11 then [6]
  else if r = 0x12 then [7, 6, 1]
  else if r = 0x13 then [8, 1]
  else if r = 0x14 then [9]
  else if 0x18 ≤ r && r ≤ 0x1B then
    let n := r - 0x18
    let pair := x.act % 256 = 0xFF || (match an with
      | some a => a.seqs.any (fun q => decide (q.seqno = x.act % 256) && decide (q.adc = n) && q.inter)
      | none => false)
    if pair then [16 + n, 16 + (if n % 2 = 0 then n + 1 else n - 1)] else [16 + n]
  else if 0x58 ≤ r then
    let p := r - 0x58
    if eth.any (fun d => decide (d.port = p) && decide (d.red ≠ 0)) then [r, 0x58 + (if p % 2 = 0 then p + 1 else p - 1)] else [r]
  else [r]

/-- Control phases a resource may carry. -/
def phaseOk (res ph : Nat) : Bool :=
  if res = 1 || res = 2 then ph = 3
  else if res = 3 then ph = 2
  else if res = 4 then ph = 4
  else if res = 5 then ph = 5
  else if [6, 9, 0xA, 0xD, 0x11, 0x12, 0x13, 0x14].contains res then ph = 0
  else if [8, 0xC, 0xE].contains res then ph = 1
  else if res = 0xF || res = 0x10 then ph = 6
  else if 0x18 ≤ res && res ≤ 0x1B then ph = 0 || ph = 1
  else if 0x20 ≤ res && res ≤ 0x5F then ph = 1 || ph = 6
  else false

/-- The stated form of ACT. -/
def actOk (res act : Nat) : Bool :=
  if res = 1 then act < 8
  else if res = 2 then inR 1 2048 (act % 4096)
  else if [3, 4, 5, 6, 8, 9, 0xA, 0xC, 0xD, 0xE, 0x10, 0x11, 0x13, 0x14].contains res then act = 0
  else if res = 0xF then act < 16
  else if res = 0x12 then inR 1 1024 act
  else if 0x18 ≤ res && res ≤ 0x1B then act / 256 % 256 = 0
  else if 0x20 ≤ res && res ≤ 0x5F then act < 512
  else false

/-- One entry of its own, with the raw words for the reserved bits. -/
def entryOk (hMs : Nat) (x : CombEntry) (w : View) : Bool :=
  decide (x.start + x.len ≤ hMs * 1000) && decide (1 ≤ x.len) && phaseOk x.res x.cphase && actOk x.res x.act &&
  decide (1 ≤ x.mult) && decide (x.mphase < x.mult) && decide (bitsOf (w.u32 0) 28 26 = 0) && decide (bitsOf (w.u32 4) 31 26 = 0)

/-- Two entries collide (03 R60). -/
def collide (an : Option AnalogDef) (eth : List EthPortDef) (x y : CombEntry) : Bool :=
  (x.groups an eth).any (fun g => (y.groups an eth).contains g) &&
  decide (x.start < y.start + y.len) && decide (y.start < x.start + x.len) &&
  decide (x.mphase % Nat.gcd x.mult y.mult = y.mphase % Nat.gcd x.mult y.mult)

/-- No two entries of a list, at different places, are related. -/
def noPair (f : CombEntry → CombEntry → Bool) : List CombEntry → Bool
  | [] => true
  | x :: l => !(l.any (f x)) && noPair f l

/-- Sorted by START, then by RES. -/
def sortedBy : List CombEntry → Bool
  | [] => true
  | [_] => true
  | x :: y :: l => (decide (x.start < y.start) || (decide (x.start = y.start) && decide (x.res ≤ y.res))) && sortedBy (y :: l)

/-- The hyperperiod patterns: residues modulo the least common multiple of all MULT (04 R587). -/
def Comb.patterns (c : Comb) : Nat := (c.entries.map (fun x => x.mult)).foldl Nat.lcm 1

/-- Entries that run in pattern `k`. -/
def Comb.running (c : Comb) (k : Nat) : List CombEntry := c.entries.filter (fun x => decide (k % x.mult = x.mphase))

/-- The Agree entry whose control cycle a Compute, Waggle, Vote or Write cell belongs to (03 R61). -/
def cycleOf (l : List CombEntry) (x : CombEntry) : Option CombEntry :=
  (l.filter (fun a => decide (a.res = 3) && decide (a.start + a.len ≤ x.start))).getLast?

/-- The Agree entry that follows another. -/
def nextCycle (l : List CombEntry) (a : CombEntry) : Option CombEntry :=
  l.find? (fun b => decide (b.res = 3) && decide (a.start < b.start))

/-- The ordering rule in one pattern (03 R61). -/
def orderOk (l : List CombEntry) : Bool :=
  l.all (fun x =>
    if x.cphase < 3 then true
    else match cycleOf l x with
      | none => false
      | some a =>
        let mates : Nat → List CombEntry := fun ph => l.filter (fun y => decide (y.cphase = ph) && decide ((cycleOf l y) = some a))
        (if x.cphase = 3 then true else (mates (x.cphase - 1)).all (fun y => decide (y.start + y.len ≤ x.start))) &&
        (if x.cphase = 5 then (mates 3).all (fun y => decide (y.start + y.len ≤ x.start)) else true) &&
        (if x.cphase = 6 then ((mates 4) ++ (mates 3)).all (fun y => decide (y.start + y.len ≤ x.start)) &&
          (match nextCycle l a with | some b => decide (x.start + x.len ≤ b.start) | none => true) else true))

/-- Structural validity of a comb (03 R59). -/
def combOk (v : View) (img : Image) : Bool :=
  let c := img.comb
  inR 10 60000 c.hMs && decide (c.pMs < c.hMs) && inR 1 262144 (v.u32 8) && decide (c.spreadCh ≤ 20) &&
  decide (c.spreadSlv ≤ 20) && decide (c.spreadAux ≤ 20) && v.zero 17 15 &&
  (c.entries.zipIdx.all (fun p => entryOk c.hMs p.1 (v.sub (32 + 16 * p.2) 16))) &&
  sortedBy c.entries && noPair (collide img.analog img.eth) c.entries &&
  (List.range c.patterns).all (fun k => orderOk (c.running k))

/-! ## IDENT and VALUES (04 R109, R585) -/

def identEntryOk (l : Logic) (nloop : Nat) (e : IdentEntry) (v : View) : Bool :=
  decide (e.pid ≠ 0) && decide (v.u8 5 ≤ 1) && v.zero 6 2 &&
  (match e.kind with
  | 1 => decide (e.index < l.timerExt) && decide (e.len = 1)
  | 2 => decide (e.index < l.counterExt) && decide (e.len = 1)
  | 3 => decide (e.index < l.edgeExt) && decide (e.len = 1)
  | 4 => inR 1 16384 e.len && decide (e.index + e.len ≤ l.retWords)
  | 5 => decide (e.index < nloop) && decide (e.len = 1)
  | _ => false)

/-- Two entries refer to the same item, or two retentive blocks overlap. -/
def sameItem (a b : IdentEntry) : Bool :=
  decide (a.kind = b.kind) &&
  (if a.kind = 4 then decide (a.index < b.index + b.len) && decide (b.index < a.index + a.len) else decide (a.index = b.index))

def identClash : List IdentEntry → Bool
  | [] => false
  | x :: l => l.any (sameItem x) || identClash l

def identOk (v : View) (img : Image) : Bool :=
  v.zero 4 12 && nodup (img.ident.map (fun e => e.pid)) && !(identClash img.ident) &&
  img.ident.zipIdx.all (fun p => identEntryOk img.logic img.loops.length p.1 (v.sub (16 + 16 * p.2) 16))

def valueEntryOk (l : Logic) (e : ValueEntry) (v : View) : Bool :=
  decide (e.pid ≠ 0) && decide (e.vmin ≤ e.vmax) && v.zero 6 2 && v.zero 20 4 &&
  (match e.vkind with
  | 1 => inR 1 2 e.vtype && decide (e.addr < l.wordExt)
  | 2 => decide (e.vtype = 3) && decide (e.addr < l.bitExt) && decide (0 ≤ e.vmin) && decide (e.vmax ≤ 1)
  | 3 => inR 1 2 e.vtype && decide (e.addr < l.nconst)
  | _ => false)

def valuesOk (v : View) (img : Image) : Bool :=
  v.zero 4 12 && nodup (img.values.map (fun e => e.pid)) && nodup (img.values.map (fun e => (e.vkind, e.addr))) &&
  img.values.zipIdx.all (fun p => valueEntryOk img.logic p.1 (v.sub (16 + 24 * p.2) 24))

/-! ## LOGIC and INIT (06 R191 to R193) -/

/-- A jump of a task lands inside it. -/
def jumpIn (t : TaskDef) (a : Nat) : Instr → Bool
  | .jmp o | .jc o | .jnc o => decide (a + o < t.entry + t.length)
  | _ => true

/-- The instructions of one task. -/
def taskCodeOk (l : Logic) (t : TaskDef) : Bool :=
  (List.range t.length).all (fun i =>
    let a := t.entry + i
    match lgeDecode (l.code.getD a 0).toNat with
    | none => false
    | some ins => lgeInRange l.bitExt l.wordExt l.nconst l.outExt l.timerExt l.counterExt l.edgeExt ins && jumpIn t a ins &&
        decide ((ins = .endScan) = (i + 1 = t.length)))

def tasksApart : List TaskDef → Bool
  | [] => true
  | t :: l => l.all (fun u => decide (t.entry + t.length ≤ u.entry) || decide (u.entry + u.length ≤ t.entry)) && tasksApart l

/-- No control cycle holds two LGE cells of one task in pattern `k`. -/
def oneLge (l : List CombEntry) : Bool :=
  let g := l.filter (fun x => decide (x.res = 1))
  nodup (g.map (fun x => (x.act % 8, (cycleOf l x).map (fun a => a.start))))

def logicOk (v : View) (img : Image) : Bool :=
  let l := img.logic
  let nt := v.u8 4
  inR 1 262144 (v.u32 0) && inR 1 8 nt && v.zero 5 3 && inR 1 16384 l.retWords && inR 32 131072 l.bitExt &&
  decide (l.bitExt % 32 = 0) && inR l.retWords 65536 l.wordExt && inR 1 98304 l.outExt && decide (l.timerExt ≤ 4096) &&
  decide (l.counterExt ≤ 2048) && decide (l.edgeExt ≤ 16384) && v.zero 30 2 && decide (l.nconst ≤ 16384) && v.zero 36 28 &&
  v.zero (64 + 16 * nt) (16 * (8 - nt)) &&
  (List.range nt).all (fun t => v.zero (64 + 16 * t + 10) 6) &&
  l.tasks.all (fun t => decide (1 ≤ t.length) && inR 1 10000 t.periodMs && decide (t.entry + t.length ≤ v.u32 0) && taskCodeOk l t) &&
  tasksApart l.tasks &&
  (img.comb.entries.filter (fun x => decide (x.res = 1))).all (fun x => decide (x.act % 8 < nt)) &&
  (List.range nt).all (fun t => img.comb.entries.any (fun x => decide (x.res = 1) && decide (x.act % 8 = t))) &&
  (List.range img.comb.patterns).all (fun k => oneLge (img.comb.running k))

def initOk (v : View) (img : Image) : Bool :=
  let l := img.logic
  decide (v.u32 0 = l.nconst) && decide (v.u32 4 = l.bitExt / 32) && decide (v.u32 8 = l.wordExt) && decide (v.u32 12 = l.counterExt)

/-! ## OUTPUTS and LOOPS (05 R123, 07 R198) -/

def classOk (p : Point) : Bool := match p.oclass with
  | 1 => decide (p.nwords = 1) && decide (p.target < 48)
  | 2 => decide (p.nwords = 1) && decide (p.target < 16)
  | 3 => decide (p.nwords = 4) && decide (p.target < 16)
  | 4 => inR 1 16 p.nwords && decide (p.target < 4096)
  | 5 => inR 1 16 p.nwords && decide (p.target < 1024)
  | _ => false

/-- Ranges [a, a + n) that do not meet. -/
def apart : List (Nat × Nat) → Bool
  | [] => true
  | x :: l => l.all (fun y => decide (x.1 + x.2 ≤ y.1) || decide (y.1 + y.2 ≤ x.1)) && apart l

def outputsOk (v : View) (img : Image) : Bool :=
  let ps := img.points
  let nw := (ps.map (fun p => p.nwords)).sum
  let safe : Nat → Nat := fun i => (v.sub (16 + 16 * i) 16).u32 12
  inR 1 8192 (v.u32 0) && decide (v.u32 4 = nw) && v.zero 8 8 && decide (nw ≤ 98304) &&
  ps.zipIdx.all (fun p => classOk p.1 && decide ((v.sub (16 + 16 * p.2) 16).u16 0 = p.2) && decide (p.1.owner ≤ 7) &&
    v.zero (16 + 16 * p.2 + 7) 1 && decide (p.1.src + p.1.nwords ≤ img.logic.outExt) &&
    decide (safe p.2 + p.1.nwords ≤ v.u32 4)) &&
  nodup (ps.map (fun p => (p.oclass, p.target))) && apart (ps.zipIdx.map (fun p => (safe p.2, p.1.nwords)))

/-- A load address of a reference word lies below the limit of its space. -/
def refOk (img : Image) (sps : List Nat) (sp addr : Nat) : Bool :=
  sps.contains sp && decide (addr < (if sp = 1 then img.logic.wordExt else if sp = 2 then img.logic.nconst else 131072))

def loopOk (img : Image) (n : Nat) (d : LoopDef) (v : View) : Bool :=
  decide (v.u16 0 = n) && decide (v.u8 2 ≤ 3) && inR 250 60000000 d.tsUs && decide (d.tsUs % 250 = 0) &&
  decide (v.u8 11 = 0) && decide (v.u8 15 = 0) && refOk img [3, 1] d.pvSp d.pvAddr && refOk img [1, 2, 3] d.spSp d.spAddr &&
  decide (d.outAddr < img.logic.outExt) &&
  (match d.manBit with | some b => decide (b < img.logic.bitExt) && decide (d.manVal < img.logic.wordExt) | none => true) &&
  (match d.statAddr with | some a => decide (a < img.logic.wordExt) | none => true) &&
  inI 0 65536 d.alpha && decide (0 ≤ d.rateMax) && decide (d.outMin ≤ d.uInit) && decide (d.uInit ≤ d.outMax)

/-- Loops [first, first + count) of an LPE entry. -/
def CombEntry.runOf (x : CombEntry) : Nat × Nat := (x.act / 4096, x.act % 4096)

def inRun (x : CombEntry) (n : Nat) : Bool := decide (x.runOf.1 ≤ n) && decide (n < x.runOf.1 + x.runOf.2)

/-- The last condition of R198 in one pattern. -/
def ownersRun (img : Image) (l : List CombEntry) : Bool :=
  img.points.all (fun p => img.loops.zipIdx.all (fun d =>
    if p.src ≤ d.1.outAddr && d.1.outAddr < p.src + p.nwords then
      (l.filter (fun x => decide (x.res = 2) && inRun x d.2)).all (fun x =>
        l.any (fun y => decide (y.res = 1) && decide (y.act % 8 = p.owner) && decide (cycleOf l y = cycleOf l x)))
    else true))

def loopsOk (v : View) (img : Image) : Bool :=
  let ls := img.loops
  let lpe := img.comb.entries.filter (fun x => decide (x.res = 2))
  inR 1 2048 (v.u32 0) && v.zero 4 12 &&
  ls.zipIdx.all (fun p => loopOk img p.2 p.1 (v.sub (16 + 64 * p.2) 64)) &&
  ls.zipIdx.all (fun p => ls.zipIdx.all (fun q =>
    if p.2 < q.2 then
      (if p.1.group ≠ 0 && p.1.group = q.1.group then
        decide (p.1.tsUs = q.1.tsUs) && decide (p.1.outAddr = q.1.outAddr) && q.1.manBit.isNone &&
        (List.range (q.2 - p.2)).all (fun i => decide ((ls.getD (p.2 + i) q.1).group = p.1.group))
      else decide (p.1.outAddr ≠ q.1.outAddr))
    else true)) &&
  (List.range ls.length).all (fun n => lpe.any (fun x => inRun x n)) &&
  lpe.all (fun x => decide (x.runOf.1 + x.runOf.2 ≤ ls.length) &&
    ls.zipIdx.all (fun p => ls.zipIdx.all (fun q =>
      if p.1.group ≠ 0 && p.1.group = q.1.group && inRun x p.2 then inRun x q.2 else true))) &&
  (List.range img.comb.patterns).all (fun k => ownersRun img (img.comb.running k))

/-! ## Solver sections (08 R227, 09 R252) -/

def posSc (x : Sc) : Bool := decide (0 < x.m)
def scLe (a b : Sc) : Bool := decide (a.toRat ≤ b.toRat)
def scOne : Sc := ⟨1, 0⟩

/-- The feed names a SOLVER_FEED point whose NWORDS exceeds the word. -/
def Image.feedOk (img : Image) (f : Nat × Nat) : Bool :=
  img.points.any (fun p => decide (p.oclass = 5) && decide (p.target = f.1) && decide (f.2 < p.nwords))

/-- A FEED word has only the bits of its form. -/
def feedBits (w : Nat) : Bool := w = max32 || w = bitsOf w 25 16 * 65536 + bitsOf w 3 0

/-- Every block of every array has exactly one exponent entry (08 R218). -/
def expsOk (arrs : List (Nat × Nat)) (exps : List ExpEntry) : Bool :=
  let want := arrs.flatMap (fun a => (List.range (ceilDiv a.2 4096)).map (fun b => (a.1, b)))
  nodup (exps.map (fun e => (e.arr, e.block))) && decide (exps.length = want.length) &&
  want.all (fun x => exps.any (fun e => decide ((e.arr, e.block) = x)))

def hydNodeOk (img : Image) (x : HydNode) (v : View) : Bool :=
  decide (x.tag ≠ 0) && inR 1 2 (v.u8 4) && inI (-16) 15 x.fshift && v.zero 6 2 && feedBits (v.u32 8) &&
  (match x.feed with | some f => img.feedOk f | none => x.junction)

def hydElemOk (img : Image) (nn : Nat) (x : HydElem) (v : View) : Bool :=
  decide (x.tag ≠ 0) && inR 1 4 x.etype && inI (-16) 15 x.fshift && v.zero 6 2 && decide (x.src < nn) && decide (x.dst < nn) &&
  decide (x.src ≠ x.dst) && feedBits (v.u32 24) && (if x.etype = 1 then x.feed.isNone else x.feed.isSome) &&
  (match x.feed with | some f => img.feedOk f | none => true) &&
  (if x.etype = 4 then (match x.sense with | some k => decide (k < nn) | none => false) else x.sense.isNone) &&
  (if x.etype = 4 then true else posSc x.p1) && (if x.etype = 2 then posSc x.p2 && scLe x.p2 scOne else true)

def HydDef.arrays (d : HydDef) : List (Nat × Nat) :=
  let n := d.n
  let m := d.elems.length
  [(1, n), (2, n), (3, n), (4, m), (5, m), (6, d.nnz), (7, d.facEntries.length), (8, n), (9, n), (10, n), (11, d.nodes.length - n)]

/-- A HYDRAULIC section within its limits; the store peak is checked for both problems together. -/
def hydOk (v : View) (img : Image) (d : HydDef) : Bool :=
  let nn := v.u32 0
  inR 2 65792 nn && inR 1 524288 (v.u32 4) && decide (v.u16 8 ≤ 4088) && decide (d.method ≤ 1) && decide (1 ≤ d.newtonMax) &&
  decide (1 ≤ d.linMax) && v.zero 15 1 && posSc d.tolF && posSc d.tolH && posSc d.linTol && !(scLe scOne d.linTol) &&
  decide (0 ≤ d.dhMax.m) && posSc d.xLam && v.zero 40 24 &&
  d.nodes.zipIdx.all (fun p => hydNodeOk img p.1 (v.sub (64 + 16 * p.2) 16)) &&
  d.elems.zipIdx.all (fun p => hydElemOk img nn p.1 (v.sub (64 + 16 * nn + 32 * p.2) 32)) &&
  nodup (d.nodes.map (fun x => x.tag)) && nodup (d.elems.map (fun x => x.tag)) &&
  d.pubs.zipIdx.all (fun p => inR 1 2 p.1.kind && inI (-16) 15 p.1.pshift &&
    v.zero (64 + 16 * nn + 32 * v.u32 4 + 8 * p.2 + 2) 2 && decide (p.1.index < (if p.1.kind = 1 then nn else v.u32 4))) &&
  inR 1 256 (nn - d.n) && decide (d.n ≤ 65536) && (if d.elems.any (fun x => decide (x.etype = 4)) then decide (d.method = 1) else true) &&
  decide (d.nnz ≤ 1048576) && expsOk d.arrays d.exps

/-- Flags, steps and feeds shared by variables and rows. -/
def sideOk (img : Image) (npub nstep : Nat) (fl raw : Nat) (noLo noUp : Bool) (feedk : Nat) (fshift : Int)
    (step : Option Nat) (series : Nat) (lo up : Sc) (feed : Option FeedSrc) (eq : Bool) : Bool :=
  decide (fl / 32 = 0) && inI (-16) 15 fshift && (match step with | some t => decide (t < nstep) | none => decide (series = 0)) &&
  (if noLo then decide (lo = ⟨0, 0⟩) else true) && (if noUp then decide (up = ⟨0, 0⟩) else true) &&
  (if noLo || noUp || eq then true else scLe lo up) &&
  (if feedk = 0 then feed.isNone else feed.isSome) &&
  (match feed with
  | none => true
  | some (.point p w) => decide (raw = p * 65536 + w) && img.feedOk (p, w)
  | some (.hyd i) => decide (raw = 2 ^ 30 + i) && decide (i < npub)) &&
  (if feedk = 1 && !eq then !noLo && !noUp else true) && (if feedk = 2 then !noLo else true) && (if feedk = 3 then !noUp else true)

/-- The pairs (SERIES, STEP) of entries with a step. -/
def stepPairs (l : List (Option Nat × Nat)) : List (Nat × Nat) := l.filterMap (fun p => p.1.map (fun t => (p.2, t)))

def DispDef.arrays (d : DispDef) : List (Nat × Nat) :=
  [(0x11, d.n), (0x12, d.m), (0x13, d.m), (0x14, d.n), (0x15, d.n), (0x16, d.n), (0x17, d.m), (0x18, d.n),
   (0x19, d.p.length), (0x1A, d.a.length), (0x1B, d.nnzL + d.nn), (0x1C, d.nn), (0x1D, d.nn)]

/-- Published entries at step t whose series goes on have their successor published with the same KIND. -/
def pubSeriesOk (d : DispDef) : Bool :=
  d.pubs.all (fun p =>
    if p.kind = 1 then (let j := d.nextVar p.index; decide (j = p.index) || d.pubs.any (fun q => decide (q.kind = 1) && decide (q.index = j)))
    else (let j := d.nextRow p.index; decide (j = p.index) || d.pubs.any (fun q => decide (q.kind = p.kind) && decide (q.index = j))))

/-- A DISPATCH section within its limits. -/
def dispOk (v : View) (img : Image) (d : DispDef) : Bool :=
  let npub := match img.hyd with | some h => h.pubs.length | none => 0
  let ro := v.dispOfs.getD 0 0
  inR 1 16384 (v.u32 0) && decide (v.u32 4 ≤ 32768) && decide (v.u32 8 ≤ 4194304) && decide (v.u32 12 ≤ 4194304) &&
  decide (1 ≤ d.periodHp) && decide (d.phaseHp < d.periodHp) && inR 1 4096 d.nstep && decide (d.pubs.length ≤ 4088) &&
  posSc d.alpha && !(scLe ⟨2, 0⟩ d.alpha) && posSc d.epsAbs && decide (0 ≤ d.epsRel.m) && posSc d.epsInf &&
  inR 1 1024 d.checkEvery && decide (d.rhoEvery % d.checkEvery = 0) && inI (-16) 16 d.rhoExp && inI (-30) (-1) d.sigmaExp &&
  decide (d.eqShift ≤ 16) && inR 1 8 d.rhoTol && inR 1 15 d.fshare && v.zero 58 6 &&
  d.vars.zipIdx.all (fun p =>
    let e := v.sub (64 + 32 * p.2) 32
    let x := p.1
    decide (x.tag ≠ 0) && e.zero 10 2 && decide (bitOf (e.u8 4) 2 = false) &&
      sideOk img npub d.nstep (e.u8 4) (e.u32 24) x.noLo x.noUp x.feedk x.fshift x.step x.series x.lo x.up x.feed false) &&
  d.rows.zipIdx.all (fun p =>
    let e := v.sub (ro + 32 * p.2) 32
    let x := p.1
    decide (x.tag ≠ 0) && e.zero 10 2 && e.zero 24 8 && (if x.eq then !x.noLo && !x.noUp && decide (x.feedk ≤ 1) && decide (x.up = ⟨0, 0⟩) else true) &&
      sideOk img npub d.nstep (e.u8 4) (e.u32 20) x.noLo x.noUp x.feedk x.fshift x.step x.series x.lo x.up x.feed x.eq) &&
  nodup (d.vars.map (fun x => x.tag) ++ d.rows.map (fun x => x.tag)) &&
  nodup (stepPairs (d.vars.map (fun x => (x.step, x.series)))) && nodup (stepPairs (d.rows.map (fun x => (x.step, x.series)))) &&
  d.p.all (fun x => decide (x.row ≤ x.col) && decide (x.col < d.n)) && d.a.all (fun x => decide (x.row < d.m) && decide (x.col < d.n)) &&
  nodup (d.p.map (fun x => (x.row, x.col))) && nodup (d.a.map (fun x => (x.row, x.col))) &&
  d.pubs.zipIdx.all (fun p => inR 1 3 p.1.kind && inI (-16) 15 p.1.pshift && v.zero (v.dispOfs.getD 3 0 + 8 * p.2 + 2) 2 &&
    decide (p.1.index < (if p.1.kind = 1 then d.n else d.m))) &&
  nodup d.order && d.order.all (fun i => decide (i < d.nn)) && decide (d.nnzL ≤ 3145728) &&
  decide (d.periodHp * img.comb.hMs = d.stepMs) && pubSeriesOk d && expsOk d.arrays d.exps

/-! ## Field sections (10 R284, 12 R338, 13 R358) -/

def Image.stationPoint (img : Image) (n : Nat) : Option Point := img.points.find? (fun p => decide (p.oclass = 4) && decide (p.target = n))

def isEthLink (l : Nat) : Bool := inR 0x40 0x47 l

/-- The groups of a chain, from a group on. -/
def chainNums (gs : List GroupDef) : Nat → Nat → List Nat
  | 0, _ => []
  | f + 1, g => match gs.find? (fun x => decide (x.group = g)) with
    | none => [g]
    | some x => match x.next with
      | none => [g]
      | some n => g :: chainNums gs f n

def groupOk (t : StationsDef) (g : GroupDef) (v : View) : Bool :=
  decide (g.group < 512) && (decide (g.link ≤ 0x37) || isEthLink g.link) && decide (v.u8 3 ≤ 1) && v.zero 7 1 && inR 1 64 g.nmemb &&
  decide ((t.stns.filter (fun s => decide (s.group = g.group))).length = g.nmemb) && decide (v.u8 12 ≤ 1) &&
  decide (v.num 13 3 = g.netid) && (if isEthLink g.link then !g.ext else true) && (if g.ext then true else decide (g.netid = 0)) &&
  (match g.next with
  | none => true
  | some n => match t.groups.find? (fun x => decide (x.group = n)) with
    | some x => decide (x.link = g.link)
    | none => false)

def stationOk (img : Image) (t : StationsDef) (s : StnDef) (v : View) : Bool :=
  let link := (t.groups.find? (fun g => decide (g.group = s.group))).map (fun g => g.link)
  let out := match img.stationPoint s.stn with | some p => 4 * p.nwords | none => 0
  decide (s.stn < 4096) && decide (s.sid ≠ 0) && decide (s.inLen ≤ 60) && decide (v.u8 11 ≤ 3) && v.zero 13 3 && v.zero 100 4 &&
  (match link with
  | none => false
  | some l =>
    if isEthLink l then decide (s.addr = 0) && decide (out ≤ 64)
    else decide (s.addr ≤ 254) && v.zero 16 24 && decide (8 + s.inLen + s.tagLen ≤ 64) && decide (8 + out + s.tagLen ≤ 64))

/-- The comb resource of a link. -/
def linkRes (l : Nat) : Nat := if l < 0x40 then 0x20 + l else 0x58 + (l - 0x40)

def stationsOk (v : View) (img : Image) (t : StationsDef) : Bool :=
  let gs := t.groups
  let heads := (gs.filter (fun g => !(gs.any (fun x => decide (x.next = some g.group))))).map (fun g => g.group)
  let ent := img.comb.entries.filter (fun x => decide (0x20 ≤ x.res))
  let linkOf : Nat → Option Nat := fun g => (gs.find? (fun x => decide (x.group = g))).map (fun x => x.link)
  let anyEth := gs.any (fun g => isEthLink g.link)
  inR 1 4096 (v.u16 0) && inR 1 512 (v.u16 2) && (if anyEth then decide (1 ≤ t.wfpPort) else decide (t.wfpPort = 0)) && v.zero 6 10 &&
  gs.zipIdx.all (fun p => groupOk t p.1 (v.sub (16 + 16 * p.2) 16)) &&
  t.stns.zipIdx.all (fun p => stationOk img t p.1 (v.sub (16 + 16 * gs.length + 104 * p.2) 104)) &&
  rising (t.stns.map (fun s => s.stn)) && nodup (t.stns.map (fun s => s.sid)) && nodup (gs.map (fun g => g.group)) &&
  nodup ((t.stns.filter (fun s => match linkOf s.group with | some l => !(isEthLink l) | none => false)).map (fun s => (linkOf s.group, s.addr))) &&
  gs.all (fun a => gs.all (fun b => if a.link = b.link && !(isEthLink a.link) then decide (a.ext = b.ext) && decide (a.netid = b.netid) else true)) &&
  nodup (gs.filterMap (fun g => g.next)) &&
  nodup (heads.flatMap (fun h => chainNums gs gs.length h)) &&
  gs.all (fun g => (heads.flatMap (fun h => chainNums gs gs.length h)).contains g.group) &&
  ent.all (fun x => heads.contains (x.act % 512) && decide ((linkOf (x.act % 512)).map linkRes = some x.res)) &&
  heads.all (fun h =>
    let outs := (chainNums gs gs.length h).any (fun g => t.stns.any (fun s => decide (s.group = g) && (img.stationPoint s.stn).isSome))
    ent.any (fun x => decide (x.act % 512 = h) && decide (x.cphase = 1)) &&
      (!outs || ent.any (fun x => decide (x.act % 512 = h) && decide (x.cphase = 6)))) &&
  img.points.all (fun p => decide (p.oclass ≠ 4) || t.stns.any (fun s => decide (s.stn = p.target)))

def filterOk (f : CanFilter) (v : View) : Bool :=
  let lim := if f.ide then 2 ^ 29 else 2 ^ 11
  decide (f.ftype ≤ 3) && decide (v.u8 1 ≤ 3) && v.zero 2 2 && decide (f.id1 < lim) && decide (f.id2 < lim) &&
  (if f.ftype = 1 then decide (f.id1 ≤ f.id2) else true)

def canChOk (img : Image) (d : CanChDef) (v : View) : Bool :=
  let nom := d.nbrp * (1 + d.ntseg1 + d.ntseg2)
  let dat := d.dbrp * (1 + d.dtseg1 + d.dtseg2)
  let used := (match img.stations with | some t => t.groups.any (fun g => decide (g.link = d.chan)) | none => false) ||
    img.comb.entries.any (fun x => decide (x.res = 0x20 + d.chan))
  decide (d.chan < 56) && inR 1 2 (v.u8 1) && decide (v.u8 2 < 16) && decide (d.hostObj ≤ 64) && inR 1 256 d.nbrp && inR 2 256 d.ntseg1 &&
  inR 2 128 d.ntseg2 && inR 1 d.ntseg2 d.nsjw && inR 1 32 d.dbrp && inR 1 32 d.dtseg1 && inR 1 16 d.dtseg2 && inR 1 d.dtseg2 d.dsjw &&
  decide (d.tdco ≤ 127) && v.zero 15 1 && v.zero 18 46 && decide (80 ≤ nom) && (if d.brsEn then decide (10 ≤ dat) && decide (dat ≤ nom) else true) &&
  (if d.brsEn && dat < 80 then d.tdcEn else true) && (if d.fdEn then true else !d.brsEn) && (if used then !d.monitor && d.fdEn else true) &&
  d.filters.zipIdx.all (fun p => filterOk p.1 (v.sub (64 + 12 * p.2) 12))

/-- The channels and ports that carry stations are declared; the key slots named are at most 64. -/
def canOk (v : View) (img : Image) : Bool :=
  inR 1 56 (v.u8 0) && v.zero 1 15 && rising (img.can.map (fun d => d.chan)) &&
  img.can.zipIdx.all (fun p => canChOk img p.1 (v.sub (16 + 832 * p.2) 832))

def keySlotsOk (img : Image) : Bool := match img.stations with
  | none => true
  | some t =>
    decide ((((t.groups.filter (fun g => g.authPoll)).map (fun g => g.gkey)) ++ ((t.stns.filter (fun s => s.auth)).map (fun s => s.key))).eraseDups.length ≤ 64)

/-- A station link or a comb resource names a channel with a NORMAL, FD block. -/
def canNamed (img : Image) : Bool :=
  (match img.stations with
  | some t => t.groups.all (fun g => isEthLink g.link || img.can.any (fun d => decide (d.chan = g.link)))
  | none => true) &&
  (img.comb.entries.filter (fun x => inR 0x20 0x57 x.res)).all (fun x => img.can.any (fun d => decide (0x20 + d.chan = x.res)))

def ethPortOk (img : Image) (d : EthPortDef) (v : View) : Bool :=
  decide (d.port < 8) && (if d.port < 4 then inR 1 2 d.pmode else inR 3 4 d.pmode) &&
  (if d.pmode = 1 then decide (d.speed = 3) else if d.pmode = 2 then decide (d.speed = 2) else decide (d.speed ≤ 2)) &&
  decide (d.red ≤ 2) && decide (v.u16 4 < 128) && decide (bitOf (v.u16 6) 12 = false) && inR 1 4094 d.vid && v.zero 14 2 &&
  decide (d.replayWin ≤ 2 ^ 30) && decide (v.u16 40 < 4096) && v.zero 42 22 &&
  (if d.port = 4 then true else !d.dormEn && decide (d.dormVid = 0)) && (if d.macsec then decide (d.key0 ≠ d.key1) else true) &&
  (if d.red = 0 then true else
    img.eth.any (fun x => decide (x.port = (if d.port % 2 = 0 then d.port + 1 else d.port - 1)) && decide ({ x with port := d.port } = d))) &&
  (match img.stations with
  | none => true
  | some t => if t.groups.any (fun g => decide (g.link = 0x40 + d.port)) then
      t.stns.all (fun s => match t.groups.find? (fun g => decide (g.group = s.group)) with
        | some g => decide (g.link ≠ 0x40 + d.port) || d.ipv6 || decide ((s.ip.drop 4).all (fun b => b = 0) = true)
        | none => true)
    else true)

def ethOk (v : View) (img : Image) : Bool :=
  inR 1 8 (v.u8 0) && v.zero 1 15 && rising (img.eth.map (fun d => d.port)) &&
  img.eth.zipIdx.all (fun p => ethPortOk img p.1 (v.sub (16 + 64 * p.2) 64))

/-- A station link names a declared port. -/
def ethNamed (img : Image) : Bool := match img.stations with
  | some t => t.groups.all (fun g => !(isEthLink g.link) || img.eth.any (fun d => decide (0x40 + d.port = g.link)))
  | none => true

/-! ## METER (11 R310) -/

/-- A source word: its kind allowed, its other bits zero, what it names declared. -/
def Image.srcOk (img : Image) (kinds : List Nat) (w : Nat) : Bool :=
  kinds.contains (bitsOf w 31 28) && (match srcOf w with
  | none => false
  | some m => decide (m.word = w) && (match m with
    | .pulse _ => true
    | .ain i => (match img.analog with | some a => inR 1 2 (a.ain i).mode | none => false)
    | .station n k => decide (k ≤ 14) && (match img.stations with | some t => t.stns.any (fun s => decide (s.stn = n)) | none => false)
    | .feed p k => img.feedOk (p, k)))

def emOk (d : EmDef) (m : MeterDef) (v : View) : Bool :=
  decide (d.em < 8) && inR 1 2 (v.u8 1) && decide (v.u8 2 ≤ 1) && inR 1 94 d.vlossPct && inR 1 50 d.nthrPct && v.zero 5 3 && v.zero 12 4 &&
  v.zero 112 16 &&
  d.chans.zipIdx.all (fun p =>
    let e := v.sub (16 + 16 * p.2) 16
    let need := d.four || [0, 2, 3, 5].contains p.2
    e.zero 1 1 && decide (e.u8 7 = 0) && e.zero 12 4 && inI (-8192) 8191 p.1.delay &&
    (match p.1.md with
    | none => !need
    | some i => need && decide (i < 48) && posSc p.1.fs && decide (m.mckDiv.getD (i / 6) 0 ≠ 0)))

def tmOk (img : Image) (d : TmDef) (v : View) : Bool :=
  let pulse := bitsOf (v.u32 4) 31 28 = 1
  decide (d.tm < 128) && inR 1 2 d.medium && decide (d.role ≤ 2) && decide (v.u8 3 ≤ 1) && img.srcOk [1, 2, 3, 4] (v.u32 4) &&
  img.srcOk [2, 3, 4] (v.u32 8) && img.srcOk [2, 3, 4] (v.u32 12) && (match d.dir with | some n => decide (n < 64) | none => true) &&
  (if pulse then posSc d.pulseL else decide (d.pulseL.m = 0)) && scLe ⟨1, 0⟩ ⟨d.pDecl.m * 10, d.pDecl.e⟩ && scLe d.pDecl ⟨4, 0⟩ && v.zero 28 36

/-- Every interval of DT contains the start of a MTR_INTV cell, in every pattern. -/
def intvCovered (c : Comb) (intvS : Nat) : Bool :=
  let iv := intvS * 1000000
  let per := Nat.lcm (c.patterns * c.hMs * 1000) iv
  let cells := c.entries.filter (fun x => decide (x.res = 0xD))
  iv ≠ 0 && (List.range (per / iv)).all (fun n => cells.any (fun x =>
    let o : Int := (c.pMs * 1000 + x.start : Nat)
    let k0 : Int := -((o - (n * iv : Nat)).fdiv (c.hMs * 1000 : Nat))
    let k : Int := k0 + (((x.mphase : Nat) : Int) - k0) % ((x.mult : Nat) : Int)
    decide (k * (c.hMs * 1000 : Nat) + o < ((n + 1) * iv : Nat))))

def meterOk (v : View) (img : Image) (m : MeterDef) : Bool :=
  let mds := m.ems.flatMap (fun d => d.chans.filterMap (fun c => c.md))
  decide (v.u8 0 ≤ 8) && decide (v.u8 1 ≤ 128) && decide (v.u16 2 ≤ 4096) && inR 60 3600 m.intvS && decide (3600 % m.intvS = 0) &&
  (decide (m.fNom = 50) || decide (m.fNom = 60)) && v.zero 7 1 && m.mckDiv.all (fun x => x = 0 || inR 16 62 x) &&
  (decide (v.u32 16 = max32) || img.srcOk [4] (v.u32 16)) && posSc m.balThr && v.zero 24 8 &&
  m.ems.zipIdx.all (fun p => emOk p.1 m (v.sub (32 + 128 * p.2) 128)) &&
  m.tms.zipIdx.all (fun p => tmOk img p.1 (v.sub (32 + 128 * m.ems.length + 64 * p.2) 64)) &&
  m.ctrs.zipIdx.all (fun p => v.zero (32 + 128 * m.ems.length + 64 * m.tms.length + 8 * p.2 + 3) 5 && decide (p.1.ofs % 4 = 0) &&
    (match img.stations with
    | some t => t.stns.any (fun s => decide (s.stn = p.1.stn) && decide (p.1.ofs + 4 ≤ s.inLen))
    | none => false)) &&
  nodup (m.ems.map (fun d => d.em)) && nodup (m.tms.map (fun d => d.tm)) && nodup mds && nodup (m.ctrs.map (fun c => c.stn)) &&
  intvCovered img.comb m.intvS

/-! ## ANALOG and AXES (14 R379, 15 R393) -/

def seqOf (a : AnalogDef) (n seqno : Nat) : Option AdcSeq := a.seqs.find? (fun q => decide (q.adc = n) && decide (q.seqno = seqno))

def tsetMax (a : AnalogDef) (q : AdcSeq) : Nat := (q.list.map (fun i => (a.ain i).tset)).foldl max 0

def analogOk (v : View) (img : Image) (a : AnalogDef) : Bool :=
  let ncl := v.u32 4
  let named := ((List.range ncl).map (fun i => v.u8 (v.listOfs + i))) ++ a.urgent.filterMap (fun u => u)
  decide (v.u16 0 ≤ 1024) && decide (v.u8 2 ≤ 1) && v.zero 3 1 && decide (ncl ≤ 65536) && v.zero 8 8 &&
  a.ains.zipIdx.all (fun p =>
    let e := v.sub (16 + 24 * p.2) 24
    decide (p.1.mode ≤ 3) && decide (bitsOf (e.u8 1) 6 5 = 0) && decide (p.1.tset ≤ 640) && e.zero 20 4 &&
    (if p.1.mode = 2 then decide (p.2 % 2 = 0) && decide ((a.ain (p.2 + 1)).mode = 3) else true) &&
    (if p.1.mode = 3 then decide (p.2 % 2 = 1) && decide ((a.ain (p.2 - 1)).mode = 2) else true) &&
    (match p.1.trig with | some t => (a.urg t.1 t.2).isSome | none => true)) &&
  (List.range 32).all (fun i => let e := v.sub (1552 + 4 * i) 4; (decide (e.u8 0 < 64) || decide (e.u8 0 = 0xFF)) && e.zero 1 3) &&
  named.all (fun i => decide (i < 64) && inR 1 2 (a.ain i).mode) &&
  a.seqs.zipIdx.all (fun p =>
    let e := v.sub (1680 + 8 * p.2) 8
    let q := p.1
    decide (q.seqno ≤ 254) && decide (q.adc ≤ 3) && decide (e.u8 2 ≤ 1) && e.zero 3 1 &&
    (if q.inter then inR 2 4096 q.nconv && decide (q.nconv % 2 = 0) && decide (q.adc % 2 = 0) && decide (e.u16 6 + 1 ≤ ncl) &&
      decide (tsetMax a q = 0)
     else inR 1 512 q.nconv && decide (e.u16 6 + q.nconv ≤ ncl))) &&
  nodup (a.seqs.map (fun q => (q.seqno, q.adc))) &&
  (img.comb.entries.filter (fun x => inR 0x18 0x1B x.res)).all (fun x =>
    let n := x.res - 0x18
    let u := x.act / 65536
    if x.act % 256 = 0xFF then decide (n % 2 = 0) && decide (u = 0)
    else match seqOf a n (x.act % 256) with
      | none => false
      | some q =>
        (if q.inter then decide (n % 2 = 0) && decide (u = 0) else true) &&
        (if u = 0 then true else (List.range 8).all (fun j => match a.urg n j with
          | some i => decide ((a.ain i).tset ≤ tsetMax a q)
          | none => true)))

/-- Accelerations share the range of A1 (DEDUCED, log entry 60). -/
def axisOk (img : Image) (d : AxesDef) (x : AxisDef) (v : View) : Bool :=
  decide (x.axis < 16) && decide (x.group < 4) && decide (bitOf (v.u8 2) 6 = false) && inR 10 100 x.stepW && inR 10 10000 x.dirSu &&
  decide (1 ≤ x.idleMs) && inR 1 500000 x.vStart && inR 1 500000 x.vStop && decide (x.v1 ≤ 500000) && decide (x.vStart ≤ x.v1) &&
  decide (x.vStop ≤ x.v1) && inR 1 16000000 x.a1 && inR 1 16000000 x.amax && inR 1 16000000 x.dmax && inR 1 16000000 x.d1 &&
  inR 1 500000 x.vHome && decide (x.posMin < x.posMax) && v.zero 52 12 &&
  decide ((d.axes.filter (fun y => decide (y.group = x.group))).length ≤ 4) &&
  img.points.any (fun p => decide (p.oclass = 3) && decide (p.target = x.axis)) &&
  img.comb.entries.any (fun e => decide (e.res = 0xF) && bitOf e.act x.group) && img.comb.entries.any (fun e => decide (e.res = 0xE))

def axesOk (v : View) (img : Image) (d : AxesDef) : Bool :=
  decide (v.u8 0 ≤ 16) && decide (v.u8 1 < 16) && v.zero 2 14 && rising (d.axes.map (fun x => x.axis)) &&
  d.axes.zipIdx.all (fun p => axisOk img d p.1 (v.sub (16 + 64 * p.2) 64)) &&
  (List.range 16).all (fun i => let w := v.u32 (16 + 64 * d.axes.length + 4 * i); w = 0 || inR 100 10000000 w)

/-! ## PANEL and EVENTS (22 R543, 16 R431) -/

/-- Codes 0b01 and 0b10 of a pair over the phases of a waveform. -/
def pairBalanced (ph : List (List Byte)) (i : Nat) : Bool :=
  let code : List Byte → Nat := fun p => ((p.getD (i / 4) 0).toNat / 4 ^ (i % 4)) % 4
  decide ((ph.filter (fun p => decide (code p = 1))).length = (ph.filter (fun p => decide (code p = 2))).length)

def bandOk (b : PanelBand) : Bool :=
  inR 1 256 b.nph && inR 1 256 b.nphClr && b.waves.all (fun w => (List.range 256).all (pairBalanced w)) &&
  decide ((b.clear.filter (fun x => decide (x.toNat % 4 = 1))).length = (b.clear.filter (fun x => decide (x.toNat % 4 = 2))).length)

def risingI : List Int → Bool
  | [] => true
  | [_] => true
  | a :: b :: l => decide (a < b) && risingI (b :: l)

def panelOk (v : View) (img : Image) (d : PanelDef) : Bool :=
  inR 8 1024 d.hres && decide (d.hres % 8 = 0) && inR 1 768 d.vres && inR 2 16 d.sdiv && inR 4 255 d.hpad && inR 1 255 d.vpad &&
  inR 1 16 (v.u8 7) && inR 1 16 d.nvar && decide (d.bandDef ≤ 7) && img.srcOk [2, 3] (v.u32 12) && risingI d.bandT && v.zero 30 2 &&
  d.railUs.all (fun x => x ≤ 5000) && decide (d.railUs.getD 5 0 = 0) && inR 1 2500 d.vhuThr && inR 1 d.vhuThr d.vhuMin && inR 1 10000 d.crkMax &&
  decide (1 ≤ d.railIdleMs) && v.zero 56 8 &&
  d.regions.zipIdx.all (fun p =>
    let e := v.sub (64 + 16 * p.2) 16
    decide (e.u8 0 = p.2) && e.zero 1 1 && e.zero 10 6 && decide (p.1.x % 8 = 0) && decide (p.1.w % 8 = 0) && decide (1 ≤ p.1.w) &&
    decide (1 ≤ p.1.h) && decide (p.1.x + p.1.w ≤ d.hres) && decide (p.1.y + p.1.h ≤ d.vres)) &&
  d.bands.all bandOk

def eventsOk (v : View) (l : List Nat) : Bool := v.zero 0 16 && l.all (fun b => inR 1 0x3F b || b = 0xFF)

/-! ## The checks in order (04 Table 4-5) -/

/-- Check 1 and the form of the signature block. -/
def headerOk (v : View) : Bool :=
  let sz := v.u32 8
  let sg := sz - 3424
  decide (v.u32 0 = 0x56494859) && decide (v.u16 4 = 1) && decide (v.u16 6 = 256) && decide (sz % 16 = 0) && inR 3680 16777216 sz &&
  decide (v.u32 12 = 0x4096) && decide (v.u16 16 ≤ Config.romRev.toNat) && decide (v.u16 18 < 4) && v.zero 104 152 &&
  decide (v.bytes sg 4 = asciiBytes "YSIG") && v.zero (sg + 4) 4 && v.zero (sg + 3413) 11

/-- Check 2. -/
def deviceOk (v : View) : Bool := v.zero 36 16 || decide (v.bytes 36 16 = deviceIdBytes)

def View.message (v : View) : List Byte := v.bytes 0 256
def View.sigEc (v : View) : List Byte := v.bytes (v.u32 8 - 3416) 96
def View.sigPq (v : View) : List Byte := v.bytes (v.u32 8 - 3320) 3309

/-- Check 7. -/
def tableOk (v : View) : Bool :=
  let ss := v.sections
  let stop := v.u32 8 - 3424
  inR 1 64 v.nsect && nodup (ss.map (fun x => x.1)) && ss.all (fun x => inR 1 0x11 x.1) &&
  [1, 2, 4, 7].all (fun t => ss.any (fun x => decide (x.1 = t))) &&
  (List.range v.nsect).all (fun i => decide (v.u16 (258 + 16 * i) = 0) && decide (v.u32 (268 + 16 * i) = 1) && decide (v.u32 (260 + 16 * i) % 16 = 0)) &&
  ss.all (fun x => decide (256 + 16 * v.nsect ≤ x.2.1) && decide (x.2.1 + x.2.2 ≤ stop)) && apart (ss.map (fun x => x.2))

/-- A section, when it is present, has its length and passes its owner's check. -/
def sectOk (v : View) (t : Nat) (f : View → Bool) : Bool := match v.sect t with
  | none => true
  | some x => decide (x.size = v.wantLen t x) && f x

def withOpt {α : Type} (o : Option α) (f : α → Bool) : Bool := match o with
  | none => true
  | some x => f x

/-- Check 8. -/
def namesOk (v : View) (img : Image) : Bool := sectOk v 4 (fun x => identOk x img) && sectOk v 5 (fun x => valuesOk x img)

/-- Check 9. -/
def unitsOk (v : View) (img : Image) : Bool :=
  sectOk v 2 (fun x => logicOk x img) && sectOk v 3 (fun x => initOk x img) && sectOk v 6 (fun x => loopsOk x img) &&
  (if (v.sect 6).isNone then img.comb.entries.all (fun x => decide (x.res ≠ 2)) else true) &&
  sectOk v 7 (fun x => outputsOk x img) && sectOk v 8 (fun x => withOpt img.hyd (hydOk x img)) &&
  sectOk v 9 (fun x => withOpt img.disp (dispOk x img)) && decide (img.storePeak ≤ 24576) &&
  sectOk v 0xA (fun x => withOpt img.stations (stationsOk x img)) &&
  (if img.stations.isNone then img.comb.entries.all (fun x => decide (x.res < 0x20)) && img.points.all (fun p => decide (p.oclass ≠ 4)) else true) &&
  sectOk v 0xB (fun x => canOk x img) && canNamed img && keySlotsOk img && sectOk v 0xC (fun x => ethOk x img) && ethNamed img &&
  sectOk v 0xD (fun x => withOpt img.meter (meterOk x img)) && sectOk v 0xE (fun x => withOpt img.analog (analogOk x img)) &&
  (if img.analog.isNone then img.comb.entries.all (fun x => !(inR 0x18 0x1B x.res)) else true) &&
  sectOk v 0xF (fun x => withOpt img.axes (axesOk x img)) && sectOk v 0x10 (fun x => withOpt img.panel (panelOk x img)) &&
  sectOk v 0x11 (fun x => withOpt img.events (eventsOk x))

/-- Check 10. -/
def combSectOk (v : View) (img : Image) : Bool := sectOk v 1 (fun x => combOk x img)

/-- One check after another: the status of the first that fails, 0 when all pass. -/
def firstFail : List (Bool × Nat) → Nat
  | [] => 0
  | (okay, st) :: l => if okay then firstFail l else st

/-- The two keys an image names (check 3). -/
def State.imageKeys (s : State) (v : View) : Option (List Byte × List Byte) :=
  match s.keyPeek engImage (v.u8 52), s.keyPeek engImage (v.u8 53) with
  | some a, some b => if (s.slot (v.u8 52)).alg = 0x08 && (s.slot (v.u8 53)).alg = 0x0A then some (a, b) else none
  | _, _ => none

/-- Checks 1 to 10 of an image. -/
def State.imageChecks (s : State) (v : View) : List (Bool × Nat) :=
  let img := v.image
  let ks := s.imageKeys v
  [(headerOk v, stImageIncompatible), (deviceOk v, stImageIncompatible), (ks.isSome, stEngineDenied),
   (decide (Config.sha384 (v.bytes 256 (v.u32 8 - 3680)) = v.bytes 56 48), stSigFail),
   (match ks with
    | some k => Config.ecdsaP384Verify k.1 v.message v.sigEc && Config.mlDsa65Verify k.2 v.message v.sigPq
    | none => false, stSigFail),
   (decide (s.key.minEpoch ≤ v.u32 20), stCounterStale), (tableOk v, stImageIncompatible), (namesOk v img, stImageIncompatible),
   (unitsOk v img, stImageIncompatible), (combSectOk v img, stCombInvalid)]

/-- The status of a verification (04 R90). -/
def State.imageStatus (s : State) (v : View) : Nat := firstFail (s.imageChecks v)

/-- How many checks a verification makes: up to and with the first that fails. -/
def checksMade : List (Bool × Nat) → Nat
  | [] => 0
  | (okay, _) :: l => if okay then 1 + checksMade l else 1

/-- Pattern work: one cycle for each pair of an entry and a pattern in which it runs (04 R587). -/
def Comb.patternWork (c : Comb) : Nat := (c.entries.map (fun x => c.patterns / x.mult)).sum

/-- Key-island cycles of a verification, operation by operation, as far as its checks get (04 R587). -/
def State.verifyOps (s : State) (v : View) : List Nat :=
  let img := v.image
  let n := checksMade (s.imageChecks v)
  let bytes := ((v.sections.filter (fun x => decide (x.1 ≠ 1))).map (fun x => x.2.2)).sum
  [4000] ++ (if n < 4 then [] else [shaCycles (v.u32 8 - 3680)]) ++ (if n < 5 then [] else [480000, 120000]) ++
    (if n < 8 then [] else [bytes / 16]) ++ (if n < 9 then [] else [img.comb.patternWork]) ++
    (if n < 10 then [] else [4 * img.comb.entries.length, img.comb.patternWork])

end Sys2Proof.Machine
end

