-- ==== Sys2Proof/Machine/Auth.lean ====
section
/-!
DEFINITION. Sys2Proof/Machine/Auth.lean: authorised commands and their block (17 R447 to R449), and what each piece of
key work costs (18 R471, R472).
-/
namespace Sys2Proof.Machine

/-! ## The authorisation block (17 R448, Table 17-3) -/

/-- PARAM of an authorised command, 48 bytes (16 Table 16-6, 17 Table 17-4). -/
def authParam : Instr → List Byte
  | .halt _ m _ => ([BitVec.ofNat 8 m] ++ zeros 48).take 48
  | .activate _ x _ => ([BitVec.ofNat 8 x] ++ zeros 48).take 48
  | .trim _ e r g d _ => ([BitVec.ofNat 8 e, BitVec.ofNat 8 r, 0, 0] ++ leBytes 4 g ++ leBytes 2 d ++ zeros 48).take 48
  | .outputForce _ p m _ _ => (leBytes 2 p ++ [BitVec.ofNat 8 m] ++ zeros 48).take 48
  | _ => zeros 48

/-- The buffer bytes that precede the block. -/
def authData : Instr → List Byte
  | .outputForce _ _ _ ws _ => ws.flatMap (fun w => leBytes 4 w.toNat)
  | _ => []

/-- The block of an authorised command. -/
def authBlock : Instr → List Byte
  | .halt _ _ b => b
  | .setup _ b => b
  | .activate _ _ b => b
  | .trim _ _ _ _ _ b => b
  | .dormant _ b => b
  | .outputForce _ _ _ _ b => b
  | _ => []

/-- The opcode of an authorised command. -/
def authOpc : Instr → Nat
  | .halt .. => 0x05
  | .setup .. => 0x06
  | .activate .. => 0x13
  | .trim .. => 0x52
  | .dormant .. => 0xE0
  | .outputForce .. => 0xF1
  | _ => 0

/-- Validity of a challenge: 600 s of DT after issue (17 R447). -/
def chalNs : Nat := 600000000000

/-- Check 2 of R449: the challenge consumed, not expired. -/
def State.chalOk (s : State) (a : AuthWait) : Bool := match a.chal with
  | none => false
  | some c => decide (((authBlock a.cmd).drop 24).take 16 = c.value) && decide (s.tim.dt < c.issue + chalNs)

/-- Check 4: opcode and data hash. -/
def dataOk (c : Instr) : Bool :=
  let b := authBlock c
  decide ((b.getD 40 0).toNat = authOpc c) && decide ((b.drop 44).take 48 = Config.sha384 (authParam c ++ authData c))

def State.blockEc (s : State) (b : List Byte) : Bool := Config.ecdsaP384Verify (s.slot 2).mat (b.take 96) ((b.drop 96).take 96)
def State.blockPq (s : State) (b : List Byte) : Bool := Config.mlDsa65Verify (s.slot 3).mat (b.take 96) ((b.drop 192).take 3309)

/-- The status of a block: the first check of R449 that fails, 0 when all pass. -/
def State.authStatus (s : State) (a : AuthWait) : Nat :=
  let b := authBlock a.cmd
  if b.take 4 ≠ asciiBytes "YAUT" || decide ((b.drop 8).take 16 ≠ deviceIdBytes) then stIdMismatch
  else if !s.chalOk a then stChallengeStale
  else if (s.keyPeek engUpdate 2).isNone || (s.keyPeek engUpdate 3).isNone then stEngineDenied
  else if !dataOk a.cmd || !s.blockEc b || !s.blockPq b then stSigFail
  else 0

/-- The operations a block costs, as far as its checks get. -/
def State.authOps (s : State) (a : AuthWait) : List Nat :=
  let b := authBlock a.cmd
  if b.take 4 ≠ asciiBytes "YAUT" || decide ((b.drop 8).take 16 ≠ deviceIdBytes) || !s.chalOk a ||
     (s.keyPeek engUpdate 2).isNone || (s.keyPeek engUpdate 3).isNone then []
  else
    let h := shaCycles (48 + (authData a.cmd).length)
    if !dataOk a.cmd then [h]
    else if !s.blockEc b then [h, shaCycles 96, 480000]
    else [h, shaCycles 96, 480000, 120000]

/-! ## Cost of key work (18 Table 18-10, 04 R587) -/

def State.super (s : State) (x : Nat) : Super := if x = 0 then s.sup.s0 else s.sup.s1

/-- The operations of a piece of key work, and whether the last one is a commit. ML-DSA-65 signing takes a free number of
attempts, at least one (18 R472; DESIGN CHOICE, log entry 3); the identity record costs nothing that Table 18-10 names. -/
def State.workOps (s : State) : KeyWork → List Nat × Bool
  | .update _ m => s.updWork m
  | .attest .. => ([shaCycles 224, 240000, 180000 * (1 + Config.free s.fresh)], false)
  | .wrap .. => ([2000], false)
  | .identity _ => ([], false)
  | .verify _ x => (s.verifyOps (s.super x).view, false)
  | .auth => (match s.mgt.auth with | some a => s.authOps a | none => [], false)

/-- Hand key work over: it queues behind what waits (18 R471). -/
def State.pushWork (s : State) (w : KeyWork) : State :=
  let o := s.workOps w
  ({ s with fresh := s.fresh + 1 }).addJob ⟨w, o.1, o.2⟩

/-- A clock failure of the key island: work in progress restarts from its beginning after requalification; a commit
leaves the array as it stood (18 R466, Table 18-12). -/
def State.restartJobs (s : State) : State :=
  let js := s.key.jobs
  let s1 := { s with key := { s.key with win := none, jobs := [] } }
  js.foldl (fun (s : State) (j : KeyJob) =>
    let o := s.workOps j.work
    { s with fresh := s.fresh + 1, key := { s.key with jobs := s.key.jobs ++ [⟨j.work, o.1, o.2⟩] } }) s1

end Sys2Proof.Machine
end

