-- ==== Sys2Proof/Machine/Channels.lean ====
section
/-!
DEFINITION. Sys2Proof/Machine/Channels.lean: exclusion, restart in place, re-integration and retentive checkpoints
(05), and loading a channel's memory.
-/
namespace Sys2Proof.Machine

/-! ## Loading and restoring -/

/-- The constant table with the overlay (04 R120). -/
def overlaid (img : Image) (ov : SMap (Option Word)) : SMap Word :=
  ov.foldl (fun m p => match p.2 with
    | some w => SMap.set dWord m p.1 w
    | none => m) img.init.consts

/-- A loop right at a FRESH start (07 Table 7-2). -/
def LoopDef.fresh (l : LoopDef) : Loop := ⟨l.uInit, l.uInit, 0, 0, 0, none, .fresh, false, 0, false⟩

/-- The loops of an image, all FRESH. -/
def freshLoops (img : Image) : SMap Loop :=
  img.loops.zipIdx.foldl (fun m p => SMap.set dLoop m p.2 p.1.fresh) []

/-- Counters with their initial CV (06 R185). -/
def freshCounters (img : Image) : SMap Counter :=
  img.init.counters.foldl (fun m p => SMap.set dCounter m p.1 ⟨p.2, false, false, false⟩) []

/-- The channel memory at entry into RUN before retentive blocks are restored (06 Table 6-2, R185; 07 R208). -/
def freshMem (img : Image) : ChMem where
  bits := img.init.bits
  words := img.init.words
  out := []
  req := []
  timers := []
  counters := freshCounters img
  edges := []
  tasks := (List.range img.logic.tasks.length).foldl (fun m t => SMap.set dTask m t ⟨none, true, false, true, 0⟩) []
  loops := freshLoops img

/-- Step 4 of the self-test (05 R143): program, constants with the overlay, initial areas. -/
def Chan.load (c : Chan) (img : Image) (ov : SMap (Option Word)) : Chan :=
  { c with prog := img.logic.code, consts := overlaid img ov, mem := freshMem img, lay := layoutOf img, touched := [],
           snap := [], items := [], sys := [], scan := none, stack := [] }

/-- The newest valid checkpoint (05 R153). -/
def State.newestCkpt (s : State) : Option Ckpt := match s.chn.buf0, s.chn.buf1 with
  | some a, some b => if a.hp < b.hp then some b else some a
  | some a, none => some a
  | none, b => b

/-- Copy words lo … lo + n − 1 of `src` to `dst`, from `so` to `d`. -/
def copyWords (src dst : SMap Word) (so d n : Nat) : SMap Word :=
  forN n (fun i m => SMap.set dWord m (d + i) (SMap.get dWord src (so + i))) dst

/-- Restore retentive blocks by persistent identity (04 R99, Table 4-9): blocks of the checkpoint's image matched by
PID and KIND; a matched block with NO_CARRY takes its initial value. -/
def restoreBlocks (old new : List IdentEntry) (data words : SMap Word) : SMap Word :=
  (new.filter (fun e => decide (e.kind = 4) && !e.noCarry)).foldl (fun m e =>
    match old.find? (fun o => decide (o.pid = e.pid) && decide (o.kind = 4)) with
    | some o => copyWords data m o.index e.index (min o.len e.len)
    | none => m) words

/-- Restore retentive blocks from the newest valid checkpoint, given the identity table of its image. -/
def Chan.restore (c : Chan) (k : Option Ckpt) (old new : List IdentEntry) : Chan := match k with
  | none => c
  | some k => { c with mem := { c.mem with words := restoreBlocks old new k.data c.mem.words } }

/-! ## Checkpoints (05 R151 to R153) -/

/-- The retentive area of a channel as bytes. -/
def Chan.retBytes (c : Chan) (n : Nat) : List Byte :=
  (List.range n).flatMap (fun a => leBytes 4 (SMap.get dWord c.mem.words a).toNat)

/-- The CRC a channel keeps of its retentive area (05 R152). -/
def Chan.retCrc (c : Chan) (n : Nat) : BitVec 32 := crc32 (c.retBytes n)

/-- Give a channel an outvote mark in the current hyperperiod (05 R127, R152). -/
def State.mark (s : State) (i : ChId) : State := s.setChan i { (s.chan i) with marks := 0 :: (s.chan i).marks }

/-- Words 0 … n − 1 of a channel's word area. -/
def Chan.retWords (c : Chan) (n : Nat) : SMap Word := c.mem.words.filter (fun p => decide (p.1 < n))

/-- The super in state ACTIVE. -/
def State.activeSuper (s : State) : Option Nat :=
  if s.sup.s0.st = .active then some 0 else if s.sup.s1.st = .active then some 1 else none

/-- Write a checkpoint of one channel into the buffer that does not hold the newest one (05 R153). -/
def State.writeCkpt (s : State) (i : ChId) (img : Image) : State :=
  let n := img.logic.retWords
  let k : Ckpt := ⟨s.hp, s.activeSuper.getD 0, img.digestPfx, 4 * n, (s.chan i).retWords n⟩
  let into1 : Bool := match s.chn.buf0, s.chn.buf1 with
    | some a, some b => decide (b.hp ≤ a.hp)
    | some _, none => true
    | none, _ => false
  if into1 then { s with chn := { s.chn with buf1 := some k } } else { s with chn := { s.chn with buf0 := some k } }

/-- A void checkpoint (05 R152). -/
def State.voidCkpt (s : State) : State :=
  { s with chn := { s.chn with ckptVoid := satAdd max32 s.chn.ckptVoid 1 } }

/-- Compare the CRCs of the VOTING channels and write the checkpoint (05 R152). -/
def State.checkpoint (s : State) : State :=
  match s.sup.bank with
  | none => s
  | some img =>
    let n := img.logic.retWords
    let crc : ChId → BitVec 32 := fun i => (s.chan i).retCrc n
    match ChId.all.filter (fun i => decide ((s.chan i).st = .voting)) with
    | [a, b, c] =>
      if crc a = crc b then (if crc b = crc c then s.writeCkpt a img else (s.writeCkpt a img).mark c)
      else if crc a = crc c then (s.writeCkpt a img).mark b
      else if crc b = crc c then (s.writeCkpt b img).mark a
      else s.voidCkpt.unitRec sevFault blkChn
    | [a, b] => if crc a = crc b then s.writeCkpt a img else s.voidCkpt.unitRec sevFault blkChn
    | [a] => s.writeCkpt a img
    | _ => s

/-! ## Exclusion (05 R132, R133, R138, R140, R142, R149) -/

/-- Exclusion causes of CHN_CcINFO (05 Table 5-12). -/
def causeOutvoted : Nat := 1
def causeEcc : Nat := 2
def causeClock : Nat := 3
def causeTimeout : Nat := 4
def causeIndex : Nat := 5
def causeSelftest : Nat := 6
def causeCopyLimit : Nat := 7
def causeShadow : Nat := 8
def causeBanks : Nat := 9

def dayNs : Nat := 86400000000000
def hourNs : Nat := 3600000000000

/-- Exclusions in the 24 h of DT before `t`. -/
def Chan.exclIn24 (c : Chan) (t : Nat) : Nat := (c.hist.filter (fun h => decide (t < h.1 + dayNs))).length

/-- Earliest start of the attempt after an exclusion at `t` (05 R149). -/
def Chan.backoff (c : Chan) (t : Nat) : Nat :=
  if c.exclIn24 t < 4 then t else (match c.attemptDt with | some a => if t < a then a else t | none => t) + hourNs

/-- The channel once excluded: marks cleared, cause recorded, island reset (05 R133). -/
def Chan.exclude (c : Chan) (cause t : Nat) : Chan :=
  { c with st := .excluded, marks := [], cause := cause, excl := satAdd max32 c.excl 1, notBefore := c.backoff t,
           hist := ((t, cause, c.st.code) :: c.hist).take 768, scan := none, stack := [], copySrc := none,
           copyBnd := 0, copyInit := false, copyFinal := false, shadowHp := 0, restart := false, ready := false,
           resetDone := false, mem := ChMem.empty, prog := [], consts := [], snap := [], items := [], sys := [] }

/-- A channel's reset or self-test loses its staged banks (04 R104). -/
def State.unstage (s : State) (i : ChId) : State :=
  { s with sup := { s.sup with armed := s.sup.armed.map (fun a => { a with chStaged := a.chStaged.set i false }) } }

/-- Move a channel to EXCLUDED, with its FAULT record and event (05 R133, R142). What it has already posted
stays posted (R125). -/
def State.exclude (s : State) (i : ChId) (cause : Nat) : State :=
  ((s.setChan i ((s.chan i).exclude cause s.tim.dt)).unstage i).raiseRec 8 (i.num + cause * 16) sevFault blkChn

/-- The next VOTING channel after `i` in the order A, B, C, A (05 R144). -/
def State.copySource (s : State) (i : ChId) : Option ChId :=
  let l := match i with
    | .a => [ChId.b, .c]
    | .b => [.c, .a]
    | .c => [.a, .b]
  l.find? (fun j => decide ((s.chan j).st = .voting))

/-- Start or restart the copy of a channel from the next VOTING channel: every page dirty (05 R144, R146). -/
def State.startCopy (s : State) (i : ChId) : State :=
  s.setChan i { (s.chan i) with copySrc := s.copySource i, copyInit := false, copyFinal := false, copyAt := s.tim.dt,
                                copyLeft := (s.chan i).lay.total * 1024 }

/-- Copies whose source has left VOTING go on from another source (05 R146). -/
def State.fixCopies (s : State) : State :=
  s.forChans (fun s i =>
    if (s.chan i).st = .copy then
      match (s.chan i).copySrc with
      | some j => if (s.chan j).st = .voting then s else s.startCopy i
      | none => s.startCopy i
    else s)

/-- Restart the last VOTING channel in place (05 R138): forcing of every point, reset, self-test to come. -/
def State.restartInPlace (s : State) (i : ChId) : State :=
  let c := { (s.chan i) with restart := true, ready := false, stDone := false, scan := none, stack := [], marks := [], resetDone := false }
  let s1 := { (s.setChan i c) with chn := { (s.setChan i c).chn with tryNext := ChId.all.filter (fun j => j ≠ i), trying := none } }
  ((s1.unstage i).addForce .restart).unitRec sevCritical blkChn

/-- A channel begins its self-test. -/
def State.beginSelftest (s : State) (i : ChId) : State :=
  (s.unstage i).setChan i { (s.chan i) with st := .selftest, stres := 0, stDone := false, copySrc := none, copyBnd := 0,
                                            copyInit := false, copyFinal := false, shadowHp := 0, scan := none, stack := [] }

/-- The next channel of the sequence runs its self-test; one whose clock has failed is passed over (05 R139). -/
def State.tryNext (s : State) : List ChId → State
  | [] => { s with chn := { s.chn with tryNext := [], trying := none } }
  | j :: rest =>
    if (s.chan j).clkFail then s.tryNext rest
    else
      let s1 := s.beginSelftest j
      { s1 with chn := { s1.chn with tryNext := rest, trying := some j } }

/-- A channel that is not VOTING is excluded; when the sequence of R139 was trying it, the next one is tried. -/
def State.excludeTried (s : State) (i : ChId) (cause : Nat) : State :=
  let t := s.exclude i cause
  if s.chn.trying = some i then t.tryNext t.chn.tryNext else t

/-- An ECC error inside the Vote cell whose end excludes the channel for its third mark: one exclusion, with the
cause ECC, in the channel, its history, its event and its record (05 Table 5-10). -/
def State.amendCause (s : State) (i : ChId) : State :=
  let c := s.chan i
  match c.hist with
  | [] => s
  | (t, old, st) :: r =>
    if s.tim.dt < t && decide (old = causeOutvoted) then
      let a := i.num + causeOutvoted * 16
      let b := i.num + causeEcc * 16
      let head := leBytes 2 8 ++ leBytes 8 t ++ leBytes 8 a
      let s1 := s.setChan i { c with cause := causeEcc, hist := (t, causeEcc, st) :: r }
      { s1 with
        hst := { s1.hst with events := s1.hst.events.map (fun e =>
          if e.n = 8 && e.res0 = a && e.dt = t then { e with res0 := b } else e) }
        rcd := { s1.rcd with staging := s1.rcd.staging.map (fun x =>
          if (x.bytes.drop 10).take 18 = head then { x with bytes := x.bytes.take 20 ++ leBytes 8 b ++ x.bytes.drop 28 } else x) } }
    else s

/-- A cause of exclusion meets a channel (05 R132, R138, Table 5-5); a VOTING channel that waits for its clock does not
keep another from restarting in place (05 Table 5-10). -/
def State.excludeFor (s : State) (i : ChId) (cause : Nat) : State :=
  let c := s.chan i
  match c.st with
  | .excluded => if cause = causeEcc then s.amendCause i else s
  | .voting =>
    if ChId.all.any (fun j => decide (j ≠ i) && decide ((s.chan j).st = .voting) && !(s.chan j).clkFail) then
      (s.exclude i cause).fixCopies
    else if c.restart then s else s.restartInPlace i
  | _ => s.excludeTried i cause

/-- Causes of one cell, from the highest letter down, so that of all VOTING channels the lowest restarts in place
(05 R140). -/
def State.excludeAll (s : State) (l : List (ChId × Nat)) : State :=
  [ChId.c, .b, .a].foldl (fun s i => match l.find? (fun p => p.1 = i) with
    | some p => s.excludeFor i p.2
    | none => s) s

/-- Third marks exclude at the end of the cell that gave them (05 R132). -/
def State.excludeMarked (s : State) : State :=
  s.excludeAll ((ChId.all.filter (fun i => decide ((s.chan i).st = .voting) && decide (3 ≤ (s.chan i).marks.length))).map
    (fun i => (i, causeOutvoted)))

/-- A channel that runs the CHN cells: VOTING or SHADOW, with its clock, not in a restart in place (06 R158). -/
def State.runsChn (s : State) (i : ChId) : Bool :=
  let c := s.chan i
  (decide (c.st = .voting) || decide (c.st = .shadow)) && !c.clkFail && !c.restart

/-! ## Comb entry indices (03 R79) -/

/-- A DUPLEX index difference: critical event, the outputs of the affected cycle are forced (03 R79). -/
def State.duplexDiff (s : State) (inCycle : Bool) : State :=
  let s1 := s.raise 0 blkChn
  if inCycle then { s1 with comb := { s1.comb with cyc := { s1.comb.cyc with forced := true } } }
  else { s1 with comb := { s1.comb with forceNext := true } }

/-- Shadow channels whose index differs from the majority are excluded (03 R79). -/
def State.shadowIndex (s : State) (maj : Nat) (idx : Tri Nat) : State :=
  s.forChans (fun s i => if (s.chan i).st = .shadow && decide (idx.get i ≠ maj) then s.excludeFor i causeIndex else s)

/-- Compare the indices of the entry the channels open at the start of a CHN cell; the second part says whether a
DUPLEX difference was found (03 R79). -/
def State.indexCheck (s : State) (inCycle : Bool) (idx : Tri Nat) : State × Bool :=
  match ChId.all.filter (fun i => decide ((s.chan i).st = .voting) && s.runsChn i) with
  | [a, b, c] =>
    let x := idx.get a; let y := idx.get b; let z := idx.get c
    if x = y then
      (((if z = x then s else s.excludeFor c causeIndex).shadowIndex x idx), false)
    else if x = z then ((s.excludeFor b causeIndex).shadowIndex x idx, false)
    else if y = z then ((s.excludeFor a causeIndex).shadowIndex y idx, false)
    else (s.duplexDiff inCycle, true)
  | [a, b] => if idx.get a = idx.get b then (s.shadowIndex (idx.get a) idx, false) else (s.duplexDiff inCycle, true)
  | [a] => (s.shadowIndex (idx.get a) idx, false)
  | _ => (s, false)

/-! ## Re-integration (05 R139, R141 to R149) -/

/-- An uncorrectable ECC error in a channel's memory (05 R132, R138). -/
def channelEcc (s : State) (i : ChId) : State := if s.inService then s.excludeFor i causeEcc else s

def execChannelEccError (ch : ChId) (s : State) : Host.Outcome State Fault Refusal := .next (channelEcc s ch)

/-- The restart in place whose self-test has failed (05 R139). -/
def State.failedRestart (s : State) : Option ChId :=
  ChId.all.find? (fun i => (s.chan i).restart && (s.chan i).stDone && !(s.chan i).ready)

/-- The attempt of an excluded channel starts: clock qualified, reset done, back-off elapsed (05 R149). After a failed
restart in place with no other channel left to try it repeats the sequence, also for the failed channel (R139). -/
def attemptStart (s : State) (i : ChId) : State :=
  let c := s.chan i
  let again := decide (s.failedRestart = some i) && decide (s.chn.trying = none)
  if s.inService && (decide (c.st = .excluded) || again) && !c.clkFail && decide (c.notBefore ≤ s.tim.dt) &&
     decide (s.mgt.run ≠ .init) then
    let c1 := { c with attempts := satAdd max16 c.attempts 1, attemptDt := some s.tim.dt, resetDone := true,
                       stres := 0, stDone := false, copyBnd := 0 }
    if again then (s.unstage i).setChan i c1
    else
      let s1 := (s.setChan i c1).beginSelftest i
      if s.failedRestart.isSome && decide (s.chn.trying = none) then { s1 with chn := { s1.chn with trying := some i } } else s1
  else s

def execAttemptStart (ch : ChId) (s : State) : Host.Outcome State Fault Refusal := .next (attemptStart s ch)

/-- The self-test passes or fails for a channel of a restart in place, one tried after a failed restart, an attempt, or
a repeat with no channel VOTING outside RUN (05 R138, R139, R143, R154). -/
def State.endSelftest (s : State) (i : ChId) (passed : Nat) (old : List IdentEntry) : State :=
  let good := decide (passed % 16 = 15)
  let c := { (s.chan i) with stres := passed % 16, stDone := true }
  let s1 := s.setChan i c
  match s.sup.bank with
  | none =>
    if c.st = .selftest then
      (if good then (if s.votingCount = 0 then s1.setChan i { c with st := .voting } else s1) else s1.exclude i causeSelftest)
    else s1
  | some img =>
    if c.restart then
      if good then s1.setChan i { ((c.load img s.sup.overlay).restore s.newestCkpt old img.ident) with ready := true }
      else s1.tryNext s1.chn.tryNext
    else if c.st = .selftest then
      if s.chn.trying = some i then
        if good then
          let s2 := match s.failedRestart with
            | some k => s1.exclude k causeSelftest
            | none => s1
          let c1 := (c.load img s.sup.overlay).restore s.newestCkpt old img.ident
          { (s2.setChan i { c1 with st := .voting, restart := true, ready := true }) with
            chn := { (s2.setChan i { c1 with st := .voting, restart := true, ready := true }).chn with tryNext := [], trying := none } }
        else s1.excludeTried i causeSelftest
      else if good then
        let c1 := c.load img s.sup.overlay
        if s.votingCount = 0 then s1.setChan i { c1 with st := .voting }
        else (s1.setChan i { c1 with st := .copy, copyBnd := 0 }).startCopy i
      else s1.exclude i causeSelftest
    else s1

/-! ## The copy (05 R144) -/

/-- Down-spread of a channel's PLL, in 0.1 %. -/
def State.chDepth (s : State) (i : ChId) : Nat := s.fld (0x1080 + 4 * i.num) 4 0

/-- ns of [a, b) that lie in CHN cells of the hyperperiod under way. -/
def State.chnOverlap (s : State) (a b : Nat) : Nat :=
  if s.comb.cstate = 2 then
    (s.entries.filter (fun x => x.isChn && x.runsIn s.comb.k)).foldl (fun n x =>
      let u := max a (s.cellStart x s.comb.k)
      let v := min b (s.cellEnd x s.comb.k)
      n + (v - u)) 0
  else 0

/-- Bytes a channel copies in [a, b): 4 bytes per cycle of its own clock, one cycle in 8 while a CHN cell of the
source is open (05 R144). -/
def State.copyBytes (s : State) (i : ChId) (a b : Nat) : Nat :=
  let o := s.chnOverlap a b
  let f := 1000 - s.chDepth i
  ((b - a - o) * 8 + o) * f * 2 / 8000

/-- DT of the end of the last CHN cell of the hyperperiod under way. -/
def State.lastChnEnd (s : State) : Option Nat :=
  (s.entries.filter (fun x => x.isChn && x.runsIn s.comb.k)).foldl (fun m x =>
    let t := s.cellEnd x s.comb.k
    match m with
    | none => some t
    | some u => some (max u t)) none

/-- Bytes of the pages the source has written since the pages were last taken. -/
def State.dirtyBytes (s : State) (j : ChId) : Nat := (s.chan j).touched.length * 1024

/-- The passes of one copying channel up to the boundary at `b` (05 R144): the initial pass goes on until the end
of the last CHN cell, then the final pass takes the pages dirty at that moment. -/
def State.runCopy (s : State) (i : ChId) (b : Nat) : State :=
  let c := s.chan i
  match c.copySrc with
  | none => s
  | some j =>
    let e := (s.lastChnEnd).getD b
    let left := c.copyLeft - s.copyBytes i c.copyAt e
    let fin := decide (left = 0) && (s.lastChnEnd).isSome && decide (s.dirtyBytes j ≤ s.copyBytes i e b)
    s.setChan i { c with copyLeft := left, copyAt := b, copyInit := decide (left = 0), copyFinal := fin }

/-- A completed copy: the channel state of the source (05, Copy). -/
def Chan.takeState (c src : Chan) : Chan := { c with mem := src.mem, touched := [] }

/-- In SETUP or HALT a pass that finds no dirty page ends the copy; SHADOW then waits (05 Table 5-9). -/
def copyPassEnd (s : State) (i : ChId) : State :=
  let c := s.chan i
  if s.inService && decide (c.st = .copy) && (decide (s.mgt.run = .setup) || decide (s.mgt.run = .halt)) then
    match c.copySrc with
    | none => s
    | some j =>
      if c.copyInit && (s.chan j).touched.isEmpty then
        s.setChan i { (c.takeState (s.chan j)) with st := .shadow, shadowHp := 0, copySrc := none }
      else
        (s.setChan i { c with copyInit := true, copyLeft := 0 }).setChan j { (s.chan j) with touched := [] }
  else s

def execCopyPassEnd (ch : ChId) (s : State) : Host.Outcome State Fault Refusal := .next (copyPassEnd s ch)

end Sys2Proof.Machine
end

