-- ==== Sys2Proof/Machine/Loops.lean ====
section
/-!
DEFINITION. Sys2Proof/Machine/Loops.lean: the loop engine of one channel (07): due loops, the control law, held
samples, override groups, the tracking rule, skipped loops.
-/
namespace Sys2Proof.Machine

/-! ## Sources (07 R202) -/

/-- A source word of a loop and whether it is usable. -/
def Chan.loopSource (c : Chan) (stale : Bool) (sp addr : Nat) : Int × Bool := match sp with
  | 1 => ((c.readWord (.word addr)).toInt, true)
  | 2 => ((c.readWord (.const addr)).toInt, true)
  | _ =>
    let q := (c.itemAt addr).q
    ((c.readWord (.snap addr)).toInt, q = .good || q = .sim || (stale && (q = .stale || q = .subst)))

/-- The manual value when the loop's manual request reads 1 (07 R203). -/
def Chan.manual (c : Chan) (d : LoopDef) : Option Int := match d.manBit with
  | none => none
  | some b => if SMap.get dBit c.mem.bits b then some (c.readWord (.word d.manVal)).toInt else none

/-! ## The control law (07 R201, R203) -/

/-- What the computation of a sample gives before the applied output is known. -/
structure Sample where
  held : Bool
  badPv : Bool
  badSp : Bool
  u : Int
  uRaw : Int
  p : Int
  i : Int
  dst : Int
  pv : Int
  satLo : Bool
  satHi : Bool
  rate : Bool
  man : Bool
  deriving DecidableEq, Repr

def Sample.none : Sample := ⟨true, false, false, 0, 0, 0, 0, 0, 0, false, false, false, false⟩

/-- The sample interval h in µs (07 R201). -/
def Loop.interval (l : Loop) (d : LoopDef) (tl : Nat) : Nat :=
  if l.start = .none && decide (l.tLast < tl) then min (tl - l.tLast) (4 * d.tsUs) else d.tsUs

/-- The sample of a loop whose sources are usable (07 R203). -/
def lawSample (d : LoopDef) (l : Loop) (pv sp : Int) (man : Option Int) (h : Nat) : Sample :=
  let uPrev := if l.start = .resume then clampI l.uPrev d.outMin d.outMax else l.uPrev
  let e := if d.dir then subI pv sp else subI sp pv
  let p := qmulI d.kp e
  let dst := if l.start = .none then
      let dpv := if d.dir then subI pv l.pvPrev else subI l.pvPrev pv
      addI l.dState (qmulI d.alpha (subI (rndI (d.kd * dpv * 1000000) (h * 65536)) l.dState))
    else 0
  let i := if l.start = .fresh then clampI (subI (subI uPrev p) dst) d.outMin d.outMax
    else clampI (addI l.i (rndI (d.ki * e * h) 65536000000)) d.outMin d.outMax
  let uRaw := addI (addI p i) dst
  let u1 := clampI uRaw d.outMin d.outMax
  let u2 := if d.rateMax > 0 then
      let r := rndI (d.rateMax * h) 1000000
      clampI u1 (subI uPrev r) (addI uPrev r)
    else u1
  let u3 := match man with
    | none => u2
    | some m => clampI m d.outMin d.outMax
  ⟨false, false, false, u3, uRaw, p, i, dst, pv, decide (uRaw < d.outMin), decide (uRaw > d.outMax),
   decide (u2 ≠ u1) && man.isNone, man.isSome⟩

/-- Compute a loop's sample at sample time `tl` µs, or find it held (07 R202, R203). -/
def Chan.sample (c : Chan) (d : LoopDef) (l : Loop) (tl : Nat) : Sample :=
  let pv := c.loopSource d.acceptStale d.pvSp d.pvAddr
  let sp := c.loopSource d.acceptStale d.spSp d.spAddr
  if pv.2 && sp.2 then lawSample d l pv.1 sp.1 (c.manual d) (l.interval d tl)
  else { Sample.none with badPv := !pv.2, badSp := !sp.2 }

/-! ## Commit (07 R204, R205, R206, R209) -/

/-- The status word (07 Table 7-3). -/
def statusWord (l : Loop) (x : Sample) (notSel man : Bool) : Word :=
  BitVec.ofNat 32 (min l.miss 65535 * 65536 + b2n (decide (l.start ≠ .none)) * 256 + b2n notSel * 128 + b2n man * 64 +
    b2n x.rate * 32 + b2n x.satLo * 16 + b2n x.satHi * 8 + b2n x.badPv * 4 + b2n x.badSp * 2 + b2n l.dlPend)

/-- The loop's state after a committed or held sample with applied output `ua` (07 R202, R204, R205). -/
def Loop.commit (l : Loop) (d : LoopDef) (x : Sample) (ua : Int) (tl : Nat) : Loop :=
  if x.held then
    { l with i := if l.start = .resume then clampI l.i d.outMin d.outMax else l.i,
             uPrev := ua, tLast := tl, start := .resume, dlPend := false, miss := 0 }
  else
    { l with i := if ua ≠ x.uRaw then clampI (subI (subI ua x.p) x.dst) d.outMin d.outMax else x.i,
             uPrev := ua, dState := x.dst, pvPrev := x.pv, tLast := tl, start := .none, dlPend := false, miss := 0 }

/-- U_PREV as a held sample drives it: clamped first when the start mode is RESUME (07 R202). -/
def Loop.heldOut (l : Loop) (d : LoopDef) : Int :=
  if l.start = .resume then clampI l.uPrev d.outMin d.outMax else l.uPrev

/-- Of the members with usable sources, the one with the lowest u, the first of equals (07 R206). -/
def selectLowest : List (Nat × Sample) → Option (Nat × Int)
  | [] => none
  | (n, x) :: rest =>
    if x.held then selectLowest rest
    else match selectLowest rest with
      | none => some (n, x.u)
      | some (m, v) => if v < x.u then some (m, v) else some (n, x.u)

/-- Commit one member: its state and its status word. -/
def Chan.commitLoop (c : Chan) (n : Nat) (d : LoopDef) (x : Sample) (ua : Int) (notSel man : Bool) (tl : Nat) : Chan :=
  let l := c.loop n
  let c1 := c.setLoop n (l.commit d x ua tl)
  match d.statAddr with
  | none => c1
  | some a => c1.storeWord a (statusWord l x notSel man)

/-- Sample a loop outside a group, or a group's members together: `ms` lists number and descriptor, head first. -/
def Chan.sampleGroup (c : Chan) (ms : List (Nat × LoopDef)) (tl : Nat) : Chan :=
  match ms with
  | [] => c
  | (h, hd) :: _ =>
    let xs := ms.map (fun m => (m.1, c.sample m.2 (c.loop m.1) tl))
    let headHeld := (c.sample hd (c.loop h) tl).held
    let grouped := decide (hd.group ≠ 0)
    let man := if grouped || !headHeld then c.manual hd else none
    let pick : Option Nat × Int := match man with
      | some v => (some h, clampI v hd.outMin hd.outMax)
      | none => match selectLowest xs with
        | some (n, u) => (some n, u)
        | none => (none, (c.loop h).heldOut hd)
    let c1 := c.storeOut hd.outAddr (BitVec.ofInt 32 pick.2)
    ms.foldl (fun k m =>
      let x := c.sample m.2 (c.loop m.1) tl
      k.commitLoop m.1 m.2 x pick.2 (grouped && decide (pick.1 ≠ some m.1)) (man.isSome && decide (m.1 = h)) tl) c1

/-! ## A run of loops (07 R199, R200, R207) -/

/-- What a channel's run of loops counts. -/
structure LpeCount where
  miss : Nat
  held : Nat
  skipped : List Nat
  deriving DecidableEq, Repr

/-- The sample window of `tl` (07 R200). -/
def LoopDef.window (d : LoopDef) (pUs tl : Nat) : Int := (((tl : Int) - pUs)).fdiv d.tsUs

/-- A due loop's window: missed windows are counted, WIN_LAST moves (07 R200). -/
def Loop.enter (l : Loop) (w : Int) : Loop × Nat :=
  let m := match l.winLast with
    | some v => if !l.gap && decide (v + 1 < w) then (w - v - 1).toNat else 0
    | none => 0
  ({ l with winLast := some w, miss := l.miss + m, gap := false }, m)

/-- Split a run into single loops and whole groups. -/
def loopUnits : List (Nat × LoopDef) → List (List (Nat × LoopDef))
  | [] => []
  | (n, d) :: rest => match loopUnits rest with
    | [] => [[(n, d)]]
    | [] :: us => [(n, d)] :: us
    | ((m, e) :: u) :: us =>
      if d.group ≠ 0 && d.group = e.group then ((n, d) :: (m, e) :: u) :: us else [(n, d)] :: ((m, e) :: u) :: us

/-- One due unit: windows entered, then sampled, or skipped whole (07 R207). -/
def Chan.unit (skip : Bool) (pUs tl : Nat) (r : Chan × LpeCount) (ms : List (Nat × LoopDef)) : Chan × LpeCount :=
  match ms with
  | [] => r
  | (h, hd) :: _ =>
    let w := hd.window pUs tl
    if (r.1.loop h).winLast = some w then r
    else
      let r1 := ms.foldl (fun (q : Chan × LpeCount) m =>
        let x := (q.1.loop m.1).enter w
        (q.1.setLoop m.1 x.1, { q.2 with miss := q.2.miss + x.2 })) r
      if skip then
        (ms.foldl (fun (k : Chan) m => k.setLoop m.1 { (k.loop m.1) with dlPend := true }) r1.1,
         { r1.2 with skipped := r1.2.skipped ++ ms.map (fun m => m.1) })
      else
        let held := (ms.filter (fun m => (r1.1.sample m.2 (r1.1.loop m.1) tl).held)).length
        (r1.1.sampleGroup ms tl, { r1.2 with held := r1.2.held + held })

/-- The loops first … first + count − 1 with their descriptors. -/
def runOf (img : Image) (first count : Nat) : List (Nat × LoopDef) :=
  ((img.loops.zipIdx.map (fun p => (p.2, p.1))).drop first).take count

/-- Work through a run, or skip its due loops at the end tick. -/
def Chan.runLoops (c : Chan) (img : Image) (skip : Bool) (units : List (List (Nat × LoopDef))) (tl : Nat) : Chan × LpeCount :=
  units.foldl (Chan.unit skip (img.comb.pMs * 1000) tl) (c, ⟨0, 0, []⟩)

/-- The LPE registers take the counts of the lowest-lettered VOTING channel (07 R212). -/
def Chn.countLpe (n : Chn) (k : LpeCount) : Chn :=
  { n with dlcnt := satAdd max32 n.dlcnt k.skipped.length, missWin := satAdd max32 n.missWin k.miss,
           held := satAdd max32 n.held k.held,
           lastSkip := match k.skipped.getLast? with | some l => some l | none => n.lastSkip,
           dl := k.skipped.foldl (fun m l => SMap.set dBit m l true) n.dl }

/-- One channel's part of an LPE cell over the given units. -/
def State.loopsOne (s : State) (i : ChId) (img : Image) (skip : Bool) (units : List (List (Nat × LoopDef))) (tl : Nat) : State :=
  let r := (s.chan i).runLoops img skip units tl
  let s1 := s.setChan i r.1
  if s.lowVoting = some i then { s1 with chn := s1.chn.countLpe r.2 } else s1

/-- Units that end within the first `n` loops of the run: those committed before the end tick. -/
def unitsDone (n : Nat) (units : List (List (Nat × LoopDef))) : Nat :=
  (units.foldl (fun (p : Nat × Nat) u => if p.2 + u.length ≤ n then (p.1 + 1, p.2 + u.length) else (p.1, n + 1)) (0, 0)).1

end Sys2Proof.Machine
end

