-- ==== Sys2Proof/Machine/Snapshot.lean ====
section
/-!
DEFINITION. Sys2Proof/Machine/Snapshot.lean: the input snapshot (01 R18 to R20): its items with their qualities and
acquisition timestamps, and its delivery to the channels.
-/
namespace Sys2Proof.Machine

/-- The quality of an item whose island waits for its clock, in the order of R4 (00 R4, 19 R490). -/
def Quality.waiting (q : Quality) (wait : Bool) : Quality :=
  if wait && (q = .good || q = .stale) then .missing else q

/-- Put an item into the snapshot. -/
def Dist.put (d : Dist) (base : Nat) (ws : List Word) (q : Quality) (acq : Option Nat) : Dist :=
  { d with words := ws.zipIdx.foldl (fun (m : SMap Word) p => SMap.set dWord m (base + p.2) p.1) d.words,
           items := SMap.set dItem d.items base ⟨q, acq⟩ }

/-- Station items (10 R297). -/
def State.distStations (s : State) (d : Dist) : Dist :=
  s.stnDefs.foldl (fun (d : Dist) (x : StnDef) => match s.stnSt? x.stn with
    | some y => d.put (16 * x.stn) (y.item x) (y.quality.waiting (!s.runs .field)) (y.img.map (fun a => a.t))
    | none => d) d

/-- AIN items as their slots stood at the instant (14 R382). -/
def State.distAnalog (s : State) (instant : Nat) (d : Dist) : Dist := match s.analog? with
  | none => d
  | some a => (List.range 64).foldl (fun (d : Dist) (i : Nat) =>
      if (a.ain i).mode = 1 || (a.ain i).mode = 2 then
        let v := s.slotAt i instant
        d.put (0x10000 + i) [v.word] (v.q.waiting (!s.runs .adc)) v.acq
      else d) d

/-- The digital inputs (15 R589). -/
def State.distDin (s : State) (d : Dist) : Dist :=
  let q : Quality := if s.runs .axs && s.vioOn 2 && s.axs.dinDt.isSome then .good else .missing
  (d.put 0x10040 [BitVec.ofNat 32 s.axs.din] q s.axs.dinDt).put 0x10041 [BitVec.ofNat 32 (s.axs.din / 2 ^ 32)] q s.axs.dinDt

/-- Axis items (15 R406). -/
def State.distAxes (s : State) (d : Dist) : Dist :=
  (List.range 16).foldl (fun (d : Dist) (a : Nat) => if (s.axDef? a).isSome then
      let x := s.ax a
      let q : Quality := if x.missing then .missing else .good
      d.put (0x10080 + 8 * a) x.item (q.waiting (!s.runs .axs)) x.acq
    else d) d

/-- Metering items (11 R320). -/
def State.distMeter (s : State) (d : Dist) : Dist := match s.meter? with
  | none => d
  | some m =>
    let stop := s.mtr.missing || !s.mtr.running || !(s.runs .mtr)
    let d1 := m.ems.foldl (fun (d : Dist) (e : EmDef) =>
      let p := SMap.get dPub s.mtr.emPub e.em
      d.put (0x10100 + 64 * e.em) p.1 (p.2.waiting stop) (if p.1.isEmpty then none else s.mtr.pubDt)) d
    let d2 := m.tms.foldl (fun (d : Dist) (t : TmDef) =>
      let p := SMap.get dPub s.mtr.tmPub t.tm
      d.put (0x10300 + 16 * t.tm) p.1 (p.2.waiting stop) (if p.1.isEmpty then none else s.mtr.pubDt)) d1
    let q : Quality := if s.mtr.balClosed then .good else .missing
    d2.put 0x10B00 s.mtr.balPub (q.waiting stop) (if s.mtr.balClosed then s.mtr.pubDt else none)

/-- The solutions the publish cell took (08 R241, 09 R270; 01 R19). -/
def State.distSolver (s : State) (d : Dist) : Dist :=
  let put : Dist → Nat → Option PubBuf → Nat → Dist := fun d base p lim => match p with
    | none => d
    | some b => d.put base (b.status ++ b.vals) ((b.quality lim).waiting (!s.runs .slv)) b.acq
  let lh := match s.slv.hyd.defn with | some x => x.reuseLimit | none => 0
  let ld := match s.slv.disp.defn with | some x => x.reuseLimit | none => 0
  put (put d 0x11000 s.slv.snapHyd lh) 0x12000 s.slv.snapDisp ld

/-- The whole snapshot; items that the image does not declare read 0 with quality MISSING (01 R20). -/
def State.snapshot (s : State) (instant : Nat) : Dist :=
  s.distSolver (s.distMeter (s.distAxes (s.distDin (s.distAnalog instant (s.distStations ⟨[], [], some instant⟩)))))

/-- The I/O bank logic samples the digital inputs in the last cycle before the snapshot instant (15 R589). -/
def State.sampleDin (s : State) (instant din : Nat) : State :=
  if s.runs .axs then { s with axs := { s.axs with din := din % 2 ^ 64, dinDt := some (instant - 10) } } else s

/-- A channel that receives the snapshot (01 R20, 05 R133). -/
def Chan.receives (c : Chan) : Bool :=
  (decide (c.st = .voting) || decide (c.st = .copy) || decide (c.st = .shadow)) && !c.clkFail && !c.restart

/-- Deliver the snapshot from one write to every channel that receives it. -/
def State.deliverSnap (s : State) (d : Dist) : State :=
  { s with dist := d,
           chn := { s.chn with ch := s.chn.ch.map (fun (c : Chan) =>
             if c.receives then { c with snap := d.words, items := d.items } else c) } }

end Sys2Proof.Machine
end

