-- ==== Sys2Proof/Machine/Cells.lean ====
section
/-!
DEFINITION. Sys2Proof/Machine/Cells.lean: the cells of the control cycle (01 R17 to R21): Agree, Compute, Waggle,
Vote, and the checkpoint cell; what the end tick of an unfinished cell does (03 R80, R81).
-/
namespace Sys2Proof.Machine

/-- Run `f` with DT standing at another instant, at which what it does is stamped. -/
def State.at (s : State) (t : Nat) (f : State → State) : State :=
  let r := f { s with tim := { s.tim with dt := t } }
  { r with tim := { r.tim with dt := s.tim.dt } }

/-! ## End ticks (03 R80, R81; 19 R490) -/

/-- End tick of the cell of entry `e` in the hyperperiod under way. -/
def State.endTick (s : State) (e : Nat) : Nat := match s.entries[e]? with
  | some x => s.cellEnd x s.comb.k
  | none => 0

/-- The island of a resource whose wait keeps an overrun from being counted (19 R490). -/
def islandOfRes (r : Nat) : Option Island :=
  if r = 8 then some .slv
  else if r = 0x0C || r = 0x0D then some .mtr
  else if r = 0x0E || r = 0x0F || r = 0x10 then some .axs
  else none

/-- An unfinished cell whose end tick falls in its island's wait, or in the network island's, is no overrun. -/
def State.excused (s : State) (r : Nat) : Bool :=
  !s.dtLive || (match islandOfRes r with
    | some i => !(s.runs i)
    | none => false)

/-- The loops of an LPE cell's run, in units of single loops and whole groups. -/
def Image.lpeUnits (img : Image) (x : CombEntry) : List (List (Nat × LoopDef)) :=
  loopUnits (runOf img (x.act / 4096) (x.act % 4096))

/-- Due loops a channel had not committed at the end tick are skipped (07 R207). -/
def State.skipLoops (s : State) (o : OpenCell) : State := match s.sup.bank, s.entries[o.e]? with
  | some img, some x =>
    let us := img.lpeUnits x
    s.forChans (fun s i => if s.runsChn i then
        s.loopsOne i img true (us.drop (unitsDone (o.rest.getD i.num 0) us)) (s.comb.cyc.agreeDt / 1000)
      else s)
  | _, _ => s

/-- The response of an unfinished activity at its end tick (03 Table 3-8). -/
def State.endOpen (s : State) (o : OpenCell) : State :=
  let s1 := { s with comb := { s.comb with open_ := s.comb.open_.filter (fun p => p ≠ o) } }
  s1.at (s1.endTick o.e) (fun s =>
    let s2 := if o.res = 2 then s.skipLoops o else if o.res = 6 then s.voidCkpt else s
    if s.excused o.res then s2 else s2.countOverrun o.e o.res)

/-- The entry of the LGE cell whose scan is open in some channel. -/
def State.openScan (s : State) : Option Nat :=
  (ChId.all.filterMap (fun i => (s.chan i).scan)).head?.map (fun x => x.e)

/-- Open scans end as overruns at their end tick (03 Table 3-8, 06 R162). -/
def State.endScans (s : State) : State := match s.openScan with
  | none => s
  | some e => s.at (s.endTick e) (fun s =>
      let s1 := s.forChans (fun s i => s.endScan .overrun i)
      if s.excused 1 then s1 else s1.countOverrun e 1)

/-- Activities whose end tick is at most `t` end unfinished. -/
def State.endTicks (s : State) (t : Nat) : State :=
  let s1 := match s.openScan with
    | some e => if s.endTick e ≤ t then s.endScans else s
    | none => s
  (s1.comb.open_.filter (fun o => decide (s1.endTick o.e ≤ t))).foldl State.endOpen s1

/-- CELL_END_OVERRUN: the end tick of the cell of entry `e` arrives before its activity has completed. -/
def cellEndOverrun (s : State) (e : Nat) : State :=
  let t := s.endTick e
  let busy := decide (s.openScan = some e) || s.comb.open_.any (fun o => decide (o.e = e)) ||
    s.stn.cells.any (fun k => decide (k.e = e)) || s.adc.conv.any (fun x => match x.run with
      | some r => decide (r.e = e)
      | none => false)
  if busy && decide (s.comb.cstate = 2) then
    let s1 := s.advanceTo t
    let s2 := if s1.openScan = some e then s1.endScans else s1
    let s3 := (s2.comb.open_.filter (fun o => decide (o.e = e))).foldl State.endOpen s2
    let s4 := (s3.stn.cells.filter (fun k => decide (k.e = e))).foldl (fun (s : State) k => s.endStnCell k) s3
    (List.range 4).foldl (fun (s : State) (n : Nat) => match (s.adcConv n).run with
      | some r => if r.e = e then s.endAdc n else s
      | none => s) s4
  else s

def execCellEndOverrun (e : Nat) (s : State) : Host.Outcome State Fault Refusal := .next (cellEndOverrun s e)

/-! ## Agree (01 R18, R20; 06 R160) -/

/-- The number of the control cycle whose Agree cell is `x`, in order of Agree start (06 Table 6-5). -/
def State.cycleIdx (s : State) (x : CombEntry) : Nat :=
  (s.entries.filter (fun y => decide (y.res = 3) && y.runsIn s.comb.k && decide (y.start < x.start))).length

/-- A new control cycle begins: nothing posted, nothing voted. -/
def State.newCycle (s : State) (x : CombEntry) (live : Bool) : State :=
  { s with
    comb := { s.comb with forceNext := false,
                          cyc := ⟨s.cycleIdx x, s.cellStart x s.comb.k, live, ⟨CycleWork.none, CycleWork.none, CycleWork.none⟩,
                                  s.comb.forceNext, s.votingCount⟩ }
    vot := { s.vot with posted := ⟨Posted.none, Posted.none, Posted.none⟩, voted := [], feedsTaken := false } }

/-- AGREE: the snapshot is closed and delivered; an overrun abandons the delivery and the rest of the cycle. -/
def agreeCell (s : State) (e : Nat) (idx : Tri Nat) (done : Bool) (din : Nat) : State :=
  s.withCell e (fun r => decide (r = 3)) none (fun x s1 =>
    let t := s.cellStart x s.comb.k
    let s2 := (((s1.endTicks t).endStnCellsTo t).endAdcs t).newCycle x done
    let s3 := (s2.indexCheck true idx).1
    let inst := s3.snapInstant
    let s4 := ((s3.drainInbox).snapStations inst s3.readStart).sampleDin inst din
    let s5 := s4.pruneSlots inst
    if done then s5.deliverSnap (s4.snapshot inst) else s5.leaveOpen e 3 [])

def execAgreeCell (e : Nat) (idx : Tri Nat) (done : Bool) (din : Nat) (s : State) : Host.Outcome State Fault Refusal :=
  .next (agreeCell s e idx done din)

/-! ## Compute (06 R158 to R161, R170; 07 R199) -/

/-- The SYS words of a scan (06 Table 6-5). -/
def State.sysWords (s : State) (t ts d : Nat) (r : TaskRec) (sub : Bool) : SMap Word :=
  let k := hp64 s.comb.k
  let st := s.comb.cyc.redund + s.tim.tstate.code * 16 + b2n s.sup.armed.isSome * 256 + (s.activeSuper.getD 0) * 512
  let l : List Nat := [ts, ts / 2 ^ 32, d, k, k / 2 ^ 32, s.comb.cyc.idx, t, st,
    b2n r.firstRun + b2n r.firstSwap * 2 + b2n sub * 4, r.flt]
  l.zipIdx.foldl (fun (m : SMap Word) p => SMap.set dWord m p.2 (BitVec.ofNat 32 p.1)) []

/-- Start a scan of task `t` in one channel (06 R158 to R161). -/
def State.startScan (s : State) (e t : Nat) (td : TaskDef) (i : ChId) : State :=
  let c := s.chan i
  let r := c.task t
  let ts := s.comb.cyc.agreeDt / 1000
  let sub : Bool := r.gap || (match r.last with | none => true | some l => decide (ts ≤ l))
  let d := if sub then td.periodMs * 1000 else min (ts - r.last.getD 0) 0xFFFFFFFF
  let c1 := { c with ba := false, wa := 0, ix := 0, ov := false, dz := false, iff := false, stack := [],
                     sys := s.sysWords t ts d r sub, scan := some ⟨t, e, td.entry, ts, d, 64⟩ }
  s.setChan i (c1.setTask t { r with last := some ts, firstRun := false, firstSwap := false, gap := false })

/-- LGE: every VOTING or SHADOW channel starts one scan of the task. -/
def lgeCell (s : State) (e : Nat) (idx : Tri Nat) : State :=
  s.withCell e (fun r => decide (r = 1)) none (fun x s1 =>
    let s2 := ((s1.endTicks s1.tim.dt).indexCheck true idx).1
    if s2.comb.cyc.live then match s2.sup.bank.bind (fun i => i.logic.tasks[x.act]?) with
      | none => s2
      | some td => s2.forChans (fun s i => if s.runsChn i then s.startScan e x.act td i else s)
    else s2)

def execLgeCell (e : Nat) (idx : Tri Nat) (s : State) : Host.Outcome State Fault Refusal := .next (lgeCell s e idx)

/-- LPE: the loops of the run in ascending order; `done` counts the loops each channel commits before the end tick. -/
def lpeCell (s : State) (e : Nat) (idx done : Tri Nat) : State :=
  s.withCell e (fun r => decide (r = 2)) none (fun x s1 =>
    let s2 := ((s1.endTicks s1.tim.dt).indexCheck true idx).1
    match s2.sup.bank with
    | none => s2
    | some img =>
      if s2.comb.cyc.live then
        let us := img.lpeUnits x
        let s3 := s2.forChans (fun s i => if s.runsChn i then
            s.loopsOne i img false (us.take (unitsDone (done.get i) us)) (s.comb.cyc.agreeDt / 1000)
          else s)
        if ChId.all.any (fun i => s3.runsChn i && decide (unitsDone (done.get i) us < us.length)) then
          s3.leaveOpen e 2 [done.a, done.b, done.c]
        else s3
      else s2)

def execLpeCell (e : Nat) (idx : Tri Nat) (done : Tri Nat) (s : State) : Host.Outcome State Fault Refusal :=
  .next (lpeCell s e idx done)

/-! ## Waggle (05 R124, R591; 06 R187) -/

/-- The slice that votes a point (05 Table 5-3). -/
def Point.slice (p : Point) : Slice :=
  if p.oclass = 4 then .field else if p.oclass = 3 then .axis else if p.oclass = 5 then .solver else .bank

/-- The ballots of a channel for one slice: the points whose OWNER task completed in its cell in this control cycle. -/
def State.ballots (s : State) (i : ChId) (sl : Slice) : List (Nat × List Word) :=
  let c := s.chan i
  let done := (s.comb.cyc.work.get i).done
  (s.pointList.filter (fun p => decide (p.2.slice = sl) && done.contains p.2.owner)).map (fun p =>
    (p.1, (List.range p.2.nwords).map (fun j => SMap.get dWord c.mem.out (p.2.src + j))))

/-- Every LGE scan of the control cycle completed in the channel. -/
def State.allScans (s : State) (i : ChId) : Bool := s.cycleTasks.all (fun t => (s.comb.cyc.work.get i).done.contains t)

/-- A burst of a channel's posting. -/
structure Burst where
  ballots : List (Nat × List Word)
  stn : Option (SMap Bool)
  adc : Option Nat
  deriving DecidableEq, Repr

/-- The ADC request word of a channel (06 R186). -/
def Chan.adcWord (c : Chan) : Nat :=
  ((List.range 32).map (fun (j : Nat) => b2n (SMap.get dBit c.mem.req (4096 + j)) * 2 ^ j)).sum

/-- The bursts of a channel in their order; a destination with nothing to post is passed over. -/
def State.bursts (s : State) (i : ChId) : List Burst :=
  let all := s.allScans i
  let c := s.chan i
  let stn := if all then some (c.mem.req.filter (fun p => decide (p.1 < 4096))) else none
  [Burst.mk (s.ballots i .field) stn none, ⟨s.ballots i .axis, none, none⟩, ⟨s.ballots i .bank, none, none⟩,
   ⟨s.ballots i .solver, none, none⟩, ⟨[], none, if all then some c.adcWord else none⟩].filter
    (fun b => !b.ballots.isEmpty || b.stn.isSome || b.adc.isSome)

def Posted.add (p : Posted) (b : Burst) : Posted :=
  ⟨p.ballots ++ b.ballots, b.stn.or p.stn, b.adc.or p.adc⟩

/-- WAGGLE: each channel posts the bursts whose crossings complete before the end tick; `bursts` counts them. -/
def waggleCell (s : State) (e : Nat) (idx bursts : Tri Nat) : State :=
  s.withCell e (fun r => decide (r = 4)) none (fun _ s1 =>
    let s2 := ((s1.endTicks s1.tim.dt).indexCheck true idx).1
    if s2.comb.cyc.live then
      let s3 := s2.forChans (fun s i => if s.runsChn i then
          let p := ((s.bursts i).take (bursts.get i)).foldl Posted.add (s.vot.posted.get i)
          { s with vot := { s.vot with posted := s.vot.posted.set i p } }
        else s)
      if ChId.all.any (fun i => s2.runsChn i && decide (bursts.get i < (s2.bursts i).length)) then s3.leaveOpen e 4 []
      else s3
    else s2)

def execWaggleCell (e : Nat) (idx : Tri Nat) (bursts : Tri Nat) (s : State) : Host.Outcome State Fault Refusal :=
  .next (waggleCell s e idx bursts)

/-! ## Vote (05 R125 to R131; 06 R188, R190) -/

/-- The outcome of one point's vote: the value driven (none: the last driven value), the channel marked, 1 for a
disagreement and 2 for a critical event, driven to safe, and the majority ballot if there is one. -/
structure Verdict where
  value : Option (List Word)
  mark : Option ChId
  event : Nat
  safe : Bool
  maj : Option (List Word)
  deriving DecidableEq, Repr

def Verdict.keep : Verdict := ⟨none, none, 0, false, none⟩

/-- Two of three ballots agree, and the third channel is marked. -/
def Verdict.outvoted (v : List Word) (i : ChId) : Verdict := ⟨some v, some i, 1, false, some v⟩

/-- No majority: the safe value and a critical event. -/
def Verdict.fails (safe : List Word) (i : Option ChId) : Verdict := ⟨some safe, i, 2, true, none⟩

def Verdict.agreed (v : List Word) : Verdict := ⟨some v, none, 0, false, some v⟩

/-- Two ballots of three are posted; the channel of the third is marked (05 Table 5-4). -/
def votePair (x y : List Word) (third : ChId) (safe : List Word) : Verdict :=
  if x = y then .outvoted x third else .fails safe (some third)

/-- Which VOTING channel a shadow ballot arbitrates against (05 R128). -/
def arbitrate (x y : List Word) (i j : ChId) (shadow : Option (List Word)) : Option ChId := match shadow with
  | none => none
  | some z => if z = x then some j else if z = y then some i else none

/-- The vote of one point (05 Table 5-4): counted channels in order, their ballots, a shadow ballot. -/
def votePoint (cnt : List ChId) (b : ChId → Option (List Word)) (shadow : Option (List Word)) (safe : List Word) : Verdict :=
  match cnt with
  | [i, j, k] => match b i, b j, b k with
    | some x, some y, some z =>
      if x = y then (if y = z then .agreed x else .outvoted x k)
      else if x = z then .outvoted x j
      else if y = z then .outvoted y i
      else .fails safe none
    | some x, some y, none => votePair x y k safe
    | some x, none, some z => votePair x z j safe
    | none, some y, some z => votePair y z i safe
    | none, none, none => .keep
    | _, _, _ => .fails safe none
  | [i, j] => match b i, b j with
    | some x, some y => if x = y then .agreed x else .fails safe (arbitrate x y i j shadow)
    | some _, none => .fails safe (some j)
    | none, some _ => .fails safe (some i)
    | none, none => .keep
  | [i] => match b i with
    | some x => .agreed x
    | none => .keep
  | _ => .keep

/-- The output island whose clock a slice runs on. -/
def sliceIsland : Slice → Island
  | .field => .field
  | .axis | .bank => .axs
  | .solver => .slv
  | .analog => .adc

/-- A slice runs on its island's clock or on FOSC (05 R584, 19 R505). -/
def State.sliceRuns (s : State) (sl : Slice) : Bool := s.runs (sliceIsland sl) || s.clk.foscRun

/-- The ballot a channel has posted for a point. -/
def State.ballot (s : State) (i : ChId) (n : Nat) : Option (List Word) :=
  ((s.vot.posted.get i).ballots.find? (fun b => b.1 = n)).map (fun b => b.2)

def State.counted (s : State) : List ChId := ChId.all.filter (fun i => decide ((s.chan i).st = .voting))
def State.shadows (s : State) : List ChId := ChId.all.filter (fun i => decide ((s.chan i).st = .shadow))

/-- A waiting channel gets no mark for its missing ballots (05 R136). -/
def State.markable (s : State) (v : Verdict) : Verdict := match v.mark with
  | some i => if (s.chan i).clkFail then { v with mark := none } else v
  | none => v

/-- The verdict of a point over the ballots posted. -/
def State.verdict (s : State) (n : Nat) (p : Point) : Verdict :=
  s.markable (votePoint s.counted (fun i => s.ballot i n) ((s.shadows.head?).bind (fun i => s.ballot i n)) p.safe)

/-- Shadow channels that disagree at a point with a majority (05 R131). -/
def State.shadowBad (s : State) (n : Nat) (v : Verdict) : List ChId := match v.maj with
  | none => []
  | some x => s.shadows.filter (fun i => s.ballot i n ≠ some x)

/-- A voted request bit over how many counted channels hold 1 (06 R188). -/
def reqBit (cnt ones : Nat) : Bool := if cnt = 3 then decide (2 ≤ ones) else decide (0 < cnt) && decide (ones = cnt)

/-- Vote the station request words; kept when every counted channel's words are missing. -/
def voteHold (posted : List (Option (SMap Bool))) (old : SMap Bool) : SMap Bool :=
  let got := posted.filterMap id
  if got.isEmpty then old
  else (got.flatMap (fun m => m.map (fun p => p.1))).foldl (fun (r : SMap Bool) (a : Nat) =>
    SMap.set dBit r a (reqBit posted.length (got.filter (fun m => SMap.get dBit m a)).length)) []

/-- Vote the ADC request word. -/
def voteAdc (posted : List (Option Nat)) (old : Nat) : Nat :=
  let got := posted.filterMap id
  if got.isEmpty then old
  else ((List.range 32).map (fun (j : Nat) =>
    b2n (reqBit posted.length (got.filter (fun w => bitOf w j)).length) * 2 ^ j)).sum

/-- Some of the words posted differ. -/
def anyDiffer {α : Type} [DecidableEq α] (l : List (Option α)) : Bool := match l.filterMap id with
  | [] => false
  | x :: xs => xs.any (fun y => decide (y ≠ x))

/-- The request bits' vote: WRITE_HOLD bits, ADC start bits with their submissions, LGE_REQDIS (06 R188, R190). -/
def State.voteRequests (s : State) (fld ana : Bool) (stop : Nat) : State :=
  let ps := s.counted.map (fun i => s.vot.posted.get i)
  let stn := ps.map (fun p => p.stn)
  let adc := ps.map (fun p => p.adc)
  let old := s.vot.adcReq
  let new := if ana then voteAdc adc old else old
  let dis := (fld && anyDiffer stn) || (ana && anyDiffer adc)
  let s1 := { s with vot := { s.vot with hold := if fld then voteHold stn s.vot.hold else s.vot.hold, adcReq := new },
                     chn := { s.chn with reqdis := if dis then satAdd max32 s.chn.reqdis 1 else s.chn.reqdis } }
  (List.range 32).foldl (fun (s : State) (b : Nat) =>
    let known := match s.analog? with | some d => (d.urg (b / 8) (b % 8)).isSome | none => false
    if bitOf new b && !(bitOf old b) && known then s.urgent (b / 8) (b % 8) (nsCyc stop) false else s) s1

/-- The points of the control cycle that a DUPLEX index difference forces (03 R79). -/
def State.indexForced (s : State) (p : Point) : Bool := s.comb.cyc.forced && s.cycleTasks.contains p.owner

/-- VOTE: every slice votes; `done` lists the slices whose votes complete before the end tick. -/
def voteCell (s : State) (e : Nat) (done : List Slice) : State :=
  s.withCell e (fun r => decide (r = 5)) none (fun x s1 =>
    let s2 := s1.endTicks s1.tim.dt
    if !s2.comb.cyc.live then s2
    else
      let stop := s2.cellEnd x s2.comb.k
      let votes : Slice → Bool := fun sl => done.contains sl && s2.sliceRuns sl
      let vs := (s2.pointList.filter (fun p => votes p.2.slice)).map (fun p => (p.1, p.2, s2.verdict p.1 p.2))
      let marked := ChId.all.filter (fun i => vs.any (fun v => decide (v.2.2.mark = some i)))
      let dis := ChId.all.filter (fun i => vs.any (fun v => decide (v.2.2.mark = some i) && decide (v.2.2.event = 1)))
      let bad := s2.shadows.filter (fun i => vs.any (fun v => (s2.shadowBad v.1 v.2.2).contains i))
      let forced := (s2.pointList.filter (fun p => s2.indexForced p.2)).map (fun p => (p.1, p.2.safe))
      let vals := (vs.filter (fun v => !(s2.indexForced v.2.1))).filterMap (fun v => v.2.2.value.map (fun w => (v.1, w)))
      let n1 := (vs.filter (fun v => v.2.2.mark.isSome)).length
      let n2 := (vs.filter (fun v => v.2.2.safe)).length
      let s3 := { s2 with
        vot := { s2.vot with voted := forced ++ vals }
        chn := { s2.chn with voted := true, discnt := satAdd max32 s2.chn.discnt n1, safecnt := satAdd max32 s2.chn.safecnt n2 } }
      let s4 := s3.voteRequests (votes .field) (votes .analog) stop
      let s5 := marked.foldl State.mark s4
      let s6 := if vs.any (fun v => decide (v.2.2.event = 2)) then s5.raise 0 blkChn else s5
      let s7 := match dis with
        | i :: _ => s6.raise 10 i.num
        | [] => s6
      let s8 := s7.at stop (fun s => (bad.foldl (fun (s : State) i => s.excludeFor i causeShadow) s).excludeMarked)
      if [Slice.field, .axis, .bank, .solver, .analog].all (fun sl => done.contains sl || !(s2.runs (sliceIsland sl))) then s8
      else s8.leaveOpen e 5 [])

def execVoteCell (e : Nat) (done : List Slice) (s : State) : Host.Outcome State Fault Refusal := .next (voteCell s e done)

/-! ## The checkpoint cell (05 R152, 03 R79, R81) -/

def ckptCell (s : State) (e : Nat) (idx : Tri Nat) (done : Bool) : State :=
  s.withCell e (fun r => decide (r = 6)) none (fun x s1 =>
    let r := (s1.endTicks s1.tim.dt).indexCheck false idx
    let s2 := r.1
    if r.2 then s2.voidCkpt
    else if done then s2.checkpoint.at (s2.cellEnd x s2.comb.k) State.excludeMarked
    else s2.leaveOpen e 6 [])

def execCkptCell (e : Nat) (idx : Tri Nat) (done : Bool) (s : State) : Host.Outcome State Fault Refusal :=
  .next (ckptCell s e idx done)

end Sys2Proof.Machine
end

