-- ==== Sys2Proof/Machine/Clocks.lean ====
section
/-!
DEFINITION. Sys2Proof/Machine/Clocks.lean: clock sources and their monitors (19 R481, R482), the response to a failure
(R485, R489 to R491), resumption (R490), frequency measurement (R488), the handshake timeout (01 R11).
-/
namespace Sys2Proof

/-- The monitor of a source (19 Table 19-2). -/
def ClkSrc.mon? (c : ClkSrc) : Option Nat := if c.code < 8 then some c.code else none

def ClkSrc.all : List ClkSrc := [.xin1, .xin2, .plla, .pllb, .pllc, .pllSlv, .pllNet, .pllAux, .fosc, .sosc]

/-- The islands a PLL feeds and that respond to its failure with a wait (19 Tables 19-1 and 19-3). -/
def ClkSrc.islands : ClkSrc → List Island
  | .plla => [.cha]
  | .pllb => [.chb]
  | .pllc => [.chc]
  | .pllSlv => [.slv]
  | .pllNet => [.net]
  | .pllAux => [.hst, .mgt, .field, .mtr, .adc, .axs, .pnl]
  | _ => []

/-- The source of an island's clock. -/
def Island.src : Island → ClkSrc
  | .cha => .plla
  | .chb => .pllb
  | .chc => .pllc
  | .slv => .pllSlv
  | .net => .pllNet
  | _ => .pllAux

def Island.all : List Island := [.hst, .mgt, .cha, .chb, .chc, .slv, .net, .field, .mtr, .adc, .axs, .key, .pnl]

def Island.chan? : Island → Option ChId
  | .cha => some .a
  | .chb => some .b
  | .chc => some .c
  | _ => none

/-- The cause of forcing that an island's wait brings (Table 19-3). -/
def Island.force? : Island → Option Machine.ForceCause
  | .net => some .network
  | .slv => some .solver
  | .field => some .field
  | .axs => some .axis
  | _ => none

/-- Full clock of an island in kHz, for its divider ramp of 1,984 cycles (19 R483). -/
def Island.khz : Island → Nat
  | .hst => 250000
  | .mgt => 400000
  | .cha | .chb | .chc => 500000
  | .slv => 800000
  | .net => 312500
  | .field => 80000
  | .mtr | .axs => 100000
  | .adc => 64000
  | .key => 200000
  | .pnl => 50000

/-- Duration of a divider ramp in ns, rounded up. -/
def Island.rampNs (i : Island) : Nat := (1984 * 1000000 + i.khz - 1) / i.khz

end Sys2Proof

namespace Sys2Proof.Machine

/-! ## Judging (19 R481, R482, R486) -/

def State.mon (s : State) (i : Nat) : SrcMon := s.clk.mons.getD i SrcMon.reset

def State.setMon (s : State) (i : Nat) (m : SrcMon) : State :=
  { s with clk := { s.clk with mons := updAt s.clk.mons i (fun _ => m) } }

/-- A source is qualified; FOSC and SOSC are while they run. -/
def State.qualified (s : State) : ClkSrc → Bool
  | .fosc => s.clk.foscRun
  | .sosc => s.clk.soscRun
  | c => (s.mon c.code).qual

/-- XIN1 in Hz under FREQ_KHZ (R479). -/
def State.xin1Hz (s : State) : Rat := (s.fld 0x1000 15 0 * 1000 : Nat)

def foscHz : Rat := 96000000

/-- DEPTH of a PLL's spread as its monitor expects it, a factor 1 − DEPTH × 0.05 % (R486). -/
def State.spreadF (s : State) (n : Nat) : Rat := 1 - (s.fld (0x1080 + 4 * n) 4 0 : Nat) / (2000 : Rat)

/-- Frequency a monitor expects of its source, in Hz. -/
def State.srcHz (s : State) : ClkSrc → Rat
  | .xin1 => s.xin1Hz
  | .xin2 => 32768
  | .plla => 500000000 * s.spreadF 0
  | .pllb => 500000000 * s.spreadF 1
  | .pllc => 500000000 * s.spreadF 2
  | .pllSlv => 800000000 * s.spreadF 3
  | .pllNet => 312500000
  | .pllAux => 400000000 * s.spreadF 4
  | .fosc => foscHz
  | .sosc => (s.clk.soscMhz : Nat) / (1000 : Rat)

/-- The reference of a monitor (Table 19-2; R482 for FOSC and SOSC). -/
def State.refOf (s : State) : ClkSrc → ClkSrc
  | .xin1 | .sosc => .fosc
  | .xin2 | .fosc => .sosc
  | _ => if s.clk.pllref then .fosc else .xin1

/-- Expected count of a window. -/
def State.expected (s : State) (c : ClkSrc) : Rat :=
  (2 ^ s.fld (0x1040 + 4 * c.code) 4 0 : Nat) * s.srcHz c / s.srcHz (s.refOf c)

/-- Tolerance of a window: FTOL for a PLL judged against FOSC, TOL otherwise. -/
def State.tolOf (s : State) (c : ClkSrc) : Rat :=
  let o := 0x1040 + 4 * c.code
  ((if decide (2 ≤ c.code) && s.clk.pllref then s.fld o 15 12 else s.fld o 11 8) + 1 : Nat) / (200 : Rat)

def State.goodWindow (s : State) (c : ClkSrc) (count : Nat) : Bool :=
  let e := s.expected c
  decide (ratAbs ((count : Nat) - e) ≤ s.tolOf c * e)

/-- A source is judged: power is there and its reference runs. In DORMANT only XIN2 and SOSC are judged, SOSC without a
reference (19 Table 19-10; DEDUCED, log entry 71). -/
def State.judged (s : State) (c : ClkSrc) : Bool := match s.pwr.power with
  | .off => false
  | .service => s.qualified (s.refOf c)
  | _ => decide (c = .xin2) && s.clk.soscRun || decide (c = .sosc)

/-! ## Forcing and waits (19 Table 19-3, R490, R491) -/

/-- A channel meets the failure of its clock (05 R135 to R137, Table 5-5). -/
def State.channelClock (s : State) (i : ChId) : State :=
  let c := s.chan i
  let s1 := s.setChan i { c with clkFail := true, scan := none, stack := [] }
  match c.st with
  | .excluded => s1
  | .voting =>
    if s.votingCount = 3 then s1.excludeFor i causeClock
    else ({ s1 with chn := { s1.chn with clkwait := true } }).addForce .channelClock
  | _ => s1.excludeTried i causeClock

/-- What an island does when its clock stops (19 Table 19-3). -/
def State.stopIsland (s : State) (i : Island) : State := match i with
  | .cha => s.channelClock .a
  | .chb => s.channelClock .b
  | .chc => s.channelClock .c
  | .net => ((s.addForce .network).mtrStop).linksDown
  | .slv => s.addForce .solver
  | .field => (s.addForce .field).canStop
  | .axs => (s.axesStop).addForce .axis
  | .mtr => s.mtrStop
  | .adc => s.adcStop
  | .pnl => s.panelStop
  | _ => s

/-- Gate islands: DT is handed over first, then every island waits, then each responds and its wait is reported (R490). -/
def State.gate (s : State) (l : List Island) : State :=
  let new := l.filter (fun i => !(s.clk.wait.contains i))
  let s0 := if new.contains .net then s.handShadow else s
  let s1 := { s0 with clk := { s0.clk with wait := s0.clk.wait ++ new, ramp := s0.clk.ramp.filter (fun i => !(new.contains i)) } }
  new.foldl (fun (s : State) (i : Island) => (s.stopIsland i).raise 130 i.code) s1

/-- The key island and the voter slices stand while PLL_AUX and FOSC have both failed (19 R505); with either source
back, key work begins anew and the end of the wait is reported. -/
def State.keyClock (s : State) : State :=
  let both := !(s.qualified .pllAux) && !s.clk.foscRun
  if both && !s.clk.gated then
    let s1 := { s with clk := { s.clk with gated := true, wait := s.clk.wait ++ [Island.key] } }
    s1.raise 130 Island.key.code
  else if !both && s.clk.gated then
    (({ s with clk := { s.clk with gated := false, wait := s.clk.wait.filter (fun (i : Island) => i ≠ Island.key) } }).restartJobs).raise 131
      Island.key.code
  else s

/-! ## The always-on clock (19 R484, R491; 20 R510) -/

/-- The always-on island takes XIN2 while it is qualified and preferred, otherwise SOSC; with both failed its counters,
the calendar and the shadow stop. -/
def State.aonClock (s : State) : State :=
  let on := decide (s.fld 0x1004 0 0 = 1) || !(s.mon 1).qual
  let mhz := if on && !s.clk.aonSosc then s.clk.soscMhz else s.tim.shadowMhz
  let s1 := { s with clk := { s.clk with aonSosc := on }, tim := { s.tim with shadowMhz := mhz } }
  let stop := on && !s1.clk.soscRun
  if stop && !s.rtc.stopped then ({ s1 with rtc := { s1.rtc with stopped := true, osf := true } }).raise 165 1
  else { s1 with rtc := { s1.rtc with stopped := stop, start := if s.rtc.stopped && !stop then s.tim.dt else s.rtc.start } }

/-! ## Failure (19 R485, R489) -/

/-- Change the reference of every PLL (R485). -/
def State.setPllref (s : State) (v : Bool) : State :=
  if s.clk.pllref = v then s else ({ s with clk := { s.clk with pllref := v } }).raise 132 (b2n v)

/-- What follows from the loss of a source. -/
def State.lose (s : State) (c : ClkSrc) : State :=
  let s1 := match c with
    | .fosc => { s with clk := { s.clk with foscRun := false } }
    | .sosc => { s with clk := { s.clk with soscRun := false } }
    | _ => s.setMon c.code ⟨false, true, 0, 0⟩
  let s2 := if c = .xin1 && s1.clk.foscRun then s1.setPllref true else s1
  ((s2.gate c.islands).keyClock).aonClock

/-- A source fails (R489). -/
def State.sourceFailed (s : State) (c : ClkSrc) : State :=
  let bit := 2 ^ c.code
  let k := { s.clk with fail := if bitOf s.clk.fail c.code then s.clk.fail else s.clk.fail + bit,
                        failcnt := satAdd max32 s.clk.failcnt 1 }
  (({ s with clk := k }).raiseRec 128 c.code sevFault blkClk).lose c

/-! ## Qualification and resumption (19 R483, R490; 05 R135 to R137) -/

/-- A solver island resumes (08 R246; 09 R278). -/
def State.slvResume (s : State) : State :=
  let h := s.slv.hyd
  let h1 := { h with cause := caNotRun, reuse := satAdd 255 h.reuse h.missed, missed := 0 }
  let h2 := if h.defn.isSome then
      { h1 with prev := h.pub, pub := { (h1.republish s.slv.laneFailed h.iters h.newton s.tim.dt) with missing := h.pub.missing } }
    else h1
  ({ s with slv := { s.slv with hyd := h2 } }).dispCatchUp

/-- Metering resumes once its island and the network island run (11 R333). -/
def State.mtrClock (s : State) : State :=
  if s.runs .mtr && s.dtLive && decide (s.mgt.run ≠ .init) && !(s.clk.ramp.contains .mtr) then s.mtrResume else s

/-- The resumption instant of an island: the end of its ramp (R490). -/
def State.resumed (s : State) (i : Island) : State :=
  let s1 := { s with clk := { s.clk with wait := s.clk.wait.filter (fun (x : Island) => x ≠ i), ramp := s.clk.ramp.filter (fun (x : Island) => x ≠ i) } }
  let s2 := s1.raise 131 i.code
  match i with
  | .slv => s2.slvResume
  | .net | .mtr => s2.mtrClock
  | .pnl => s2.panelResume
  | .hst => s2.serve
  | _ => s2

/-- The channel that waited for its clock is excluded, or restarts in place (05 R136, R137). -/
def State.channelBack (s : State) (i : ChId) : State :=
  let c := s.chan i
  let s1 := s.setChan i { c with clkFail := false }
  let s2 := if c.st ≠ .voting || c.restart then s1
    else if 2 ≤ s.votingCount then (s1.exclude i causeClock).fixCopies
    else s1.restartInPlace i
  let more := ChId.all.any (fun j => decide ((s2.chan j).st = .voting) && (s2.chan j).clkFail)
  let s3 := { s2 with chn := { s2.chn with clkwait := more } }
  if more then s3 else s3.endForce .channelClock

/-- A waiting island's ramp starts: its cells may open, its cause of forcing ends. -/
def State.startRamp (s : State) (i : Island) (gone : Bool) : State :=
  let w := if gone then s.clk.wait.filter (fun (x : Island) => x ≠ i) else s.clk.wait
  let s1 := { s with clk := { s.clk with wait := w, ramp := if s.clk.ramp.contains i then s.clk.ramp else s.clk.ramp ++ [i] } }
  let s2 := match i.chan? with
    | some c => s1.channelBack c
    | none => s1
  match i.force? with
  | some f => s2.endForce f
  | none => s2

/-- The network island's clock is back: DT is reloaded, and the comb waits for the next boundary of it (02 R50). -/
def State.netBack (s : State) : State :=
  let s0 := s.endTicks (2 ^ 64)
  let s1 := ({ s0 with clk := { s0.clk with wait := s0.clk.wait.filter (fun (x : Island) => x ≠ Island.net), ramp := s0.clk.ramp ++ [Island.net] } }).reloadDt
  if s1.comb.cstate = 2 then
    { s1 with comb := { s1.comb with k := max s1.comb.k (hpOf s1.hNs s1.pNs s1.tim.dt), gap := true } }
  else s1

/-- A waiting island whose source has qualified: a channel that is not VOTING, or is
the only VOTING one (05 R137), begins its ramp at once, the network island
reloads DT, every other island waits for the boundary in RUN and begins its ramp at once otherwise (R490). -/
def State.islandBack (s : State) (i : Island) : State :=
  if !(s.clk.wait.contains i) then s
  else match i with
    | .net => if s.mgt.run = .run then s.netBack else (s.netBack).endForce .network
    | _ => match i.chan? with
      | some c => if (s.chan c).st ≠ .voting || s.mgt.run ≠ .run || decide (s.votingCount ≤ 1) then s.startRamp i true else s
      | none => if s.mgt.run = .run then s else s.startRamp i false

/-- The islands whose ramps start at a hyperperiod boundary in RUN: their sources are qualified (R490, R505). -/
def State.boundaryRamps (s : State) : State :=
  let s1 := (s.clk.wait.filter (fun (i : Island) => decide (i ≠ Island.key) && decide (i ≠ Island.net) && s.qualified i.src)).foldl
    (fun (s : State) i => s.startRamp i true) s
  if s1.dtLive then s1.endForce .network else s1

/-- What follows from a source that runs again. -/
def State.gain (s : State) (c : ClkSrc) : State :=
  let s1 := match c with
    | .fosc => { s with clk := { s.clk with foscRun := true } }
    | .sosc => { s with clk := { s.clk with soscRun := true } }
    | _ => s.setMon c.code ⟨true, (s.mon c.code).failed, 0, 0⟩
  let s2 := if c = .xin1 then s1.setPllref false else s1
  c.islands.foldl State.islandBack (s2.keyClock).aonClock

/-- A source qualifies (R481). -/
def State.sourceQualified (s : State) (c : ClkSrc) : State := (s.raise 129 c.code).gain c

/-- MONITOR_WINDOW_END: a monitor's window ends with a count. -/
def monitorWindow (s : State) (c : ClkSrc) (count : Nat) : State := match c.mon? with
  | none => s
  | some i =>
    if !s.judged c then s
    else
      let m := s.mon i
      if s.goodWindow c count then
        if m.qual then s.setMon i { m with bad := 0 }
        else if 15 ≤ m.good then s.sourceQualified c
        else s.setMon i { m with good := m.good + 1, bad := 0 }
      else if m.qual then (if 1 ≤ m.bad then s.sourceFailed c else s.setMon i { m with bad := 1 })
      else s.setMon i { m with good := 0 }

def execMonitorWindowEnd (src : ClkSrc) (count : Nat) (s : State) : Host.Outcome State Fault Refusal :=
  .next (monitorWindow s src count)

/-- STOP_DETECTION: a qualified source, or a running oscillator, shows no edge. -/
def stopDetection (s : State) (c : ClkSrc) : State := if s.qualified c && s.judged c then s.sourceFailed c else s

def execStopDetection (src : ClkSrc) (s : State) : Host.Outcome State Fault Refusal := .next (stopDetection s src)

/-- OSCILLATOR_RETURN: FOSC or SOSC runs again (R482); FOSC is off in DORMANT. -/
def oscillatorReturn (s : State) (c : ClkSrc) : State :=
  if s.qualified c || decide (s.pwr.power = .off) then s
  else match c with
    | .fosc => if s.inService then s.sourceQualified .fosc else s
    | .sosc => s.sourceQualified .sosc
    | _ => s

def execOscillatorReturn (src : ClkSrc) (s : State) : Host.Outcome State Fault Refusal := .next (oscillatorReturn s src)

/-- ISLAND_RESUMPTION: the ramp of an island ends. In RUN it began at the boundary. -/
def islandResumption (s : State) (i : Island) : State :=
  if s.inService && s.clk.ramp.contains i then
    let s1 := if s.comb.cstate = 2 && !s.comb.gap && !(s.clk.wait.contains i) && i.chan?.isNone then
        s.advanceTo (hpStart s.hNs s.pNs s.comb.k + i.rampNs)
      else s
    s1.resumed i
  else s

def execIslandResumption (isl : Island) (s : State) : Host.Outcome State Fault Refusal := .next (islandResumption s isl)

/-! ## Measurements (19 R482, R488) -/

/-- SOSC is measured against FOSC (R482). -/
def soscCalibration (s : State) (mhz : Nat) : State :=
  if s.clk.foscRun && s.clk.soscRun then { s with clk := { s.clk with soscMhz := mhz % 2 ^ 26 } } else s

def execSoscCalibration (mhz : Nat) (s : State) : Host.Outcome State Fault Refusal := .next (soscCalibration s mhz)

/-- The window of the oldest frequency measurement ends (R488). -/
def freqWindowEnd (s : State) (count : Nat) : State := match s.clk.freqJobs with
  | [] => s
  | j :: _ =>
    let s1 := s.advanceTo (j.t + 1000000000)
    let moved := match s1.clk.freqJobs.head? with | some x => x.moved | none => false
    ({ s1 with clk := { s1.clk with freqJobs := s1.clk.freqJobs.drop 1 } }).complete j.seq 0 count
      (some (s1.tim.tstate.code + 4 * b2n moved)) []

def execFreqMeasureWindowEnd (count : Nat) (s : State) : Host.Outcome State Fault Refusal := .next (freqWindowEnd s count)

/-! ## Handshake timeout (01 R11) -/

/-- A crossing is not acknowledged within 10 µs: a channel is excluded, any other island is treated as having lost its
clock; the key island then runs from its fallback. EV001 carries the block, and the channel above it. -/
def handshakeTimeout (s : State) (i : Island) : State :=
  if !s.inService then s
  else
    let s1 := s.raise 1 (i.blk + (match i.chan? with | some c => c.num * 256 | none => 0))
    match i.chan? with
    | some c => s1.excludeFor c causeTimeout
    | none => if i = .key then s1 else s1.gate [i]

def execHandshakeTimeout (isl : Island) (s : State) : Host.Outcome State Fault Refusal := .next (handshakeTimeout s isl)

/-! ## Self-test end (05 R143) -/

/-- The identity table of the image a checkpoint was taken under: that of the super whose digest it names (04 R99). -/
def State.ckptIdent (s : State) : List IdentEntry := match s.newestCkpt with
  | none => []
  | some k =>
    let of : Super → Option (List IdentEntry) := fun x =>
      if x.st = .empty || x.st = .writing then none
      else if x.view.image.digestPfx = k.digestPfx then some x.view.image.ident else none
    ((of s.sup.s0).or (of s.sup.s1)).getD []

/-- SELFTEST_END: a channel's self-test ends with the steps it passed. -/
def selftestEnd (s : State) (i : ChId) (passed : Nat) : State :=
  let c := s.chan i
  if s.inService && !c.clkFail && decide (s.mgt.run ≠ .init) && (decide (c.st = .selftest) || (c.restart && !c.ready)) then
    s.endSelftest i passed s.ckptIdent
  else s

def execSelftestEnd (ch : ChId) (passed : Nat) (s : State) : Host.Outcome State Fault Refusal := .next (selftestEnd s ch passed)

end Sys2Proof.Machine
end

