-- ==== Sys2Proof/Machine/Supers.lean ====
section
/-!
DEFINITION. Sys2Proof/Machine/Supers.lean: supers and their images (04): entry checks, arming and cancelling a swap, the
swap itself, VALUE edits and reads; entry into RUN and HALT (17 R437 to R440).
-/
namespace Sys2Proof.Machine

/-! ## States of the supers (04 R93, R94) -/

def State.setSuper (s : State) (x : Nat) (u : Super) : State :=
  if x = 0 then { s with sup := { s.sup with s0 := u } } else { s with sup := { s.sup with s1 := u } }

def State.superTo (s : State) (x : Nat) (st : SuperSt) : State := s.setSuper x { (s.super x) with st := st }

/-- A super fails a check: INVALID with the check's status; an overlay goes with the ACTIVE super (R92, R120). -/
def State.invalidate (s : State) (x status : Nat) : State :=
  let s1 := if (s.super x).st = .active then { s with sup := { s.sup with overlay := [] } } else s
  s1.setSuper x { (s1.super x) with st := .invalid, lastStat := status }

/-- The super in state ARMED. -/
def State.armedSuper (s : State) : Option Nat := s.sup.armed.map (fun a => a.super)

/-! ## Checks at entry into RUN and at arming (04 R92; 03 R63; 13 R359; 08 R225) -/

/-- COSTREV, the assumed spread depths, one-step ports under MACsec. -/
def State.imageFits (s : State) (i : Image) : Bool :=
  decide (i.comb.costRev = 1) &&
  [0, 1, 2].all (fun n => decide (s.fld (0x1080 + 4 * n) 4 0 ≤ i.comb.spreadCh)) &&
  decide (s.fld 0x108C 4 0 ≤ i.comb.spreadSlv) && decide (s.fld 0x1090 4 0 ≤ i.comb.spreadAux) &&
  i.eth.all (fun d => !d.macsec || decide (s.portFld d.port 3 3 = 0))

/-- The old and the new solver structures fit the store together, when the swap changes one (08 R225). -/
def State.storeFits (s : State) (i : Image) : Bool :=
  (decide (i.hyd = s.slv.hyd.base) && decide (i.disp = s.slv.disp.base)) || decide (s.slv.peak + i.storePeak ≤ 24576)

/-- k·H + P in ms (04 R101). -/
def Comb.msOf (c : Comb) (k : Int) : Int := k * c.hMs + c.pMs

/-- The number of a boundary of the old comb on the new grid. -/
def newNumber (old new : Comb) (k : Int) : Int := (old.msOf k - new.pMs) / new.hMs

/-- The boundary lies on the new grid. -/
def onGrid (old new : Comb) (k : Int) : Bool := decide ((old.msOf k - new.pMs) % (new.hMs : Int) = 0)

/-- The first hyperperiod boundary at or after now (03 R54). -/
def State.firstHp (s : State) : Int :=
  let k := hpOf s.hNs s.pNs s.tim.dt
  if hpStart s.hNs s.pNs k = s.tim.dt && s.tim.frac = 0 then k else k + 1

/-! ## Arming (04 R100 to R105) -/

/-- The status with which an ARM is refused, 0 when it is accepted. -/
def State.armStatus (s : State) (x : Nat) (k : Int) : Nat :=
  if s.sup.armed.isSome then stSwapPending
  else if (s.super x).st ≠ .loaded then stSuperState
  else if hpStart s.hNs s.pNs k < s.tim.dt + 2000000000 + s.hNs then stSwapLead
  else
    let i := (s.super x).view.image
    if i.epoch < s.key.minEpoch then stCounterStale
    else if !s.imageFits i || !s.storeFits i then stImageIncompatible
    else match s.comb? with
      | some c => if onGrid c i.comb k then 0 else stImageIncompatible
      | none => stImageIncompatible

/-- An accepted ARM: the super is ARMED and staging begins. -/
def State.armSwap (s : State) (x : Nat) (k : Int) (seq : Nat) : State :=
  let s1 := s.superTo x .armed
  { s1 with sup := { s1.sup with armed := some ⟨x, k, false, false, ⟨false, false, false⟩, some seq⟩, staged := none } }

/-- The swap goes: the super takes a state, the staged banks are discarded, an ARM still staging completes (R103, R446). -/
def State.dropSwap (s : State) (st : SuperSt) (status : Nat) : State := match s.sup.armed with
  | none => s
  | some a =>
    let s1 := s.superTo a.super st
    let s2 := { s1 with sup := { s1.sup with armed := none, staged := none } }
    match a.seq with
    | some q => s2.fail q status
    | none => s2

/-- A swap is cancelled: LOADED, and a NOTICE record (R105). -/
def State.cancelSwap (s : State) : State :=
  if s.sup.armed.isSome then (s.dropSwap .loaded stAborted).unitRec sevNotice blkMgt else s

/-- STAGING_COMPLETE: the staging of an armed swap ends, for the first time or for a channel staged anew; an MRAM error
cancels the swap (R102, R104). -/
def stagingComplete (s : State) (okay : Bool) : State := match s.sup.armed with
  | none => s
  | some a =>
    if !s.inService then s
    else if okay then
      let b := { a with staged := true, chStaged := ⟨true, true, true⟩, seq := none }
      let s1 := { s with sup := { s.sup with armed := some b, staged := some (s.super a.super).view.image } }
      match a.seq with
      | some q => s1.ok q 0
      | none => s1
    else
      let s1 := s.setSuper a.super { (s.super a.super) with lastStat := stStagingFailed }
      ((s1.dropSwap .invalid stStagingFailed).raiseRec 4 (a.super + stStagingFailed * 256) sevFault blkMgt)

def execStagingComplete (ok : Bool) (s : State) : Host.Outcome State Fault Refusal := .next (stagingComplete s ok)

/-! ## VALUE edits (04 R116 to R121) -/

def State.valueEntries (s : State) : List ValueEntry := match s.sup.bank with
  | some i => i.values
  | none => []

def State.valueEntry? (s : State) (pid : Nat) : Option ValueEntry := s.valueEntries.find? (fun e => decide (e.pid = pid))

/-- The constants that applied and waiting edits hold in the overlay. -/
def State.overlayKeys (s : State) : List Nat :=
  (s.sup.overlay.map (fun p => p.1) ++
   s.sup.edits.flatMap (fun e => (e.items.filter (fun p => decide (p.1.vkind = 3))).map (fun p => p.1.addr))).eraseDups

/-- The status with which an EDIT is refused, 0 when it is accepted; with it the entries its items name. -/
def State.editStatus (s : State) (l : List (Nat × Word)) : Nat × List (ValueEntry × Word) :=
  let items := l.filterMap (fun p => (s.valueEntry? p.1).map (fun e => (e, p.2)))
  if items.length < l.length then (stValueUnknown, [])
  else if items.any (fun p => !(inI p.1.vmin p.1.vmax p.2.toInt)) then (stValueRange, [])
  else
    let ks := (s.overlayKeys ++ (items.filter (fun p => decide (p.1.vkind = 3))).map (fun p => p.1.addr)).eraseDups
    if 16384 < ks.length then (stOverlayFull, [])
    else if s.mgt.run ≠ .run && items.any (fun p => decide (p.1.vkind ≠ 3)) then (stRunState, [])
    else (0, items)

/-- Write one edited item into a channel. -/
def Chan.edit (c : Chan) (e : ValueEntry) (w : Word) : Chan :=
  if e.vkind = 1 then c.storeWord e.addr w
  else if e.vkind = 2 then c.writeBit (.bit e.addr) (w.getLsbD 0)
  else { c with consts := SMap.set dWord c.consts e.addr w }

/-- The channel holds program state (R117). -/
def Chan.holdsProgram (c : Chan) : Bool := decide (c.st = .voting) || decide (c.st = .copy) || decide (c.st = .shadow)

/-- Apply an edited item to every channel that holds program state, and to the overlay. -/
def State.applyItem (s : State) (p : ValueEntry × Word) : State :=
  let ov := if p.1.vkind = 3 then SMap.set dOpt s.sup.overlay p.1.addr (some p.2) else s.sup.overlay
  { s with sup := { s.sup with overlay := ov },
           chn := { s.chn with ch := s.chn.ch.map (fun (c : Chan) => if c.holdsProgram then c.edit p.1 p.2 else c) } }

/-- Edits due at a boundary are applied in order of acceptance and complete. -/
def State.applyEdits (s : State) : State :=
  s.sup.edits.foldl (fun (s : State) e => (e.items.foldl State.applyItem s).ok e.seq (hp64 s.comb.k))
    { s with sup := { s.sup with edits := [] } }

/-- Waiting edits end without effect (R24, 17 R446). -/
def State.voidEdits (s : State) (status : Nat) : State :=
  s.sup.edits.foldl (fun (s : State) e => s.fail e.seq status) { s with sup := { s.sup with edits := [] } }

/-! ## Reads of values (17 Table 17-4, READ) -/

/-- The value of an item in a channel. -/
def Chan.valueOf (c : Chan) (e : ValueEntry) : Word :=
  if e.vkind = 1 then SMap.get dWord c.mem.words e.addr
  else if e.vkind = 2 then (if SMap.get dBit c.mem.bits e.addr then 1 else 0)
  else SMap.get dWord c.consts e.addr

/-- The read-back of a READ: values of the lowest-lettered VOTING channel, and how many PIDs are not declared. With no
channel VOTING no channel is named: each value is a free value (DESIGN CHOICE, log entry 3). -/
def State.readValues (s : State) (pids : List Nat) : List Byte × Nat :=
  let v : Nat × Nat → Nat := fun p => match s.valueEntry? p.1 with
    | none => 0
    | some e => match s.lowVoting with
      | some i => ((s.chan i).valueOf e).toNat
      | none => Config.free (s.fresh + p.2)
  (pids.zipIdx.flatMap (fun p => leBytes 4 p.1 ++ leBytes 4 (v p)), (pids.filter (fun p => (s.valueEntry? p).isNone)).length)

/-- Complete a READ at this instant. -/
def State.doRead (s : State) (r : PendRead) : State :=
  let v := s.readValues r.pids
  (s.spend r.pids.length).complete r.seq 0 v.2 none v.1

def State.applyReads (s : State) : State := s.sup.reads.foldl State.doRead { s with sup := { s.sup with reads := [] } }

/-! ## Carry-over (04 R109, R110; 07 Table 7-2) -/

/-- The old item that a new entry takes over. -/
def carriedFrom (old : List IdentEntry) (e : IdentEntry) : Option IdentEntry :=
  if e.noCarry then none else old.find? (fun o => decide (o.pid = e.pid) && decide (o.kind = e.kind))

/-- A loop carried across a swap. -/
def Loop.carry (l : Loop) : Loop := ⟨l.i, l.uPrev, 0, 0, 0, none, .resume, false, 0, false⟩

/-- One matched item of another kind than a retentive block. -/
def ChMem.carryItem (old m : ChMem) (o e : IdentEntry) : ChMem := match e.kind with
  | 1 => { m with timers := SMap.set dTimer m.timers e.index (SMap.get dTimer old.timers o.index) }
  | 2 => { m with counters := SMap.set dCounter m.counters e.index ⟨(SMap.get dCounter old.counters o.index).cv, false, false, false⟩ }
  | 3 => { m with edges := SMap.set dEdge m.edges e.index (SMap.get dEdge old.edges o.index) }
  | 5 => { m with loops := SMap.set dLoop m.loops e.index (SMap.get dLoop old.loops o.index).carry }
  | _ => m

/-- The channel memory under the new program. -/
def ChMem.carry (old : ChMem) (a b : Image) : ChMem :=
  let m := freshMem b
  let m1 := { m with
    words := restoreBlocks a.ident b.ident old.words m.words
    out := old.out.filter (fun p => decide (p.1 < min a.logic.outExt b.logic.outExt))
    req := old.req
    tasks := (List.range b.logic.tasks.length).foldl (fun (r : SMap TaskRec) t =>
      SMap.set dTask r t { (SMap.get dTask old.tasks t) with firstSwap := true }) [] }
  b.ident.foldl (fun (m : ChMem) e => match carriedFrom a.ident e with
    | some o => old.carryItem m o e
    | none => m) m1

/-- A channel changes to its staged bank. -/
def Chan.swapTo (c : Chan) (a b : Image) : Chan := { (c.load b []) with mem := c.mem.carry a b }

/-! ## The swap report (04 R114; 21 Table 21-2) -/

/-- Carried, new, reset by NO_CARRY, discarded items of one kind. -/
def carryCounts (old new : List IdentEntry) (kind : Nat) : List Nat :=
  let n := new.filter (fun e => decide (e.kind = kind))
  let o := old.filter (fun e => decide (e.kind = kind))
  let hit : List IdentEntry → IdentEntry → Bool := fun l e => l.any (fun x => decide (x.pid = e.pid) && decide (x.kind = e.kind))
  [(n.filter (fun e => hit o e && !e.noCarry)).length, (n.filter (fun e => !hit o e)).length,
   (n.filter (fun e => hit o e && e.noCarry)).length, (o.filter (fun e => !hit n e)).length]

/-- Discarded items, PID and KIND. -/
def discarded (old new : List IdentEntry) : List (Nat × Nat) :=
  (old.filter (fun o => !(new.any (fun e => decide (e.pid = o.pid) && decide (e.kind = o.kind))))).map (fun o => (o.pid, o.kind))

/-- Write the list records: up to 64 of eight PIDs each. -/
def State.listRecords (s : State) : Nat → List (Nat × Nat) → State
  | 0, _ => s
  | _, [] => s
  | n + 1, x :: xs =>
    let l := (x :: xs).take 8
    let body := (l.flatMap (fun p => leBytes 4 p.1) ++ zeros 32).take 32 ++ (l.map (fun p => BitVec.ofNat 8 p.2) ++ zeros 8).take 8
    (s.record sevInfo blkMgt 0x0102 body).listRecords n ((x :: xs).drop 8)

/-- Event, summary record and list records of a swap. -/
def State.reportSwap (s : State) (x : Nat) (a b : Image) : State :=
  let lost := discarded a.ident b.ident
  let cnt := [1, 2, 3, 4, 5].flatMap (carryCounts a.ident b.ident)
  let body := cnt.zipIdx.flatMap (fun p => leBytes 2 (p.1 % 32768 + (if p.2 = 0 && decide (512 < lost.length) then 32768 else 0)))
  ((({ s with sup := { s.sup with report := lost } }).raise 3 x).record sevNotice blkMgt 0x0101 body).listRecords 64 lost

/-! ## The units at a swap boundary (04 R106, R107, R111, R112) -/

/-- The hydraulic problem: a byte-identical structure keeps its factor and factorisation; a topology structure not yet in
force is discarded (08 R233). -/
def HydSt.swapTo (h : HydSt) (d : Option HydDef) : HydSt :=
  let h1 := { h with topo := none }
  match d with
  | none => { HydSt.reset with pubs := h.pubs, cause := h.cause }
  | some x =>
    if h.base = some x then
      let y := h1.adopt x
      { y with factor := h.factor, pend := h.pend, mat := h.mat, flows := h.flows, fixh := h.fixh }
    else h1.adopt x

/-- The dispatch problem (09 R275, R279): a window of the new image runs from this boundary when one begins here. -/
def DispSt.swapTo (p : DispSt) (d : Option DispDef) (k : Int) : DispSt :=
  let p1 := { p with topo := none, running := false, conv := false, staged := none, fDue := false, pDue := false }
  match d with
  | none => { DispSt.reset with solves := p.solves, pubs := p.pubs, shifts := p.shifts }
  | some x =>
    let y := p1.adopt x
    let z := if p.base = some x then { y with factor := p.factor, pend := p.pend, rho := p.rho }
      else { y with pend := some ⟨0, [], x.rhoExp, false⟩ }
    { z with win := if p.win.isNone then none else some (x.windowOf k),
             startDue := decide (x.windowOf k = k) && p.win.isSome }

/-- Topology commands whose structure had not taken effect. -/
def Slv.topoSeqs (v : Slv) : List Nat :=
  (match v.hyd.topo with | some t => [t.1] | none => []) ++ (match v.disp.topo with | some t => [t.1] | none => [])

def State.swapSolver (s : State) (b : Image) (k : Int) : State :=
  let qs := s.slv.topoSeqs
  let s1 := { s with slv := { s.slv with hyd := s.slv.hyd.swapTo b.hyd, disp := s.slv.disp.swapTo b.disp k } }
  qs.foldl (fun (s : State) q => s.fail q stSwapPending) s1

/-- Stations with the same number and identifier keep their state; every other declared one starts ABSENT. -/
def State.swapStations (s : State) (old : List StnDef) : State :=
  let st := s.stnDefs.foldl (fun (m : SMap (Option StnSt)) (d : StnDef) =>
    let kept := match old.find? (fun o => decide (o.stn = d.stn)), s.stnSt? d.stn with
      | some o, some x => if o.sid = d.sid then some x else none
      | _, _ => none
    SMap.set dOpt m d.stn (some (kept.getD d.fresh))) []
  ({ s with stn := { s.stn with st := st, cells := [], readHeads := [], inbox := [] } }).stnCounts

/-- A CAN channel whose configuration differs is re-initialised: fault confinement carries through, a bus-off wait ends
RECOV_MS of the new configuration after entry; late frames stay pending (04 R107). -/
def State.swapCan (s : State) (a : Option Image) (b : Image) : State :=
  s.allCan (fun s c =>
    if a.bind (fun i => canChDef? i c) = canChDef? b c then s
    else
      let x := s.canCh c
      s.setCan c { x with rx := [], armed := match x.tx with | some o => o :: x.armed | none => x.armed, tx := none })

/-- A port whose configuration differs is re-initialised; queued frames stay. -/
def State.swapEth (s : State) (a : Option Image) (b : Image) : State :=
  s.allPorts (fun s p =>
    let f : Image → Option EthPortDef := fun i => i.eth.find? (fun d => decide (d.port = p))
    if a.bind f = f b then s
    else
      let x := s.port p
      let q := match x.busy with
        | some (f, _) => if f.use matches .host _ then { x with hostq := f :: x.hostq, busy := none } else { x with wfp := f :: x.wfp, busy := none }
        | none => x
      s.setPort p { q with an := 0, pn0 := 1, pn1 := 1, exh0 := false, exh1 := false, key0 := none, key1 := none, rxsc := [], dup := [] })

/-- Voted values of a point that the new image declares alike keep their place: the last driven values follow the class
and target of their point. -/
def carryDriven (a b : Image) (old : SMap (List Word)) : SMap (List Word) :=
  b.points.zipIdx.foldl (fun (m : SMap (List Word)) p =>
    match a.points.findIdx? (fun q => decide (q.oclass = p.1.oclass) && decide (q.target = p.1.target)) with
    | some j => SMap.set dWords m p.2 (SMap.get dWords old j)
    | none => m) []

/-- COPY and SHADOW restart the copy under the new program; an idle SELFTEST goes on (04 Table 4-10). -/
def State.swapChannels (s : State) (a b : Image) : State :=
  s.forChans (fun s i =>
    let c := s.chan i
    match c.st with
    | .voting => s.setChan i (c.swapTo a b)
    | .copy => (s.setChan i (c.load b [])).startCopy i
    | .shadow => (s.setChan i { (c.load b []) with st := .copy, copyBnd := 0, shadowHp := 0 }).startCopy i
    | _ => s)

/-- An image with RAISE_EPOCH becomes active (04 R91). -/
def State.raiseEpoch (s : State) (i : Image) : State :=
  if i.raiseEpoch then { s with key := { s.key with minEpoch := max s.key.minEpoch i.epoch } } else s

/-- The units whose work goes on across a change of image: CAN, Ethernet, metering, axes, converters, panel. `old` is the
state before the change. -/
def State.changeUnits (s old : State) (a : Option Image) (b : Image) : State :=
  let s1 := old.mtrSwap (a.bind (fun i => i.meter)) ((s.swapCan a b).swapEth a b)
  ((s1.axesSwap (a.bind (fun i => i.axes))).adcSwap).panelSwap (a.bind (fun i => i.panel))

/-- Change every unit to the staged image (R106). -/
def State.takeImage (s : State) (x : Nat) (a b : Image) : State :=
  let k := newNumber a.comb b.comb s.comb.k
  let old := s.stnDefs
  let s0 := s.windowEnd
  let s1 := { s0 with
    sup := { s0.sup with armed := none, bank := some b, staged := none, overlay := [] }
    comb := { s0.comb with k := k, opened := [], open_ := [] }
    vot := { s0.vot with driven := carryDriven a b s0.vot.driven } }
  let s2 := match s1.activeSuper with
    | some y => s1.superTo y .loaded
    | none => s1
  let s3 := ((((s2.superTo x .active).raiseEpoch b).swapChannels a b).swapSolver b k).swapStations old
  ((s3.changeUnits s (some a) b).fillAll).reportSwap x a b

/-- At the boundary of an armed swap (R104): channels without staged banks are excluded, or the swap is cancelled. -/
def State.makeSwap (s : State) : State := match s.sup.armed, s.sup.staged, s.sup.bank with
  | some m, some b, some a =>
    let bad := ChId.all.filter (fun i => (s.chan i).holdsProgram && !(m.chStaged.get i))
    let left := ChId.all.any (fun i => decide ((s.chan i).st = .voting) && m.chStaged.get i)
    if left then
      let s1 := bad.foldl (fun (s : State) i => s.exclude i causeBanks) s
      ((s1.voidEdits stSwapPending).takeImage m.super a b).applyReads
    else (((s.dropSwap .loaded stAborted).critical blkMgt).applyEdits).applyReads
  | some _, _, _ => (((s.dropSwap .loaded stAborted).critical blkMgt).applyEdits).applyReads
  | none, _, _ => s

/-- SUPER_SWAP: the boundary at which the committed swap takes effect (02 R44, 04 R106). -/
def superSwap (s : State) : State :=
  if s.swapDue && decide (s.tim.dt = hpStart s.hNs s.pNs s.comb.k) then s.makeSwap else s

def execSuperSwap (s : State) : Host.Outcome State Fault Refusal := .next (superSwap s)

/-! ## Entry into RUN (17 R437, R438, R446) -/

/-- An ACTIVATE awaits its verification or runs (R444, Table 17-8). -/
def State.activating (s : State) : Bool :=
  s.mgt.activate.isSome || (match s.mgt.auth with | some a => (a.cmd matches .activate ..) | none => false)

/-- A solver structure is being built or rebuilt, or an ACTIVATE runs. -/
def State.building (s : State) : Bool :=
  s.activating || s.mgt.solverBuild || decide (0 < s.slv.hyd.rebuild) || decide (0 < s.slv.disp.rebuild) ||
  (match s.slv.hyd.topo with | some t => !t.2.2 | none => false) ||
  (match s.slv.disp.topo with | some t => !t.2.2.1 | none => false)

/-- The first check of Table 17-2 that fails, 0 when all pass. -/
def State.runStatus (s : State) (trusted : Bool) : Nat :=
  if s.mgt.run ≠ .setup && s.mgt.run ≠ .halt then stRunState
  else match s.activeSuper, s.sup.bank with
    | some _, some i =>
      if s.building then stBusy
      else if i.epoch < s.key.minEpoch then stCounterStale
      else if !s.imageFits i then stImageIncompatible
      else if s.votingCount = 0 then stNoChannel
      else if trusted && s.tim.tstate ≠ .trusted then stTimeState
      else 0
    | _, _ => stSuperState

/-- What failing the checks changes: the epoch check makes the super INVALID (04 R92). -/
def State.runRefused (s : State) (status : Nat) : State := match s.activeSuper with
  | some x => if status = stCounterStale then s.invalidate x status else s
  | none => s

/-- Host axis commands that still run end, and their axes stop as under STOP (R446). -/
def State.axesAbort (s : State) : State :=
  (List.range 16).foldl (fun (s : State) (a : Nat) => match s.axDef? a with
    | some d => if (s.ax a).seq.isSome then (s.axDone a stAborted).axStop a d false else s
    | none => s) s

/-- Entry from SETUP (R438): channel, loop, station, solver and axis state start anew. -/
def State.startProgram (s : State) (i : Image) : State :=
  let s1 := s.forChans (fun s c =>
    let x := s.chan c
    match x.st with
    | .voting | .shadow => s.setChan c ((x.load i s.sup.overlay).restore s.newestCkpt s.ckptIdent i.ident)
    | _ => s)
  let s2 := s1.forChans (fun s c => if (s.chan c).st = .copy then s.startCopy c else s)
  let v := s2.slv.enterRun
  let feeds := i.points.foldl (fun (m : SMap (List Word)) p => if p.oclass = 5 then SMap.set dWords m p.target p.safe else m) []
  let s3 := { s2 with
    slv := { v with disp := { v.disp with win := none, startDue := false, running := false, conv := false, staged := none,
                                          fDue := false, pDue := false } }
    vot := { s2.vot with hold := [], adcReq := 0, feeds := feeds }
    mtr := { s2.mtr with base := [] } }
  ((s3.axesRun).stnRun).adcRun

/-- RUN is accepted: the comb waits for the first boundary at or after now; a comb that HALT has not stopped yet goes on. -/
def State.enterRun (s : State) : State := match s.sup.bank with
  | none => s
  | some i =>
    let fresh := decide (s.mgt.run = .setup)
    let c := if s.comb.cstate = 2 then s.comb else { s.comb with cstate := 1, k := s.firstHp - 1, gap := false, opened := [] }
    let s1 := { s with comb := c, mgt := { s.mgt with run := .run, autorun := false, forces := [] } }
    let s2 := (if fresh then s1.startProgram i else s1.axesAbort).raiseEpoch i
    s2.fillAll

/-- The number of the hyperperiod at whose start cells run or stop. -/
def State.nextHp (s : State) : Int := if s.comb.cstate = 0 then s.firstHp else s.comb.k + 1

/-! ## HALT (17 R440, R446) -/

/-- Every DOUT, PWM and AXIS point takes its safe words; an OUTPUT_FORCE overrides them. -/
def State.outputsSafe (s : State) : State :=
  (s.pointList.filter (fun x => decide (x.2.oclass ≤ 3))).foldl (fun (s : State) x =>
    if s.cmdForced x.1 && !s.forced x.2 then s.drive x.1 x.2 x.2.safe else s.driveForced x.1 x.2) s

/-- The checkpoint of HALT: its mark counts in the hyperperiod that ends at the boundary, which is the one before the
current one when `late`. -/
def State.haltCkpt (s : State) (late : Bool) : State :=
  let s1 := s.checkpoint
  let s2 := if late then s1.forChans (fun t i =>
      if (s.chan i).marks.length < (t.chan i).marks.length then t.setChan i { (t.chan i) with marks := 1 :: (s.chan i).marks } else t)
    else s1
  s2.excludeMarked

/-- The boundary at which HALT stops the comb: the checkpoint with its mark, the outputs, the solve in progress. -/
def State.haltBoundary (s : State) (late : Bool) : State :=
  let s1 := s.haltCkpt late
  let s2 := if s.mgt.hmode = 1 then s1.outputsSafe else s1
  let s3 := s2.dispInterrupt
  let s4 := { s3 with mgt := { s3.mgt with haltDue := false }, chn := { s3.chn with voted := false } }
  if s4.mgt.run = .run then s4
  else { s4 with comb := { s4.comb with cstate := 0, gap := false, opened := [], open_ := [] },
                 vot := { s4.vot with voted := [], posted := ⟨Posted.none, Posted.none, Posted.none⟩ } }

/-- HALT is accepted at this instant: at a boundary no cell has opened yet, cells stop at once. -/
def State.enterHalt (s : State) (hmode : Nat) : State × Int :=
  let now := decide (s.comb.cstate = 2) && decide (s.tim.dt = hpStart s.hNs s.pNs s.comb.k) && s.comb.opened.isEmpty && !s.comb.gap
  let k := if now then s.comb.k else s.nextHp
  let s1 := ((s.voidEdits stAborted).cancelSwap)
  let s2 := { s1 with mgt := { s1.mgt with run := .halt, hmode := hmode, haltDue := true } }
  (if now then s2.haltBoundary true else s2, k)

/-! ## ACTIVATE (17 Table 17-4; 08 R245) -/

/-- Load an image into the units and build the solver structures. -/
def State.loadImage (s : State) (i : Image) : State :=
  let s1 := { s with sup := { s.sup with bank := some i } }
  let s2 := s1.forChans (fun s c => if (s.chan c).holdsProgram then s.setChan c ((s.chan c).load i s.sup.overlay) else s)
  { s2 with slv := s2.slv.build i, mgt := { s2.mgt with solverBuild := i.hyd.isSome || i.disp.isSome } }

/-- An accepted ACTIVATE: it completes once the structures are built. -/
def State.activate (s0 : State) (x seq : Nat) : State :=
  let s := if s0.mgt.haltDue then s0.haltBoundary false else s0
  let i := (s.super x).view.image
  let s1 := match s.activeSuper with
    | some y => s.superTo y .loaded
    | none => s
  let s2 := s1.superTo x .active
  let s3 := (({ s2 with sup := { s2.sup with overlay := [] } }).loadImage i).changeUnits s s.sup.bank i
  if s3.mgt.solverBuild then { s3 with mgt := { s3.mgt with activate := some (seq, x) } } else s3.ok seq 0

/-- SOLVER_STRUCTURES_BUILT: the build of a start or an ACTIVATE, or a rebuild outside RUN, ends. -/
def solverBuilt (s : State) : State :=
  if !s.runs .slv then s
  else
    let v := if s.mgt.run = .run then s.slv
      else { s.slv with hyd := { s.slv.hyd with rebuild := 0 }, disp := { s.slv.disp with rebuild := 0 } }
    let s1 := { s with slv := v, mgt := { s.mgt with solverBuild := false, activate := none } }
    match s.mgt.activate with
    | some a => s1.ok a.1 0
    | none => s1

def execSolverStructuresBuilt (s : State) : Host.Outcome State Fault Refusal := .next (solverBuilt s)

end Sys2Proof.Machine
end

