-- ==== Sys2Proof/Machine/Calendar.lean ====
section
/-!
DEFINITION. Sys2Proof/Machine/Calendar.lean: calendar arithmetic (20 R508), what an alarm matches (R516), acceptance of
the RTC commands (R511 to R516).
-/
namespace Sys2Proof.Machine

/-! ## Dates (20 R508) -/

/-- Days and seconds of the 400-year range. -/
def rangeDays : Nat := 146097
def rangeSecs : Nat := rangeDays * 86400

def leapYear (y : Nat) : Bool := (y % 4 = 0 && y % 100 ≠ 0) || y % 400 = 0

def monthLen (y m : Nat) : Nat := match m with
  | 2 => if leapYear y then 29 else 28
  | 4 => 30
  | 6 => 30
  | 9 => 30
  | 11 => 30
  | _ => 31

end Sys2Proof.Machine

namespace Sys2Proof

open Sys2Proof.Machine

/-- Every field lies in its range. -/
def Civil.valid (c : Civil) : Bool :=
  inR 2000 2399 c.year && inR 1 12 c.month && inR 1 (monthLen c.year c.month) c.day && decide (c.hour < 24) &&
  decide (c.minute < 60) && decide (c.second < 60)

end Sys2Proof

namespace Sys2Proof.Machine

/-- Days before a year of the range. -/
def yearStart (y : Nat) : Nat := let n := y - 2000
  365 * n + (n + 3) / 4 - (n + 99) / 100 + (n + 399) / 400

/-- Days before a month of its year. -/
def monthStart (y m : Nat) : Nat := ((List.range (m - 1)).map (fun i => monthLen y (i + 1))).sum

end Sys2Proof.Machine

namespace Sys2Proof

open Sys2Proof.Machine

/-- Seconds since 2000-01-01 00:00:00. -/
def Civil.secs (c : Civil) : Nat :=
  (yearStart c.year + monthStart c.year c.month + (c.day - 1)) * 86400 + c.hour * 3600 + c.minute * 60 + c.second

end Sys2Proof

namespace Sys2Proof.Machine

/-- The year that holds a day of the range. -/
def yearOf (d : Nat) : Nat :=
  let y := 2000 + d * 400 / rangeDays
  if d < yearStart y then y - 1 else if yearStart (y + 1) ≤ d then y + 1 else y

/-- The month that holds day `d` of a year. -/
def monthOf (y d : Nat) : Nat := ((List.range 12).filter (fun i => decide (monthStart y (i + 1) ≤ d))).length

/-- The calendar fields of a value. -/
def civilOf (v : Nat) : Civil :=
  let d := v / 86400
  let y := yearOf d
  let r := d - yearStart y
  let m := monthOf y r
  let t := v % 86400
  ⟨y, m, r - monthStart y m + 1, t / 3600, t / 60 % 60, t % 60⟩

/-- WDAY, 0 for Monday: the range begins on a Saturday. -/
def weekday (v : Nat) : Nat := (v / 86400 + 5) % 7

/-! ## Alarms (20 R516, R518) -/

/-- Compare a field when its MASK bit is set. -/
def cmpField (mask bit a b : Nat) : Bool := !(bitOf mask bit) || decide (a = b)

/-- The date fields match. -/
def Alarm.dayHit (a : Alarm) (c : Civil) : Bool :=
  cmpField a.mask 3 a.t.day c.day && cmpField a.mask 4 a.t.month c.month && cmpField a.mask 5 a.t.year c.year

def Alarm.timeHit (a : Alarm) (c : Civil) : Bool :=
  cmpField a.mask 0 a.t.second c.second && cmpField a.mask 1 a.t.minute c.minute && cmpField a.mask 2 a.t.hour c.hour

/-- The alarm matches a calendar value. -/
def Alarm.hits (a : Alarm) (v : Nat) : Bool := a.dayHit (civilOf v) && a.timeHit (civilOf v)

/-- Some second of a day's span [lo, hi) matches the time fields. -/
def Alarm.timeIn (a : Alarm) (lo hi : Nat) : Bool :=
  (List.range 1440).any (fun m =>
    cmpField a.mask 1 a.t.minute (m % 60) && cmpField a.mask 2 a.t.hour (m / 60) &&
    (if bitOf a.mask 0 then decide (lo ≤ 60 * m + a.t.second) && decide (60 * m + a.t.second < hi) && decide (a.t.second < 60)
     else decide (max lo (60 * m) < min hi (60 * m + 60))))

/-- Some second of [u, v) matches. -/
def Alarm.hitsSpan (a : Alarm) (u v : Nat) : Bool :=
  decide (u < v) && (List.range ((v - 1) / 86400 + 1 - u / 86400)).any (fun i =>
    let d := u / 86400 + i
    a.dayHit (civilOf (d * 86400)) && a.timeIn (u - d * 86400) (min 86400 (v - d * 86400)))

/-- The settings name a second of the range: compared fields in range, and some date has them. -/
def Alarm.settable (a : Alarm) : Bool :=
  let c := a.t
  let on := bitOf a.mask
  (!on 0 || decide (c.second < 60)) && (!on 1 || decide (c.minute < 60)) && (!on 2 || decide (c.hour < 24)) &&
  (!on 3 || inR 1 31 c.day) && (!on 4 || inR 1 12 c.month) && (!on 5 || inR 2000 2399 c.year) &&
  (List.range 400).any (fun i => (!on 5 || decide (c.year = 2000 + i)) && (List.range 12).any (fun m =>
    (!on 4 || decide (c.month = m + 1)) && (!on 3 || decide (c.day ≤ monthLen (2000 + i) (m + 1)))))

def State.alarm (s : State) (n : Nat) : Alarm := if n = 0 then s.rtc.al0 else s.rtc.al1

def State.setAlarm (s : State) (n : Nat) (a : Alarm) : State :=
  if n = 0 then { s with rtc := { s.rtc with al0 := a } } else { s with rtc := { s.rtc with al1 := a } }

/-! ## Acceptance of adjustments (20 R511 to R514) -/

/-- An adjustment waits for its boundary. -/
def State.pushAdj (s : State) (seq : Nat) (a : Adj) : State :=
  { s with rtc := { s.rtc with waiting := s.rtc.waiting ++ [⟨seq, s.tim.dt, a⟩] } }

/-- RTC_ZONE.ZONE_MIN, signed. -/
def State.zoneMin (s : State) : Int := toSigned 12 (s.fld 0x3010 11 0)

/-- An accepted RTC_FROM_PTP fixes its boundary and its value (R514). -/
def State.ptpSetting (s : State) (seq : Nat) : PtpSet :=
  let w := s.tim.dt / 1000000000 + 1
  ⟨seq, w, (w : Int) - s.tim.utcOfs + 60 * s.zoneMin + (if s.rtc.summer then 3600 else 0) - 946684800⟩

end Sys2Proof.Machine

namespace Sys2Proof

/-- The fields of RTC_READ and of the calendar registers. -/
def Civil.bytes (c : Civil) : List Byte :=
  leBytes 2 c.year ++ [BitVec.ofNat 8 c.month, BitVec.ofNat 8 c.day, BitVec.ofNat 8 c.hour, BitVec.ofNat 8 c.minute,
    BitVec.ofNat 8 c.second]

end Sys2Proof
end

