-- ==== Sys2Proof/Machine/HostAdmin.lean ====
section
/-!
DEFINITION. Sys2Proof/Machine/HostAdmin.lean: the commands of the host (17 Table 17-4): opcodes, headers and the run
states that take them; the commands of the administration, run state and image classes.
-/
namespace Sys2Proof.Machine

/-! ## Opcodes, headers, run states (17 R450, Table 17-4) -/

/-- Opcode and header of a host command; none for every other command of the block. -/
def hostEntry : Instr → Option (Nat × Hdr)
  | .identify h => some (0x00, h)
  | .qpCreate h _ => some (0x01, h)
  | .qpDelete h _ => some (0x02, h)
  | .ringStatus h _ => some (0x03, h)
  | .run h _ => some (0x04, h)
  | .halt h _ _ => some (0x05, h)
  | .setup h _ => some (0x06, h)
  | .challenge h => some (0x07, h)
  | .write h _ _ _ => some (0x10, h)
  | .verify h _ => some (0x11, h)
  | .status h => some (0x12, h)
  | .activate h _ _ => some (0x13, h)
  | .arm h _ _ => some (0x14, h)
  | .disarm h => some (0x15, h)
  | .swapReport h _ _ => some (0x16, h)
  | .edit h _ => some (0x20, h)
  | .read h _ => some (0x21, h)
  | .simulate h _ _ _ => some (0x30, h)
  | .query h _ _ => some (0x31, h)
  | .delta h _ => some (0x40, h)
  | .topology h _ _ => some (0x41, h)
  | .solution h _ => some (0x42, h)
  | .regRead h _ _ => some (0x50, h)
  | .archiveRead h _ _ => some (0x51, h)
  | .trim h _ _ _ _ _ => some (0x52, h)
  | .recRead h _ _ => some (0x60, h)
  | .freeze h => some (0x61, h)
  | .thaw h => some (0x62, h)
  | .recCounts h => some (0x63, h)
  | .update h _ => some (0x70, h)
  | .slotQuery h _ => some (0x71, h)
  | .attest h _ _ => some (0x72, h)
  | .legacyExport h _ _ => some (0x73, h)
  | .identity h => some (0x74, h)
  | .domainSelect h _ => some (0x80, h)
  | .rtcSet h _ => some (0x81, h)
  | .rtcRead h => some (0x82, h)
  | .addHour h => some (0x83, h)
  | .subHour h => some (0x84, h)
  | .alarmSet h _ _ _ _ _ => some (0x85, h)
  | .rtcFromPtp h => some (0x86, h)
  | .rtcTrim h _ => some (0x87, h)
  | .panelUpdate h _ _ _ => some (0x90, h)
  | .mapWrite h _ _ => some (0x91, h)
  | .panelStatus h => some (0x92, h)
  | .setPosition h _ _ => some (0xA0, h)
  | .move h _ _ _ => some (0xA1, h)
  | .home h _ _ => some (0xA2, h)
  | .stop h _ _ => some (0xA3, h)
  | .calibrate h _ _ => some (0xB0, h)
  | .captureRead h _ => some (0xB1, h)
  | .txAn h _ _ => some (0xC0, h)
  | .history h _ => some (0xD0, h)
  | .dormant h _ => some (0xE0, h)
  | .freqMeasure h _ => some (0xE1, h)
  | .echo h _ _ => some (0xF0, h)
  | .outputForce h _ _ _ _ => some (0xF1, h)
  | _ => none

def hostOpc (c : Instr) : Nat := match hostEntry c with
  | some e => e.1
  | none => 0

/-- The run states that take an opcode (Table 17-4, column States). -/
def opcStates (o : Nat) : List Run :=
  if [0x00, 0x01, 0x02, 0x03, 0x12, 0x60, 0x63, 0x82, 0xD0, 0xF0].contains o then [.init, .setup, .run, .halt]
  else if [0x04, 0x52, 0x91, 0xA0, 0xA1, 0xA2, 0xA3, 0xB0, 0xE0].contains o then [.setup, .halt]
  else if [0x05, 0x14, 0x15].contains o then [.run]
  else if [0x06, 0xF1].contains o then [.halt]
  else if o = 0x13 then [.setup]
  else [.setup, .run, .halt]

/-- The opcode is taken in the run state as it stands. -/
def State.takes (s : State) (o : Nat) : Bool := (opcStates o).contains s.mgt.run

/-- Commands that need authorisation (17, Authorised commands). -/
def authorised (o : Nat) : Bool := [0x05, 0x06, 0x13, 0x52, 0xE0, 0xF1].contains o

/-! ## Administration (17 Table 17-4, class 0x0; 16 R419, R420, R426) -/

/-- IDENTIFY: part and ROM revision, run state. -/
def State.identify (s : State) (q : Nat) : State :=
  s.complete q 0 (0x4096 * 65536 + Config.romRev.toNat) (some s.mgt.run.code) []

/-- A stream of the same kind holds a channel or port of the mask. -/
def State.streamBusy (s : State) (kind mask : Nat) : Bool :=
  s.hst.qps.any (fun x => decide (x.kind = kind) && decide (x.mask &&& mask ≠ 0))

/-- QP_CREATE (16 R419). -/
def State.qpCreate (s : State) (q : Nat) (p : QpParam) : State :=
  if (s.qp? p.qpid).isSome || s.hst.deleting.any (fun d => decide (d.2 = p.qpid)) then s.fail q stQpExists
  else if p.qpid = 0 || (decide (p.qpid = 1) && decide (p.kind ≠ 2)) then s.fail q stQpFixed
  else if s.streamBusy p.kind p.mask then s.fail q stStreamBusy
  else (s.addQp (newQp p.qpid p.kind p.sizeLog p.vector p.ien p.sqBase p.cqBase p.mask)).ok q 0

/-- QP_DELETE (16 R420): the pair goes, frames of an ETH_TX stream already fetched are sent; the command completes on
QP00 once every entry fetched from the pair has completed. -/
def State.qpDelete (s : State) (q id : Nat) : State :=
  if id = 0 then s.fail q stQpFixed
  else
    let tx := match s.qp? id with
      | some x => if x.kind = 5 then x.bufs else []
      | none => []
    let m := { s.mgt with held := s.mgt.held.map (fun h => if h.seq = q then { h with qp := 0, fate := 0 } else h) }
    let s1 := ({ s with mgt := m, hst := { s.hst with deleting := s.hst.deleting ++ [(q, id)] } }).deleteQp id
    (tx.foldl (fun (s : State) e => s.sendHost id e) s1).endDeletes

/-- RING_STATUS (16 R426); of a pair that does not exist the counts are free values (DESIGN CHOICE, log entry 3). -/
def State.ringStatus (s : State) (q id : Nat) : State := match s.qp? id with
  | some x => s.complete q 0 (x.size - (x.latched - x.released) + (x.latched - x.fetched) * 2 ^ 32)
      (some (x.fetched - x.posted + (x.posted - x.released) * 2 ^ 32)) []
  | none =>
    let a := s.freshNat
    let b := a.2.freshNat
    b.2.complete q 0 a.1 (some b.1) []

/-- ECHO returns PARAM bytes 0 to 15. -/
def State.echo (s : State) (q lo hi : Nat) : State := s.complete q 0 lo (some hi) []

/-- HISTORY: the 32 newest exclusions of a channel, newest first. -/
def State.history (s : State) (q c : Nat) : State := match ChId.ofNat? c with
  | none => s
  | some i => s.complete q 0 0 none ((((s.chan i).hist.take 32).flatMap (fun h =>
      leBytes 8 h.1 ++ [BitVec.ofNat 8 h.2.1, BitVec.ofNat 8 h.2.2] ++ zeros 6) ++ zeros 512).take 512)

/-! ## Run state (17 R437, R447) -/

/-- RUN: the first failing precondition of Table 17-2, or entry into RUN. A RUN command ends the repetition of R439. -/
def State.runCmd (s0 : State) (q : Nat) (trusted : Bool) : State :=
  let s := { s0 with mgt := { s0.mgt with autorun := false } }
  let st := s.runStatus trusted
  if st = 0 then
    let s1 := s.enterRun
    s1.ok q (hp64 s1.nextHp)
  else (s.runRefused st).fail q st

/-- A challenge is issued and replaces the outstanding one (R447). -/
def State.issueChallenge (s : State) (q : Nat) : State :=
  let r := s.random 16
  let s1 := { r.2 with mgt := { r.2.mgt with chal := some ⟨r.1, r.2.tim.dt⟩ } }
  s1.complete q 0 (leNat (r.1.take 8)) (some (leNat (r.1.drop 8))) []

/-- CHALLENGE: waits while the random number generator fails its tests (18 R473). -/
def State.challengeCmd (s : State) (q : Nat) : State :=
  if s.key.rngFail then { s with key := { s.key with chalWait := s.key.chalWait ++ [q] } } else s.issueChallenge q

/-! ## Images (04 R94 to R96, R100 to R105, R114; 17 class 0x1) -/

/-- Replace bytes of a super, keeping the canonical form. -/
def putBytes (m : SMap Byte) (ofs : Nat) (data : List Byte) : SMap Byte :=
  m.filter (fun p => decide (p.1 < ofs)) ++
  data.zipIdx.filterMap (fun p => if p.1 = 0 then none else some (ofs + p.2, p.1)) ++
  m.filter (fun p => decide (ofs + data.length ≤ p.1))

/-- A VERIFY of the super runs. -/
def State.verifying (s : State) (x : Nat) : Bool := s.key.jobs.any (fun j => match j.work with
  | .verify _ y => decide (x = y)
  | _ => false)

/-- WRITE: the bytes are in the super at completion, which is WRITING from then on (R94). -/
def State.writeImage (s : State) (q x ofs : Nat) (data : List Byte) : State :=
  let u := s.super x
  if u.st = .active then s.fail q stSuperActive
  else if u.st = .armed then s.fail q stSwapPending
  else if 16777216 < ofs + data.length then s.fail q stImageRange
  else if s.verifying x then s.fail q stBusy
  else (s.setSuper x { u with st := .writing, bytes := putBytes u.bytes ofs data }).ok q 0

/-- VERIFY: key work for a super in WRITING; any other state is reported (R94). -/
def State.verifyImage (s : State) (q x : Nat) : State :=
  if (s.super x).st ≠ .writing then s.ok q (s.super x).st.code
  else if s.verifying x then s.fail q stBusy
  else s.pushWork (.verify q x)

/-- The status record of a super (04 Table 4-7). -/
def Super.record (u : Super) : List Byte :=
  let v := u.view
  let e := u.st = .empty
  [BitVec.ofNat 8 u.st.code, BitVec.ofNat 8 u.lastStat, 0, 0] ++ leBytes 4 (if e then 0 else v.image.imageId) ++
    leBytes 4 v.image.epoch ++ leBytes 4 v.image.size ++ v.image.digestPfx

def State.statusCmd (s : State) (q : Nat) : State := s.complete q 0 0 none (s.sup.s0.record ++ s.sup.s1.record)

/-- ARM (R100, R101): staging begins; an image below the minimum epoch makes its super INVALID (R92). -/
def State.armCmd (s : State) (q x hp : Nat) : State :=
  let k := toSigned 64 hp
  let st := s.armStatus x k
  if st = 0 then s.armSwap x k q
  else (if st = stCounterStale then s.invalidate x st else s).fail q st

/-- DISARM (R103). -/
def State.disarmCmd (s : State) (q : Nat) : State := match s.sup.armed with
  | none => s.fail q stSuperState
  | some a => if a.committed then s.fail q stSwapCommitted else (s.dropSwap .loaded stAborted).ok q 0

/-- SWAP_REPORT (R114). -/
def State.swapReportCmd (s : State) (q first bufLen : Nat) : State :=
  let l := (s.sup.report.drop first).take (bufLen / 8)
  s.complete q 0 (s.sup.report.length % 2 ^ 32 + l.length * 2 ^ 32) none
    (l.flatMap (fun p => leBytes 4 p.1 ++ [BitVec.ofNat 8 p.2, 0, 0, 0]))

/-! ## Values (04 R116 to R121; 17 class 0x2) -/

/-- EDIT: in RUN it waits for its boundary, otherwise it is applied at acceptance. -/
def State.editCmd (s : State) (q : Nat) (l : List (Nat × Word)) : State :=
  let r := s.editStatus l
  if r.1 ≠ 0 then s.fail q r.1
  else if s.mgt.run = .run then { s with sup := { s.sup with edits := s.sup.edits ++ [⟨q, r.2⟩] } }
  else (r.2.foldl State.applyItem s).ok q 0

/-- READ: in RUN at the next boundary, otherwise at acceptance. -/
def State.readCmd (s : State) (q : Nat) (pids : List Nat) : State :=
  if pids.any (fun p => (s.valueEntry? p).isNone) then s.fail q stValueUnknown
  else if s.mgt.run = .run then { s with sup := { s.sup with reads := s.sup.reads ++ [⟨q, pids⟩] } }
  else s.doRead ⟨q, pids⟩

end Sys2Proof.Machine
end

