-- ==== Sys2Proof/Machine/HostUnits.lean ====
section
/-!
DEFINITION. Sys2Proof/Machine/HostUnits.lean: the host commands of the station, solver, metering, panel, axis, analogue,
network and clock classes (17 Table 17-4).
-/
namespace Sys2Proof.Machine

/-! ## Stations (10 R299, R303) -/

/-- SIMULATE: forcing or its end takes effect at a snapshot (01 Table 1-7). -/
def State.simulateCmd (s : State) (q n mode : Nat) (buf : List Byte) : State :=
  if (s.stnDefs.find? (fun d => decide (d.stn = n))).isNone then s.fail q stStationUndeclared
  else { s with stn := { s.stn with sims := s.stn.sims ++
    [⟨q, s.tim.dt, n, if mode = 1 then some (buf.take 60) else none⟩] } }

/-- The acquisition DT of an item; a free value when it was never acquired (DESIGN CHOICE, log entry 3). -/
def acqBytes (fresh : Nat) (o : Option Nat) : List Byte := leBytes 8 (match o with
  | some t => t
  | none => Config.free fresh)

/-- The record of one station in QUERY: item, acquisition DT, quality, declared. -/
def State.queryRecord (s : State) (n : Nat) : List Byte :=
  let x := SMap.get dItem s.dist.items (16 * n)
  ((List.range 16).flatMap (fun i => leBytes 4 (SMap.get dWord s.dist.words (16 * n + i)).toNat)) ++
    acqBytes (s.fresh + n) x.acq ++
    [BitVec.ofNat 8 x.q.code, BitVec.ofNat 8 (b2n (s.stnDefs.any (fun d => decide (d.stn = n))))] ++ zeros 6

/-- QUERY: every station from the snapshot last distributed; before the first one its instant is a free value. -/
def State.queryCmd (s : State) (q first count : Nat) : State :=
  (s.spend 4097).complete q 0 (match s.dist.instant with | some t => t | none => Config.free (s.fresh + 4096)) none
    ((List.range count).flatMap (fun i => if first + i < 4096 then s.queryRecord (first + i) else zeros 80))

/-! ## Solver (08 R232, R233; 09 R258, R275; 01 R26) -/

/-- The delta records of a buffer (08 Table 8-8). -/
def deltaRecs (bs : List Byte) : List DeltaRec :=
  let v := View.ofBytes bs
  (List.range (bs.length / 16)).map (fun i => ⟨v.u8 (16 * i), v.u8 (16 * i + 1), v.u32 (16 * i + 4), v.w32 (16 * i + 8)⟩)

/-- The problem of a record is declared. -/
def State.hasProblem (s : State) (p : Nat) : Bool :=
  if p = 1 then s.slv.hyd.defn.isSome else if p = 2 then s.slv.disp.defn.isSome else false

/-- A record applies to its problem. -/
def State.deltaFits (s : State) (r : DeltaRec) : Bool :=
  if r.prob = 1 then (match s.slv.hyd.defn with | some d => d.deltaOk r | none => false)
  else (match s.slv.disp.defn with | some d => d.deltaOk r | none => false)

/-- DELTA: applied whole at the next solve start, or refused. -/
def State.deltaCmd (s : State) (q : Nat) (recs : List Byte) : State :=
  let l := deltaRecs recs
  let h := l.filter (fun r => decide (r.prob = 1))
  let d := l.filter (fun r => decide (r.prob = 2))
  if l.any (fun r => !(s.hasProblem r.prob)) then s.fail q stProblemAbsent
  else if l.any (fun r => !(s.deltaFits r)) then s.fail q stTagUnknown
  else if decide (65536 < s.slv.hyd.deltas.length + h.length) || decide (65536 < s.slv.disp.deltas.length + d.length) then
    s.fail q stStoreFull
  else ({ s with slv := { s.slv with hyd := { s.slv.hyd with deltas := s.slv.hyd.deltas ++ h },
                                     disp := { s.slv.disp with deltas := s.slv.disp.deltas ++ d } } }).ok q 0

/-- TOPOLOGY of the hydraulic problem. -/
def State.hydTopology (s : State) (q : Nat) (v : View) : State := match s.sup.bank with
  | none => s.fail q stProblemAbsent
  | some i =>
    let d := v.hyd
    if s.slv.hyd.defn.isNone then s.fail q stProblemAbsent
    else if v.size ≠ v.wantLen 8 v || !(hydOk v { i with hyd := some d } d) then s.fail q stImageIncompatible
    else if 24576 < s.slv.peak + d.blocks 2 then s.fail q stStoreFull
    else if s.slv.hyd.topo.isSome then s.fail q stBusy
    else { s with slv := { s.slv with hyd := { s.slv.hyd with topo := some (q, d, false) } } }

/-- TOPOLOGY of the dispatch problem. -/
def State.dispTopology (s : State) (q : Nat) (v : View) : State := match s.sup.bank with
  | none => s.fail q stProblemAbsent
  | some i =>
    let d := v.disp
    if s.slv.disp.defn.isNone then s.fail q stProblemAbsent
    else if v.size ≠ v.wantLen 9 v || !(dispOk v { i with disp := some d } d) then s.fail q stImageIncompatible
    else if 24576 < s.slv.peak + d.blocks 2 then s.fail q stStoreFull
    else if s.slv.disp.topo.isSome then s.fail q stBusy
    else { s with slv := { s.slv with disp := { s.slv.disp with topo := some (q, d, false, 0) } } }

/-- TOPOLOGY: the section is built; the command completes when the structure takes effect (R233). -/
def State.topologyCmd (s : State) (q prob : Nat) (sec : List Byte) : State :=
  if prob = 1 then s.hydTopology q (View.ofBytes sec) else s.dispTopology q (View.ofBytes sec)

/-- SOLUTION: a copy of the publication in force. -/
def State.solutionCmd (s : State) (q prob : Nat) : State :=
  if !(s.hasProblem prob) then s.fail q stProblemAbsent
  else
    let p := if prob = 1 then s.slv.hyd.pub else s.slv.disp.pub
    let lim := if prob = 1 then (match s.slv.hyd.defn with | some d => d.reuseLimit | none => 0)
      else (match s.slv.disp.defn with | some d => d.reuseLimit | none => 0)
    s.complete q 0 ((p.quality lim).waiting (!s.runs .slv)).code none
      (((p.status ++ p.vals).flatMap (fun w => leBytes 4 w.toNat) ++ zeros 16384).take 16384)

/-! ## Metering (11 R308, R323, R328) -/

/-- One register in REG_READ; the legacy view of a volume register is not stated: a free value (DESIGN CHOICE, log entry 3). -/
def regRecord (fresh : Nat) (energy : Bool) (h : Honey) : List Byte :=
  leBytes 8 h.val ++ leBytes 4 (if energy then h.legacy else Config.free fresh) ++
    [BitVec.ofNat 8 h.wrap, BitVec.ofNat 8 (if energy then h.lwrap else Config.free (fresh + 1)), 0, 0]

/-- REG_READ: all registers of one system or point from one instant. -/
def State.regReadCmd (s : State) (q kind i : Nat) : State :=
  let known := match s.meter? with
    | some m => if kind = 1 then m.ems.any (fun d => decide (d.em = i)) else m.tms.any (fun d => decide (d.tm = i))
    | none => false
  if !known then s.fail q stMeterUndeclared
  else
    let l := if kind = 1 then SMap.get dEm s.mtr.em i else SMap.get dTm s.mtr.tm i
    (s.spend 12).complete q 0 s.tim.dt none (l.zipIdx.flatMap (fun p => regRecord (s.fresh + 2 * p.2) (decide (kind = 1) || decide (p.2 < 2)) p.1))

/-- ARCHIVE_READ by ARCH_SEQ; the newest record carries the archive's count. -/
def State.archiveReadCmd (s : State) (q first count : Nat) : State :=
  let oldest := s.mtr.archSeq + 1 - s.mtr.arch.length
  if decide (first < oldest) && decide (1 < oldest) then s.fail q stArchiveGone
  else
    let l := (s.mtr.arch.reverse.drop (first - oldest)).take count
    s.complete q 0 l.length none l.flatten

/-! ## Panel (22 R545, R550, R562) -/

def State.panelUpdateCmd (s : State) (q r frameId : Nat) (data : List Byte) : State := match s.panel? with
  | none => s.fail q stPanelAbsent
  | some d =>
    if d.regions.length ≤ r then s.fail q stPanelAbsent
    else if s.pnl.cracked then s.fail q stCracked
    else s.placeFrame q r frameId data

def State.mapWriteCmd (s : State) (q m : Nat) (data : List Byte) : State :=
  if s.panel?.isNone then s.fail q stPanelAbsent else (s.mapWrite m data).ok q 0

def State.panelStatusCmd (s : State) (q : Nat) : State :=
  if s.panel?.isNone then s.fail q stPanelAbsent else s.complete q 0 0 none s.panelStatus

/-! ## Axes (15 R398, R399, R403, R405; 17 R444) -/

/-- SET_POSITION: the axis takes the position and becomes referenced. -/
def State.setPositionCmd (s : State) (q a : Nat) (p : Int) : State :=
  if (s.axDef? a).isNone then s.fail q stAxisUndeclared
  else (s.setAx a { (s.ax a) with pos := p, ref := true }).ok q 0

/-- A host command of an axis replaces the one that runs, which ends with ABORTED (R444). -/
def State.axisCmd (s : State) (q a : Nat) : State :=
  let s1 := s.axDone a stAborted
  s1.setAx a { (s1.ax a) with seq := some q }

/-- MOVE: completes at standstill. -/
def State.moveCmd (s : State) (q a : Nat) (target : Int) (vmax : Nat) : State := match s.axDef? a with
  | none => s.fail q stAxisUndeclared
  | some d =>
    if !(s.ax a).ref then s.fail q stAxisUnreferenced
    else if (s.ax a).moveBad d target vmax then s.fail q stAxisRange
    else (s.axisCmd q a).axMove a d target vmax

/-- HOME: completes at standstill. -/
def State.homeCmd (s : State) (q a : Nat) (p : Int) : State := match s.axDef? a with
  | none => s.fail q stAxisUndeclared
  | some d => (s.axisCmd q a).axHome a d p

/-- STOP: completes at standstill. -/
def State.stopCmd (s : State) (q a : Nat) (disable : Bool) : State := match s.axDef? a with
  | none => s.fail q stAxisUndeclared
  | some d => (s.axisCmd q a).axStop a d disable

/-! ## Analogue inputs (14 R381, R386) -/

def State.calibrateCmd (s : State) (q pair : Nat) (c : CalSums) : State :=
  let s1 := s.calibratePair pair c
  if (s1.adcPair pair).ok then s1.ok q 0 else s1.fail q stCalFailed

/-- CAPTURE_READ: the codes of the last completed interleaved cell and the hold DT of its first result, a free value
before any such cell (DESIGN CHOICE, log entry 3). -/
def State.captureReadCmd (s : State) (q pair : Nat) : State :=
  let p := s.adcPair pair
  (s.spend 1).complete q 0 p.capture.length (some (match p.captureDt with | some t => t | none => Config.free s.fresh))
    ((p.capture.flatMap (fun c => leBytes 2 (ofSigned 16 c)) ++ zeros 8192).take 8192)

/-! ## Network and clocks (13 R370, 02 R47, 19 R488) -/

def State.txAnCmd (s : State) (q port an : Nat) : State := match s.ethDef? port with
  | none => s.fail q stPortDisabled
  | some d =>
    if !d.macsec then s.fail q stMacsecOff
    else { s with eth := { s.eth with txan := s.eth.txan ++ [(q, port, an)] } }

/-- Selections due at a boundary (13 R370). -/
def State.applyTxAn (s : State) : State :=
  s.eth.txan.foldl (fun (s : State) t => ((s.setPort t.2.1 { (s.port t.2.1) with an := t.2.2 }).ethPump t.2.1).ok t.1 0)
    { s with eth := { s.eth with txan := [] } }

/-- DOMAIN_SELECT (02 R47, R48). -/
def State.domainSelectCmd (s : State) (q : Nat) (d : Dom) : State :=
  if (s.tim.domain d).lock then ((s.setActive d).settleTime).ok q 0 else s.fail q stNotLocked

/-- FREQ_MEASURE: the window begins at the next whole second of DT (19 R488). -/
def State.freqMeasureCmd (s : State) (q src : Nat) : State :=
  { s with clk := { s.clk with freqJobs := s.clk.freqJobs ++
    [⟨q, src, (s.tim.dt / 1000000000 + 1) * 1000000000, s.tim.tstate, false, none⟩] } }

/-! ## Calendar (20 R511 to R516) -/

def State.rtcSetCmd (s : State) (q : Nat) (c : Civil) : State :=
  if c.valid then s.pushAdj q (.set c.secs) else s.fail q stInvalidDate

def State.rtcReadCmd (s : State) (q : Nat) : State := s.ok q (leNat (civilOf s.rtc.secs).bytes)

/-- ALARM_SET (R516). -/
def State.alarmSetCmd (s : State) (q n mask policy en : Nat) (c : Civil) : State :=
  let a : Alarm := { (s.alarm n) with en := decide (en = 1), drop := decide (policy = 1), mask := mask, t := c, blocked := none }
  if a.en && !a.settable then s.fail q stInvalidDate else (s.setAlarm n a).ok q 0

/-- RTC_FROM_PTP (R514). -/
def State.rtcFromPtpCmd (s : State) (q : Nat) : State :=
  if s.tim.tstate ≠ .trusted || !s.tim.utcValid then s.fail q stTimeState
  else { s with rtc := { s.rtc with ptp := s.rtc.ptp ++ [s.ptpSetting q] } }

/-- RTC_TRIM (R515): from the next trim period on. -/
def State.rtcTrimCmd (s : State) (q : Nat) (t : Int) : State := ({ s with rtc := { s.rtc with trimNext := some t } }).ok q 0

/-! ## Recorder (21 R531 to R535) -/

def State.recReadCmd (s : State) (q first count : Nat) : State :=
  let l := s.recFrom first count
  (l.foldl State.checkSeal s).complete q 0 l.length none (l.flatMap (fun r => r.bytes))

/-- The queue pair of a held command. -/
def State.qpOf (s : State) (q : Nat) : Nat := match s.held? q with
  | some h => h.qp
  | none => 0

def State.freezeCmd (s : State) (q : Nat) : State :=
  if s.rcd.freeze.isSome then s.fail q stFrozen else (s.freezeAt (s.qpOf q)).ok q 0

def State.thawCmd (s : State) (q : Nat) : State :=
  if s.rcd.freeze.isNone then s.fail q stNotFrozen else (s.thaw false).ok q 0

def State.recCountsCmd (s : State) (q : Nat) : State := s.complete q 0 0 none s.countsRecord

/-! ## Keys (18 R464 to R470) -/

/-- An engine requests slots, for the trace of a denial (18 R459). -/
def State.request (s : State) (eng : Nat) (l : List Nat) : State := l.foldl (fun (s : State) n => (s.keyFor eng n).1) s

/-- UPDATE: one at a time (17 R444). -/
def State.updateCmd (s : State) (q : Nat) (m : List Byte) : State :=
  if s.key.jobs.any (fun j => match j.work with | .update .. => true | _ => false) then s.fail q stBusy
  else s.pushWork (.update q m)

def State.slotQueryCmd (s : State) (q n : Nat) : State := s.complete q 0 0 none (s.slotRecord n)

/-- ATTEST (R469). -/
def State.attestCmd (s : State) (q n : Nat) (nonce : List Byte) : State :=
  if (s.slot n).st ≠ .key then s.fail q stSlotEmpty
  else if (s.slot 0).st = .faulted || (s.slot 1).st = .faulted then (s.request engAttest [0, 1]).fail q stEngineDenied
  else s.pushWork (.attest q n nonce)

/-- The status of a legacy export (R470). -/
def State.exportStatus (s : State) (n w : Nat) : Nat :=
  if (s.slot n).st ≠ .key then stSlotEmpty
  else if !(s.slot n).exportable then stNotExportable
  else if (s.keyPeek engWrap w).isNone then stEngineDenied
  else 0

def State.legacyExportCmd (s : State) (q n w : Nat) : State :=
  let st := s.exportStatus n w
  if st = 0 then s.pushWork (.wrap q n w)
  else (if st = stEngineDenied then s.request engWrap [w] else s).fail q st

def State.identityCmd (s : State) (q : Nat) : State := s.pushWork (.identity q)

end Sys2Proof.Machine
end

