-- ==== Sys2Proof/Machine/Taking.lean ====
section
/-!
DEFINITION. Sys2Proof/Machine/Taking.lean: taking, executing and completing the commands of the host (17 R441 to R446):
hand-over, FENCE, authorisation (R447 to R449), the six authorised commands, the end of key work (18 R471).
-/
namespace Sys2Proof.Machine

/-! ## Authorised commands (17 R447 to R449) -/

/-- The record of an authorised command, CODE 0x0103 (21 Table 21-2). -/
def State.authRecord (s : State) (sev opc status : Nat) : State :=
  s.record sev blkMgt 0x0103 (leBytes 8 s.tim.dt ++ [BitVec.ofNat 8 opc, BitVec.ofNat 8 status])

/-- A refused authorised command: FAULT record, MGT_AUTHFAIL, its completion (R449). -/
def State.refuseAuth (s : State) (q opc status : Nat) : State :=
  let s1 := s.authRecord sevFault opc status
  ({ s1 with mgt := { s1.mgt with authFail := satAdd max32 s1.mgt.authFail 1 } }).fail q status

/-- The image of the ACTIVE super, as the dormant islands use it. -/
def State.activeImage (s : State) : Option Image := s.activeSuper.map (fun x => (s.super x).view.image)

/-- A wake source is usable (19 R496). -/
def State.canWake (s : State) (w : WakeSrc) : Bool := match w with
  | .e4 => (match s.activeImage with | some i => i.eth.any (fun d => decide (d.port = 4) && d.dormEn) | none => false)
  | .c00 => decide (s.fld 0x6010 31 31 = 1) && (match s.activeImage with | some i => (canChDef? i 0).isSome | none => false)
  | .al0 => decide (s.fld 0x2008 0 0 = 1)
  | .al1 => decide (s.fld 0x2008 1 1 = 1)

/-- The failure statuses of an authorised command's row (Table 17-4), 0 when none applies. -/
def State.rowStatus (s : State) : Instr → Nat
  | .activate _ x _ => if (s.super x).st ≠ .loaded then stSuperState else if s.mgt.activate.isSome then stBusy else 0
  | .trim _ e _ _ _ _ => match s.meter? with
    | some m => if m.ems.any (fun d => decide (d.em = e)) then 0 else stMeterUndeclared
    | none => stMeterUndeclared
  | .dormant _ _ => if [WakeSrc.e4, .c00, .al0, .al1].any s.canWake then 0 else stWakeSource
  | _ => 0

/-- HALT (R440). -/
def State.haltDo (s : State) (q hmode : Nat) : State :=
  let r := s.enterHalt hmode
  r.1.ok q (hp64 r.2)

/-- SETUP: HALT ends, and with it every OUTPUT_FORCE; the outputs stay as HALT left them (R440). -/
def State.setupDo (s : State) (q : Nat) : State :=
  let fs := s.mgt.forces
  let s1 := { s with mgt := { s.mgt with run := .setup, forces := [] } }
  let s2 := (s1.pointList.filter (fun x => fs.any (fun f => decide (f.1 = x.1)) && !s1.forced x.2)).foldl
    (fun (s : State) x => s.deliverNow x.2 (SMap.get dWords s.vot.driven x.1)) s1
  s2.ok q 0

/-- TRIM (11 R308). -/
def State.trimDo (s : State) (q e r g d : Nat) : State :=
  ({ s with mtr := { s.mtr with trims := SMap.set dOpt s.mtr.trims (8 * e + r) (some (g, toSigned 16 d)) } }).ok q 0

/-- DORMANT is accepted: its completion, the checkpoint, the open intervals, the panel (19 R496, steps 1 to 4). -/
def State.dormantDo (s : State) (q : Nat) : State :=
  let s1 := s.ok q 0
  let s2 := if s1.mgt.haltDue then s1.haltBoundary false else s1.haltCkpt false
  let s3 := (s2.mtrStop).panelDormant
  { s3 with pwr := { s3.pwr with dormEntry := true } }

/-- OUTPUT_FORCE: the point is driven with the words, or returns to what HALT drives (R440). -/
def State.outputForceDo (s : State) (q n mode : Nat) (ws : List Word) : State :=
  let rest := s.mgt.forces.filter (fun f => f.1 ≠ n)
  let was := s.cmdForced n
  match s.points[n]? with
  | none => s.ok q 0
  | some p =>
    if mode = 1 then
      let w := ws.take p.nwords
      let s1 := { s with mgt := { s.mgt with forces := (n, w) :: rest } }
      (if s.forced p then s1 else s1.deliverNow p w).ok q 0
    else
      let s1 := { s with mgt := { s.mgt with forces := rest } }
      (if was && !s.forced p then s1.deliverNow p (SMap.get dWords s.vot.driven n) else s1).ok q 0

/-- The effect of an authorised command once its checks pass. -/
def State.authDo (s : State) (q : Nat) : Instr → State
  | .halt _ m _ => s.haltDo q m
  | .setup _ _ => s.setupDo q
  | .activate _ x _ => s.activate x q
  | .trim _ e r g d _ => s.trimDo q e r g d
  | .dormant _ _ => s.dormantDo q
  | .outputForce _ p m ws _ => s.outputForceDo q p m ws
  | _ => s

/-- Verification of an authorisation block ends: the run state again, the block, the row's statuses (R441, R449). -/
def State.authEnd (s : State) : State := match s.mgt.auth with
  | none => s
  | some a =>
    let o := hostOpc a.cmd
    let s1 := ({ s with mgt := { s.mgt with auth := none } }).accept a.seq
    let st := s.authStatus a
    if !(s1.takes o) then s1.refuseAuth a.seq o stRunState
    else if st ≠ 0 then (if st = stEngineDenied then s1.request engUpdate [2, 3] else s1).refuseAuth a.seq o st
    else if s1.rowStatus a.cmd ≠ 0 then s1.refuseAuth a.seq o (s1.rowStatus a.cmd)
    else (s1.authRecord sevNotice o 0).authDo a.seq a.cmd

/-- An authorised command is taken: the run state, one at a time, then its block goes to the key island; whatever
happens to it, it consumes the challenge (R441, R444, R447). -/
def State.takeAuth (s0 : State) (q : Nat) (c : Instr) : State :=
  let o := hostOpc c
  let s := { s0 with mgt := { s0.mgt with chal := none } }
  if !(s.takes o) then s.refuseAuth q o stRunState
  else if s.mgt.auth.isSome then s.refuseAuth q o stBusy
  else ({ s with mgt := { s.mgt with auth := some ⟨q, c, s0.mgt.chal⟩ } }).pushWork .auth

/-! ## The effect of every other command (17 Table 17-4) -/

/-- The meaning of a command that needs no authorisation, once its run state is checked. -/
def State.hostDo (s : State) (q : Nat) : Instr → State
  | .identify _ => s.identify q
  | .qpCreate _ p => s.qpCreate q p
  | .qpDelete _ n => s.qpDelete q n
  | .ringStatus _ n => s.ringStatus q n
  | .run _ t => s.runCmd q t
  | .challenge _ => s.challengeCmd q
  | .write _ x o d => s.writeImage q x o d
  | .verify _ x => s.verifyImage q x
  | .status _ => s.statusCmd q
  | .arm _ x k => s.armCmd q x k
  | .disarm _ => s.disarmCmd q
  | .swapReport _ f n => s.swapReportCmd q f n
  | .edit _ l => s.editCmd q l
  | .read _ l => s.readCmd q l
  | .simulate _ n m b => s.simulateCmd q n m b
  | .query _ f n => s.queryCmd q f n
  | .delta _ r => s.deltaCmd q r
  | .topology _ p b => s.topologyCmd q p b
  | .solution _ p => s.solutionCmd q p
  | .regRead _ k i => s.regReadCmd q k i
  | .archiveRead _ f n => s.archiveReadCmd q f n
  | .recRead _ f n => s.recReadCmd q f n
  | .freeze _ => s.freezeCmd q
  | .thaw _ => s.thawCmd q
  | .recCounts _ => s.recCountsCmd q
  | .update _ m => s.updateCmd q m
  | .slotQuery _ n => s.slotQueryCmd q n
  | .attest _ n b => s.attestCmd q n b
  | .legacyExport _ n w => s.legacyExportCmd q n w
  | .identity _ => s.identityCmd q
  | .domainSelect _ d => s.domainSelectCmd q d
  | .rtcSet _ t => s.rtcSetCmd q t
  | .rtcRead _ => s.rtcReadCmd q
  | .addHour _ => s.pushAdj q .addHour
  | .subHour _ => s.pushAdj q .subHour
  | .alarmSet _ n m p e t => s.alarmSetCmd q n m p e t
  | .rtcFromPtp _ => s.rtcFromPtpCmd q
  | .rtcTrim _ t => s.rtcTrimCmd q t
  | .panelUpdate _ r f d => s.panelUpdateCmd q r f d
  | .mapWrite _ m d => s.mapWriteCmd q m d
  | .panelStatus _ => s.panelStatusCmd q
  | .setPosition _ a p => s.setPositionCmd q a p
  | .move _ a t v => s.moveCmd q a t v
  | .home _ a p => s.homeCmd q a p
  | .stop _ a d => s.stopCmd q a (decide (d = 1))
  | .calibrate _ p c => s.calibrateCmd q p c
  | .captureRead _ p => s.captureReadCmd q p
  | .txAn _ p a => s.txAnCmd q p a
  | .history _ c => s.history q c
  | .freqMeasure _ x => s.freqMeasureCmd q x
  | .echo _ a b => s.echo q a b
  | _ => s

/-! ## Fields out of range (16 R433, 17 R450) -/

def byteOk (n : Nat) : Bool := decide (n < 256)

/-- The fields of a date fit their bytes. -/
def civilFits (c : Civil) : Bool :=
  decide (c.year < 65536) && byteOk c.month && byteOk c.day && byteOk c.hour && byteOk c.minute && byteOk c.second

/-- An authorisation block of 3,520 bytes (17 Table 17-3). -/
def blkOk (b : List Byte) : Bool := decide (b.length = 3520)

/-- The parameter block of QP_CREATE (16 Table 16-5): a stream's mask names channels C00 to C55 or ports E0 to E7. -/
def qpFits (p : QpParam) : Bool :=
  decide (p.qpid ≤ 63) && inR 1 5 p.kind && inR 4 16 p.sizeLog && decide (p.vector ≤ 63) &&
  decide (p.sqBase % 4096 = 0) && decide (p.cqBase % 4096 = 0) &&
  (if p.kind = 3 then decide (p.mask < 2 ^ 56) else if p.kind = 4 || p.kind = 5 then decide (p.mask < 256) else decide (p.mask = 0))

/-- The delta records of a buffer: problem 1 or 2, reserved bytes zero (08 Table 8-8). -/
def deltaFit (bs : List Byte) : Bool :=
  decide (bs.length % 16 = 0) && inR 1 65536 (bs.length / 16) &&
  (List.range (bs.length / 16)).all (fun i => inR 1 2 (bs.getD (16 * i) 0).toNat && decide ((bs.drop (16 * i + 2)).take 2 = zeros 2) &&
    decide ((bs.drop (16 * i + 12)).take 4 = zeros 4))

/-- Every field of a command lies in its range; outside it the results are unpredictable (17 R450). -/
def State.paramsOk (s : State) : Instr → Bool
  | .qpCreate _ p => qpFits p
  | .qpDelete _ n => decide (n ≤ 63)
  | .ringStatus _ n => decide (n ≤ 63)
  | .halt _ m b => decide (m ≤ 1) && blkOk b
  | .setup _ b => blkOk b
  | .write _ x o d => decide (x ≤ 1) && decide (o % 16 = 0) && decide (o < 2 ^ 32) && decide (d.length % 16 = 0) && inR 16 1048576 d.length
  | .verify _ x => decide (x ≤ 1)
  | .activate _ x b => decide (x ≤ 1) && blkOk b
  | .arm _ x k => decide (x ≤ 1) && decide (k < 2 ^ 64)
  | .swapReport _ f _ => decide (f < 2 ^ 32)
  | .edit _ l => inR 1 512 l.length && l.all (fun p => decide (p.1 < 2 ^ 32))
  | .read _ l => inR 1 512 l.length && l.all (fun p => decide (p < 2 ^ 32))
  | .simulate _ n m b => decide (n < 4096) && decide (m ≤ 1) && (decide (m = 0) || decide (60 ≤ b.length))
  | .query _ f n => decide (f < 65536) && inR 1 4096 n
  | .delta _ r => deltaFit r
  | .topology _ p _ => inR 1 2 p
  | .solution _ p => inR 1 2 p
  | .regRead _ k i => inR 1 2 k && byteOk i
  | .archiveRead _ f n => decide (f < 2 ^ 32) && inR 1 1024 n
  | .trim _ e r g d b => byteOk e && decide (r ≤ 5) && decide (g < 2 ^ 24) && decide (d < 65536) &&
      decide (-8192 ≤ toSigned 16 d) && decide (toSigned 16 d ≤ 8191) && blkOk b
  | .recRead _ f n => decide (f < 2 ^ 32) && inR 1 1024 n
  | .slotQuery _ n => byteOk n
  | .attest _ n b => byteOk n && decide (b.length = 32)
  | .legacyExport _ n w => byteOk n && byteOk w
  | .rtcSet _ t => civilFits t
  | .alarmSet _ n m p e t => decide (n ≤ 1) && decide (m < 64) && decide (p ≤ 1) && decide (e ≤ 1) && civilFits t
  | .rtcTrim _ t => decide (-2048 ≤ t) && decide (t ≤ 2047)
  | .panelUpdate _ r f d => decide (r ≤ 15) && decide (f < 2 ^ 32) && (match s.panel?.bind (fun x => x.regions[r]?) with
      | some q => decide (q.w * q.h / 2 ≤ d.length)
      | none => true)
  | .mapWrite _ m d => decide (m ≤ 3) && decide (393216 ≤ d.length)
  | .setPosition _ a p => decide (a ≤ 15) && decide (-2147483648 ≤ p) && decide (p ≤ 2147483647)
  | .move _ a t v => decide (a ≤ 15) && decide (-2147483648 ≤ t) && decide (t ≤ 2147483647) && decide (v < 2 ^ 32)
  | .home _ a p => decide (a ≤ 15) && decide (-2147483648 ≤ p) && decide (p ≤ 2147483647)
  | .stop _ a d => decide (a ≤ 15) && decide (d ≤ 1)
  | .calibrate _ p _ => decide (p ≤ 1)
  | .captureRead _ p => decide (p ≤ 1)
  | .txAn _ p a => decide (p ≤ 7) && decide (a ≤ 1)
  | .history _ c => decide (c ≤ 2)
  | .dormant _ b => blkOk b
  | .freqMeasure _ x => decide (x ≤ 9)
  | .echo _ a b => decide (a < 2 ^ 64) && decide (b < 2 ^ 64)
  | .outputForce _ n m ws b => decide (m ≤ 1) && blkOk b && (match s.points[n]? with
      | some p => decide (m = 0) || decide (p.nwords ≤ ws.length)
      | none => false)
  | _ => true

/-! ## Hand-over and FENCE (17 R441, R443; 16 R415, R420) -/

/-- A command is taken: it is held from now on, and its checks begin. -/
def State.takeCmd (s : State) (c : Instr) (h : Hdr) (fate : Nat) : State :=
  let q := s.mgt.seq
  let o := hostOpc c
  let s1 : State := { s with mgt := { s.mgt with seq := q + 1, held := s.mgt.held ++ [⟨q, h.qp, h.cid, o, s.tim.dt, fate⟩] } }
  if authorised o then s1.takeAuth q c else if s1.takes o then s1.hostDo q c else s1.fail q stRunState

/-- An earlier command of the submission queue has not completed. -/
def State.queueBusy (s : State) (qp fate : Nat) : Bool :=
  s.mgt.held.any (fun h => decide (h.qp = qp) && decide (h.fate = fate))

/-- A FENCE-waiting command whose turn has come: its place among those that wait. -/
def State.fenceReady (s : State) : Option (Nat × Nat × Instr) :=
  (s.mgt.fenceWait.zipIdx.find? (fun x =>
    !((s.mgt.fenceWait.take x.2).any (fun y => decide (y.1 = x.1.1))) &&
    (match hostEntry x.1.2 with
     | some e => !e.2.fence || !(s.queueBusy (x.1.1 % 64) (x.1.1 / 64))
     | none => true))).map (fun x => (x.2, x.1.1, x.1.2))

/-- Take one command that waited behind a FENCE. -/
def fenceOnce (s : State) : Option State :=
  if !(s.runs .mgt) then none
  else match s.fenceReady with
    | none => none
    | some (i, tag, c) =>
      let s1 := { s with mgt := { s.mgt with fenceWait := s.mgt.fenceWait.eraseIdx i } }
      match hostEntry c with
      | some e => some (s1.takeCmd c { e.2 with qp := tag % 64 } (tag / 64))
      | none => some s1

/-- Take every command whose FENCE has opened. -/
def State.pumpFence (s : State) : State := iter s.mgt.fenceWait.length fenceOnce s

/-- The next entry handed over comes from this queue pair, and the management island takes it. -/
def State.takeable (s : State) (h : Hdr) : Bool :=
  s.runs .mgt && (match s.hst.handover with | t :: _ => decide (t % 64 = h.qp) | [] => false)

/-- The entry at the head of the hand-over is taken, or waits for its FENCE; of a deleted pair one that must wait never
executes (16 Table 16-13). -/
def State.handOver (s0 : State) (c : Instr) (h : Hdr) : State :=
  let s := s0.pumpFence
  let tag := s.hst.handover.headD 0
  let s1 := { s with hst := { s.hst with handover := s.hst.handover.drop 1 } }
  let waits := s1.mgt.fenceWait.any (fun x => decide (x.1 = tag)) || (h.fence && s1.queueBusy (tag % 64) (tag / 64))
  if !waits then (s1.takeCmd c h (tag / 64)).pumpFence
  else if 128 ≤ tag then s1.endDeletes
  else { s1 with mgt := { s1.mgt with fenceWait := s1.mgt.fenceWait ++ [(tag, c)] } }

/-- A host command: taken when the host island hands it over, unpredictable when its form is wrong (16 R433). -/
def State.hostCommand (s : State) (c : Instr) (h : Hdr) : Host.Outcome State Fault Refusal :=
  if !(s.takeable h) then .next s
  else if h.bad || !(s.paramsOk c) then .fault .hostError
  else .next (let t := s.handOver c h; if t.hst.handover.isEmpty then t.hostServe else t)

/-! ## The end of key work (18 R466, R469, R470; 04 R90, R95) -/

/-- Verification of a super ends. -/
def State.verifyEnd (s : State) (q x : Nat) : State :=
  let v := (s.super x).view
  let st := s.imageStatus v
  let s1 := if st = stEngineDenied then s.request engImage [v.u8 52, v.u8 53] else s
  let u : Super := { (s1.super x) with st := if st = 0 then .loaded else .invalid, lastStat := st }
  ((s1.setSuper x u).raise 4 (x + st * 256)).complete q st u.st.code none []

/-- An update is committed or refused. -/
def State.updateEnd (s : State) (q : Nat) (m : List Byte) : State :=
  let st := s.updStatus m
  if st = 0 then (s.commitUpdate m).ok q 0
  else ((if st = stEngineDenied then s.request engUpdate [2, 3] else s).refuseUpdate m st).fail q st

/-- A legacy export ends; with its precondition gone meanwhile it is ABORTED. -/
def State.wrapEnd (s : State) (q n w : Nat) : State :=
  if s.exportStatus n w ≠ 0 then s.fail q stAborted
  else
    let r := s.random 12
    let x := s.slot n
    let aad := deviceIdBytes ++ [BitVec.ofNat 8 n, BitVec.ofNat 8 x.alg]
    let out := r.1 ++ Config.aesGcmSeal (s.slot w).mat r.1 aad x.mat
    let s1 := r.2.setSlotKey n { x with exported := true }
    (({ s1 with key := { s1.key with exports := satAdd max32 s1.key.exports 1 } }).raiseRec 83 (n + w * 256) sevNotice blkKey).complete
      q 0 0 none ((out ++ zeros 64).take 64)

/-- What the end of a piece of key work does. -/
def State.finishWork (s : State) : KeyWork → State
  | .update q m => s.updateEnd q m
  | .attest q n b => s.complete q 0 0 none (s.statement n b)
  | .wrap q n w => s.wrapEnd q n w
  | .identity q => s.complete q 0 0 none s.identityRecord
  | .verify q x => s.verifyEnd q x
  | .auth => s.authEnd

/-- The operations of the work that is next in turn, over the keys as they now stand (18 Table 18-13). -/
def State.refreshHead (s : State) : State := match s.key.jobs with
  | [] => s
  | j :: js =>
    let o := s.workOps j.work
    { s with fresh := s.fresh + 1, key := { s.key with jobs := { j with ops := o.1, commit := o.2 } :: js } }

/-- Take the first piece of key work that has ended, and end it. -/
def State.endWork (s : State) : Option State := match s.takeJob with
  | none => none
  | some (j, s1) => some ((s1.finishWork j.work).refreshHead)

/-- The instant at which the first piece of key work of the open KEY cell ends, when it fits the cell. -/
def State.workEnd (s : State) : Option Nat := match s.key.jobs, s.key.win with
  | j :: _, some w =>
    if s.key.rngFail && j.work.random then none
    else
      let r := runOps s.keyCyc w.stop j.commit j.ops w.at_
      if r.1.isEmpty then some r.2.floor.toNat else none
  | _, _ => none

/-- End the first piece of work of the open KEY cell, at the instant it ends, when that has come. -/
def keyOnce (s : State) : Option State :=
  if !(s.runs .key) || s.clk.gated || s.keyFree then none
  else match s.workEnd, s.key.jobs, s.key.win with
    | some t, j :: js, some w =>
      if t ≤ s.tim.dt then
        let r := runOps s.keyCyc w.stop j.commit j.ops w.at_
        let s1 := { s with key := { s.key with jobs := js, win := some { w with at_ := r.2 } } }
        some (s1.stamped t (fun s => (s.finishWork j.work).refreshHead))
      else none
    | _, _, _ => none

/-- What the open KEY cell has done by now; a cell that has ended suspends its work (18 R471). -/
def State.keyFlush (s : State) : State :=
  let s1 := iter s.key.jobs.length keyOnce s
  match s1.key.win with
  | some w => if w.stop ≤ s1.tim.dt then s1.suspendJob else s1
  | none => s1

/-- KEY_CELL: 16 cycles of dispatch, then key work while its steps fit (18 R471, 03 Table 3-5). -/
def keyCell (s : State) (e : Nat) : State :=
  s.withCell e (fun r => decide (r = 0x11)) (some .key) (fun x s1 =>
    let s2 := s1.keyFlush.suspendJob
    { s2 with key := { s2.key with win := some ⟨s2.cellEnd x s2.comb.k, (s2.tim.dt : Nat) + 16 * s2.keyCyc⟩ } })

def execKeyCell (e : Nat) (s : State) : Host.Outcome State Fault Refusal := .next (keyCell s e)

/-- The work next in turn is an authorisation block. -/
def State.headAuth (s : State) : Bool := match s.key.jobs with
  | j :: _ => decide (j.work = .auth)
  | [] => false

/-- KEY_WORK_END: key work other than an authorisation block ends. -/
def keyWorkEnd (s : State) : State := if s.headAuth then s else match s.endWork with
  | some s1 => (s1.pumpFence).hostServe
  | none => s

def execKeyWorkEnd (s : State) : Host.Outcome State Fault Refusal := .next (keyWorkEnd s)

/-- AUTH_VERIFICATION_END: the block of the waiting authorised command is verified (17 R449). -/
def authVerificationEnd (s : State) : State := if s.headAuth then (match s.endWork with
  | some s1 => (s1.pumpFence).hostServe
  | none => s) else s

def execAuthVerificationEnd (s : State) : Host.Outcome State Fault Refusal := .next (authVerificationEnd s)

/-- CHALLENGE_EXPIRY: 600 s after its issue the outstanding challenge is gone (17 R447). -/
def challengeExpiry (s : State) : State := match s.mgt.chal with
  | none => s
  | some c =>
    let s1 := s.advanceTo (c.issue + chalNs)
    if c.issue + chalNs ≤ s1.tim.dt then { s1 with mgt := { s1.mgt with chal := none } } else s1

def execChallengeExpiry (s : State) : Host.Outcome State Fault Refusal := .next (challengeExpiry s)

/-- RNG_TESTS_PASS: the health tests pass again; what waited for random numbers goes on (18 R473). -/
def rngTestsPass (s : State) : State :=
  if s.key.rngFail && s.runs .key then
    let s1 := s.keyFlush
    let w := s1.key.win.map (fun w => { w with at_ := max w.at_ (s1.tim.dt : Nat) })
    let s2 := { s1 with key := { s1.key with rngFail := false, chalWait := [], win := w } }
    (s1.key.chalWait.foldl State.issueChallenge s2).pumpFence
  else s

def execRngTestsPass (s : State) : Host.Outcome State Fault Refusal := .next (rngTestsPass s)

/-! ## The commands of Table 17-4 -/

def execIdentify (h : Hdr) (s : State) : Host.Outcome State Fault Refusal :=
  s.hostCommand (.identify h) h

def execQpCreate (h : Hdr) (p : QpParam) (s : State) : Host.Outcome State Fault Refusal :=
  s.hostCommand (.qpCreate h p) h

def execQpDelete (h : Hdr) (qpid : Nat) (s : State) : Host.Outcome State Fault Refusal :=
  s.hostCommand (.qpDelete h qpid) h

def execRingStatus (h : Hdr) (qpid : Nat) (s : State) : Host.Outcome State Fault Refusal :=
  s.hostCommand (.ringStatus h qpid) h

def execRun (h : Hdr) (requireTrusted : Bool) (s : State) : Host.Outcome State Fault Refusal :=
  s.hostCommand (.run h requireTrusted) h

def execHalt (h : Hdr) (hmode : Nat) (blk : List Byte) (s : State) : Host.Outcome State Fault Refusal :=
  s.hostCommand (.halt h hmode blk) h

def execSetup (h : Hdr) (blk : List Byte) (s : State) : Host.Outcome State Fault Refusal :=
  s.hostCommand (.setup h blk) h

def execChallenge (h : Hdr) (s : State) : Host.Outcome State Fault Refusal :=
  s.hostCommand (.challenge h) h

def execWrite (h : Hdr) (super : Nat) (offset : Nat) (data : List Byte) (s : State) : Host.Outcome State Fault Refusal :=
  s.hostCommand (.write h super offset data) h

def execVerify (h : Hdr) (super : Nat) (s : State) : Host.Outcome State Fault Refusal :=
  s.hostCommand (.verify h super) h

def execStatus (h : Hdr) (s : State) : Host.Outcome State Fault Refusal :=
  s.hostCommand (.status h) h

def execActivate (h : Hdr) (super : Nat) (blk : List Byte) (s : State) : Host.Outcome State Fault Refusal :=
  s.hostCommand (.activate h super blk) h

def execArm (h : Hdr) (super : Nat) (hp : Nat) (s : State) : Host.Outcome State Fault Refusal :=
  s.hostCommand (.arm h super hp) h

def execDisarm (h : Hdr) (s : State) : Host.Outcome State Fault Refusal :=
  s.hostCommand (.disarm h) h

def execSwapReport (h : Hdr) (first : Nat) (bufLen : Nat) (s : State) : Host.Outcome State Fault Refusal :=
  s.hostCommand (.swapReport h first bufLen) h

def execEdit (h : Hdr) (edits : List (Nat × Word)) (s : State) : Host.Outcome State Fault Refusal :=
  s.hostCommand (.edit h edits) h

def execRead (h : Hdr) (pids : List Nat) (s : State) : Host.Outcome State Fault Refusal :=
  s.hostCommand (.read h pids) h

def execSimulate (h : Hdr) (stn : Nat) (smode : Nat) (buf : List Byte) (s : State) : Host.Outcome State Fault Refusal :=
  s.hostCommand (.simulate h stn smode buf) h

def execQuery (h : Hdr) (first : Nat) (count : Nat) (s : State) : Host.Outcome State Fault Refusal :=
  s.hostCommand (.query h first count) h

def execDelta (h : Hdr) (recs : List Byte) (s : State) : Host.Outcome State Fault Refusal :=
  s.hostCommand (.delta h recs) h

def execTopology (h : Hdr) (prob : Nat) (section_ : List Byte) (s : State) : Host.Outcome State Fault Refusal :=
  s.hostCommand (.topology h prob section_) h

def execSolution (h : Hdr) (prob : Nat) (s : State) : Host.Outcome State Fault Refusal :=
  s.hostCommand (.solution h prob) h

def execRegRead (h : Hdr) (kind : Nat) (index : Nat) (s : State) : Host.Outcome State Fault Refusal :=
  s.hostCommand (.regRead h kind index) h

def execArchiveRead (h : Hdr) (first : Nat) (count : Nat) (s : State) : Host.Outcome State Fault Refusal :=
  s.hostCommand (.archiveRead h first count) h

def execTrim (h : Hdr) (em : Nat) (role : Nat) (gain : Nat) (delay : Nat) (blk : List Byte) (s : State) : Host.Outcome State Fault Refusal :=
  s.hostCommand (.trim h em role gain delay blk) h

def execRecRead (h : Hdr) (first : Nat) (count : Nat) (s : State) : Host.Outcome State Fault Refusal :=
  s.hostCommand (.recRead h first count) h

def execFreeze (h : Hdr) (s : State) : Host.Outcome State Fault Refusal :=
  s.hostCommand (.freeze h) h

def execThaw (h : Hdr) (s : State) : Host.Outcome State Fault Refusal :=
  s.hostCommand (.thaw h) h

def execRecCounts (h : Hdr) (s : State) : Host.Outcome State Fault Refusal :=
  s.hostCommand (.recCounts h) h

def execUpdate (h : Hdr) (msg : List Byte) (s : State) : Host.Outcome State Fault Refusal :=
  s.hostCommand (.update h msg) h

def execSlotQuery (h : Hdr) (slot : Nat) (s : State) : Host.Outcome State Fault Refusal :=
  s.hostCommand (.slotQuery h slot) h

def execAttest (h : Hdr) (slot : Nat) (nonce : List Byte) (s : State) : Host.Outcome State Fault Refusal :=
  s.hostCommand (.attest h slot nonce) h

def execLegacyExport (h : Hdr) (slot : Nat) (wrapSlot : Nat) (s : State) : Host.Outcome State Fault Refusal :=
  s.hostCommand (.legacyExport h slot wrapSlot) h

def execIdentity (h : Hdr) (s : State) : Host.Outcome State Fault Refusal :=
  s.hostCommand (.identity h) h

def execDomainSelect (h : Hdr) (dom : Dom) (s : State) : Host.Outcome State Fault Refusal :=
  s.hostCommand (.domainSelect h dom) h

def execRtcSet (h : Hdr) (t : Civil) (s : State) : Host.Outcome State Fault Refusal :=
  s.hostCommand (.rtcSet h t) h

def execRtcRead (h : Hdr) (s : State) : Host.Outcome State Fault Refusal :=
  s.hostCommand (.rtcRead h) h

def execAddHour (h : Hdr) (s : State) : Host.Outcome State Fault Refusal :=
  s.hostCommand (.addHour h) h

def execSubHour (h : Hdr) (s : State) : Host.Outcome State Fault Refusal :=
  s.hostCommand (.subHour h) h

def execAlarmSet (h : Hdr) (alarm : Nat) (mask : Nat) (policy : Nat) (en : Nat) (t : Civil) (s : State) : Host.Outcome State Fault Refusal :=
  s.hostCommand (.alarmSet h alarm mask policy en t) h

def execRtcFromPtp (h : Hdr) (s : State) : Host.Outcome State Fault Refusal :=
  s.hostCommand (.rtcFromPtp h) h

def execRtcTrim (h : Hdr) (trim : Int) (s : State) : Host.Outcome State Fault Refusal :=
  s.hostCommand (.rtcTrim h trim) h

def execPanelUpdate (h : Hdr) (region : Nat) (frameId : Nat) (data : List Byte) (s : State) : Host.Outcome State Fault Refusal :=
  s.hostCommand (.panelUpdate h region frameId data) h

def execMapWrite (h : Hdr) (map : Nat) (data : List Byte) (s : State) : Host.Outcome State Fault Refusal :=
  s.hostCommand (.mapWrite h map data) h

def execPanelStatus (h : Hdr) (s : State) : Host.Outcome State Fault Refusal :=
  s.hostCommand (.panelStatus h) h

def execSetPosition (h : Hdr) (ax : Nat) (pos : Int) (s : State) : Host.Outcome State Fault Refusal :=
  s.hostCommand (.setPosition h ax pos) h

def execMove (h : Hdr) (ax : Nat) (target : Int) (vmax : Nat) (s : State) : Host.Outcome State Fault Refusal :=
  s.hostCommand (.move h ax target vmax) h

def execHome (h : Hdr) (ax : Nat) (pos : Int) (s : State) : Host.Outcome State Fault Refusal :=
  s.hostCommand (.home h ax pos) h

def execStop (h : Hdr) (ax : Nat) (disable : Nat) (s : State) : Host.Outcome State Fault Refusal :=
  s.hostCommand (.stop h ax disable) h

def execCalibrate (h : Hdr) (pair : Nat) (cal : CalSums) (s : State) : Host.Outcome State Fault Refusal :=
  s.hostCommand (.calibrate h pair cal) h

def execCaptureRead (h : Hdr) (pair : Nat) (s : State) : Host.Outcome State Fault Refusal :=
  s.hostCommand (.captureRead h pair) h

def execTxAn (h : Hdr) (port : Nat) (an : Nat) (s : State) : Host.Outcome State Fault Refusal :=
  s.hostCommand (.txAn h port an) h

def execHistory (h : Hdr) (ch : Nat) (s : State) : Host.Outcome State Fault Refusal :=
  s.hostCommand (.history h ch) h

def execDormant (h : Hdr) (blk : List Byte) (s : State) : Host.Outcome State Fault Refusal :=
  s.hostCommand (.dormant h blk) h

def execFreqMeasure (h : Hdr) (src : Nat) (s : State) : Host.Outcome State Fault Refusal :=
  s.hostCommand (.freqMeasure h src) h

def execEcho (h : Hdr) (lo : Nat) (hi : Nat) (s : State) : Host.Outcome State Fault Refusal :=
  s.hostCommand (.echo h lo hi) h

def execOutputForce (h : Hdr) (point : Nat) (fmode : Nat) (words : List Word) (blk : List Byte) (s : State) : Host.Outcome State Fault Refusal :=
  s.hostCommand (.outputForce h point fmode words blk) h

end Sys2Proof.Machine
end

