-- ==== Sys2Proof/Machine/Boundary.lean ====
section
/-!
DEFINITION. Sys2Proof/Machine/Boundary.lean: hyperperiod boundaries (01 R15; 03 R54): what falls due there, the
first-lock step (02 R43), AUTORUN (17 R439).
-/
namespace Sys2Proof.Machine

/-! ## The first-lock step (02 R43; 09 R278; 11 R332) -/

/-- Physical waits go on across a step: the DT instants at which they end move with DT. -/
def State.shiftInstants (s : State) (a b : Nat) : State :=
  let f : Nat → Nat := fun n => ((n : Int) + b - a).toNat
  let run : PnlRun → PnlRun := fun u => { u with first := f u.first }
  let ch : CanCh → CanCh := fun c => { c with boffAt := f c.boffAt, recAt := f c.recAt, headSince := f c.headSince }
  let frm : EthFrm → EthFrm := fun x => { x with ready := f x.ready }
  let port : EthPort → EthPort := fun p => { p with freeAt := f p.freeAt, wfp := p.wfp.map frm, hostq := p.hostq.map frm }
  let ax : Ax → Ax := fun x => { x with upd := f x.upd, lead := x.lead.map f, still := f x.still }
  { s with
    rtc := { s.rtc with start := f s.rtc.start }
    pwr := { s.pwr with opsStart := f s.pwr.opsStart }
    pnl := { s.pnl with railAt := f s.pnl.railAt, idleFrom := f s.pnl.idleFrom,
                        regs := s.pnl.regs.map (fun r => { r with run := r.run.map run }) }
    can := { s.can with ch := s.can.ch.map ch }
    eth := { s.eth with ports := s.eth.ports.map port }
    axs := { s.axs with ax := s.axs.ax.map ax } }

/-- Make the step that is due: DT takes the domain clock, metering closes its intervals, and a comb that runs or waits
goes on at the first boundary of the new time. -/
def State.doStep (s : State) : State := match s.tim.stepDue with
  | none => s
  | some d =>
    let t := s.tim.dt
    let s1 := if s.comb.cstate = 2 then s.dispInterrupt else s
    let s2 := s1.stepTo d
    let t' := s2.tim.dt
    let s3 := ((({ s2 with tim := { s2.tim with dt := t } }).mtrStepTime t t').shiftInstants t t')
    let s4 : State := { s3 with tim := { s3.tim with dt := t' } }
    if s4.comb.cstate = 0 then s4
    else
      let running := decide (s4.comb.cstate = 2)
      { s4 with comb := { s4.comb with k := s4.firstHp - 1, gap := running || s4.comb.gap, opened := [] },
                tim := { s4.tim with stepWait := running } }

/-- The step waits for a hyperperiod boundary while the comb runs. -/
def State.atBoundary (s : State) : Bool :=
  decide (s.tim.dt = hpStart s.hNs s.pNs s.comb.k) && s.comb.opened.isEmpty

/-- FIRST_LOCK_STEP: at once while no comb runs; with a comb at a boundary, which makes it otherwise. -/
def firstLockStep (s : State) : State :=
  if s.dtLive && (decide (s.comb.cstate ≠ 2) || s.comb.gap || s.atBoundary) then s.doStep else s

def execFirstLockStep (s : State) : Host.Outcome State Fault Refusal := .next (firstLockStep s)

/-! ## What falls due at a boundary -/

/-- Activities whose end tick has come end; open windows do what still fits before the boundary at `t`. -/
def State.flushTo (s : State) (t : Nat) : State :=
  let s1 := if s.comb.cstate = 2 then s.forChans (fun s i => if (s.chan i).st = .copy then s.runCopy i t else s) else s
  let s2 := ((s1.endTicks t).endStnCellsTo t).endAdcs t
  ((s2.advanceTo t).recFlush).keyFlush

/-- Flags that are kept once per hyperperiod begin anew (03 R80; 14 R384; 18 R459; 21 R529; 22 R550). -/
def State.newHpFlags (s : State) : State :=
  ({ s with
    comb := { s.comb with opened := [], ovrEv := [], ovrHp := s.comb.ovrNow, ovrNow := false }
    adc := { s.adc with evd := [] }
    key := { s.key with denied := [] }
    rcd := { s.rcd with ev97 := false }
    chn := { s.chn with lgeEv := [] } }).panelBoundary

/-- Outvote marks age and the shadow count goes on over a hyperperiod in which a Vote cell ran (05 R134, R147). -/
def Chan.age (c : Chan) : Chan :=
  { c with marks := (c.marks.map (fun n => n + 1)).filter (fun n => decide (n < 16)),
           shadowHp := if c.st = .shadow then c.shadowHp + 1 else c.shadowHp }

def State.ageChannels (s : State) (voted : Bool) : State :=
  let s1 := { s with chn := { s.chn with voted := false } }
  if voted then s1.forChans (fun s i => s.setChan i (s.chan i).age) else s1

/-- A channel that restarted in place resumes voting; attempts under way begin anew (05 R138). -/
def State.resumeRestart (s : State) : State :=
  if ChId.all.any (fun i => (s.chan i).restart && (s.chan i).ready) then
    let s1 := s.forChans (fun s i =>
      let c := s.chan i
      if c.restart && c.ready then s.setChan i { c with restart := false, ready := false, marks := [] }
      else match c.st with
        | .copy | .shadow | .selftest =>
          (s.unstage i).setChan i { c with st := .selftest, stDone := false, stres := 0, copySrc := none, copyBnd := 0, copyInit := false,
                                           copyFinal := false, shadowHp := 0, scan := none, stack := [] }
        | _ => s)
    s1.endForce .restart
  else s

/-- Complete copies become SHADOW, the limit of eight boundaries, the end of the shadow run (05 R144, R147; EV009). -/
def State.channelBoundary (s : State) : State :=
  let run := decide (s.mgt.run = .run)
  s.forChans (fun s i =>
    let c := s.chan i
    match c.st with
    | .shadow =>
      if 4 ≤ c.shadowHp then (s.setChan i { c with st := .voting, shadowHp := 0 }).raiseRec 9 i.num sevNotice blkChn else s
    | .copy => match c.copySrc with
      | some j =>
        if c.copyFinal && decide ((s.chan j).st = .voting) then
          s.setChan i { (c.takeState (s.chan j)) with st := .shadow, shadowHp := 0, copySrc := none, copyBnd := 0, copyFinal := false }
        else if run && decide (7 ≤ c.copyBnd) then s.exclude i causeCopyLimit
        else if run then s.setChan i { c with copyBnd := c.copyBnd + 1 } else s
      | none => s
    | _ => s)

/-- The comb ran no cell before this boundary: the next scan of every task takes its period as its interval (06 R161);
after a step gap every loop is set to RESUME and reports no missed windows (07 Table 7-5). -/
def State.afterGap (s : State) (step : Bool) : State := match s.sup.bank with
  | none => s
  | some img => s.forChans (fun s i =>
      let c := s.chan i
      if c.holdsProgram then
        let ts := (List.range img.logic.tasks.length).foldl (fun (m : SMap TaskRec) t =>
          SMap.set dTask m t { (SMap.get dTask m t) with gap := true }) c.mem.tasks
        let ls := if step then (List.range img.loops.length).foldl (fun (m : SMap Loop) l =>
          SMap.set dLoop m l { (SMap.get dLoop m l) with start := .resume, gap := true }) c.mem.loops else c.mem.loops
        s.setChan i { c with mem := { c.mem with tasks := ts, loops := ls } }
      else s)

/-! ## AUTORUN (17 R439) -/

/-- The management island makes the RUN command itself; BUSY and NO_CHANNEL keep it trying. -/
def State.tryAutorun (s : State) : State :=
  if !s.mgt.autorun || decide (s.mgt.run ≠ .setup) || !(s.runs .mgt) then s
  else
    let st := s.runStatus false
    if st = 0 then s.enterRun
    else if st = stBusy || st = stNoChannel then s
    else ({ (s.runRefused st) with mgt := { (s.runRefused st).mgt with autorun := false } }).unitRec sevFault blkMgt

/-! ## The boundary -/

/-- What every boundary does, with or without a comb: restarts in place resume, islands begin their ramps, caches refill,
association numbers are selected, commands behind a FENCE are taken, the shadow takes DT. -/
def State.everyBoundary (s : State) : State :=
  ((((s.resumeRestart).boundaryRamps).fillChanged).applyTxAn).pumpFence.handShadow

/-- A swap becomes committed at the start of the hyperperiod before it (04 R103). -/
def State.commitSwap (s : State) : State :=
  { s with sup := { s.sup with armed := s.sup.armed.map (fun a => { a with committed := a.committed || decide (a.hp - 1 ≤ s.comb.k) }) } }

/-- A boundary of a comb that runs or waits for it: HALT, the swap or the edits and reads due, channels, the step. -/
def State.combBoundary (s0 : State) : State :=
  let s := s0.flushTo (hpStart s0.hNs s0.pNs (s0.comb.k + 1))
  let was := decide (s.comb.cstate = 2)
  let resume := !was || s.comb.gap
  let voted := s.chn.voted
  let s1 := if s.mgt.haltDue then s.haltBoundary false else s
  let s2 := (({ s1 with comb := { s1.comb with k := s1.comb.k + 1, cstate := if s1.mgt.run = Run.run then 2 else 0, gap := false },
                        tim := { s1.tim with stepWait := false } }).newHpFlags).ageChannels (voted && was)
  if s2.comb.cstate = 0 then ((s2.channelBoundary).everyBoundary)
  else
    let s3 := if resume then s2.afterGap s.tim.stepWait else s2
    let s4 := if resume && !s.tim.stepWait then s3.dispCatchUp else s3
    let s5 := s4.commitSwap
    let s6 := if s5.swapDue then s5.resumeRestart.makeSwap else ((s5.channelBoundary).applyEdits).applyReads
    (s6.everyBoundary).doStep

/-- A boundary of DT with no comb (17 R439; 13 R370). -/
def State.plainBoundary (s : State) : State :=
  let s1 := ((s.flushTo s.nextBoundary).newHpFlags).tryAutorun
  if s1.comb.cstate = 1 then s1.combBoundary else ((s1.channelBoundary).everyBoundary)

/-- HYPERPERIOD_BOUNDARY: DT crosses the next hyperperiod boundary of the image in use. -/
def hyperperiodBoundary (s : State) : State :=
  if !(s.dtLive) || decide (s.hNs = 0) then s
  else if s.comb.cstate = 0 then s.plainBoundary
  else s.combBoundary

def execHyperperiodBoundary (s : State) : Host.Outcome State Fault Refusal := .next (hyperperiodBoundary s)

end Sys2Proof.Machine
end

