-- ==== Sys2Proof/Machine/Logic.lean ====
section
/-!
DEFINITION. Sys2Proof/Machine/Logic.lean: the instructions of the logic engine (06 Table 6-7): the effect of each on
a channel with an open scan, and its meaning over every such channel.
-/
namespace Sys2Proof.Machine

/-- NOP: nothing, one cycle (06 Table 6-7). -/
def Chan.iNop (c : Chan) : Chan := c.retire 1
def execNop (s : State) : Host.Outcome State Fault Refusal := .next (s.lge Chan.iNop)

/-- JMP (06 R177). -/
def Chan.iJmp (offset : Nat) (c : Chan) : Chan := c.jump offset
def execJmp (offset : Nat) (s : State) : Host.Outcome State Fault Refusal := .next (s.lge (Chan.iJmp offset))

/-- JC: jump when BA is 1. -/
def Chan.iJc (offset : Nat) (c : Chan) : Chan := if c.ba then c.jump offset else c.retire 2
def execJc (offset : Nat) (s : State) : Host.Outcome State Fault Refusal := .next (s.lge (Chan.iJc offset))

/-- JNC: jump when BA is 0. -/
def Chan.iJnc (offset : Nat) (c : Chan) : Chan := if c.ba then c.retire 2 else c.jump offset
def execJnc (offset : Nat) (s : State) : Host.Outcome State Fault Refusal := .next (s.lge (Chan.iJnc offset))

/-- LDIX: IX := WA bits 20:0. -/
def Chan.iLdix (c : Chan) : Chan := ({ c with ix := c.wa.setWidth 21 }).retire 1
def execLdix (s : State) : Host.Outcome State Fault Refusal := .next (s.lge Chan.iLdix)

/-- STIX: WA := IX, zero-extended. -/
def Chan.iStix (c : Chan) : Chan := ({ c with wa := c.ix.setWidth 32 }).retire 1
def execStix (s : State) : Host.Outcome State Fault Refusal := .next (s.lge Chan.iStix)

/-- LD: BA := op (06 Table 6-7). -/
def Chan.iLd (op : BitOp) (c : Chan) : Chan := c.logic (fun _ b => b) op
def execLd (op : BitOp) (s : State) : Host.Outcome State Fault Refusal := .next (s.lge (Chan.iLd op))

/-- LDN: BA := not op (06 Table 6-7). -/
def Chan.iLdn (op : BitOp) (c : Chan) : Chan := c.logic (fun _ b => !b) op
def execLdn (op : BitOp) (s : State) : Host.Outcome State Fault Refusal := .next (s.lge (Chan.iLdn op))

/-- AND: BA := BA and op (06 Table 6-7). -/
def Chan.iAnd (op : BitOp) (c : Chan) : Chan := c.logic (fun a b => a && b) op
def execAnd (op : BitOp) (s : State) : Host.Outcome State Fault Refusal := .next (s.lge (Chan.iAnd op))

/-- ANDN: BA := BA and not op (06 Table 6-7). -/
def Chan.iAndn (op : BitOp) (c : Chan) : Chan := c.logic (fun a b => a && !b) op
def execAndn (op : BitOp) (s : State) : Host.Outcome State Fault Refusal := .next (s.lge (Chan.iAndn op))

/-- OR: BA := BA or op (06 Table 6-7). -/
def Chan.iOr (op : BitOp) (c : Chan) : Chan := c.logic (fun a b => a || b) op
def execOr (op : BitOp) (s : State) : Host.Outcome State Fault Refusal := .next (s.lge (Chan.iOr op))

/-- ORN: BA := BA or not op (06 Table 6-7). -/
def Chan.iOrn (op : BitOp) (c : Chan) : Chan := c.logic (fun a b => a || !b) op
def execOrn (op : BitOp) (s : State) : Host.Outcome State Fault Refusal := .next (s.lge (Chan.iOrn op))

/-- XOR: BA := BA xor op (06 Table 6-7). -/
def Chan.iXor (op : BitOp) (c : Chan) : Chan := c.logic (fun a b => a ^^ b) op
def execXor (op : BitOp) (s : State) : Host.Outcome State Fault Refusal := .next (s.lge (Chan.iXor op))

/-- XORN: BA := BA xor not op (06 Table 6-7). -/
def Chan.iXorn (op : BitOp) (c : Chan) : Chan := c.logic (fun a b => a ^^ !b) op
def execXorn (op : BitOp) (s : State) : Host.Outcome State Fault Refusal := .next (s.lge (Chan.iXorn op))

/-- ST: op := BA. -/
def Chan.iSt (op : BitOp) (c : Chan) : Chan := (c.writeBit op c.ba).retire 2
def execSt (op : BitOp) (s : State) : Host.Outcome State Fault Refusal := .next (s.lge (Chan.iSt op))

/-- STN: op := not BA. -/
def Chan.iStn (op : BitOp) (c : Chan) : Chan := (c.writeBit op (!c.ba)).retire 2
def execStn (op : BitOp) (s : State) : Host.Outcome State Fault Refusal := .next (s.lge (Chan.iStn op))

/-- SET: op := 1 when BA is 1. -/
def Chan.iSet (op : BitOp) (c : Chan) : Chan := (if c.ba then c.writeBit op true else c).retire 2
def execSet (op : BitOp) (s : State) : Host.Outcome State Fault Refusal := .next (s.lge (Chan.iSet op))

/-- RST: op := 0 when BA is 1. -/
def Chan.iRst (op : BitOp) (c : Chan) : Chan := (if c.ba then c.writeBit op false else c).retire 2
def execRst (op : BitOp) (s : State) : Host.Outcome State Fault Refusal := .next (s.lge (Chan.iRst op))

/-- NOT: BA := not BA. -/
def Chan.iNot (c : Chan) : Chan := ({ c with ba := !c.ba }).retire 1
def execNot (s : State) : Host.Outcome State Fault Refusal := .next (s.lge Chan.iNot)

/-- SETBA: BA := 1. -/
def Chan.iSetba (c : Chan) : Chan := ({ c with ba := true }).retire 1
def execSetba (s : State) : Host.Outcome State Fault Refusal := .next (s.lge Chan.iSetba)

/-- CLRBA: BA := 0. -/
def Chan.iClrba (c : Chan) : Chan := ({ c with ba := false }).retire 1
def execClrba (s : State) : Host.Outcome State Fault Refusal := .next (s.lge Chan.iClrba)

/-- LDOV: BA := OV. -/
def Chan.iLdov (c : Chan) : Chan := ({ c with ba := c.ov }).retire 1
def execLdov (s : State) : Host.Outcome State Fault Refusal := .next (s.lge Chan.iLdov)

/-- LDDZ: BA := DZ. -/
def Chan.iLddz (c : Chan) : Chan := ({ c with ba := c.dz }).retire 1
def execLddz (s : State) : Host.Outcome State Fault Refusal := .next (s.lge Chan.iLddz)

/-- LDIF: BA := IF. -/
def Chan.iLdif (c : Chan) : Chan := ({ c with ba := c.iff }).retire 1
def execLdif (s : State) : Host.Outcome State Fault Refusal := .next (s.lge Chan.iLdif)

/-- BTOW: WA := BA as 0 or 1. -/
def Chan.iBtow (c : Chan) : Chan := ({ c with wa := if c.ba then 1 else 0 }).retire 1
def execBtow (s : State) : Host.Outcome State Fault Refusal := .next (s.lge Chan.iBtow)

/-- WTOB: BA := 1 when WA is nonzero, otherwise 0. -/
def Chan.iWtob (c : Chan) : Chan := ({ c with ba := decide (c.wa ≠ 0) }).retire 1
def execWtob (s : State) : Host.Outcome State Fault Refusal := .next (s.lge Chan.iWtob)

/-- TBIT: BA := bit BITNO of WA. -/
def Chan.iTbit (bitno : Fin 32) (c : Chan) : Chan := ({ c with ba := c.wa.getLsbD bitno.val }).retire 1
def execTbit (bitno : Fin 32) (s : State) : Host.Outcome State Fault Refusal := .next (s.lge (Chan.iTbit bitno))

/-- SBIT: bit BITNO of WA := BA. -/
def Chan.iSbit (bitno : Fin 32) (c : Chan) : Chan := ({ c with wa := if c.ba then c.wa ||| (1#32 <<< bitno.val) else c.wa &&& ~~~(1#32 <<< bitno.val) }).retire 1
def execSbit (bitno : Fin 32) (s : State) : Host.Outcome State Fault Refusal := .next (s.lge (Chan.iSbit bitno))

/-- LDW: WA := op. -/
def Chan.iLdw (op : WordOp) (c : Chan) : Chan := ({ c with wa := c.readWord op }).retire (2 + op.extra)
def execLdw (op : WordOp) (s : State) : Host.Outcome State Fault Refusal := .next (s.lge (Chan.iLdw op))

/-- STW: op := WA. -/
def Chan.iStw (op : StoreOp) (c : Chan) : Chan := (c.store op c.wa).retire 2
def execStw (op : StoreOp) (s : State) : Host.Outcome State Fault Refusal := .next (s.lge (Chan.iStw op))

/-- LDQ: WA := quality code of the item that holds the operand (06 R168). -/
def Chan.iLdq (a : Nat) (c : Chan) : Chan := ({ c with wa := c.qualityWord a }).retire 4
def execLdq (a : Nat) (s : State) : Host.Outcome State Fault Refusal := .next (s.lge (Chan.iLdq a))

/-- LDAGE: WA := age of the item in µs (06 R168). -/
def Chan.iLdage (a : Nat) (c : Chan) : Chan := ({ c with wa := c.ageWord c.scanTs a }).retire 4
def execLdage (a : Nat) (s : State) : Host.Outcome State Fault Refusal := .next (s.lge (Chan.iLdage a))

/-- ADD: WA := WA + op, saturating (06 R180). -/
def Chan.iAdd (op : WordOp) (c : Chan) : Chan := c.arith (addR) 2 op
def execAdd (op : WordOp) (s : State) : Host.Outcome State Fault Refusal := .next (s.lge (Chan.iAdd op))

/-- SUB: WA := WA − op, saturating (06 R180). -/
def Chan.iSub (op : WordOp) (c : Chan) : Chan := c.arith (subR) 2 op
def execSub (op : WordOp) (s : State) : Host.Outcome State Fault Refusal := .next (s.lge (Chan.iSub op))

/-- MUL: WA := WA × op, saturating (06 R180). -/
def Chan.iMul (op : WordOp) (c : Chan) : Chan := c.arith (mulR) 3 op
def execMul (op : WordOp) (s : State) : Host.Outcome State Fault Refusal := .next (s.lge (Chan.iMul op))

/-- DIV: WA := WA / op, truncating (06 R180). -/
def Chan.iDiv (op : WordOp) (c : Chan) : Chan := c.arith (divR) 18 op
def execDiv (op : WordOp) (s : State) : Host.Outcome State Fault Refusal := .next (s.lge (Chan.iDiv op))

/-- MOD: WA := remainder of WA / op (06 R180). -/
def Chan.iMod (op : WordOp) (c : Chan) : Chan := c.arith (modR) 18 op
def execMod (op : WordOp) (s : State) : Host.Outcome State Fault Refusal := .next (s.lge (Chan.iMod op))

/-- MIN: signed minimum (06 R180). -/
def Chan.iMin (op : WordOp) (c : Chan) : Chan := c.arith (minR) 2 op
def execMin (op : WordOp) (s : State) : Host.Outcome State Fault Refusal := .next (s.lge (Chan.iMin op))

/-- MAX: signed maximum (06 R180). -/
def Chan.iMax (op : WordOp) (c : Chan) : Chan := c.arith (maxR) 2 op
def execMax (op : WordOp) (s : State) : Host.Outcome State Fault Refusal := .next (s.lge (Chan.iMax op))

/-- ANDW: bitwise AND (06 R180). -/
def Chan.iAndw (op : WordOp) (c : Chan) : Chan := c.arith (fun a b => resPlain (a &&& b)) 2 op
def execAndw (op : WordOp) (s : State) : Host.Outcome State Fault Refusal := .next (s.lge (Chan.iAndw op))

/-- ORW: bitwise OR (06 R180). -/
def Chan.iOrw (op : WordOp) (c : Chan) : Chan := c.arith (fun a b => resPlain (a ||| b)) 2 op
def execOrw (op : WordOp) (s : State) : Host.Outcome State Fault Refusal := .next (s.lge (Chan.iOrw op))

/-- XORW: bitwise XOR (06 R180). -/
def Chan.iXorw (op : WordOp) (c : Chan) : Chan := c.arith (fun a b => resPlain (a ^^^ b)) 2 op
def execXorw (op : WordOp) (s : State) : Host.Outcome State Fault Refusal := .next (s.lge (Chan.iXorw op))

/-- SHL: left shift by op mod 32 (06 R180). -/
def Chan.iShl (op : WordOp) (c : Chan) : Chan := c.arith (shlR) 2 op
def execShl (op : WordOp) (s : State) : Host.Outcome State Fault Refusal := .next (s.lge (Chan.iShl op))

/-- SHR: logical right shift by op mod 32 (06 R180). -/
def Chan.iShr (op : WordOp) (c : Chan) : Chan := c.arith (shrR) 2 op
def execShr (op : WordOp) (s : State) : Host.Outcome State Fault Refusal := .next (s.lge (Chan.iShr op))

/-- ASR: arithmetic right shift by op mod 32 (06 R180). -/
def Chan.iAsr (op : WordOp) (c : Chan) : Chan := c.arith (asrR) 2 op
def execAsr (op : WordOp) (s : State) : Host.Outcome State Fault Refusal := .next (s.lge (Chan.iAsr op))

/-- QMUL: WA × op in Q16.16 (06 R180). -/
def Chan.iQmul (op : WordOp) (c : Chan) : Chan := c.arith (qmulR) 4 op
def execQmul (op : WordOp) (s : State) : Host.Outcome State Fault Refusal := .next (s.lge (Chan.iQmul op))

/-- QDIV: WA / op in Q16.16 (06 R180). -/
def Chan.iQdiv (op : WordOp) (c : Chan) : Chan := c.arith (qdivR) 20 op
def execQdiv (op : WordOp) (s : State) : Host.Outcome State Fault Refusal := .next (s.lge (Chan.iQdiv op))

/-- ITOQ: integer to Q16.16, saturating (06 R180). -/
def Chan.iItoq (c : Chan) : Chan := c.unary (itoqR) 1
def execItoq (s : State) : Host.Outcome State Fault Refusal := .next (s.lge Chan.iItoq)

/-- QTOI: Q16.16 to integer, half to even (06 R180). -/
def Chan.iQtoi (c : Chan) : Chan := c.unary (qtoiR) 2
def execQtoi (s : State) : Host.Outcome State Fault Refusal := .next (s.lge Chan.iQtoi)

/-- NEG: signed negation, saturating (06 R180). -/
def Chan.iNeg (c : Chan) : Chan := c.unary (negR) 1
def execNeg (s : State) : Host.Outcome State Fault Refusal := .next (s.lge Chan.iNeg)

/-- ABS: absolute value, saturating (06 R180). -/
def Chan.iAbs (c : Chan) : Chan := c.unary (absR) 1
def execAbs (s : State) : Host.Outcome State Fault Refusal := .next (s.lge Chan.iAbs)

/-- NOTW: bitwise complement (06 R180). -/
def Chan.iNotw (c : Chan) : Chan := c.unary (fun a => resPlain (~~~a)) 1
def execNotw (s : State) : Host.Outcome State Fault Refusal := .next (s.lge Chan.iNotw)

/-- EQ: BA := signed comparison of WA with op. -/
def Chan.iEq (op : WordOp) (c : Chan) : Chan := c.compare (fun a b => decide (a = b)) op
def execEq (op : WordOp) (s : State) : Host.Outcome State Fault Refusal := .next (s.lge (Chan.iEq op))

/-- NE: BA := signed comparison of WA with op. -/
def Chan.iNe (op : WordOp) (c : Chan) : Chan := c.compare (fun a b => decide (a ≠ b)) op
def execNe (op : WordOp) (s : State) : Host.Outcome State Fault Refusal := .next (s.lge (Chan.iNe op))

/-- LT: BA := signed comparison of WA with op. -/
def Chan.iLt (op : WordOp) (c : Chan) : Chan := c.compare (fun a b => decide (a < b)) op
def execLt (op : WordOp) (s : State) : Host.Outcome State Fault Refusal := .next (s.lge (Chan.iLt op))

/-- LE: BA := signed comparison of WA with op. -/
def Chan.iLe (op : WordOp) (c : Chan) : Chan := c.compare (fun a b => decide (a ≤ b)) op
def execLe (op : WordOp) (s : State) : Host.Outcome State Fault Refusal := .next (s.lge (Chan.iLe op))

/-- GT: BA := signed comparison of WA with op. -/
def Chan.iGt (op : WordOp) (c : Chan) : Chan := c.compare (fun a b => decide (a > b)) op
def execGt (op : WordOp) (s : State) : Host.Outcome State Fault Refusal := .next (s.lge (Chan.iGt op))

/-- GE: BA := signed comparison of WA with op. -/
def Chan.iGe (op : WordOp) (c : Chan) : Chan := c.compare (fun a b => decide (a ≥ b)) op
def execGe (op : WordOp) (s : State) : Host.Outcome State Fault Refusal := .next (s.lge (Chan.iGe op))

/-- TON (06 R181). -/
def Chan.iTon (i : Nat) (c : Chan) : Chan := c.runTimer .ton i
def execTon (i : Nat) (s : State) : Host.Outcome State Fault Refusal := .next (s.lge (Chan.iTon i))

/-- TOF (06 R181). -/
def Chan.iTof (i : Nat) (c : Chan) : Chan := c.runTimer .tof i
def execTof (i : Nat) (s : State) : Host.Outcome State Fault Refusal := .next (s.lge (Chan.iTof i))

/-- TP (06 R181). -/
def Chan.iTp (i : Nat) (c : Chan) : Chan := c.runTimer .tp i
def execTp (i : Nat) (s : State) : Host.Outcome State Fault Refusal := .next (s.lge (Chan.iTp i))

/-- TRST: when BA is 1, ET, TT and Q of the timer become 0 (06 R182). -/
def Chan.iTrst (i : Nat) (c : Chan) : Chan := (if c.ba then c.setTimer i ⟨0, false, false⟩ else c).retire 3
def execTrst (i : Nat) (s : State) : Host.Outcome State Fault Refusal := .next (s.lge (Chan.iTrst i))

/-- LDET: WA := ET in ms (06 R182). -/
def Chan.iLdet (i : Nat) (c : Chan) : Chan := ({ c with wa := BitVec.ofNat 32 ((c.timer i).et / 1000) }).retire 3
def execLdet (i : Nat) (s : State) : Host.Outcome State Fault Refusal := .next (s.lge (Chan.iLdet i))

/-- CTU (06 R183). -/
def Chan.iCtu (i : Nat) (c : Chan) : Chan := c.runCounter true i
def execCtu (i : Nat) (s : State) : Host.Outcome State Fault Refusal := .next (s.lge (Chan.iCtu i))

/-- CTD (06 R183). -/
def Chan.iCtd (i : Nat) (c : Chan) : Chan := c.runCounter false i
def execCtd (i : Nat) (s : State) : Host.Outcome State Fault Refusal := .next (s.lge (Chan.iCtd i))

/-- CRST: when BA is 1, CV := 0; Q is unchanged (06 R183). -/
def Chan.iCrst (i : Nat) (c : Chan) : Chan := (if c.ba then c.setCounter i { c.counter i with cv := 0 } else c).retire 3
def execCrst (i : Nat) (s : State) : Host.Outcome State Fault Refusal := .next (s.lge (Chan.iCrst i))

/-- CLD: when BA is 1, CV := WA; Q is unchanged (06 R183). -/
def Chan.iCld (i : Nat) (c : Chan) : Chan := (if c.ba then c.setCounter i { c.counter i with cv := c.wa } else c).retire 3
def execCld (i : Nat) (s : State) : Host.Outcome State Fault Refusal := .next (s.lge (Chan.iCld i))

/-- LDCV: WA := CV. -/
def Chan.iLdcv (i : Nat) (c : Chan) : Chan := ({ c with wa := (c.counter i).cv }).retire 3
def execLdcv (i : Nat) (s : State) : Host.Outcome State Fault Refusal := .next (s.lge (Chan.iLdcv i))

/-- REDGE (06 R184). -/
def Chan.iRedge (i : Nat) (c : Chan) : Chan := c.runEdge true i
def execRedge (i : Nat) (s : State) : Host.Outcome State Fault Refusal := .next (s.lge (Chan.iRedge i))

/-- FEDGE (06 R184). -/
def Chan.iFedge (i : Nat) (c : Chan) : Chan := c.runEdge false i
def execFedge (i : Nat) (s : State) : Host.Outcome State Fault Refusal := .next (s.lge (Chan.iFedge i))

/-- LDWX: WA := op at ADDR + IX; out of range sets IF and gives 0 (06 R178). -/
def Chan.iLdwx (l : Limits) (op : IdxOp) (c : Chan) : Chan :=
  let a := op.base + c.ix.toNat
  (if a < op.limit l then { c with wa := c.readWord (op.at a) } else { c with wa := 0, iff := true }).retire (3 + op.extra)
def execLdwx (op : IdxOp) (s : State) : Host.Outcome State Fault Refusal := .next (s.lge (Chan.iLdwx s.limits op))

/-- STWX: op at ADDR + IX := WA; out of range sets IF and writes nothing (06 R178). -/
def Chan.iStwx (l : Limits) (op : StoreOp) (c : Chan) : Chan :=
  let a := op.base + c.ix.toNat
  (if a < op.limit l then c.store (op.at a) c.wa else { c with iff := true }).retire 3
def execStwx (op : StoreOp) (s : State) : Host.Outcome State Fault Refusal := .next (s.lge (Chan.iStwx s.limits op))

/-- END: the scan completes, stack entries are discarded (06 R162, R176). -/
def execEndScan (s : State) : Host.Outcome State Fault Refusal := .next (s.forChans State.endOne)

/-- AND(: push BA, WA and AND (06 R173, R175). -/
def execAndOpen (s : State) : Host.Outcome State Fault Refusal := .next (s.openAll .and)

/-- OR(: push BA, WA and OR (06 R173, R175). -/
def execOrOpen (s : State) : Host.Outcome State Fault Refusal := .next (s.openAll .or)

/-- XOR(: push BA, WA and XOR (06 R173, R175). -/
def execXorOpen (s : State) : Host.Outcome State Fault Refusal := .next (s.openAll .xor)

/-- ADD(: push BA, WA and ADD (06 R173, R175). -/
def execAddOpen (s : State) : Host.Outcome State Fault Refusal := .next (s.openAll .add)

/-- SUB(: push BA, WA and SUB (06 R173, R175). -/
def execSubOpen (s : State) : Host.Outcome State Fault Refusal := .next (s.openAll .sub)

/-- MUL(: push BA, WA and MUL (06 R173, R175). -/
def execMulOpen (s : State) : Host.Outcome State Fault Refusal := .next (s.openAll .mul)

/-- QMUL(: push BA, WA and QMUL (06 R173, R175). -/
def execQmulOpen (s : State) : Host.Outcome State Fault Refusal := .next (s.openAll .qmul)

/-- ): pop and combine (06 R174, R175). -/
def execCloseParen (s : State) : Host.Outcome State Fault Refusal := .next (s.forChans State.closeOne)

/-! ## One instruction in one channel, as a scan executes it from the program -/

/-- Run one instruction in one channel with an open scan; commands that are no instructions do nothing. -/
def lgeInstr (i : Instr) (ch : ChId) (s : State) : State :=
  match i with
  | .endScan => s.endOne ch
  | .closeParen => s.closeOne ch
  | .andOpen => s.openOne .and ch
  | .orOpen => s.openOne .or ch
  | .xorOpen => s.openOne .xor ch
  | .addOpen => s.openOne .add ch
  | .subOpen => s.openOne .sub ch
  | .mulOpen => s.openOne .mul ch
  | .qmulOpen => s.openOne .qmul ch
  | .ldwx op => s.lgeOne (Chan.iLdwx s.limits op) ch
  | .stwx op => s.lgeOne (Chan.iStwx s.limits op) ch
  | .nop => s.lgeOne Chan.iNop ch
  | .jmp offset => s.lgeOne (Chan.iJmp offset) ch
  | .jc offset => s.lgeOne (Chan.iJc offset) ch
  | .jnc offset => s.lgeOne (Chan.iJnc offset) ch
  | .ldix => s.lgeOne Chan.iLdix ch
  | .stix => s.lgeOne Chan.iStix ch
  | .ld op => s.lgeOne (Chan.iLd op) ch
  | .ldn op => s.lgeOne (Chan.iLdn op) ch
  | .and op => s.lgeOne (Chan.iAnd op) ch
  | .andn op => s.lgeOne (Chan.iAndn op) ch
  | .or op => s.lgeOne (Chan.iOr op) ch
  | .orn op => s.lgeOne (Chan.iOrn op) ch
  | .xor op => s.lgeOne (Chan.iXor op) ch
  | .xorn op => s.lgeOne (Chan.iXorn op) ch
  | .st op => s.lgeOne (Chan.iSt op) ch
  | .stn op => s.lgeOne (Chan.iStn op) ch
  | .set op => s.lgeOne (Chan.iSet op) ch
  | .rst op => s.lgeOne (Chan.iRst op) ch
  | .not => s.lgeOne Chan.iNot ch
  | .setba => s.lgeOne Chan.iSetba ch
  | .clrba => s.lgeOne Chan.iClrba ch
  | .ldov => s.lgeOne Chan.iLdov ch
  | .lddz => s.lgeOne Chan.iLddz ch
  | .ldif => s.lgeOne Chan.iLdif ch
  | .btow => s.lgeOne Chan.iBtow ch
  | .wtob => s.lgeOne Chan.iWtob ch
  | .tbit bitno => s.lgeOne (Chan.iTbit bitno) ch
  | .sbit bitno => s.lgeOne (Chan.iSbit bitno) ch
  | .ldw op => s.lgeOne (Chan.iLdw op) ch
  | .stw op => s.lgeOne (Chan.iStw op) ch
  | .ldq a => s.lgeOne (Chan.iLdq a) ch
  | .ldage a => s.lgeOne (Chan.iLdage a) ch
  | .add op => s.lgeOne (Chan.iAdd op) ch
  | .sub op => s.lgeOne (Chan.iSub op) ch
  | .mul op => s.lgeOne (Chan.iMul op) ch
  | .div op => s.lgeOne (Chan.iDiv op) ch
  | .mod op => s.lgeOne (Chan.iMod op) ch
  | .min op => s.lgeOne (Chan.iMin op) ch
  | .max op => s.lgeOne (Chan.iMax op) ch
  | .andw op => s.lgeOne (Chan.iAndw op) ch
  | .orw op => s.lgeOne (Chan.iOrw op) ch
  | .xorw op => s.lgeOne (Chan.iXorw op) ch
  | .shl op => s.lgeOne (Chan.iShl op) ch
  | .shr op => s.lgeOne (Chan.iShr op) ch
  | .asr op => s.lgeOne (Chan.iAsr op) ch
  | .qmul op => s.lgeOne (Chan.iQmul op) ch
  | .qdiv op => s.lgeOne (Chan.iQdiv op) ch
  | .itoq => s.lgeOne Chan.iItoq ch
  | .qtoi => s.lgeOne Chan.iQtoi ch
  | .neg => s.lgeOne Chan.iNeg ch
  | .abs => s.lgeOne Chan.iAbs ch
  | .notw => s.lgeOne Chan.iNotw ch
  | .eq op => s.lgeOne (Chan.iEq op) ch
  | .ne op => s.lgeOne (Chan.iNe op) ch
  | .lt op => s.lgeOne (Chan.iLt op) ch
  | .le op => s.lgeOne (Chan.iLe op) ch
  | .gt op => s.lgeOne (Chan.iGt op) ch
  | .ge op => s.lgeOne (Chan.iGe op) ch
  | .ton i => s.lgeOne (Chan.iTon i) ch
  | .tof i => s.lgeOne (Chan.iTof i) ch
  | .tp i => s.lgeOne (Chan.iTp i) ch
  | .trst i => s.lgeOne (Chan.iTrst i) ch
  | .ldet i => s.lgeOne (Chan.iLdet i) ch
  | .ctu i => s.lgeOne (Chan.iCtu i) ch
  | .ctd i => s.lgeOne (Chan.iCtd i) ch
  | .crst i => s.lgeOne (Chan.iCrst i) ch
  | .cld i => s.lgeOne (Chan.iCld i) ch
  | .ldcv i => s.lgeOne (Chan.iLdcv i) ch
  | .redge i => s.lgeOne (Chan.iRedge i) ch
  | .fedge i => s.lgeOne (Chan.iFedge i) ch
  | _ => s

end Sys2Proof.Machine
end

