-- ==== Sys2Proof/Machine/Supply.lean ====
section
/-!
DEFINITION. Sys2Proof/Machine/Supply.lean: supplies, power states, starts and resets, start-up, DORMANT, the watchdog
(19 R492 to R503), and what a start finds: the super to run, self-tests, the honey store (04 R97, R98; 05 R154; 11 R322).
-/
namespace Sys2Proof.Machine

/-! ## Power goes (19 R494, R496; Tables 12-5, 13-4) -/

/-- The islands fed from VIN lose their power: DT goes to the shadow, frames and causes of forcing go with them; in OFF the
always-on island stops as well. -/
def State.powerDown (s : State) (p : Power) : State :=
  let s1 := if s.dtLive then s.handShadow else s
  let s2 := (s1.canDormant).portsDormant
  let off := decide (p = .off)
  let s3 := { s2 with
    pwr := { s2.pwr with power := p, dormEntry := false, wakePending := none }
    clk := { s2.clk with foscRun := false, soscRun := s2.clk.soscRun && !off, force := [], wait := [], ramp := [], gated := false,
                         freqJobs := [] }
    mtr := { s2.mtr with honeyOk := s2.mtr.honeyOk && !off } }
  s3.settleTime

/-- The newest record of the recorder. -/
def State.newestRec (s : State) : Option StoredRec := s.rcd.stored.getLast?

/-- The always-on island gets power from OFF: what it retains is lost; operating seconds and the power-cycle count come
from the newest record (19 R499, R501; 20 R510; 21 R536). -/
def State.aonPower (s : State) : State :=
  let b : List Byte := match s.newestRec with | some r => r.bytes | none => []
  let ops := match s.newestRec with | some _ => (leNat ((b.drop 4).take 5) + 1) % 2 ^ 40 | none => 0
  let cyc := leNat ((b.drop 11).take 3)
  let t := { s.tim with dt := dtOrigin, frac := 0, everLocked := false, shadowDt := dtOrigin, shadowNx := 0, shadowNs := 0,
                        shadowMhz := 32000000 }
  let s1 := { s with
    pwr := { s.pwr with ops := ops, opsStart := dtOrigin, pcyc := cyc, vinLoss := 0 }
    clk := { s.clk with mons := List.replicate 8 SrcMon.reset, soscRun := true, soscMhz := 32000000 }
    tim := t
    rtc := Rtc.reset
    regs := []
    mtr := { s.mtr with honeyOk := false } }
  (s1.stagingLost).aonClock

/-! ## A start (19 R498 to R501) -/

/-- Registers that every start but one from OFF keeps (19 Table 19-7; 20 R510). -/
def retainedRegs : List Nat := [0x1000, 0x1004, 0x2004, 0x2008, 0x3010]

/-- Register counters kept by a warm start and a wake. -/
def Chn.counters (c : Chn) : Chn :=
  { Chn.reset with discnt := c.discnt, safecnt := c.safecnt, ckptVoid := c.ckptVoid, lgeScans := c.lgeScans, lgeOvr := c.lgeOvr,
                   lgeStk := c.lgeStk, reqdis := c.reqdis, dlcnt := c.dlcnt, missWin := c.missWin, held := c.held }

/-- A channel at a start: its exclusion history is kept (05 R149). -/
def Chan.start (x : Chan) (cold : Bool) : Chan :=
  let c := { Chan.reset with hist := x.hist, attemptDt := x.attemptDt }
  if cold then c else { c with excl := x.excl, attempts := x.attempts }

/-- The channels at a start: exclusion history and checkpoints are kept (05 R149, R153). -/
def Chn.start (c : Chn) (cold : Bool) : Chn :=
  let b := if cold then Chn.reset else c.counters
  { b with buf0 := c.buf0, buf1 := c.buf1,
           ch := c.ch.map (fun (x : Chan) => x.start cold) }

def Slv.counters (v : Slv) : Slv :=
  { Slv.reset with laneMis := v.laneMis, eccUnc := v.eccUnc, uflow := v.uflow,
                   hyd := { HydSt.reset with pubs := v.hyd.pubs }
                   disp := { DispSt.reset with solves := v.disp.solves, pubs := v.disp.pubs, shifts := v.disp.shifts } }

def Stn.counters (n : Stn) : Stn :=
  { Stn.reset with noans := n.noans, wrfail := n.wrfail, heldCnt := n.heldCnt, late := n.late, undecl := n.undecl, badfrm := n.badfrm,
                   badseq := n.badseq, authfail := n.authfail, simsup := n.simsup }

def CanCh.counters (c : CanCh) : CanCh :=
  { CanCh.reset with txok := c.txok, rxok := c.rxok, late := c.late, retry := c.retry, rxdrop := c.rxdrop, noobj := c.noobj,
                     reject := c.reject, boffcnt := c.boffcnt, lost := c.lost }

def EthPort.counters (p : EthPort) : EthPort :=
  { EthPort.reset with rxok := p.rxok, txok := p.txok, rxerr := p.rxerr, hostdrop := p.hostdrop, dupdisc := p.dupdisc,
                       dupnoent := p.dupnoent, hsrret := p.hsrret, fwd := p.fwd, icv := p.icv, replay := p.replay,
                       untag := p.untag, nosc := p.nosc, nokey := p.nokey, late := p.late }

def AdcConv.counters (a : AdcConv) : AdcConv :=
  { AdcConv.reset with conv := a.conv, miss := a.miss, aborts := a.aborts, urgRun := a.urgRun, urgWait := a.urgWait,
                       urgMerge := a.urgMerge }

/-- The metering island at a start: honey store and archive are kept. -/
def Mtr.start (m : Mtr) (cold : Bool) : Mtr :=
  let n := { Mtr.reset with honeyOk := m.honeyOk, em := m.em, tm := m.tm, wait := m.wait, archSeq := m.archSeq, arch := m.arch }
  if cold then n else { n with satcnt := m.satcnt, lateCnt := m.lateCnt, mergedCnt := m.mergedCnt }

/-- The axes at a start: unreferenced at position 0; the levels of the switches are the plant's (15 R405). -/
def Axs.start (a : Axs) (cold : Bool) : Axs :=
  let n := { Axs.reset with ax := a.ax.map (fun (x : Ax) => { Ax.reset with refSw := x.refSw, limP := x.limP, limN := x.limN }) }
  if cold then n else { n with cmdrej := a.cmdrej, homefail := a.homefail, abrupt := a.abrupt }

def Hst.start (h : Hst) (cold : Bool) : Hst :=
  let n := { Hst.reset with out := h.out }
  if cold then n else { n with evLost := h.evLost, lateRd := h.lateRd, linkDn := h.linkDn, cplDrop := h.cplDrop, lockWr := h.lockWr }

def Mgt.start (m : Mgt) (cold : Bool) : Mgt :=
  let n := { Mgt.reset with seq := m.seq, startWork := true }
  if cold then n else { n with cmdOk := m.cmdOk, cmdFail := m.cmdFail, authFail := m.authFail }

def Key.start (x : Key) (cold : Bool) : Key :=
  let n := { Key.reset with slots := x.slots, counter := x.counter, minEpoch := x.minEpoch }
  if cold then n else { n with updOk := x.updOk, updFail := x.updFail, deny := x.deny, exports := x.exports }

/-- The clocks at a start: XIN1 stays qualified at a warm start and a wake, XIN2 and SOSC run on (19 R500). -/
def Clk.start (c : Clk) (cold : Bool) : Clk :=
  let x1 := if cold then SrcMon.reset else c.mons.getD 0 SrcMon.reset
  { Clk.reset with mons := [x1, c.mons.getD 1 SrcMon.reset] ++ List.replicate 6 SrcMon.reset, foscRun := true, soscRun := c.soscRun,
                   aonSosc := c.aonSosc, soscMhz := 32000000 }

/-- DT and the time domains at a start: DT goes on from the shadow; EVER_LOCKED is cleared by a cold start (02 R51, R52). -/
def Tim.start (t : Tim) (cold : Bool) : Tim :=
  let e := t.everLocked && !cold
  { Tim.reset with dt := t.shadowNow, everLocked := e, tstate := if e then .holdover else .free, shadowDt := t.shadowDt,
                   shadowNx := t.shadowNx, shadowNs := t.shadowNs, shadowMhz := t.shadowMhz }

/-- Supers at a start: an ARMED super becomes LOADED (04 R97). -/
def Sup.start (u : Sup) : Sup :=
  let f : Super → Super := fun x => if x.st = .armed then { x with st := .loaded } else x
  { Sup.reset with s0 := f u.s0, s1 := f u.s1, overlay := u.overlay, report := u.report }

/-- A start of kind `k`: 0 from OFF, 1 PORST_N, 2 VIN return, 3 WARM_N, 4 wake. The device is in SERVICE and INIT from
here; START_UP_COMPLETE ends the sequence of Table 19-8. Commands held are discarded (17 R446). -/
def State.startUp (s : State) (k : Nat) : State :=
  let cold := decide (k ≤ 2)
  let s0 := if k = 0 then s.aonPower else s
  let s1 := if s0.dtLive then (((s0.recFlush).mtrStop).handShadow) else s0
  let s2 := s1.panelStart (decide (k = 0)) cold
  let armed := s2.sup.armed.isSome
  let n : State := {
    pwr := { s2.pwr with power := .service, lastStart := k, dormEntry := false, wakePending := none, wdog := 0, opsHi := 0,
                         pcyc := satAdd (2 ^ 24 - 1) s2.pwr.pcyc 1,
                         wakeSrc := if k = 4 then (match s2.pwr.wakePending with | some .e4 => 1 | some .c00 => 2 | some .al0 => 3 | some .al1 => 4 | none => 0)
                           else 0 }
    clk := s2.clk.start cold
    tim := s2.tim.start cold
    comb := if cold then CombSt.reset else { CombSt.reset with ovrTot := s2.comb.ovrTot, ovr := s2.comb.ovr }
    sup := s2.sup.start
    chn := s2.chn.start cold
    vot := Voter.reset
    hst := s2.hst.start cold
    mgt := s2.mgt.start cold
    rtc := { s2.rtc with waiting := [], ptp := [] }
    rcd := { s2.rcd with win := none, sign := none, freeze := none, keybad := false, ev97 := false, ev99 := false }
    pnl := s2.pnl
    slv := if cold then Slv.reset else s2.slv.counters
    stn := if cold then Stn.reset else s2.stn.counters
    can := if cold then Can.reset else { s2.can with ch := s2.can.ch.map CanCh.counters }
    eth := if cold then Eth.reset else ⟨s2.eth.ports.map EthPort.counters, [], none⟩
    dist := ⟨[], [], none⟩
    mtr := s2.mtr.start cold
    adc := if cold then Adc.reset else { Adc.reset with conv := s2.adc.conv.map AdcConv.counters }
    axs := s2.axs.start cold
    key := s2.key.start cold
    regs := s2.regs.filter (fun p => retainedRegs.contains p.1)
    fresh := s2.fresh
    pending := s2.pending }
  let n1 := if k = 0 then n.raise 165 0 else n
  if armed then n1.unitRec sevNotice blkMgt else n1

/-! ## Supply events (19 R492 to R495, Table 19-5) -/

/-- VIN_PRESENT. -/
def vinPresent (s : State) : State :=
  if s.pwr.vin then s
  else
    let s1 := { s with pwr := { s.pwr with vin := true } }
    match s.pwr.power with
    | .off => s1.startUp 0
    | .dormantLoss => s1.startUp 2
    | .dormantOrderly => if s.pwr.wakePending.isSome then s1.startUp 4 else s1
    | .service => s1

def execVinPresent (s : State) : Host.Outcome State Fault Refusal := .next (vinPresent s)

/-- The loss sequence of VIN in SERVICE (Table 19-4). -/
def State.loseVin (s : State) : State :=
  let s1 := { s with pwr := { s.pwr with vinLoss := satAdd max32 s.pwr.vinLoss 1 } }
  let s2 := ((s1.recFlush).mtrStop).panelVinLoss
  s2.powerDown (if s.pwr.vaux then .dormantLoss else .off)

/-- VIN_LOSS: in DORMANT without VAUX nothing is left to run on. -/
def vinLossEv (s : State) : State :=
  if !s.pwr.vin then s
  else
    let s1 := { s with pwr := { s.pwr with vin := false } }
    match s.pwr.power with
    | .service => s1.loseVin
    | .off => s1
    | _ => if s.pwr.vaux then s1 else s1.powerDown .off

def execVinLoss (s : State) : Host.Outcome State Fault Refusal := .next (vinLossEv s)

/-- VAUX_PRESENT. -/
def vauxPresent (s : State) : State :=
  let s1 := { s with pwr := { s.pwr with vaux := true } }
  if s.pwr.power = .off && !s.pwr.vin then
    ({ s1 with pwr := { s1.pwr with power := .dormantLoss } }).aonPower
  else s1

def execVauxPresent (s : State) : Host.Outcome State Fault Refusal := .next (vauxPresent s)

/-- VAUX_LOSS. -/
def vauxLossEv (s : State) : State :=
  if !s.pwr.vaux then s
  else
    let s1 := { s with pwr := { s.pwr with vaux := false } }
    match s.pwr.power with
    | .service => s1.raise 136 0
    | .off => s1
    | _ => if s.pwr.vin then s1 else s1.powerDown .off

def execVauxLoss (s : State) : Host.Outcome State Fault Refusal := .next (vauxLossEv s)

def State.setVio (s : State) (b : Nat) (v : Bool) : State := { s with pwr := { s.pwr with vio := updAt s.pwr.vio b (fun _ => v) } }

/-- VIO_LOSS: bank VIO(b + 1); EV137 and a FAULT record in SERVICE. -/
def vioLossEv (s : State) (b : Nat) : State :=
  if !(s.pwr.vio.getD b false) then s
  else
    let s1 := s.setVio b false
    if s.inService then s1.raiseRec 137 (2 ^ b) sevFault blkPwr else s1

def execVioLoss (bank : Fin 4) (s : State) : Host.Outcome State Fault Refusal := .next (vioLossEv s bank.val)

/-- The driven levels of a DOUT or PWM ball appear again when its bank is back. -/
def State.redriveBalls (s : State) : State :=
  (s.pointList.filter (fun x => decide (x.2.oclass = 1))).foldl (fun (s : State) x =>
    s.emit (.ball 1 x.2.target ((SMap.get dWords s.vot.driven x.1).getD 0 0))) s

/-- VIO_RESTORE: the balls of bank VIO3 drive again. -/
def vioRestoreEv (s : State) (b : Nat) : State :=
  if s.pwr.vio.getD b false then s
  else
    let s1 := (s.setVio b true).raise 138 (2 ^ b)
    if b = 2 && s.inService then s1.redriveBalls else s1

def execVioRestore (bank : Fin 4) (s : State) : Host.Outcome State Fault Refusal := .next (vioRestoreEv s bank.val)

/-! ## Reset inputs and wakes (19 R497, R498) -/

/-- PORST_N held low: a cold start in SERVICE, and in DORMANT while VIN is present. -/
def porst (s : State) : State :=
  if s.pwr.power = .off || !s.pwr.vin then s else s.startUp 1

def execPorstN (s : State) : Host.Outcome State Fault Refusal := .next (porst s)

/-- WARM_N held low: a warm start in SERVICE. -/
def warm (s : State) : State := if s.inService then s.startUp 3 else s

def execWarmN (s : State) : Host.Outcome State Fault Refusal := .next (warm s)

/-- TRST_N resets boundary scan only (Table 19-6): no state of this model. -/
def trst (s : State) : State := s

def execTrstN (s : State) : Host.Outcome State Fault Refusal := .next (trst s)

/-- A wake source acts in orderly DORMANT: the first one is kept, and the start begins while VIN is present (R497). -/
def State.wakeBy (s : State) (w : WakeSrc) : State :=
  if s.pwr.power ≠ .dormantOrderly then s
  else
    let s1 := { s with pwr := { s.pwr with wakePending := some (s.pwr.wakePending.getD w) } }
    if s1.pwr.vin then s1.startUp 4 else s1

/-- WAKE. -/
def wakeEv (s : State) (w : WakeSrc) : State := if s.canWake w then s.wakeBy w else s

def execWake (src : WakeSrc) (s : State) : Host.Outcome State Fault Refusal := .next (wakeEv s src)

/-- DORMANT_ENTRY_END: DT goes to the shadow and the islands that do not run in DORMANT are switched off (R496, steps 5
and 6). -/
def dormantEntryEnd (s : State) : State :=
  if s.inService && s.pwr.dormEntry then (s.recFlush).powerDown .dormantOrderly else s

def execDormantEntryEnd (s : State) : Host.Outcome State Fault Refusal := .next (dormantEntryEnd s)

/-- OPERATING_SECOND (R501): one more second, while the always-on island is clocked. -/
def operatingSecond (s : State) : State :=
  if s.pwr.power = .off || (s.clk.aonSosc && !s.clk.soscRun) then s
  else
    let s1 := s.advanceTo (s.pwr.opsStart + 1000000000)
    { s1 with pwr := { s1.pwr with ops := (s1.pwr.ops + 1) % 2 ^ 40, opsStart := s1.tim.dt } }

def execOperatingSecond (s : State) : Host.Outcome State Fault Refusal := .next (operatingSecond s)

/-- MANAGEMENT_WATCHDOG_EXPIRY (R502): management and host islands are reset, pairs go as at a link-down, commands held are
discarded, the comb runs on. -/
def watchdogExpiry (s : State) : State :=
  if !s.inService then s
  else
    let s0 := match s.sup.armed with
      | some a => if a.seq.isSome then s.dropSwap .loaded stAborted else s
      | none => s
    let s1 := s0.dropAllQps
    let ev := s1.hst.events.length
    let s2 := { s1 with
      hst := { s1.hst with handover := [], events := [], evLost := satAdd max32 s1.hst.evLost ev, link := false }
      mgt := { s1.mgt with held := [], fenceWait := [], chal := none, auth := none, activate := none }
      sup := { s1.sup with edits := [], reads := [] }
      slv := { s1.slv with hyd := { s1.slv.hyd with topo := none }, disp := { s1.slv.disp with topo := none } }
      pnl := { s1.pnl with regs := s1.pnl.regs.map (fun (x : PnlRegSt) => { x with pend := none }) }
      key := { s1.key with jobs := [], chalWait := [] }
      clk := { s1.clk with freqJobs := [] }
      eth := { s1.eth with txan := [] }
      rtc := { s1.rtc with waiting := [], ptp := [] }
      stn := { s1.stn with sims := [] }
      pwr := { s1.pwr with wdog := satAdd max32 s1.pwr.wdog 1 } }
    (s2.setReg 0x34 0).raiseRec 139 0 sevFault blkPwr

def execManagementWatchdogExpiry (s : State) : Host.Outcome State Fault Refusal := .next (watchdogExpiry s)

/-! ## Start-up (19 R500, Table 19-8) -/

/-- Steps 3 and 4: sources that have qualified in time; an unqualified XIN1 puts the PLLs on FOSC, and the islands of an
unqualified PLL wait. -/
def State.startClocks (s : State) (unqual : List ClkSrc) : State :=
  let l : List ClkSrc := [.xin1, .xin2, .plla, .pllb, .pllc, .pllSlv, .pllNet, .pllAux]
  let s1 := l.foldl (fun (s : State) (c : ClkSrc) =>
    if unqual.contains c || s.qualified c then s
    else (s.raise 129 c.code).setMon c.code ⟨true, (s.mon c.code).failed, 0, 0⟩) s
  let s2 := if s1.qualified .xin1 then s1 else s1.setPllref true
  let out := (l.filter (fun (c : ClkSrc) => !(s2.qualified c))).flatMap (fun (c : ClkSrc) => c.islands)
  let ch := out.filter (fun (i : Island) => i.chan?.isSome)
  let s3 := s2.gate (out.filter (fun (i : Island) => i.chan?.isNone))
  let s4 := { s3 with clk := { s3.clk with wait := s3.clk.wait ++ ch } }
  ((ch.foldl (fun (s : State) (i : Island) => s.raise 130 i.code) s4).keyClock).aonClock

/-- Step 5: slots that fail their integrity check (18 R474). -/
def State.startSlots (s : State) (l : List Nat) : State :=
  let s1 := l.foldl (fun (s : State) n =>
    if n < 256 && decide ((s.slot n).st ≠ .empty) then
      (((s.setSlotKey n { (s.slot n) with st := .faulted }).raiseRec 82 n sevCritical blkKey).raise 0 blkKey)
    else s) s
  { s1 with key := { s1.key with ready := true } }

/-- The super to run (04 R97). -/
def State.chosenSuper (s : State) : Option Nat :=
  let named : Option Nat := match s.newestCkpt with
    | none => none
    | some k =>
      let u := s.super k.super
      if (u.st = .active || u.st = .loaded) && u.view.image.digestPfx = k.digestPfx then some k.super else none
  match named with
  | some x => some x
  | none => s.activeSuper

/-- The chosen super becomes ACTIVE, the one before it LOADED; an overlay goes with its super (04 R97, R120). -/
def State.chooseSuper (s : State) : State := match s.chosenSuper with
  | none => s
  | some x =>
    if s.activeSuper = some x then s
    else
      let s1 := match s.activeSuper with
        | some y => s.superTo y .loaded
        | none => s
      let s2 := s1.superTo x .active
      { s2 with sup := { s2.sup with overlay := [] } }

/-- Step 6: the ACTIVE super is verified in full (04 R98). -/
def State.startVerify (s : State) : State := match s.activeSuper with
  | none => s
  | some x =>
    let v := (s.super x).view
    let st := s.imageStatus v
    let s1 := if st = stEngineDenied then s.request engImage [v.u8 52, v.u8 53] else s
    let s2 := s1.raise 4 (x + st * 256)
    if st = 0 then s2.setSuper x { (s2.super x) with lastStat := 0 }
    else (s2.invalidate x st).critical blkMgt

/-- A channel after its self-test at a start (05 R154): VOTING, or EXCLUDED; a channel without its clock cannot pass. -/
def State.startChannel (s : State) (i : ChId) (passed : Nat) : State :=
  let dead := !(s.qualified i.island.src)
  let good := decide (passed % 16 = 15) && !dead
  let c := { (s.chan i) with stres := passed % 16, stDone := true, clkFail := dead }
  if good then s.setChan i { c with st := .voting }
  else (s.setChan i { c with st := .selftest }).exclude i (if dead then causeClock else causeSelftest)

/-- Step 7: the image is loaded, its structures are built, channels and pairs are tested (05 R154; 08 R245; 14 R386). -/
def State.startUnits (s : State) (res : StartResult) : State :=
  let s1 := match s.activeSuper with
    | some x =>
      let i := (s.super x).view.image
      let t := s.loadImage i
      let t1 := { t with mgt := { t.mgt with solverBuild := false, autorun := i.autorun } }
      if i.hyd.isSome then t1.raise 24 1 else t1
    | none => s
  let s2 := s1.forChans (fun s i => s.startChannel i (res.selfTest.get i))
  let s3 := if s2.votingCount = 0 then s2.unitRec sevCritical blkChn else s2
  (List.range 2).foldl (fun (s : State) q => match res.cal[q]? with
    | some c => s.calibratePair q c
    | none => s) s3

/-- Registers and wrap counters of the newest record of an owner in the archive; zero when there is none (11 R322). -/
def restoredRegs (arch : List (List Byte)) (kind index n regs wraps : Nat) : List Honey :=
  match arch.find? (fun r => decide ((r.getD 0 0).toNat = kind) && decide ((r.getD 1 0).toNat = index)) with
  | none => List.replicate n dHoney
  | some r => (List.range n).map (fun j => ⟨leNat ((r.drop (regs + 8 * j)).take 8) * 2 ^ 32, (r.getD (wraps + j) 0).toNat⟩)

/-- The honey store did not survive: its registers come from the archive (11 R322). -/
def State.startHoney (s : State) : State :=
  if s.mtr.honeyOk then s
  else
    let em := (List.range 8).foldl (fun (m : SMap (List Honey)) e => SMap.set dEm m e (restoredRegs s.mtr.arch 1 e 6 80 136)) []
    let tm := (List.range 128).foldl (fun (m : SMap (List Honey)) t => SMap.set dTm m t (restoredRegs s.mtr.arch 2 t 4 64 112)) []
    ({ s with mtr := { s.mtr with honeyOk := true, honeyLost := true, em := em, tm := tm, wait := [] } }).critical blkMtr

/-- Step 8: SETUP, with the start record (CODE 0x0100), metering and the panel begin, AUTORUN is tried. -/
def State.startEnd (s : State) : State :=
  let off := decide (s.pwr.lastStart = 0)
  let s1 := { s with mgt := { s.mgt with run := .setup, startWork := false } }
  let s2 := s1.record sevNotice blkPwr 0x0100 (leBytes 8 s1.tim.dt ++ [BitVec.ofNat 8 s1.pwr.lastStart, BitVec.ofNat 8 (b2n off)])
  (((s2.mtrClock).panelPump).stnCounts).tryAutorun

/-- START_UP_COMPLETE: steps 3 to 8 end with what they found. -/
def startUpComplete (s : State) (res : StartResult) : State :=
  if s.inService && decide (s.mgt.run = .init) && s.mgt.startWork then
    let s1 := ((s.startClocks res.unqual).startSlots res.faulted).chooseSuper.startVerify
    ((s1.startUnits res).startHoney).startEnd
  else s

def execStartUpComplete (res : StartResult) (s : State) : Host.Outcome State Fault Refusal := .next (startUpComplete s res)

end Sys2Proof.Machine
end

