-- ==== Sys2Proof/Machine/Rtc.lean ====
section
/-!
DEFINITION. Sys2Proof/Machine/Rtc.lean: the calendar's seconds (20 R509, R512 to R520), alarms, and the requests a dormant
device answers (13 R371, 12 R353, 21 R533).
-/
namespace Sys2Proof.Machine

/-! ## Seconds (20 R509) -/

/-- Duration of one source cycle of the always-on island in ns. -/
def State.aonCycle (s : State) : Rat :=
  if s.clk.aonSosc then (1000000000000 : Rat) / (max 1 s.clk.soscMhz : Nat) else (30517578125 : Rat) / 1000000

/-- Source cycles of the second under way. -/
def State.secondCycles (s : State) : Nat :=
  if s.clk.aonSosc then (s.clk.soscMhz + 500) / 1000
  else if s.rtc.trimSec = 63 then ((32768 : Int) + s.rtc.trim).toNat else 32768

/-- DT at which the second under way ends. -/
def State.secondEnd (s : State) : Nat := s.rtc.start + ((s.secondCycles : Rat) * s.aonCycle).floor.toNat

/-- The calendar counts: the always-on island is powered and clocked. -/
def State.calendarRuns (s : State) : Bool := decide (s.pwr.power ≠ .off) && !s.rtc.stopped

/-! ## Adjustments at a boundary (20 R512 to R514) -/

/-- What one item of a boundary does to the value, without bringing it into the range. -/
inductive CalItem where
  | set (secs : Int)
  | ptp (secs : Int)
  | add
  | sub
  deriving DecidableEq, Repr

def Adj.item : Adj → CalItem
  | .set n => .set n
  | .addHour => .add
  | .subHour => .sub

/-- Kinds of EV163. -/
def CalItem.code : CalItem → Nat
  | .set _ => 1
  | .add => 2
  | .sub => 3
  | .ptp _ => 4

/-- Insert an item in the order of acceptance. -/
def insertItem (x : Nat × CalItem) : List (Nat × CalItem) → List (Nat × CalItem)
  | [] => [x]
  | y :: ys => if x.1 ≤ y.1 then x :: y :: ys else y :: insertItem x ys

/-- The items of a boundary at DT `t` in their order of acceptance, with their commands. -/
def Rtc.items (r : Rtc) (t : Nat) : List (Nat × CalItem) :=
  let a := (r.waiting.filter (fun w => decide (w.acc < t))).map (fun w => (w.seq, w.adj.item))
  let p := (r.ptp.filter (fun w => decide (w.w * 1000000000 ≤ t))).map (fun w => (w.seq, CalItem.ptp w.secs))
  (a ++ p).foldr insertItem []

/-- The value a boundary leads to, taken modulo the range after each item, and whether it left the range. -/
structure CalMove where
  v : Int
  rolled : Bool
  back : Bool
  summer : Bool
  osf : Bool
  deriving DecidableEq, Repr

def CalItem.apply (i : CalItem) (m : CalMove) : CalMove :=
  let u : Int := match i with
    | .set n => n
    | .ptp n => n
    | .add => m.v + 3600
    | .sub => m.v - 3600
  let out := decide (u < 0) || decide ((rangeSecs : Int) ≤ u)
  { v := u % (rangeSecs : Int)
    rolled := m.rolled || out
    back := decide (u < m.v)
    summer := match i with
      | .add => true
      | .sub => false
      | _ => m.summer
    osf := match i with
      | .set _ | .ptp _ => false
      | _ => m.osf }

/-! ## Alarms (20 R517 to R519) -/

/-- A backward adjustment blocks an alarm that last fired inside the repeated span; a second at or above the release value
releases it. -/
def Alarm.settle (a : Alarm) (back rolled : Bool) (u v : Nat) : Alarm :=
  let b := if rolled then none
    else if back then (match a.lastFire with
      | some f => if v ≤ f && decide (f < u) then some (match a.blocked with | some r => max r u | none => u) else a.blocked
      | none => a.blocked)
    else a.blocked
  { a with blocked := match b with
      | some r => if r ≤ v then none else some r
      | none => none }

/-- Alarm `n` at the start of the second of value `v`; `u` is v_old when a span was skipped (R518). -/
def State.alarmAt (s : State) (n : Nat) (span : Option Nat) (v : Nat) : State :=
  let a := s.alarm n
  if !a.en then s
  else
    let hit := a.hits v
    let skip := match span with | some u => a.hitsSpan u v | none => false
    let s1 := if skip && a.drop then
        (s.setAlarm n { a with skipped := satAdd max16 a.skipped 1 }).raiseRec 162 n sevNotice blkRtc
      else s
    if a.blocked.isNone && (hit || (skip && !a.drop)) then
      let b := s1.alarm n
      let s2 := s1.setAlarm n { b with fired := satAdd max16 b.fired 1, lastFire := some v }
      ({ s2 with rtc := { s2.rtc with al0f := s2.rtc.al0f || decide (n = 0), al1f := s2.rtc.al1f || decide (n = 1) } }).raise
        (160 + n) (b2n (skip && !a.drop))
    else s1

/-- An alarm fired in this second with its bit set in PWR_WAKECFG wakes a dormant device (R517). -/
def State.alarmWake (s old : State) : State :=
  let f : Nat → Bool := fun n => decide ((old.alarm n).fired ≠ (s.alarm n).fired) || decide ((old.alarm n).lastFire ≠ (s.alarm n).lastFire)
  let s1 := if f 0 && s.canWake .al0 then s.wakeBy .al0 else s
  if f 1 && s.canWake .al1 && decide (s1.pwr.power ≠ .service) then s1.wakeBy .al1 else s1

/-! ## The boundary of a second -/

/-- The rollover of the range (20 R520). -/
def State.rollover (s : State) : State :=
  (({ s with rtc := { s.rtc with range := true } }).raiseRec 164 0 sevCritical blkRtc).raise 0 blkRtc

/-- The next second begins at DT `t`: v_old, the adjustments that wait for it, rollover, alarms. -/
def State.beginSecond (s0 : State) (t : Nat) : State :=
  let s := s0.advanceTo t
  let r := s.rtc
  let n := r.secs + 1
  let u := if n = rangeSecs then 0 else n
  let items := r.items t
  let m := items.foldl (fun m x => x.2.apply m) ⟨(u : Int), decide (n = rangeSecs), false, r.summer, r.osf⟩
  let v := m.v.toNat
  let back := decide (v < u) && !m.rolled
  let period := r.trimSec = 63
  let keep : List (Nat × CalItem) → Nat → Bool := fun l q => !(l.any (fun x => decide (x.1 = q)))
  let s1 : State := { s with rtc := { r with
    secs := v, start := t, summer := m.summer, osf := m.osf
    trimSec := (r.trimSec + 1) % 64
    trim := if period then r.trimNext.getD r.trim else r.trim
    trimNext := if period then none else r.trimNext
    waiting := r.waiting.filter (fun w => keep items w.seq)
    ptp := r.ptp.filter (fun w => keep items w.seq)
    adj := if items.isEmpty then r.adj else satAdd max32 r.adj 1
    al0 := r.al0.settle back m.rolled u v
    al1 := r.al1.settle back m.rolled u v } }
  let code := match items with
    | [x] => x.2.code
    | _ => 5
  let dir := if m.rolled then (match items with | [(_, .sub)] => true | _ => false) else back
  let s2 := if items.isEmpty then s1 else s1.raiseRec 163 (code + b2n dir * 256) sevNotice blkRtc
  let s3 := if m.rolled then s2.rollover else s2
  let span := if !items.isEmpty && !m.rolled && decide (u < v) then some u else none
  let s4 := (s3.alarmAt 0 span v).alarmAt 1 span v
  let s5 := items.foldl (fun (s : State) x => s.ok x.1 0) s4
  s5.alarmWake s3

/-- The earliest instant at which an accepted RTC_FROM_PTP applies. -/
def Rtc.ptpAt (r : Rtc) : Option Nat := (r.ptp.map (fun p => p.w * 1000000000)).min?

/-- RTC_SECOND_BOUNDARY: the second under way ends; a setting from PTP that applies earlier ends it there (R514). -/
def rtcSecondBoundary (s : State) : State :=
  if !s.calendarRuns then s
  else
    let e := max s.tim.dt s.secondEnd
    match s.rtc.ptpAt with
    | some w => s.beginSecond (max s.tim.dt (min e w))
    | none => s.beginSecond e

def execRtcSecondBoundary (s : State) : Host.Outcome State Fault Refusal := .next (rtcSecondBoundary s)

/-- PTP_SETTING_APPLY: at DT w the second counter restarts with the computed value; a second that ends before is counted
first. -/
def ptpSettingApply (s : State) : State := match s.rtc.ptpAt with
  | none => s
  | some w =>
    if !s.calendarRuns then s
    else
      let s1 := if s.secondEnd < w && decide (s.tim.dt ≤ s.secondEnd) then s.beginSecond s.secondEnd else s
      s1.beginSecond (max s1.tim.dt w)

def execPtpSettingApply (s : State) : Host.Outcome State Fault Refusal := .next (ptpSettingApply s)

/-- RTC_CAL0_READ latches RTC_CAL1 and RTC_SUB (20 R524). -/
def rtcCal0Read (s : State) : State :=
  if !s.barOk then s else
  let c := civilOf s.rtc.secs
  let sub := ((((s.tim.dt - s.rtc.start : Nat) : Rat) / s.aonCycle).floor.toNat) % 65536
  { s with rtc := { s.rtc with cal1 := weekday s.rtc.secs * 2 ^ 24 + c.hour * 2 ^ 16 + c.minute * 2 ^ 8 + c.second, sub := sub } }

def execRtcCal0Read (s : State) : Host.Outcome State Fault Refusal := .next (rtcCal0Read s)

/-- PWR_OPSLO_READ latches PWR_OPSHI (19 R507). -/
def pwrOpsloRead (s : State) : State := if !s.barOk then s else { s with pwr := { s.pwr with opsHi := s.pwr.ops / 2 ^ 32 } }

def execPwrOpsloRead (s : State) : Host.Outcome State Fault Refusal := .next (pwrOpsloRead s)

/-! ## Requests to a dormant device (13 R371, Table 13-3; 21 R533; 12 R353) -/

/-- E4 answers dormant requests: DORMANT with DORM_EN, at most one request per millisecond. -/
def State.dormAnswers (s : State) (t : Nat) : Bool :=
  decide (s.pwr.power ≠ .off) && !s.inService && s.canWake .e4 && (match s.eth.dormLast with
    | some l => decide (l + 1000000 ≤ t)
    | none => true)

/-- An answer on E4: OP with bit 7, STATUS, SEQ, data. -/
def State.dormAnswer (s : State) (t op status seq : Nat) (data : List Byte) : State :=
  (({ s with eth := { s.eth with dormLast := some t } }).advanceTo t).emit
    (.ethTx 4 ([BitVec.ofNat 8 (op + 128), BitVec.ofNat 8 status] ++ leBytes 2 seq ++ data))

/-- DORMANT_STATUS. -/
def dormantStatus (s : State) (t seq : Nat) : State :=
  if s.dormAnswers t then s.dormAnswer t 1 0 seq (leBytes 4 s.pwr.pcyc ++ leBytes 8 s.pwr.ops ++ s.countsRecord) else s

def execDormantStatus (t : Nat) (seq : Nat) (s : State) : Host.Outcome State Fault Refusal := .next (dormantStatus s t seq)

/-- DORMANT_TIME: the shadow DT at the request. -/
def dormantTime (s : State) (t seq : Nat) : State :=
  if s.dormAnswers t then
    let s1 := s.advanceTo t
    s1.dormAnswer t 2 0 seq (leBytes 8 s1.tim.shadowNow ++ [BitVec.ofNat 8 (b2n s1.tim.everLocked)] ++ zeros 3)
  else s

def execDormantTime (t : Nat) (seq : Nat) (s : State) : Host.Outcome State Fault Refusal := .next (dormantTime s t seq)

/-- DORMANT_REC_READ: up to 16 records, seals not checked. -/
def dormantRecRead (s : State) (t seq first count : Nat) : State :=
  if s.dormAnswers t then s.dormAnswer t 3 0 seq ((s.recFrom first (min 16 count)).flatMap (fun r => r.bytes)) else s

def execDormantRecRead (t : Nat) (seq : Nat) (first : Nat) (count : Nat) (s : State) : Host.Outcome State Fault Refusal :=
  .next (dormantRecRead s t seq first count)

/-- DORMANT_WAKE: answered, then the wake sequence starts. -/
def dormantWake (s : State) (t seq : Nat) : State :=
  if s.dormAnswers t then (s.dormAnswer t 4 0 seq []).wakeBy .e4 else s

def execDormantWake (t : Nat) (seq : Nat) (s : State) : Host.Outcome State Fault Refusal := .next (dormantWake s t seq)

/-- The frame is a wake frame of C00 (12 R353). -/
def State.wakeMatch (s : State) (f : CanFrame) : Bool :=
  let m := s.fld 0x6014 28 0
  !f.fdf && !f.rtr && decide (b2n f.ide = s.fld 0x6010 30 30) && decide (f.id &&& m = s.fld 0x6010 28 0 &&& m)

/-- WAKE_FRAME: the dormant listener of C00 receives a frame. -/
def wakeFrame (s : State) (t : Nat) (f : CanFrame) : State :=
  if decide (s.pwr.power ≠ .off) && !s.inService && s.canWake .c00 && s.wakeMatch f then (s.advanceTo t).wakeBy .c00 else s

def execWakeFrame (t : Nat) (f : CanFrame) (s : State) : Host.Outcome State Fault Refusal := .next (wakeFrame s t f)

end Sys2Proof.Machine
end

