-- ==== Sys2Proof/Machine/RegView.lean ====
section
/-!
DEFINITION. Sys2Proof/Machine/RegView.lean: what every BAR0 register reads as (16 R414 and each chapter's register
tables). Read-only fields are views of the unit's state; stored fields come from the register file.
-/
namespace Sys2Proof.Machine

/-- A word from its fields, given as high bit, low bit, value; bits named by no field read as zero (00 R6). -/
def fieldsWord (l : List (Nat × Nat × Nat)) : Word :=
  BitVec.ofNat 32 (l.foldl (fun w f => w + f.2.2 % 2 ^ (f.1 + 1 - f.2.1) * 2 ^ f.2.1) 0)

/-- A whole 32-bit number. -/
def numWord (n : Nat) : Word := BitVec.ofNat 32 n

/-- Bit i is set where `f i` holds, for i below `n`. -/
def bitMask (n : Nat) (f : Nat → Bool) : Nat := (List.range n).foldl (fun w i => w + b2n (f i) * 2 ^ i) 0

/-- The element of a register array at an offset: base, stride, count. -/
def arrayIdx (off base stride n : Nat) : Option (Nat × Nat) :=
  if base ≤ off && off < base + stride * n then some ((off - base) / stride, (off - base) % stride) else none

/-! ## HST (16 Tables 16-2 and 16-3) -/

/-- RWL fields are locked in RUN (16 R417). -/
def State.locked (s : State) : Bool := s.mgt.run = .run

def State.hstReg (s : State) (off : Nat) : Option Word := match off with
  | 0x00 => some (fieldsWord [(31, 16, 0x4096), (15, 8, 1), (7, 0, Config.dieRev.toNat)])
  | 0x04 => some (fieldsWord [(15, 0, Config.romRev.toNat)])
  | 0x08 => some (numWord Config.deviceId.toNat)
  | 0x0C => some (numWord (Config.deviceId.toNat / 2 ^ 32))
  | 0x10 => some (numWord (Config.deviceId.toNat / 2 ^ 64))
  | 0x14 => some (numWord (Config.deviceId.toNat / 2 ^ 96))
  | 0x18 => some (fieldsWord [(16, 16, b2n s.locked), (13, 13, s.activeSuper.getD 0), (12, 12, b2n s.sup.armed.isSome),
      (9, 8, s.tim.tstate.code), (5, 4, s.votingCount), (1, 0, s.mgt.run.code)])
  | 0x20 | 0x24 | 0x28 | 0x2C | 0x30 | 0x38 => some (s.reg off)
  | 0x34 => some (fieldsWord [(1, 1, b2n (s.qp? 0).isSome), (0, 0, s.fld 0x34 0 0)])
  | 0x40 => some (numWord s.hst.evLost)
  | 0x44 => some (numWord s.hst.lateRd)
  | 0x48 => some (numWord s.hst.linkDn)
  | 0x4C => some (numWord s.hst.cplDrop)
  | 0x50 => some (numWord s.hst.lockWr)
  | _ => none

/-! ## CLK and PWR (19 Table 19-13) -/

/-- FAULT_N (19 R503). -/
def State.faultN (s : State) : Bool :=
  s.inService && (decide (s.mgt.run = .init) || !s.clk.wait.isEmpty || !s.clk.ramp.isEmpty ||
    (List.range 4).any (fun b => decide (s.fld 0x2004 (2 * b + 1) (2 * b) ≠ 3) && !(s.pwr.vio.getD b false)) ||
    ChId.all.any (fun i => (s.chan i).restart))

/-- SMOKE_N (19 R489, R503): asserted while any forcing is in force. -/
def State.smokeN (s : State) : Bool := s.inService && !s.clk.force.isEmpty

/-- CLK_WAIT: gated islands and those whose ramp has not ended (19 R490). -/
def State.waitBits (s : State) : Nat :=
  bitMask 13 (fun i => (s.clk.wait ++ s.clk.ramp).any (fun (x : Island) => decide (x.code = i)))

def State.clkReg (s : State) (off : Nat) : Option Word := match off with
  | 0x1000 => some (s.reg off)
  | 0x1004 => some (fieldsWord [(24, 24, b2n s.clk.pllref), (17, 16, b2n s.clk.aonSosc), (0, 0, s.fld 0x1004 0 0)])
  | 0x1008 => some (fieldsWord [(17, 17, b2n s.clk.soscRun), (16, 16, b2n s.clk.foscRun),
      (7, 0, bitMask 8 (fun i => (s.mon i).qual))])
  | 0x100C => some (fieldsWord [(9, 0, bitMask 8 (fun i => bitOf s.clk.fail i) + b2n (bitOf s.clk.fail 8) * 256 +
      b2n (bitOf s.clk.fail 9) * 512)])
  | 0x1010 => some (fieldsWord [(12, 0, s.waitBits)])
  | 0x1014 => some (numWord s.clk.failcnt)
  | 0x1018 => some (fieldsWord [(25, 0, s.clk.soscMhz)])
  | _ => if (fieldsAt off).isEmpty then none else some (s.reg off)

def State.pwrReg (s : State) (off : Nat) : Option Word := match off with
  | 0x2000 => some (fieldsWord [(27, 24, bitMask 4 (fun b => s.pwr.vio.getD b false)), (18, 18, b2n s.pwr.vaux),
      (17, 17, b2n s.pwr.vin), (16, 16, b2n s.smokeN), (15, 15, b2n s.faultN), (3, 0, s.pwr.lastStart)])
  | 0x2004 | 0x2008 => some (s.reg off)
  | 0x200C => some (fieldsWord [(2, 0, s.pwr.wakeSrc)])
  | 0x2010 => some (numWord s.pwr.ops)
  | 0x2014 => some (fieldsWord [(7, 0, s.pwr.opsHi)])
  | 0x2018 => some (fieldsWord [(23, 0, s.pwr.pcyc)])
  | 0x201C => some (numWord s.pwr.vinLoss)
  | 0x2020 => some (numWord s.pwr.wdog)
  | _ => none

/-! ## RTC (20 Tables 20-3 to 20-5) -/

/-- The registers of an alarm. -/
def Alarm.reg (a : Alarm) (o : Nat) : Option Word := match o with
  | 0 => some (fieldsWord [(31, 31, b2n a.en), (30, 30, b2n a.drop), (29, 29, b2n a.blocked.isSome), (5, 0, a.mask)])
  | 4 => some (fieldsWord [(31, 16, a.t.year), (15, 8, a.t.month), (7, 0, a.t.day)])
  | 8 => some (fieldsWord [(23, 16, a.t.hour), (15, 8, a.t.minute), (7, 0, a.t.second)])
  | 12 => some (fieldsWord [(31, 16, a.fired), (15, 0, a.skipped)])
  | _ => none

/-- An adjustment waits for its boundary: a setting or an hour, an accepted RTC_FROM_PTP (20 R512, R514). -/
def State.adjPending (s : State) : Bool := !s.rtc.waiting.isEmpty || !s.rtc.ptp.isEmpty

def State.rtcReg (s : State) (off : Nat) : Option Word := match off with
  | 0x3000 =>
    let c := civilOf s.rtc.secs
    some (fieldsWord [(31, 16, c.year), (15, 8, c.month), (7, 0, c.day)])
  | 0x3004 => some (numWord s.rtc.cal1)
  | 0x3008 => some (fieldsWord [(15, 0, s.rtc.sub)])
  | 0x300C => some (fieldsWord [(7, 7, b2n s.adjPending), (6, 6, b2n s.rtc.range), (5, 5, b2n s.rtc.osf),
      (4, 4, b2n s.rtc.stopped), (3, 3, b2n s.clk.aonSosc), (2, 2, b2n s.rtc.summer), (1, 1, b2n s.rtc.al1f),
      (0, 0, b2n s.rtc.al0f)])
  | 0x3010 => some (s.reg off)
  | 0x3014 => some (fieldsWord [(11, 0, ofSigned 12 s.rtc.trim)])
  | 0x3018 => some (numWord s.rtc.adj)
  | _ => if 0x3020 ≤ off && off < 0x3030 then s.rtc.al0.reg (off - 0x3020)
    else if 0x3030 ≤ off && off < 0x3040 then s.rtc.al1.reg (off - 0x3030) else none

/-! ## TIM (02 Tables 2-5 to 2-14) -/

/-- A frequency in ns/s as a signed number of 2^-40, rounded down (DESIGN CHOICE, log entry 80). -/
def freqWord (x : Rat) : Word := BitVec.ofInt 32 ((x * 1099511627776 / 1000000000).floor)

/-- A phase in whole ns without its fraction, saturating at ±(2^31 − 1) (DESIGN CHOICE, log entry 80). -/
def ofsWord (x : Rat) : Word :=
  let n := if x < 0 then -((-x).floor) else x.floor
  BitVec.ofInt 32 (if n > 2147483647 then 2147483647 else if n < -2147483647 then -2147483647 else n)

def State.domReg (s : State) (d : Dom) (o : Nat) : Option Word :=
  let x := s.tim.domain d
  let b := 0x4020 + 0x20 * d.code
  match o with
  | 0 | 4 | 8 | 0x14 => some (s.reg (b + o))
  | 0xC => some (ofsWord x.ofs)
  | 0x10 => some (freqWord x.freq)
  | 0x18 => some (fieldsWord [(31, 16, x.outliers), (15, 0, x.missed)])
  | _ => none

def State.timReg (s : State) (off : Nat) : Option Word := match off with
  | 0x4000 => some (s.reg off)
  | 0x4004 => some (fieldsWord [(30, 24, s.domNum s.tim.active), (18, 18, b2n s.tim.stepWait),
      (17, 17, b2n s.tim.bleeding), (16, 16, b2n s.tim.everLocked), (9, 9, b2n s.tim.sec.lock),
      (8, 8, b2n s.tim.pri.lock), (2, 2, s.tim.active.code), (1, 0, s.tim.tstate.code)])
  | 0x4008 => some (numWord s.tim.dt)
  | 0x400C => some (numWord s.tim.dtHi)
  | 0x4010 => some (fieldsWord [(15, 0, s.tim.dtFrac)])
  | 0x4014 => some (freqWord (s.tim.baseRate * 1000000000))
  | 0x4018 => some (fieldsWord [(16, 16, b2n s.tim.utcValid), (15, 0, ofSigned 16 s.tim.utcOfs)])
  | _ =>
    if 0x4020 ≤ off && off < 0x4040 then s.domReg .pri (off - 0x4020)
    else if 0x4040 ≤ off && off < 0x4060 then s.domReg .sec (off - 0x4040)
    else if (fieldsAt off).isEmpty then none else some (s.reg off)

/-! ## ETH, CAN and STN (13 Table 13-6, 12 Tables 12-6 to 12-8, 10 R305) -/

def State.ethReg (s : State) (off : Nat) : Option Word :=
  if off = 0x5000 then
    some (fieldsWord [(15, 8, bitMask 8 (fun p => (s.ethDef? p).isSome)), (7, 0, bitMask 8 (fun p => (s.port p).link))])
  else match arrayIdx off 0x5100 0x40 8 with
    | none => none
    | some (p, o) =>
      let x := s.port p
      match o with
      | 0 => some (numWord x.rxok)
      | 4 => some (numWord x.txok)
      | 8 => some (fieldsWord [(31, 16, x.rxerr), (15, 0, x.hostdrop)])
      | 0xC => some (fieldsWord [(31, 16, x.dupdisc), (15, 8, x.dupnoent), (7, 0, x.hsrret)])
      | 0x10 => some (numWord x.fwd)
      | 0x14 => some (fieldsWord [(31, 16, x.icv), (15, 0, x.replay)])
      | 0x18 => some (fieldsWord [(31, 16, x.untag), (15, 8, x.nosc), (7, 0, x.nokey)])
      | 0x1C => some (numWord x.late)
      | _ => none

/-- ESTATE (12 Table 12-8). -/
def CanErr.code : CanErr → Nat
  | .active => 0
  | .passive => 1
  | .boffWait => 2
  | .boffRec => 3

def State.canBoff (s : State) (c : Nat) : Bool := decide ((s.canCh c).est = .boffWait) || decide ((s.canCh c).est = .boffRec)

/-- MODE: disabled, NORMAL or MONITOR. -/
def State.canMode (s : State) (c : Nat) : Nat := if s.canNormal c then 1 else if s.canUp c then 2 else 0

def State.canReg (s : State) (off : Nat) : Option Word := match off with
  | 0x6000 => some (numWord (bitMask 32 s.canBoff))
  | 0x6004 => some (numWord (bitMask 24 (fun c => s.canBoff (32 + c))))
  | 0x6008 => some (numWord (bitMask 32 (fun c => decide ((s.canCh c).est = .passive))))
  | 0x600C => some (numWord (bitMask 24 (fun c => decide ((s.canCh (32 + c)).est = .passive))))
  | 0x6010 | 0x6014 => some (s.reg off)
  | _ => match arrayIdx off 0x6100 0x20 56 with
    | none => none
    | some (c, o) =>
      let x := s.canCh c
      match o with
      | 0 => some (fieldsWord [(31, 30, s.canMode c), (29, 28, x.est.code), (26, 24, x.lec), (23, 16, x.rxec), (15, 8, min x.tec 255)])
      | 4 => some (fieldsWord [(31, 24, s.canIdle c), (23, 16, x.armed.length), (15, 8, b2n x.tx.isSome), (7, 0, s.rxu c)])
      | 8 => some (numWord x.txok)
      | 0xC => some (numWord x.rxok)
      | 0x10 => some (numWord x.late)
      | 0x14 => some (numWord x.retry)
      | 0x18 => some (fieldsWord [(31, 16, x.rxdrop), (15, 0, x.noobj)])
      | 0x1C => some (fieldsWord [(31, 16, x.reject), (15, 8, x.boffcnt), (7, 0, x.lost)])
      | _ => none

def State.stnReg (s : State) (off : Nat) : Option Word := match off with
  | 0x6800 => some (fieldsWord [(28, 16, s.stn.present), (12, 0, s.stn.stale)])
  | 0x6804 => some (fieldsWord [(28, 16, s.stn.absent), (12, 0, s.stn.simulated)])
  | 0x6808 => some (fieldsWord [(12, 0, s.stnDefs.length)])
  | 0x680C => some (numWord s.stn.noans)
  | 0x6810 => some (numWord s.stn.wrfail)
  | 0x6814 => some (numWord s.stn.heldCnt)
  | 0x6818 => some (numWord s.stn.late)
  | 0x681C => some (numWord s.stn.undecl)
  | 0x6820 => some (numWord s.stn.badfrm)
  | 0x6824 => some (numWord s.stn.badseq)
  | 0x6828 => some (numWord s.stn.authfail)
  | 0x682C => some (numWord s.stn.simsup)
  | 0x6830 => some (fieldsWord [(31, 31, b2n s.stn.lastAbs.isSome), (11, 0, s.stn.lastAbs.getD 0)])
  | _ => none

/-! ## ADC, MTR and AXS (14 R391, 11 Table 11-14, 15 R412) -/

def State.adcReg (s : State) (off : Nat) : Option Word := match off with
  | 0x7000 => some (fieldsWord [(9, 9, b2n (s.adcPair 1).ok), (8, 8, b2n (s.adcPair 0).ok), (4, 4, b2n s.adc.refBad.isSome),
      (3, 0, bitMask 4 (fun n => match (s.adcConv n).run with | some r => r.cur.isSome | none => false))])
  | 0x7010 => some (fieldsWord [(23, 0, (s.adcPair 0).gain)])
  | 0x7014 => some (fieldsWord [(15, 0, ofSigned 16 (s.adcPair 0).ofs)])
  | 0x7018 => some (fieldsWord [(23, 0, (s.adcPair 1).gain)])
  | 0x701C => some (fieldsWord [(15, 0, ofSigned 16 (s.adcPair 1).ofs)])
  | 0x7020 => some (numWord s.adc.trip)
  | 0x7024 => some (numWord (s.adc.trip / 2 ^ 32))
  | _ => match arrayIdx off 0x7040 0x10 4 with
    | none => none
    | some (n, o) =>
      let x := s.adcConv n
      match o with
      | 0 => some (numWord x.conv)
      | 4 => some (fieldsWord [(31, 16, x.miss), (15, 0, x.aborts)])
      | 8 => some (fieldsWord [(31, 16, x.urgRun), (15, 8, x.urgWait), (7, 0, x.urgMerge)])
      | _ => none

/-- MCKn runs: its divider is declared and the network island, whose PLL feeds it, runs (11 R306). -/
def State.mckOn (s : State) (n : Nat) : Bool := match s.meter? with
  | some d => s.runs .net && decide (d.mckDiv.getD n 0 ≠ 0)
  | none => false

def State.mtrReg (s : State) (off : Nat) : Option Word := match off with
  | 0x8000 => some (fieldsWord [(15, 15, b2n s.mtr.honeyLost), (14, 14, b2n s.mtr.running), (10, 8, s.mtr.wait.length),
      (7, 0, bitMask 8 s.mckOn)])
  | 0x8004 => some (numWord s.mtr.mdFlt)
  | 0x8008 => some (fieldsWord [(15, 0, s.mtr.mdFlt / 2 ^ 32)])
  | 0x800C => some (numWord s.mtr.satcnt)
  | 0x8010 => some (numWord s.intvNo)
  | 0x8014 => some (numWord s.mtr.intvHi)
  | 0x8018 => some (fieldsWord [(7, 0, s.mtr.lwrapLat)])
  | 0x801C => some (numWord s.mtr.archSeq)
  | 0x8020 => some (fieldsWord [(31, 16, s.mtr.lateCnt), (15, 0, s.mtr.mergedCnt)])
  | 0x8024 => some (BitVec.ofInt 32 s.mtr.balRes)
  | _ => match arrayIdx off 0x8100 4 8, arrayIdx off 0x8200 4 128 with
    | some (e, 0), _ => some (fieldsWord [(31, 31, b2n (match s.meter? with | some d => d.ems.any (fun x => decide (x.em = e)) | none => false)),
        (5, 0, (SMap.get dEmDet s.mtr.emDet e).det)])
    | _, some (t, 0) => some (fieldsWord [(31, 31, b2n (match s.meter? with | some d => d.tms.any (fun x => decide (x.tm = t)) | none => false)),
        (2, 0, (SMap.get dTmDet s.mtr.tmDet t).det)])
    | _, _ => (s.mtr.legacyAt off).map (fun h => numWord h.legacy)

def State.axsReg (s : State) (off : Nat) : Option Word := match off with
  | 0x9000 => some (fieldsWord [(31, 16, bitMask 16 (fun a => (s.ax a).moving)), (15, 0, bitMask 16 (fun a => (s.ax a).ref))])
  | 0x9004 => some (fieldsWord [(15, 0, bitMask 16 (fun a => (s.ax a).en))])
  | 0x9008 => some (fieldsWord [(15, 0, s.axs.limit)])
  | 0x900C => some (numWord s.axs.cmdrej)
  | 0x9010 => some (fieldsWord [(31, 16, s.axs.homefail), (15, 0, s.axs.abrupt)])
  | _ => match arrayIdx off 0x9100 0x10 16 with
    | some (a, 0) => some (BitVec.ofInt 32 (s.ax a).pos)
    | some (a, 4) => some (BitVec.ofInt 32 (s.ax a).vel)
    | some (a, 8) => some (fieldsWord [(23, 16, (s.ax a).seqTag), (10, 0, (s.ax a).flags)])
    | some (a, 0xC) => some (BitVec.ofInt 32 (s.ax a).target)
    | _ => none

/-! ## PNL, KEY and REC (22 R562, 18 R477, 21 R540) -/

def State.pnlReg (s : State) (off : Nat) : Option Word := match off with
  | 0xA000 => some (fieldsWord [(7, 7, b2n s.pnl.cracked), (6, 6, b2n (decide (s.pnl.rails = .up))), (5, 5, b2n s.pnl.fl),
      (4, 3, s.pphase), (2, 0, s.pnl.band)])
  | 0xA004 => some (s.reg off)
  | 0xA008 => some (fieldsWord [(31, 16, bitMask 16 (fun r => (s.preg r).dirty)), (15, 0, bitMask 16 (fun r => (s.preg r).run.isSome))])
  | 0xA00C => some (fieldsWord [(15, 0, bitMask 16 (fun r => (s.preg r).pend.isSome))])
  | 0xA010 => some (fieldsWord [(31, 16, min s.pnl.crkOhm max16), (15, 0, s.pnl.vhuMv)])
  | 0xA014 => some (numWord s.pnl.updOk)
  | 0xA018 => some (numWord s.pnl.replCnt)
  | 0xA01C => some (fieldsWord [(31, 16, s.pnl.cut), (15, 8, s.pnl.fdis), (7, 0, s.pnl.crkCnt)])
  | _ => none

/-- Slots in state FAULTED. -/
def State.faultedSlots (s : State) : Nat := ((List.range 256).filter (fun n => decide ((s.slot n).st = .faulted))).length

def State.keyReg (s : State) (off : Nat) : Option Word := match off with
  | 0xB000 => some (fieldsWord [(10, 10, b2n s.key.rngFail), (9, 9, b2n (!s.key.jobs.isEmpty)), (8, 8, b2n s.key.ready),
      (7, 0, min 255 s.faultedSlots)])
  | 0xB004 => some (numWord s.key.counter)
  | 0xB008 => some (numWord s.key.minEpoch)
  | 0xB00C => some (numWord s.key.updOk)
  | 0xB010 => some (numWord s.key.updFail)
  | 0xB014 => some (numWord s.key.deny)
  | 0xB018 => some (numWord s.key.exports)
  | _ => match arrayIdx off 0xB020 4 8 with
    | some (w, 0) => some (numWord (bitMask 32 (fun b => decide ((s.slot (32 * w + b)).st = .key))))
    | _ => none

def State.recReg (s : State) (off : Nat) : Option Word := match off with
  | 0xC000 => some (fieldsWord [(12, 12, b2n s.rcd.keybad), (11, 11, b2n s.rcd.freeze.isSome), (10, 0, s.rcd.staging.length)])
  | 0xC004 => some (numWord s.rcd.written)
  | 0xC008 => some (fieldsWord [(18, 0, s.rcd.stored.length)])
  | 0xC00C => some (numWord s.rcd.overw)
  | 0xC010 => some (numWord s.rcd.stgFull)
  | 0xC014 => some (numWord s.rcd.badSeal)
  | 0xC018 => some (numWord s.rcd.sigSkip)
  | 0xC01C => some (numWord s.rcd.cover)
  | _ => match arrayIdx off 0xC020 4 4 with
    | some (k, 0) => some (numWord (s.rcd.refused.getD k 0))
    | _ => none

/-! ## CHN, LGE and LPE (05 R157, 06 R196, 07 R212) -/

/-- Seconds until the attempt of an excluded channel may start, rounded up (05 R149; DESIGN CHOICE, log entry 80). -/
def Chan.waitS (c : Chan) (t : Nat) : Nat :=
  if c.st = .excluded then min 3600 ((c.notBefore - t + 999999999) / 1000000000) else 0

def Chan.progress (c : Chan) : Nat := match c.st with
  | .copy => c.copyBnd
  | .shadow => c.shadowHp
  | _ => 0

def State.chanReg (s : State) (i : ChId) (o : Nat) : Option Word :=
  let c := s.chan i
  match o with
  | 0 => some (fieldsWord [(29, 28, min 2 c.marks.length), (27, 24, min 15 (c.exclIn24 s.tim.dt)), (23, 20, c.cause),
      (19, 16, c.progress), (15, 0, c.attempts)])
  | 4 => some (fieldsWord [(11, 0, c.waitS s.tim.dt)])
  | 8 => some (numWord c.excl)
  | 0xC => some (fieldsWord [(31, 31, b2n c.stDone), (3, 0, c.stres)])
  | _ => none

/-- PERIOD_MS of a task of the running image. -/
def State.taskPeriod (s : State) (t : Nat) : Nat := match s.sup.bank with
  | some i => match i.logic.tasks[t]? with
    | some d => d.periodMs
    | none => 0
  | none => 0

def State.lgeReg (s : State) (t o : Nat) : Option Word := match o with
  | 0 => some (fieldsWord [(31, 16, s.taskPeriod t), (7, 1, SMap.get dNat s.chn.lgeFlags t / 2)])
  | 4 => some (numWord (SMap.get dNat s.chn.lgeScans t))
  | 8 => some (fieldsWord [(31, 16, SMap.get dNat s.chn.lgeOvr t), (15, 0, SMap.get dNat s.chn.lgeStk t)])
  | 0xC => some (fieldsWord [(23, 0, SMap.get dNat s.chn.lgeCyc t)])
  | _ => none

def State.chnReg (s : State) (off : Nat) : Option Word := match off with
  | 0xD000 => some (fieldsWord [(17, 16, s.votingCount), (15, 15, b2n s.chn.clkwait),
      (14, 14, b2n (ChId.all.any (fun i => (s.chan i).restart))), (10, 8, (s.chan .c).st.code), (6, 4, (s.chan .b).st.code),
      (2, 0, (s.chan .a).st.code)])
  | 0xD040 => some (numWord s.chn.discnt)
  | 0xD044 => some (numWord s.chn.safecnt)
  | 0xD048 => some (numWord s.chn.ckptVoid)
  | 0xD180 => some (numWord s.chn.reqdis)
  | 0xD200 => some (numWord s.chn.dlcnt)
  | 0xD204 => some (numWord s.chn.missWin)
  | 0xD208 => some (numWord s.chn.held)
  | 0xD20C => some (fieldsWord [(31, 31, b2n s.chn.lastSkip.isSome), (10, 0, s.chn.lastSkip.getD 0)])
  | 0xD210 => some (fieldsWord [(11, 0, match s.sup.bank with | some i => i.loops.length | none => 0)])
  | _ => match arrayIdx off 0xD010 0x10 3, arrayIdx off 0xD100 0x10 8, arrayIdx off 0xD300 4 64 with
    | some (c, o), _, _ => match ChId.ofNat? c with
      | some i => s.chanReg i o
      | none => none
    | _, some (t, o), _ => s.lgeReg t o
    | _, _, some (w, 0) => some (numWord (bitMask 32 (fun b => SMap.get dBit s.chn.dl (32 * w + b))))
    | _, _, _ => none

/-! ## SLV (08 R249, 09 R282) -/

def State.hydReg (s : State) (off : Nat) : Option Word :=
  let h := s.slv.hyd
  match off with
  | 0xE040 => some (fieldsWord [(31, 24, h.cause), (23, 16, h.reuse),
      (15, 15, b2n (match h.defn with | some d => decide (h.reuse > d.reuseLimit) | none => false)),
      (14, 14, b2n h.pend.isSome), (13, 13, b2n h.factor.isSome), (12, 12, b2n (decide (h.rebuild ≠ 0))), (7, 0, min 255 h.newton)])
  | 0xE044 => some (numWord h.iters)
  | 0xE048 => some (numWord h.cyc)
  | 0xE04C => some (numWord h.pubs)
  | 0xE050 => some (fieldsWord [(16, 0, match h.defn with | some d => d.n | none => 0)])
  | 0xE054 => some (fieldsWord [(20, 0, match h.defn with | some d => d.nnz | none => 0)])
  | 0xE058 => some (match h.defn with
    | some d => fieldsWord [(31, 16, min max16 (levelCount (upperLevels d.rows))), (15, 0, min max16 (levelCount (lowerLevels d.rows)))]
    | none => 0)
  | _ => none

def State.dispReg (s : State) (off : Nat) : Option Word :=
  let p := s.slv.disp
  let k0 := match p.win with | some k => hp64 k | none => 0
  match off with
  | 0xE100 => some (fieldsWord [(31, 24, p.cause), (23, 16, p.reuse),
      (15, 15, b2n (match p.defn with | some d => decide (p.reuse > d.reuseLimit) | none => false)),
      (14, 14, b2n p.pend.isSome), (13, 13, b2n p.factor.isSome), (12, 12, b2n (decide (p.rebuild ≠ 0))), (11, 11, b2n p.conv),
      (10, 10, b2n p.frozen), (9, 9, b2n p.running), (7, 0, min 255 p.refac)])
  | 0xE104 => some (numWord p.it)
  | 0xE108 => some (fieldsWord [(15, 8, ofSigned 8 (match p.pend with | some f => f.rho | none => p.rho)), (7, 0, ofSigned 8 p.rho)])
  | 0xE10C => some (normWord p.pres)
  | 0xE110 => some (normWord p.dres)
  | 0xE114 => some (numWord p.solves)
  | 0xE118 => some (numWord p.pubs)
  | 0xE11C => some (numWord p.shifts)
  | 0xE120 => some (fieldsWord [(31, 16, match p.pend with | some f => f.seg | none => 0),
      (15, 0, match p.defn with | some d => d.segments.length | none => 0)])
  | 0xE124 => some (match p.defn with | some d => fieldsWord [(31, 16, d.m), (15, 0, d.n)] | none => 0)
  | 0xE128 => some (fieldsWord [(21, 0, match p.defn with | some d => d.nnzL | none => 0)])
  | 0xE12C => some (fieldsWord [(15, 0, match p.defn with | some d => levelCount (colLevels d.symbolic) | none => 0)])
  | 0xE130 => some (numWord k0)
  | 0xE134 => some (numWord p.winHi)
  | _ => none

def State.slvReg (s : State) (off : Nat) : Option Word := match off with
  | 0xE000 => some (fieldsWord [(15, 15, b2n s.slv.laneFailed), (14, 14, b2n (decide (s.slv.laneTest ≠ 0))), (7, 0, s.slv.misrun)])
  | 0xE004 => some (fieldsWord [(31, 16, s.slv.alloc), (15, 0, 24576 - s.slv.alloc)])
  | 0xE008 => some (numWord s.slv.laneMis)
  | 0xE00C => some (numWord s.slv.eccUnc)
  | 0xE010 => some (numWord s.slv.uflow)
  | _ => if off < 0xE100 then s.hydReg off else s.dispReg off

/-! ## CMB and MGT (03 Tables 3-10 to 3-13, 17 Table 17-10) -/

def State.cmbReg (s : State) (off : Nat) : Option Word := match off with
  | 0xF000 => some (numWord (hp64 s.hp))
  | 0xF004 => some (numWord s.comb.hpHi)
  | 0xF008 => some (fieldsWord [(7, 7, b2n s.comb.ovrHp), (4, 4, b2n s.comb.gap), (3, 3, b2n s.sup.armed.isSome),
      (2, 2, s.activeSuper.getD 0), (1, 0, s.comb.cstate)])
  | 0xF00C => some (match s.comb? with | some c => fieldsWord [(31, 16, c.pMs), (15, 0, c.hMs)] | none => 0)
  | 0xF010 => some (fieldsWord [(18, 0, s.entries.length)])
  | 0xF014 => some (numWord s.comb.ovrTot)
  | _ => match arrayIdx off 0xF400 4 256 with
    | some (r, 0) =>
      let x := SMap.get dPair s.comb.ovr r
      some (fieldsWord [(31, 18, x.1), (17, 0, x.2)])
    | _ => none

def State.mgtReg (s : State) (off : Nat) : Option Word := match off with
  | 0xF800 => some (fieldsWord [(17, 17, b2n s.mgt.chal.isSome), (16, 16, b2n s.mgt.auth.isSome), (10, 0, s.mgt.held.length)])
  | 0xF804 => some (numWord s.mgt.cmdOk)
  | 0xF808 => some (numWord s.mgt.cmdFail)
  | 0xF80C => some (fieldsWord [(31, 24, s.mgt.lastFail.1), (23, 16, s.mgt.lastFail.2.1), (15, 0, s.mgt.lastFail.2.2.1)])
  | 0xF810 => some (fieldsWord [(5, 0, s.mgt.lastFail.2.2.2)])
  | 0xF814 => some (numWord s.mgt.authFail)
  | _ => none

/-! ## BAR0 -/

/-- What a naturally aligned read of BAR0 returns; none where the tables list no register. -/
def State.readReg (s : State) (off : Nat) : Option Word :=
  if off % 4 ≠ 0 then none
  else match off / 0x1000 with
    | 0x0 => s.hstReg off
    | 0x1 => s.clkReg off
    | 0x2 => s.pwrReg off
    | 0x3 => s.rtcReg off
    | 0x4 => s.timReg off
    | 0x5 => s.ethReg off
    | 0x6 => if off < 0x6800 then s.canReg off else s.stnReg off
    | 0x7 => s.adcReg off
    | 0x8 => s.mtrReg off
    | 0x9 => s.axsReg off
    | 0xA => s.pnlReg off
    | 0xB => s.keyReg off
    | 0xC => s.recReg off
    | 0xD => s.chnReg off
    | 0xE => s.slvReg off
    | 0xF => if off < 0xF800 then s.cmbReg off else s.mgtReg off
    | _ => none

end Sys2Proof.Machine
end

