-- ==== Sys2Proof/Machine/Registers.lean ====
section
/-!
DEFINITION. Sys2Proof/Machine/Registers.lean: writes of BAR0 registers (16 R414, R417, R418; 00 R6, R7, Table 0-3) and
of the XIN1 frequency (19 R507).
-/
namespace Sys2Proof.Machine

/-! ## Stored fields (00 Table 0-3, R7) -/

/-- Fields a write of their register leaves alone: those of the admin queue while EN is 1 (16 R418). -/
def State.ignores (s : State) (f : Field) : Bool :=
  decide (0x20 ≤ f.off) && decide (f.off ≤ 0x30) && decide (s.fld 0x34 0 0 = 1)

/-- The write reaches the field: RW always, RWL outside RUN (16 R417). -/
def State.taken (s : State) (f : Field) : Bool := !(s.ignores f) && (decide (f.ty = .rw) || !s.locked)

/-- A signed field counts from its sign: ZONE_MIN −720 to 840 (20 R524), LOG_SYNC −7 to +1 (02 Table 2-13). -/
def signedRange (f : Field) : Option (Nat × Int × Int) :=
  if f.off = 0x3010 then some (12, -720, 840)
  else if 0x4100 ≤ f.off && f.off < 0x4180 && f.off % 16 = 0 && f.lo = 8 then some (4, -7, 1)
  else none

/-- A value within the range stated for its field (00 R7). -/
def Field.admits (f : Field) (v : Nat) : Bool := match signedRange f with
  | some (n, lo, hi) => decide (lo ≤ toSigned n v) && decide (toSigned n v ≤ hi)
  | none => decide (f.least ≤ v) && decide (v ≤ f.most)

/-- Ranges that span more than one field: queue bases on a 4 KiB boundary (16 Table 16-3), a base-format wake
identifier in bits 10:0 (12 Table 12-7). -/
def wordAdmits (off v : Nat) : Bool :=
  if off = 0x24 || off = 0x2C then decide (v % 4096 = 0)
  else if off = 0x6010 then bitOf v 30 || decide (bitsOf v 28 11 = 0)
  else true

/-- Every value that the write stores lies in its field's range. -/
def State.admitsWrite (s : State) (off v : Nat) : Bool :=
  let fs := (fieldsAt off).filter s.taken
  fs.all (fun f => f.admits (bitsOf v f.hi f.lo)) && (fs.isEmpty || wordAdmits off v)

/-- Store the fields that the write reaches. -/
def State.storeFields (s : State) (off v : Nat) : State :=
  let fs := (fieldsAt off).filter s.taken
  s.setReg off (numWord (fs.foldl (fun w f => putBits w f.hi f.lo (bitsOf v f.hi f.lo)) (s.reg off).toNat))

/-- A write that meets locked fields is counted (16 R417). -/
def State.countLock (s : State) (off : Nat) : State :=
  if s.locked && (fieldsAt off).any (fun f => decide (f.ty = .rwl)) then
    { s with hst := { s.hst with lockWr := satAdd max32 s.hst.lockWr 1 } }
  else s

/-! ## Bits cleared by writing 1 (00 Table 0-3) -/

/-- The bits of `x` that `v` does not name. -/
def clearBits (x v : Nat) : Nat := x - (x &&& v)

def State.clearW1c (s : State) (off v : Nat) : State := match off with
  | 0x100C => { s with clk := { s.clk with fail := clearBits s.clk.fail (v % 1024) } }
  | 0x300C => { s with rtc := { s.rtc with
      range := s.rtc.range && !bitOf v 6, osf := s.rtc.osf && !bitOf v 5, al1f := s.rtc.al1f && !bitOf v 1,
      al0f := s.rtc.al0f && !bitOf v 0 } }
  | 0x7020 => { s with adc := { s.adc with trip := clearBits s.adc.trip v } }
  | 0x7024 => { s with adc := { s.adc with trip := clearBits s.adc.trip (v * 2 ^ 32) } }
  | 0x8004 => { s with mtr := { s.mtr with mdFlt := clearBits s.mtr.mdFlt v } }
  | 0x8008 => { s with mtr := { s.mtr with mdFlt := clearBits s.mtr.mdFlt (v % 65536 * 2 ^ 32) } }
  | 0x9008 => { s with axs := { s.axs with limit := clearBits s.axs.limit (v % 65536) } }
  | _ => match arrayIdx off 0xD100 0x10 8, arrayIdx off 0xD300 4 64 with
    | some (t, 0), _ =>
      let x := SMap.get dNat s.chn.lgeFlags t
      { s with chn := { s.chn with lgeFlags := SMap.set dNat s.chn.lgeFlags t (clearBits x (v % 256)) } }
    | _, some (w, 0) =>
      { s with chn := { s.chn with dl := s.chn.dl.filter (fun p => !(decide (p.1 / 32 = w) && bitOf v (p.1 % 32))) } }
    | _, _ => s

/-! ## The XIN1 frequency (19 R507) -/

/-- XIN1 qualifies anew from the start and the PLLs lock again to the frequency now declared: no source fails by the
write itself, every window count of their monitors begins again. -/
def State.requalify (s : State) : State :=
  let m0 := s.mon 0
  let s1 := s.setMon 0 { m0 with qual := false, good := 0, bad := 0 }
  { s1 with clk := { s1.clk with mons := s1.clk.mons.zipIdx.map (fun p => if 2 ≤ p.2 then { p.1 with good := 0, bad := 0 } else p.1) } }

/-- XIN1_FREQUENCY_WRITE: locked in RUN; a frequency outside 10 to 50 MHz is unpredictable. -/
def execXin1FrequencyWrite (khz : Nat) (s : State) : Host.Outcome State Fault Refusal :=
  if !s.barOk then .next s
  else if s.locked then .next (s.countLock 0x1000)
  else if 10000 ≤ khz && khz ≤ 50000 then .next ((s.setFld 0x1000 15 0 khz).requalify)
  else .fault .unpredictableWrite

/-! ## What follows a write (registers with behaviour of their own) -/

def State.afterWrite (s : State) (off v : Nat) : State :=
  if off = 0x34 then (if bitOf v 0 then aqctlSet s else aqctlClear s)
  else if off = 0x1000 then (if s.locked then s else s.requalify)
  else if off = 0x1004 then s.aonClock
  else if off = 0x4000 then s.settleTime
  else if off = 0xA004 then panelTest s (bitOf v 0)
  else s

/-- The register's fields take a write through `storeFields`; EN and TEST through their own behaviour. -/
def ownWrite (off : Nat) : Bool := off = 0x34 || off = 0xA004

/-- REGISTER_WRITE: an aligned 32-bit write of BAR0; where the tables list no register, and to RO fields, it is ignored. -/
def execRegisterWrite (off : Nat) (value : Word) (s : State) : Host.Outcome State Fault Refusal :=
  let v := value.toNat
  if !s.barOk || off % 4 ≠ 0 then .next s
  else if ownWrite off then .next (s.afterWrite off v)
  else if s.admitsWrite off v then .next ((((s.countLock off).storeFields off v).clearW1c off v).afterWrite off v)
  else .fault .unpredictableWrite

end Sys2Proof.Machine
end

