-- ==== Sys2Proof/Machine/Dispatch.lean ====
section
/-!
DEFINITION. Sys2Proof/Machine/Dispatch.lean: exec, one arm per command of the table.
-/
namespace Sys2Proof.Machine

/-- The effect of one command on everything but the queue. -/
def exec (i : Instr) (s : State) : Host.Outcome State Fault Refusal :=
  match i with
  | .vioLoss bank => Sys2Proof.Machine.execVioLoss bank s
  | .vioRestore bank => Sys2Proof.Machine.execVioRestore bank s
  | .startUpComplete res => Sys2Proof.Machine.execStartUpComplete res s
  | .wake src => Sys2Proof.Machine.execWake src s
  | .monitorWindowEnd src count => Sys2Proof.Machine.execMonitorWindowEnd src count s
  | .stopDetection src => Sys2Proof.Machine.execStopDetection src s
  | .islandResumption isl => Sys2Proof.Machine.execIslandResumption isl s
  | .soscCalibration mhz => Sys2Proof.Machine.execSoscCalibration mhz s
  | .freqMeasureWindowEnd count => Sys2Proof.Machine.execFreqMeasureWindowEnd count s
  | .ptpMessageReceive msg => Sys2Proof.Machine.execPtpMessageReceive msg s
  | .syncIntervalEnd dom => Sys2Proof.Machine.execSyncIntervalEnd dom s
  | .masterSyncTransmit port => Sys2Proof.Machine.execMasterSyncTransmit port s
  | .lgeCell e idx => Sys2Proof.Machine.execLgeCell e idx s
  | .lpeCell e idx done => Sys2Proof.Machine.execLpeCell e idx done s
  | .agreeCell e idx done din => Sys2Proof.Machine.execAgreeCell e idx done din s
  | .waggleCell e idx bursts => Sys2Proof.Machine.execWaggleCell e idx bursts s
  | .voteCell e done => Sys2Proof.Machine.execVoteCell e done s
  | .ckptCell e idx done => Sys2Proof.Machine.execCkptCell e idx done s
  | .slvPubCell e done => Sys2Proof.Machine.execSlvPubCell e done s
  | .slvHydCell e cond => Sys2Proof.Machine.execSlvHydCell e cond s
  | .solverStoreEccError prob resident => Sys2Proof.Machine.execSolverStoreEccError prob resident s
  | .topologyBuildComplete prob => Sys2Proof.Machine.execTopologyBuildComplete prob s
  | .slvDispCell e cond => Sys2Proof.Machine.execSlvDispCell e cond s
  | .mtrBlockCell e sys done => Sys2Proof.Machine.execMtrBlockCell e sys done s
  | .mtrIntvCell e records => Sys2Proof.Machine.execMtrIntvCell e records s
  | .accumulationPeriodEnd sys => Sys2Proof.Machine.execAccumulationPeriodEnd sys s
  | .mdInputFault m t => Sys2Proof.Machine.execMdInputFault m t s
  | .mdTransitionResume m t => Sys2Proof.Machine.execMdTransitionResume m t s
  | .pinPulse pin t => Sys2Proof.Machine.execPinPulse pin t s
  | .axsLatchCell e done => Sys2Proof.Machine.execAxsLatchCell e done s
  | .axsCmdCell e done => Sys2Proof.Machine.execAxsCmdCell e done s
  | .outCell e done => Sys2Proof.Machine.execOutCell e done s
  | .keyCell e => Sys2Proof.Machine.execKeyCell e s
  | .recCell e => Sys2Proof.Machine.execRecCell e s
  | .pnlCell e => Sys2Proof.Machine.execPnlCell e s
  | .hstCell e => Sys2Proof.Machine.execHstCell e s
  | .adcCell e cal => Sys2Proof.Machine.execAdcCell e cal s
  | .adcConversionComplete n code => Sys2Proof.Machine.execAdcConversionComplete n code s
  | .referenceOutOfRange t => Sys2Proof.Machine.execReferenceOutOfRange t s
  | .stationReadCell e => Sys2Proof.Machine.execStationReadCell e s
  | .stationSlotOpen g => Sys2Proof.Machine.execStationSlotOpen g s
  | .stationWriteCell e => Sys2Proof.Machine.execStationWriteCell e s
  | .answer link => Sys2Proof.Machine.execAnswer link s
  | .malformedWfpFrame link => Sys2Proof.Machine.execMalformedWfpFrame link s
  | .exchangeComplete stn => Sys2Proof.Machine.execExchangeComplete stn s
  | .cellEndOverrun e => Sys2Proof.Machine.execCellEndOverrun e s
  | .channelEccError ch => Sys2Proof.Machine.execChannelEccError ch s
  | .handshakeTimeout isl => Sys2Proof.Machine.execHandshakeTimeout isl s
  | .attemptStart ch => Sys2Proof.Machine.execAttemptStart ch s
  | .selftestEnd ch passed => Sys2Proof.Machine.execSelftestEnd ch passed s
  | .canTransmitStart ch t => Sys2Proof.Machine.execCanTransmitStart ch t s
  | .canTransmitComplete ch t => Sys2Proof.Machine.execCanTransmitComplete ch t s
  | .canArbitrationLost ch t => Sys2Proof.Machine.execCanArbitrationLost ch t s
  | .canFrameReceive ch t f => Sys2Proof.Machine.execCanFrameReceive ch t f s
  | .canError ch t err => Sys2Proof.Machine.execCanError ch t err s
  | .busOffRecoveryStart ch => Sys2Proof.Machine.execBusOffRecoveryStart ch s
  | .busOffRecoveryEnd ch t => Sys2Proof.Machine.execBusOffRecoveryEnd ch t s
  | .wakeFrame t f => Sys2Proof.Machine.execWakeFrame t f s
  | .ethFrameReceive port t f => Sys2Proof.Machine.execEthFrameReceive port t f s
  | .ethTransmitComplete port t => Sys2Proof.Machine.execEthTransmitComplete port t s
  | .supervisionFrameTransmit port => Sys2Proof.Machine.execSupervisionFrameTransmit port s
  | .duplicateEntryAgeOut port mac => Sys2Proof.Machine.execDuplicateEntryAgeOut port mac s
  | .dormantStatus t seq => Sys2Proof.Machine.execDormantStatus t seq s
  | .dormantTime t seq => Sys2Proof.Machine.execDormantTime t seq s
  | .dormantRecRead t seq first count => Sys2Proof.Machine.execDormantRecRead t seq first count s
  | .dormantWake t seq => Sys2Proof.Machine.execDormantWake t seq s
  | .switchEdge ax sw active t => Sys2Proof.Machine.execSwitchEdge ax sw active t s
  | .axisEnableLeadEnd ax => Sys2Proof.Machine.execAxisEnableLeadEnd ax s
  | .axisProfileUpdate ax => Sys2Proof.Machine.execAxisProfileUpdate ax s
  | .axisStandstill ax => Sys2Proof.Machine.execAxisStandstill ax s
  | .autoDisable ax => Sys2Proof.Machine.execAutoDisable ax s
  | .pwmPeriodStart n => Sys2Proof.Machine.execPwmPeriodStart n s
  | .sqTailDoorbell qp value entries => Sys2Proof.Machine.execSqTailDoorbell qp value entries s
  | .cqHeadDoorbell qp value => Sys2Proof.Machine.execCqHeadDoorbell qp value s
  | .hostReadDataArrival late => Sys2Proof.Machine.execHostReadDataArrival late s
  | .registerWrite off value => Sys2Proof.Machine.execRegisterWrite off value s
  | .xin1FrequencyWrite khz => Sys2Proof.Machine.execXin1FrequencyWrite khz s
  | .panelTestWrite on => Sys2Proof.Machine.execPanelTestWrite on s
  | .legacyRegisterRead off => Sys2Proof.Machine.execLegacyRegisterRead off s
  | .stagingComplete ok => Sys2Proof.Machine.execStagingComplete ok s
  | .recordRaise sev src code body => Sys2Proof.Machine.execRecordRaise sev src code body s
  | .panelFrameStart ohm => Sys2Proof.Machine.execPanelFrameStart ohm s
  | .panelUpdateComplete region => Sys2Proof.Machine.execPanelUpdateComplete region s
  | .railsUpComplete ohm => Sys2Proof.Machine.execRailsUpComplete ohm s
  | .vhuBelowThreshold mv => Sys2Proof.Machine.execVhuBelowThreshold mv s
  | .identify h => Sys2Proof.Machine.execIdentify h s
  | .qpCreate h p => Sys2Proof.Machine.execQpCreate h p s
  | .qpDelete h qpid => Sys2Proof.Machine.execQpDelete h qpid s
  | .ringStatus h qpid => Sys2Proof.Machine.execRingStatus h qpid s
  | .run h requireTrusted => Sys2Proof.Machine.execRun h requireTrusted s
  | .halt h hmode blk => Sys2Proof.Machine.execHalt h hmode blk s
  | .setup h blk => Sys2Proof.Machine.execSetup h blk s
  | .challenge h => Sys2Proof.Machine.execChallenge h s
  | .write h super offset data => Sys2Proof.Machine.execWrite h super offset data s
  | .verify h super => Sys2Proof.Machine.execVerify h super s
  | .status h => Sys2Proof.Machine.execStatus h s
  | .activate h super blk => Sys2Proof.Machine.execActivate h super blk s
  | .arm h super hp => Sys2Proof.Machine.execArm h super hp s
  | .disarm h => Sys2Proof.Machine.execDisarm h s
  | .swapReport h first bufLen => Sys2Proof.Machine.execSwapReport h first bufLen s
  | .edit h edits => Sys2Proof.Machine.execEdit h edits s
  | .read h pids => Sys2Proof.Machine.execRead h pids s
  | .simulate h stn smode buf => Sys2Proof.Machine.execSimulate h stn smode buf s
  | .query h first count => Sys2Proof.Machine.execQuery h first count s
  | .delta h recs => Sys2Proof.Machine.execDelta h recs s
  | .topology h prob section_ => Sys2Proof.Machine.execTopology h prob section_ s
  | .solution h prob => Sys2Proof.Machine.execSolution h prob s
  | .regRead h kind index => Sys2Proof.Machine.execRegRead h kind index s
  | .archiveRead h first count => Sys2Proof.Machine.execArchiveRead h first count s
  | .trim h em role gain delay blk => Sys2Proof.Machine.execTrim h em role gain delay blk s
  | .recRead h first count => Sys2Proof.Machine.execRecRead h first count s
  | .freeze h => Sys2Proof.Machine.execFreeze h s
  | .thaw h => Sys2Proof.Machine.execThaw h s
  | .recCounts h => Sys2Proof.Machine.execRecCounts h s
  | .update h msg => Sys2Proof.Machine.execUpdate h msg s
  | .slotQuery h slot => Sys2Proof.Machine.execSlotQuery h slot s
  | .attest h slot nonce => Sys2Proof.Machine.execAttest h slot nonce s
  | .legacyExport h slot wrapSlot => Sys2Proof.Machine.execLegacyExport h slot wrapSlot s
  | .identity h => Sys2Proof.Machine.execIdentity h s
  | .domainSelect h dom => Sys2Proof.Machine.execDomainSelect h dom s
  | .rtcSet h t => Sys2Proof.Machine.execRtcSet h t s
  | .rtcRead h => Sys2Proof.Machine.execRtcRead h s
  | .addHour h => Sys2Proof.Machine.execAddHour h s
  | .subHour h => Sys2Proof.Machine.execSubHour h s
  | .alarmSet h alarm mask policy en t => Sys2Proof.Machine.execAlarmSet h alarm mask policy en t s
  | .rtcFromPtp h => Sys2Proof.Machine.execRtcFromPtp h s
  | .rtcTrim h trim => Sys2Proof.Machine.execRtcTrim h trim s
  | .panelUpdate h region frameId data => Sys2Proof.Machine.execPanelUpdate h region frameId data s
  | .mapWrite h map data => Sys2Proof.Machine.execMapWrite h map data s
  | .panelStatus h => Sys2Proof.Machine.execPanelStatus h s
  | .setPosition h ax pos => Sys2Proof.Machine.execSetPosition h ax pos s
  | .move h ax target vmax => Sys2Proof.Machine.execMove h ax target vmax s
  | .home h ax pos => Sys2Proof.Machine.execHome h ax pos s
  | .stop h ax disable => Sys2Proof.Machine.execStop h ax disable s
  | .calibrate h pair cal => Sys2Proof.Machine.execCalibrate h pair cal s
  | .captureRead h pair => Sys2Proof.Machine.execCaptureRead h pair s
  | .txAn h port an => Sys2Proof.Machine.execTxAn h port an s
  | .history h ch => Sys2Proof.Machine.execHistory h ch s
  | .dormant h blk => Sys2Proof.Machine.execDormant h blk s
  | .freqMeasure h src => Sys2Proof.Machine.execFreqMeasure h src s
  | .echo h lo hi => Sys2Proof.Machine.execEcho h lo hi s
  | .outputForce h point fmode words blk => Sys2Proof.Machine.execOutputForce h point fmode words blk s
  | .jmp offset => Sys2Proof.Machine.execJmp offset s
  | .jc offset => Sys2Proof.Machine.execJc offset s
  | .jnc offset => Sys2Proof.Machine.execJnc offset s
  | .ld op => Sys2Proof.Machine.execLd op s
  | .ldn op => Sys2Proof.Machine.execLdn op s
  | .and op => Sys2Proof.Machine.execAnd op s
  | .andn op => Sys2Proof.Machine.execAndn op s
  | .or op => Sys2Proof.Machine.execOr op s
  | .orn op => Sys2Proof.Machine.execOrn op s
  | .xor op => Sys2Proof.Machine.execXor op s
  | .xorn op => Sys2Proof.Machine.execXorn op s
  | .st op => Sys2Proof.Machine.execSt op s
  | .stn op => Sys2Proof.Machine.execStn op s
  | .set op => Sys2Proof.Machine.execSet op s
  | .rst op => Sys2Proof.Machine.execRst op s
  | .tbit bitno => Sys2Proof.Machine.execTbit bitno s
  | .sbit bitno => Sys2Proof.Machine.execSbit bitno s
  | .ldw op => Sys2Proof.Machine.execLdw op s
  | .ldwx op => Sys2Proof.Machine.execLdwx op s
  | .stw op => Sys2Proof.Machine.execStw op s
  | .stwx op => Sys2Proof.Machine.execStwx op s
  | .ldq a => Sys2Proof.Machine.execLdq a s
  | .ldage a => Sys2Proof.Machine.execLdage a s
  | .add op => Sys2Proof.Machine.execAdd op s
  | .sub op => Sys2Proof.Machine.execSub op s
  | .mul op => Sys2Proof.Machine.execMul op s
  | .div op => Sys2Proof.Machine.execDiv op s
  | .mod op => Sys2Proof.Machine.execMod op s
  | .min op => Sys2Proof.Machine.execMin op s
  | .max op => Sys2Proof.Machine.execMax op s
  | .andw op => Sys2Proof.Machine.execAndw op s
  | .orw op => Sys2Proof.Machine.execOrw op s
  | .xorw op => Sys2Proof.Machine.execXorw op s
  | .shl op => Sys2Proof.Machine.execShl op s
  | .shr op => Sys2Proof.Machine.execShr op s
  | .asr op => Sys2Proof.Machine.execAsr op s
  | .qmul op => Sys2Proof.Machine.execQmul op s
  | .qdiv op => Sys2Proof.Machine.execQdiv op s
  | .eq op => Sys2Proof.Machine.execEq op s
  | .ne op => Sys2Proof.Machine.execNe op s
  | .lt op => Sys2Proof.Machine.execLt op s
  | .le op => Sys2Proof.Machine.execLe op s
  | .gt op => Sys2Proof.Machine.execGt op s
  | .ge op => Sys2Proof.Machine.execGe op s
  | .ton n => Sys2Proof.Machine.execTon n s
  | .tof n => Sys2Proof.Machine.execTof n s
  | .tp n => Sys2Proof.Machine.execTp n s
  | .trst n => Sys2Proof.Machine.execTrst n s
  | .ldet n => Sys2Proof.Machine.execLdet n s
  | .ctu n => Sys2Proof.Machine.execCtu n s
  | .ctd n => Sys2Proof.Machine.execCtd n s
  | .crst n => Sys2Proof.Machine.execCrst n s
  | .cld n => Sys2Proof.Machine.execCld n s
  | .ldcv n => Sys2Proof.Machine.execLdcv n s
  | .redge n => Sys2Proof.Machine.execRedge n s
  | .fedge n => Sys2Proof.Machine.execFedge n s
  | .oscillatorReturn src => Sys2Proof.Machine.execOscillatorReturn src s
  | .referenceInRange t => Sys2Proof.Machine.execReferenceInRange t s
  | .vhuRestored mv => Sys2Proof.Machine.execVhuRestored mv s
  | .portLinkChange port up => Sys2Proof.Machine.execPortLinkChange port up s
  | .copyPassEnd ch => Sys2Proof.Machine.execCopyPassEnd ch s
  | .msiXHoldoffEnd qp => Sys2Proof.Machine.execMsiXHoldoffEnd qp s
  | .vinPresent => Sys2Proof.Machine.execVinPresent s
  | .vinLoss => Sys2Proof.Machine.execVinLoss s
  | .vauxPresent => Sys2Proof.Machine.execVauxPresent s
  | .vauxLoss => Sys2Proof.Machine.execVauxLoss s
  | .porstN => Sys2Proof.Machine.execPorstN s
  | .warmN => Sys2Proof.Machine.execWarmN s
  | .trstN => Sys2Proof.Machine.execTrstN s
  | .dormantEntryEnd => Sys2Proof.Machine.execDormantEntryEnd s
  | .managementWatchdogExpiry => Sys2Proof.Machine.execManagementWatchdogExpiry s
  | .firstLockStep => Sys2Proof.Machine.execFirstLockStep s
  | .bleedEnd => Sys2Proof.Machine.execBleedEnd s
  | .dtWrap => Sys2Proof.Machine.execDtWrap s
  | .hyperperiodBoundary => Sys2Proof.Machine.execHyperperiodBoundary s
  | .superSwap => Sys2Proof.Machine.execSuperSwap s
  | .dispatchWindowEnd => Sys2Proof.Machine.execDispatchWindowEnd s
  | .meteringIntervalBoundary => Sys2Proof.Machine.execMeteringIntervalBoundary s
  | .pcieLinkDown => Sys2Proof.Machine.execPcieLinkDown s
  | .aqctlEnSet => Sys2Proof.Machine.execAqctlEnSet s
  | .aqctlEnClear => Sys2Proof.Machine.execAqctlEnClear s
  | .timDtloRead => Sys2Proof.Machine.execTimDtloRead s
  | .cmbHploRead => Sys2Proof.Machine.execCmbHploRead s
  | .mtrIntvloRead => Sys2Proof.Machine.execMtrIntvloRead s
  | .slvDwinloRead => Sys2Proof.Machine.execSlvDwinloRead s
  | .pwrOpsloRead => Sys2Proof.Machine.execPwrOpsloRead s
  | .rtcCal0Read => Sys2Proof.Machine.execRtcCal0Read s
  | .authVerificationEnd => Sys2Proof.Machine.execAuthVerificationEnd s
  | .challengeExpiry => Sys2Proof.Machine.execChallengeExpiry s
  | .rngHealthFail => Sys2Proof.Machine.execRngHealthFail s
  | .freezeExpiry => Sys2Proof.Machine.execFreezeExpiry s
  | .rtcSecondBoundary => Sys2Proof.Machine.execRtcSecondBoundary s
  | .ptpSettingApply => Sys2Proof.Machine.execPtpSettingApply s
  | .railIdleExpiry => Sys2Proof.Machine.execRailIdleExpiry s
  | .dischargeEnd => Sys2Proof.Machine.execDischargeEnd s
  | .nop => Sys2Proof.Machine.execNop s
  | .endScan => Sys2Proof.Machine.execEndScan s
  | .ldix => Sys2Proof.Machine.execLdix s
  | .stix => Sys2Proof.Machine.execStix s
  | .not => Sys2Proof.Machine.execNot s
  | .setba => Sys2Proof.Machine.execSetba s
  | .clrba => Sys2Proof.Machine.execClrba s
  | .ldov => Sys2Proof.Machine.execLdov s
  | .lddz => Sys2Proof.Machine.execLddz s
  | .ldif => Sys2Proof.Machine.execLdif s
  | .btow => Sys2Proof.Machine.execBtow s
  | .wtob => Sys2Proof.Machine.execWtob s
  | .itoq => Sys2Proof.Machine.execItoq s
  | .qtoi => Sys2Proof.Machine.execQtoi s
  | .neg => Sys2Proof.Machine.execNeg s
  | .abs => Sys2Proof.Machine.execAbs s
  | .notw => Sys2Proof.Machine.execNotw s
  | .andOpen => Sys2Proof.Machine.execAndOpen s
  | .orOpen => Sys2Proof.Machine.execOrOpen s
  | .xorOpen => Sys2Proof.Machine.execXorOpen s
  | .addOpen => Sys2Proof.Machine.execAddOpen s
  | .subOpen => Sys2Proof.Machine.execSubOpen s
  | .mulOpen => Sys2Proof.Machine.execMulOpen s
  | .qmulOpen => Sys2Proof.Machine.execQmulOpen s
  | .closeParen => Sys2Proof.Machine.execCloseParen s
  | .rngTestsPass => Sys2Proof.Machine.execRngTestsPass s
  | .pcieLinkUp => Sys2Proof.Machine.execPcieLinkUp s
  | .keyWorkEnd => Sys2Proof.Machine.execKeyWorkEnd s
  | .recordCommitEnd => Sys2Proof.Machine.execRecordCommitEnd s
  | .solverStructuresBuilt => Sys2Proof.Machine.execSolverStructuresBuilt s
  | .operatingSecond => Sys2Proof.Machine.execOperatingSecond s

end Sys2Proof.Machine
end

