-- ==== Sys2Proof/Machine/Tick.lean ====
section
/-!
DEFINITION. Sys2Proof/Machine/Tick.lean: what passes on an empty queue: a cycle of device time, an instruction of each
open scan, commands that wait for their FENCE.
-/
namespace Sys2Proof.Machine

/-- The instruction at the scan address of a channel, decoded from its program (06 R177). -/
def Chan.fetch (c : Chan) : Option Instr := match c.scan with
  | none => none
  | some x => match c.prog[x.pc]? with
    | some w => lgeDecode w.toNat
    | none => none

/-- A channel with an open scan runs its next instruction. -/
def State.runNext (s : State) (i : ChId) : State := match (s.chan i).fetch with
  | some ins => lgeInstr ins i s
  | none => s

/-- The network island adds 3.2 ns × (1 + f) to DT (02 R28, R29). -/
def State.countDt (s : State) : State :=
  if s.dtLive then s.passLive ((16 : Rat) / 5 * (1 + s.dtRate)) else s

/-- One tick (DESIGN CHOICE, log entry 2); the host island serves what waits. -/
def tick (s : State) : State := (((s.countDt).forChans State.runNext).pumpFence).hostServe

end Sys2Proof.Machine
end

