-- ==== Sys2Proof/WellFormed.lean ====
section
/-!
DEFINITION. Sys2Proof/WellFormed.lean: which commands are well formed: every operand lies in the range that the spec
gives it, whatever the state and the image.
-/
namespace Sys2Proof

/-- A queue pair 0 to 63 and a 16-bit CID (16 Table 16-6). -/
def Hdr.wf (h : Hdr) : Bool := decide (h.qp < 64) && decide (h.cid < 65536)

/-- A comb has at most 262,144 entries (03 R57, 04 Table 4-2). -/
def entryWf (e : Nat) : Bool := decide (e < 262144)

/-- A date as PARAM carries it: a 16-bit year and five bytes (17 Table 17-4). -/
def Civil.wf (c : Civil) : Bool :=
  decide (c.year < 65536) && decide (c.month < 256) && decide (c.day < 256) && decide (c.hour < 256) &&
  decide (c.minute < 256) && decide (c.second < 256)

/-- The authorisation block is 3,520 bytes (17 Table 17-3). -/
def blockWf (b : List Byte) : Bool := decide (b.length = 3520)

/-- A signed 32-bit position (15 Table 15-2). -/
def positionWf (p : Int) : Bool := decide (-2147483648 ≤ p) && decide (p ≤ 2147483647)

/-- A CAN frame: an 11-bit or 29-bit identifier, 8 bytes of data or, in a CAN FD frame, 64; only a classic frame is
remote, only a CAN FD frame switches its bit rate (12 Table 12-3). -/
def CanFrame.wf (f : CanFrame) : Bool :=
  decide (f.id < (if f.ide then 2 ^ 29 else 2 ^ 11)) && decide (f.data.length ≤ (if f.fdf then 64 else 8)) &&
  !(f.rtr && f.fdf) && !(f.brs && !f.fdf)

/-- A LEC code is three bits; ISO 11898-1 adds 0, 1 or 8 to a counter (12 Table 12-8). -/
def CanFault.wf (f : CanFault) : Bool := decide (f.lec < 8) && (f.inc == 0 || f.inc == 1 || f.inc == 8)

/-- A MAC address, VLAN tags of 16 bits, and as many bytes as the length leaves (13 Table 13-2). -/
def EthRx.wf (f : EthRx) : Bool :=
  decide (f.src < 2 ^ 48) && f.tags.all (fun t => decide (t < 65536)) && decide (f.bytes.length ≤ f.len) &&
  (match f.sec with
   | some x => decide (x.sci < 2 ^ 64) && decide (x.an < 4) && decide (x.pn < 2 ^ 32)
   | none => true) &&
  (match f.red with
   | some n => decide (n < 65536)
   | none => true)

/-- The queue pair parameter block (16 Table 16-5). -/
def QpParam.wf (p : QpParam) : Bool :=
  decide (p.qpid < 64) && decide (1 ≤ p.kind) && decide (p.kind ≤ 5) && decide (4 ≤ p.sizeLog) && decide (p.sizeLog ≤ 16) &&
  decide (p.vector < 64) && decide (p.sqBase % 4096 = 0) && decide (p.cqBase % 4096 = 0) && decide (p.mask < 2 ^ 56)

/-- The electrical systems EM0 to EM47, six roles each (11 R307). -/
def EmSamples.wf (x : EmSamples) : Bool := decide (x.em < 48) && decide (x.roles.length ≤ 6)

/-- The ranges of the operands, command by command. -/
def Instr.wf : Instr → Bool
  -- power, clocks, time
  | .vioLoss _ => true
  | .vioRestore _ => true
  | .startUpComplete r => r.faulted.all (fun n => decide (n < 256)) && decide (r.cal.length ≤ 2)
  | .wake _ => true
  | .monitorWindowEnd _ _ => true
  | .stopDetection _ => true
  | .islandResumption _ => true
  | .soscCalibration mhz => decide (mhz < 2 ^ 32)
  | .freqMeasureWindowEnd _ => true
  | .ptpMessageReceive m => decide (m.port < 8) && decide (m.domnum < 256)
  | .syncIntervalEnd _ => true
  | .masterSyncTransmit p => decide (p < 8)
  | .oscillatorReturn _ => true
  | .vinPresent | .vinLoss | .vauxPresent | .vauxLoss | .porstN | .warmN | .trstN | .dormantEntryEnd => true
  | .managementWatchdogExpiry | .operatingSecond | .firstLockStep | .bleedEnd | .dtWrap => true
  -- cells
  | .lgeCell e _ => entryWf e
  | .lpeCell e _ _ => entryWf e
  | .agreeCell e _ _ din => entryWf e && decide (din < 2 ^ 64)
  | .waggleCell e _ _ => entryWf e
  | .voteCell e done => entryWf e && decide (done.length ≤ 5)
  | .ckptCell e _ _ => entryWf e
  | .slvPubCell e _ => entryWf e
  | .slvHydCell e _ => entryWf e
  | .slvDispCell e _ => entryWf e
  | .mtrBlockCell e l _ => entryWf e && l.all EmSamples.wf
  | .mtrIntvCell e _ => entryWf e
  | .axsLatchCell e _ => entryWf e
  | .axsCmdCell e _ => entryWf e
  | .outCell e _ => entryWf e
  | .keyCell e => entryWf e
  | .recCell e => entryWf e
  | .pnlCell e => entryWf e
  | .hstCell e => entryWf e
  | .adcCell e _ => entryWf e
  | .stationReadCell e => entryWf e
  | .stationWriteCell e => entryWf e
  | .cellEndOverrun e => entryWf e
  -- channels, comb
  | .channelEccError _ => true
  | .handshakeTimeout _ => true
  | .attemptStart _ => true
  | .selftestEnd _ n => decide (n ≤ 4)
  | .copyPassEnd _ => true
  | .hyperperiodBoundary | .superSwap | .dispatchWindowEnd => true
  -- solver
  | .solverStoreEccError p _ => p == 1 || p == 2
  | .topologyBuildComplete p => p == 1 || p == 2
  | .solverStructuresBuilt => true
  -- metering, converters, stations
  | .accumulationPeriodEnd l => l.all EmSamples.wf
  | .mdInputFault m _ => decide (m < 48)
  | .mdTransitionResume m _ => decide (m < 48)
  | .pinPulse p _ => decide (p < 32)
  | .meteringIntervalBoundary => true
  | .adcConversionComplete n c => decide (n < 4) && decide (-32768 ≤ c) && decide (c ≤ 65535)
  | .referenceOutOfRange _ => true
  | .referenceInRange _ => true
  | .stationSlotOpen g => decide (g < 4096)
  | .answer l => decide (l < 0x48)
  | .malformedWfpFrame l => decide (l < 0x48)
  | .exchangeComplete n => decide (n < 4096)
  -- CAN, Ethernet
  | .canTransmitStart c _ => decide (c < 56)
  | .canTransmitComplete c _ => decide (c < 56)
  | .canArbitrationLost c _ => decide (c < 56)
  | .canFrameReceive c _ f => decide (c < 56) && f.wf
  | .canError c _ f => decide (c < 56) && f.wf
  | .busOffRecoveryStart c => decide (c < 56)
  | .busOffRecoveryEnd c _ => decide (c < 56)
  | .wakeFrame _ f => f.wf
  | .ethFrameReceive p _ f => decide (p < 8) && f.wf
  | .ethTransmitComplete p _ => decide (p < 8)
  | .supervisionFrameTransmit p => decide (p < 8)
  | .duplicateEntryAgeOut p m => decide (p < 8) && decide (m < 2 ^ 48)
  | .portLinkChange p _ => decide (p < 8)
  | .dormantStatus _ n => decide (n < 65536)
  | .dormantTime _ n => decide (n < 65536)
  | .dormantRecRead _ n f c => decide (n < 65536) && decide (f < 2 ^ 32) && decide (c < 65536)
  | .dormantWake _ n => decide (n < 65536)
  -- axes
  | .switchEdge a w _ _ => decide (a < 16) && decide (w ≤ 2)
  | .axisEnableLeadEnd a => decide (a < 16)
  | .axisProfileUpdate a => decide (a < 16)
  | .axisStandstill a => decide (a < 16)
  | .autoDisable a => decide (a < 16)
  | .pwmPeriodStart n => decide (n < 16)
  -- host interface and registers
  | .sqTailDoorbell q v l => decide (q < 64) && decide (v < 2 ^ 32) && l.all (fun x => decide (x.port < 256))
  | .cqHeadDoorbell q v => decide (q < 64) && decide (v < 2 ^ 32)
  | .hostReadDataArrival _ => true
  | .registerWrite o _ => decide (o < 65536) && decide (o % 4 = 0)
  | .xin1FrequencyWrite k => decide (k < 65536)
  | .panelTestWrite _ => true
  | .legacyRegisterRead o => decide (o < 65536) && decide (o % 4 = 0)
  | .timDtloRead | .cmbHploRead | .mtrIntvloRead | .slvDwinloRead | .pwrOpsloRead | .rtcCal0Read => true
  | .msiXHoldoffEnd q => decide (q < 64)
  | .pcieLinkDown | .pcieLinkUp | .aqctlEnSet | .aqctlEnClear => true
  | .stagingComplete _ => true
  -- recorder, keys, calendar, panel
  | .recordRaise _ _ c b => decide (c < 65536) && decide (b.length ≤ 40)
  | .recordCommitEnd | .freezeExpiry | .rtcSecondBoundary | .ptpSettingApply => true
  | .keyWorkEnd | .authVerificationEnd | .challengeExpiry | .rngHealthFail | .rngTestsPass => true
  | .panelFrameStart _ => true
  | .panelUpdateComplete r => decide (r < 16)
  | .railsUpComplete _ => true
  | .railIdleExpiry | .dischargeEnd => true
  | .vhuBelowThreshold _ => true
  | .vhuRestored _ => true
  -- host commands (17 Table 17-4)
  | .identify h => h.wf
  | .qpCreate h p => h.wf && p.wf
  | .qpDelete h n => h.wf && decide (n < 64)
  | .ringStatus h n => h.wf && decide (n < 64)
  | .run h _ => h.wf
  | .halt h m b => h.wf && decide (m ≤ 1) && blockWf b
  | .setup h b => h.wf && blockWf b
  | .challenge h => h.wf
  | .write h x o d => h.wf && decide (x ≤ 1) && decide (o < 2 ^ 32) && decide (o % 16 = 0) && decide (d.length % 16 = 0) &&
      decide (16 ≤ d.length) && decide (d.length ≤ 1048576)
  | .verify h x => h.wf && decide (x ≤ 1)
  | .status h => h.wf
  | .activate h x b => h.wf && decide (x ≤ 1) && blockWf b
  | .arm h x k => h.wf && decide (x ≤ 1) && decide (k < 2 ^ 64)
  | .disarm h => h.wf
  | .swapReport h f _ => h.wf && decide (f < 2 ^ 32)
  | .edit h l => h.wf && decide (1 ≤ l.length) && decide (l.length ≤ 512) && l.all (fun x => decide (x.1 < 2 ^ 32))
  | .read h l => h.wf && decide (1 ≤ l.length) && decide (l.length ≤ 512) && l.all (fun x => decide (x < 2 ^ 32))
  | .simulate h n m _ => h.wf && decide (n < 4096) && decide (m ≤ 1)
  | .query h f n => h.wf && decide (f < 65536) && decide (1 ≤ n) && decide (n ≤ 4096)
  | .delta h r => h.wf && decide (r.length % 16 = 0)
  | .topology h p _ => h.wf && (p == 1 || p == 2)
  | .solution h p => h.wf && (p == 1 || p == 2)
  | .regRead h k i => h.wf && (k == 1 || k == 2) && decide (i < 256)
  | .archiveRead h f n => h.wf && decide (f < 2 ^ 32) && decide (1 ≤ n) && decide (n ≤ 1024)
  | .trim h e r g d b => h.wf && decide (e < 256) && decide (r ≤ 5) && decide (g < 2 ^ 24) && decide (d < 65536) && blockWf b
  | .recRead h f n => h.wf && decide (f < 2 ^ 32) && decide (1 ≤ n) && decide (n ≤ 1024)
  | .freeze h => h.wf
  | .thaw h => h.wf
  | .recCounts h => h.wf
  | .update h _ => h.wf
  | .slotQuery h n => h.wf && decide (n < 256)
  | .attest h n b => h.wf && decide (n < 256) && decide (b.length = 32)
  | .legacyExport h n w => h.wf && decide (n < 256) && decide (w < 256)
  | .identity h => h.wf
  | .domainSelect h _ => h.wf
  | .rtcSet h t => h.wf && t.wf
  | .rtcRead h => h.wf
  | .addHour h => h.wf
  | .subHour h => h.wf
  | .alarmSet h n m p e t => h.wf && decide (n ≤ 1) && decide (m < 64) && decide (p ≤ 1) && decide (e ≤ 1) && t.wf
  | .rtcFromPtp h => h.wf
  | .rtcTrim h t => h.wf && decide (-2048 ≤ t) && decide (t ≤ 2047)
  | .panelUpdate h r f _ => h.wf && decide (r < 16) && decide (f < 2 ^ 32)
  | .mapWrite h m d => h.wf && decide (m < 4) && decide (393216 ≤ d.length)
  | .panelStatus h => h.wf
  | .setPosition h a p => h.wf && decide (a < 16) && positionWf p
  | .move h a t v => h.wf && decide (a < 16) && positionWf t && decide (v < 2 ^ 32)
  | .home h a p => h.wf && decide (a < 16) && positionWf p
  | .stop h a d => h.wf && decide (a < 16) && decide (d ≤ 1)
  | .calibrate h p _ => h.wf && decide (p ≤ 1)
  | .captureRead h p => h.wf && decide (p ≤ 1)
  | .txAn h p a => h.wf && decide (p < 8) && decide (a ≤ 1)
  | .history h c => h.wf && decide (c ≤ 2)
  | .dormant h b => h.wf && blockWf b
  | .freqMeasure h x => h.wf && decide (x ≤ 9)
  | .echo h a b => h.wf && decide (a < 2 ^ 64) && decide (b < 2 ^ 64)
  | .outputForce h n m _ b => h.wf && decide (n < 4096) && decide (m ≤ 1) && blockWf b
  -- instructions of the logic engine: the operand fits its form (06 Table 6-6)
  | .jmp o => Machine.lgeFits (.jmp o)
  | .jc o => Machine.lgeFits (.jc o)
  | .jnc o => Machine.lgeFits (.jnc o)
  | .ld o | .ldn o | .and o | .andn o | .or o | .orn o | .xor o | .xorn o | .st o | .stn o | .set o | .rst o => o.fits
  | .tbit _ => true
  | .sbit _ => true
  | .ldw o | .add o | .sub o | .mul o | .div o | .mod o | .min o | .max o | .andw o | .orw o | .xorw o | .shl o | .shr o
  | .asr o | .qmul o | .qdiv o | .eq o | .ne o | .lt o | .le o | .gt o | .ge o => o.fits
  | .ldwx o => o.fits
  | .stw o | .stwx o => o.fits
  | .ldq a | .ldage a => decide (a < 131072)
  | .ton i | .tof i | .tp i | .trst i | .ldet i | .ctu i | .ctd i | .crst i | .cld i | .ldcv i | .redge i | .fedge i =>
    decide (i < 16384)
  | .nop | .endScan | .ldix | .stix | .not | .setba | .clrba | .ldov | .lddz | .ldif | .btow | .wtob | .itoq | .qtoi => true
  | .neg | .abs | .notw | .andOpen | .orOpen | .xorOpen | .addOpen | .subOpen | .mulOpen | .qmulOpen | .closeParen => true

end Sys2Proof
end

