-- ==== Sys2Proof/Certificates/Slice0/Obligations.lean ====
section
/-!
DEFINITION. Sys2Proof/Certificates/Slice0/Obligations.lean: the statements about the model.
-/
namespace Sys2Proof.Claim

open Sys2Proof Sys2Proof.Machine

/-! ## Words the statements share -/

/-- A scan is open in channel `i`. -/
def Scanning (s : State) (i : ChId) (x : Scan) : Prop := (s.chan i).scan = some x

/-- The scan goes on at the next instruction with `n` cycles more (06 R179). -/
def after (x : Scan) (n : Nat) : Scan := { x with pc := x.pc + 1, cyc := x.cyc + n }

/-- Nothing outside the channels changes, and no channel without an open scan does. -/
def OnlyScans (s t : State) : Prop :=
  t = { s with chn := { s.chn with ch := t.chn.ch } } ∧ ∀ j, (s.chan j).scan = none → t.chan j = s.chan j

/-- One cycle more for an operand in SNAP (06 R179). -/
def snapCycle : WordOp → Nat
  | .snap _ => 1
  | _ => 0

/-- The 32-bit range, as 06 R180 saturates to it. -/
def clamp (r : Int) : Word := BitVec.ofInt 32 (max (-2147483648) (min 2147483647 r))

/-- The exact result lies outside the 32-bit range. -/
def outside (r : Int) : Bool := decide (r < -2147483648) || decide (2147483647 < r)

/-- `q` is `n / d` rounded half to even. -/
def HalfEven (n d q : Int) : Prop := 2 * (n - q * d).natAbs ≤ d.natAbs ∧ (2 * (n - q * d).natAbs = d.natAbs → 2 ∣ q)

/-- Two channels agree outside their memories and what COPY has marked. -/
def SameRegs (c d : Chan) : Prop := d = { c with mem := d.mem, touched := d.touched, scan := d.scan }

end Sys2Proof.Claim

open Sys2Proof Sys2Proof.Machine Sys2Proof.Claim

/-! ## The logic engine: words (06 R177 to R180) -/

/-- Program words carry every operand: an encoded instruction decodes to itself. -/
def Sys2Proof.Claim.LogicWordRoundTrip : Prop :=
  ∀ i w, lgeFits i = true → lgeEncode i = some w → w < 2 ^ 32 ∧ lgeDecode w = some i

/-- No two words spell one instruction, and every word that spells one is its encoding (06 R177). -/
def Sys2Proof.Claim.LogicWordUnique : Prop :=
  ∀ i w, w < 2 ^ 32 → lgeDecode w = some i → lgeEncode i = some w ∧ lgeFits i = true

/-- Program words and instructions correspond one to one, every operand at every value it may take (06 R177, Table 6-7). -/
def Obligations.LogicWordsAndInstructions : Prop := LogicWordRoundTrip ∧ LogicWordUnique

/-- ADD, SUB and MUL: the exact result saturated, OV set when it saturates, nothing else changed (06 R180). -/
def Sys2Proof.Claim.SumsSaturate : Prop :=
  ∀ p ∈ [((Instr.add, 2, fun a b => a + b) : (WordOp → Instr) × Nat × (Int → Int → Int)),
         (Instr.sub, 2, fun a b => a - b), (Instr.mul, 3, fun a b => a * b)],
  ∀ op s i x, Scanning s i x →
    let r := p.2.2 (s.chan i).wa.toInt ((s.chan i).readWord op).toInt
    ∃ t, exec (p.1 op) s = .next t ∧ OnlyScans s t ∧
      t.chan i = { s.chan i with wa := clamp r, ov := (s.chan i).ov || outside r,
                                 scan := some (after x (p.2.1 + snapCycle op)) }

/-- DIV and MOD by a divisor that is not zero truncate toward zero; 0x8000_0000 by −1 saturates with OV (06 R180). -/
def Sys2Proof.Claim.DivisionTruncates : Prop :=
  ∀ op s i x, Scanning s i x → (s.chan i).readWord op ≠ 0 →
    let a := (s.chan i).wa.toInt
    let b := ((s.chan i).readWord op).toInt
    (∃ t, exec (.div op) s = .next t ∧ OnlyScans s t ∧
      t.chan i = { s.chan i with wa := clamp (a.tdiv b), ov := (s.chan i).ov || outside (a.tdiv b),
                                 scan := some (after x (18 + snapCycle op)) }) ∧
    (∃ t, exec (.mod op) s = .next t ∧ OnlyScans s t ∧
      t.chan i = { s.chan i with wa := BitVec.ofInt 32 (a.tmod b), scan := some (after x (18 + snapCycle op)) })

/-- A division by zero sets DZ, never OV, and gives the results R180 defines. -/
def Sys2Proof.Claim.DivisionByZero : Prop :=
  ∀ p ∈ [((Instr.div, 18) : (WordOp → Instr) × Nat), (Instr.qdiv, 20), (Instr.mod, 18)],
  ∀ op s i x, Scanning s i x → (s.chan i).readWord op = 0 →
    let a := (s.chan i).wa.toInt
    ∃ t, exec (p.1 op) s = .next t ∧ OnlyScans s t ∧
      t.chan i = { s.chan i with
        wa := if p.1 op = .mod op then 0 else if 0 < a then 0x7FFFFFFF#32 else if a < 0 then 0x80000000#32 else 0,
        dz := true, scan := some (after x (p.2 + snapCycle op)) }

/-- DIV, MOD and QDIV by a divisor that is not zero and by zero (06 R180). -/
def Obligations.Divisions : Prop := DivisionTruncates ∧ DivisionByZero

/-- QMUL and QDIV round the exact quotient half to even and saturate it (06 R180). -/
def Sys2Proof.Claim.FixedPointRounds : Prop :=
  ∀ op s i x, Scanning s i x →
    let a := (s.chan i).wa.toInt
    let b := ((s.chan i).readWord op).toInt
    (∃ t q, exec (.qmul op) s = .next t ∧ OnlyScans s t ∧ HalfEven (a * b) 65536 q ∧
      t.chan i = { s.chan i with wa := clamp q, ov := (s.chan i).ov || outside q,
                                 scan := some (after x (4 + snapCycle op)) }) ∧
    (b ≠ 0 → ∃ t q, exec (.qdiv op) s = .next t ∧ OnlyScans s t ∧ HalfEven (a * 65536) b q ∧
      t.chan i = { s.chan i with wa := clamp q, ov := (s.chan i).ov || outside q,
                                 scan := some (after x (20 + snapCycle op)) })

/-- ADD, SUB, MUL, QMUL and QDIV: the exact result, rounded and saturated (06 R180). -/
def Obligations.SumsAndProducts : Prop := SumsSaturate ∧ FixedPointRounds

/-- ITOQ, QTOI, NEG, ABS and NOTW on WA (06 R180, Table 6-7). -/
def Sys2Proof.Claim.UnaryWords : Prop :=
  ∀ s i x, Scanning s i x →
    let a := (s.chan i).wa.toInt
    (∀ p ∈ [((Instr.itoq, a * 65536) : Instr × Int), (Instr.neg, -a), (Instr.abs, (a.natAbs : Int))],
      ∃ t, exec p.1 s = .next t ∧ OnlyScans s t ∧
        t.chan i = { s.chan i with wa := clamp p.2, ov := (s.chan i).ov || outside p.2, scan := some (after x 1) }) ∧
    (∃ t q, exec .qtoi s = .next t ∧ OnlyScans s t ∧ HalfEven a 65536 q ∧
      t.chan i = { s.chan i with wa := BitVec.ofInt 32 q, scan := some (after x 2) }) ∧
    (∃ t, exec .notw s = .next t ∧ OnlyScans s t ∧
      t.chan i = { s.chan i with wa := ~~~(s.chan i).wa, scan := some (after x 1) })

/-- MIN, MAX, the bitwise operations and the shifts by op mod 32; none sets a flag (06 Table 6-7). -/
def Sys2Proof.Claim.WordLogicShifts : Prop :=
  ∀ p ∈ [((Instr.min, fun a b => if a.toInt ≤ b.toInt then a else b) : (WordOp → Instr) × (Word → Word → Word)),
         (Instr.max, fun a b => if a.toInt ≤ b.toInt then b else a),
         (Instr.andw, fun a b => a &&& b), (Instr.orw, fun a b => a ||| b), (Instr.xorw, fun a b => a ^^^ b),
         (Instr.shl, fun a b => a <<< (b.toNat % 32)), (Instr.shr, fun a b => a >>> (b.toNat % 32)),
         (Instr.asr, fun a b => a.sshiftRight (b.toNat % 32))],
  ∀ op s i x, Scanning s i x →
    ∃ t, exec (p.1 op) s = .next t ∧ OnlyScans s t ∧
      t.chan i = { s.chan i with wa := p.2 (s.chan i).wa ((s.chan i).readWord op),
                                 scan := some (after x (2 + snapCycle op)) }

/-- The comparisons are signed and change BA alone (06 Table 6-7). -/
def Sys2Proof.Claim.ComparisonsSetBa : Prop :=
  ∀ p ∈ [((Instr.eq, fun a b => decide (a = b)) : (WordOp → Instr) × (Int → Int → Bool)),
         (Instr.ne, fun a b => !decide (a = b)), (Instr.lt, fun a b => decide (a < b)),
         (Instr.le, fun a b => decide (a < b) || decide (a = b)), (Instr.gt, fun a b => decide (b < a)),
         (Instr.ge, fun a b => decide (b < a) || decide (a = b))],
  ∀ op s i x, Scanning s i x →
    ∃ t, exec (p.1 op) s = .next t ∧ OnlyScans s t ∧
      t.chan i = { s.chan i with ba := p.2 (s.chan i).wa.toInt ((s.chan i).readWord op).toInt,
                                 scan := some (after x (2 + snapCycle op)) }

/-- The unary word instructions, MIN to ASR, and the comparisons (06 Table 6-7). -/
def Obligations.WordOperations : Prop := UnaryWords ∧ WordLogicShifts ∧ ComparisonsSetBa

/-- The bit instructions that read an operand change BA alone (06 Table 6-7). -/
def Sys2Proof.Claim.BitLogicSetsBa : Prop :=
  ∀ p ∈ [((Instr.ld, fun _ b => b) : (BitOp → Instr) × (Bool → Bool → Bool)), (Instr.ldn, fun _ b => !b),
         (Instr.and, fun a b => a && b), (Instr.andn, fun a b => a && !b),
         (Instr.or, fun a b => a || b), (Instr.orn, fun a b => a || !b),
         (Instr.xor, fun a b => a != b), (Instr.xorn, fun a b => a == b)],
  ∀ op s i x, Scanning s i x →
    ∃ t, exec (p.1 op) s = .next t ∧ OnlyScans s t ∧
      t.chan i = { s.chan i with ba := p.2 (s.chan i).ba ((s.chan i).readBit op), scan := some (after x 2) }

/-- The instructions without operand that move BA, WA, IX and the flags, one cycle each (06 Table 6-7). -/
def Sys2Proof.Claim.AccumulatorMoves : Prop :=
  ∀ s i x, Scanning s i x →
    let c := { s.chan i with scan := some (after x 1) }
    ∀ p ∈ [((Instr.nop, c) : Instr × Chan), (Instr.not, { c with ba := !c.ba }), (Instr.setba, { c with ba := true }),
           (Instr.clrba, { c with ba := false }), (Instr.ldov, { c with ba := c.ov }), (Instr.lddz, { c with ba := c.dz }),
           (Instr.ldif, { c with ba := c.iff }), (Instr.btow, { c with wa := if c.ba then 1 else 0 }),
           (Instr.wtob, { c with ba := c.wa != 0 }), (Instr.ldix, { c with ix := c.wa.extractLsb' 0 21 }),
           (Instr.stix, { c with wa := c.ix.zeroExtend 32 })],
    ∃ t, exec p.1 s = .next t ∧ OnlyScans s t ∧ t.chan i = p.2

/-- TBIT and SBIT move one bit between WA and BA and leave the others (06 Table 6-7). -/
def Sys2Proof.Claim.BitOfWord : Prop :=
  ∀ (n : Fin 32) s i x, Scanning s i x →
    (∃ t, exec (.tbit n) s = .next t ∧ OnlyScans s t ∧
      t.chan i = { s.chan i with ba := (s.chan i).wa.getLsbD n.val, scan := some (after x 1) }) ∧
    (∃ t w, exec (.sbit n) s = .next t ∧ OnlyScans s t ∧
      (∀ m : Nat, m < 32 → w.getLsbD m = if m = n.val then (s.chan i).ba else (s.chan i).wa.getLsbD m) ∧
      t.chan i = { s.chan i with wa := w, scan := some (after x 1) })

/-- The instructions that work on BA, and the moves between the registers (06 Table 6-7). -/
def Obligations.BitOperations : Prop := BitLogicSetsBa ∧ AccumulatorMoves ∧ BitOfWord

/-- ST, STN, SET and RST write the one bit they name, and no other (06 Table 6-7). -/
def Sys2Proof.Claim.BitStores : Prop :=
  ∀ p ∈ [((Instr.st, fun a _ => a) : (BitOp → Instr) × (Bool → Bool → Bool)), (Instr.stn, fun a _ => !a),
         (Instr.set, fun a b => a || b), (Instr.rst, fun a b => !a && b)],
  ∀ op s i x, Scanning s i x →
    ∃ t, exec (p.1 op) s = .next t ∧ OnlyScans s t ∧ SameRegs (s.chan i) (t.chan i) ∧
      (t.chan i).scan = some (after x 2) ∧
      (t.chan i).readBit op = p.2 (s.chan i).ba ((s.chan i).readBit op) ∧
      (∀ o, o ≠ op → (t.chan i).readBit o = (s.chan i).readBit o) ∧
      (∀ o, (t.chan i).readWord o = (s.chan i).readWord o)

/-- LDW loads its operand; STW writes the one word it names, and no other (06 Table 6-7). -/
def Sys2Proof.Claim.WordLoadStore : Prop :=
  (∀ op s i x, Scanning s i x →
    ∃ t, exec (.ldw op) s = .next t ∧ OnlyScans s t ∧
      t.chan i = { s.chan i with wa := (s.chan i).readWord op, scan := some (after x (2 + snapCycle op)) }) ∧
  (∀ (op : StoreOp) s i x, Scanning s i x →
    let w : WordOp := match op with | .word a => .word a | .out a => .out a
    ∃ t, exec (.stw op) s = .next t ∧ OnlyScans s t ∧ SameRegs (s.chan i) (t.chan i) ∧
      (t.chan i).scan = some (after x 2) ∧
      (t.chan i).readWord w = (s.chan i).wa ∧
      (∀ o, o ≠ w → (t.chan i).readWord o = (s.chan i).readWord o) ∧
      (∀ o, (t.chan i).readBit o = (s.chan i).readBit o))

/-- Stores write the one place they name; LDW loads (06 Table 6-7). -/
def Obligations.LoadsAndStores : Prop := BitStores ∧ WordLoadStore

/-- The X forms address ADDR + IX; at or above the limit of the space they set IF, a load gives 0, a store writes
nothing (06 R178, Table 6-1). -/
def Sys2Proof.Claim.IndexedForms : Prop :=
  (∀ (p : Nat × WordOp × IdxOp) (a : Nat) s i x, Scanning s i x →
    p ∈ [(s.limits.word, WordOp.word (a + (s.chan i).ix.toNat), IdxOp.word a),
         (s.limits.const, WordOp.const (a + (s.chan i).ix.toNat), IdxOp.const a),
         (131072, WordOp.snap (a + (s.chan i).ix.toNat), IdxOp.snap a),
         (s.limits.out, WordOp.out (a + (s.chan i).ix.toNat), IdxOp.out a),
         (64, WordOp.sys (a + (s.chan i).ix.toNat), IdxOp.sys a)] →
    ∃ t, exec (.ldwx p.2.2) s = .next t ∧ OnlyScans s t ∧
      t.chan i = { s.chan i with
        wa := if a + (s.chan i).ix.toNat < p.1 then (s.chan i).readWord p.2.1 else 0,
        iff := (s.chan i).iff || decide (p.1 ≤ a + (s.chan i).ix.toNat),
        scan := some (after x (3 + snapCycle p.2.1)) }) ∧
  (∀ (p : Nat × WordOp × StoreOp) (a : Nat) s i x, Scanning s i x →
    p ∈ [(s.limits.word, WordOp.word (a + (s.chan i).ix.toNat), StoreOp.word a),
         (s.limits.out, WordOp.out (a + (s.chan i).ix.toNat), StoreOp.out a)] →
    ∃ t, exec (.stwx p.2.2) s = .next t ∧ OnlyScans s t ∧
      (if a + (s.chan i).ix.toNat < p.1 then
        SameRegs (s.chan i) (t.chan i) ∧ (t.chan i).scan = some (after x 3) ∧
        (t.chan i).readWord p.2.1 = (s.chan i).wa ∧
        (∀ o, o ≠ p.2.1 → (t.chan i).readWord o = (s.chan i).readWord o) ∧
        (∀ o, (t.chan i).readBit o = (s.chan i).readBit o)
       else t.chan i = { s.chan i with iff := true, scan := some (after x 3) }))

/-- A jump with OFFSET o at a continues at a + o; JC jumps when BA is 1, JNC when it is 0 (06 R177, Table 6-7). -/
def Sys2Proof.Claim.JumpsGoForward : Prop :=
  ∀ o s i x, Scanning s i x →
    ∀ p ∈ [((Instr.jmp o, true) : Instr × Bool), (Instr.jc o, (s.chan i).ba), (Instr.jnc o, !(s.chan i).ba)],
    ∃ t, exec p.1 s = .next t ∧ OnlyScans s t ∧
      t.chan i = { s.chan i with scan := some { x with pc := if p.2 then x.pc + o else x.pc + 1, cyc := x.cyc + 2 } }

/-- LDQ loads the quality code of the item that holds the word, LDAGE its age in whole µs, saturating at 0x7FFF_FFFF;
an item without acquisition has that age, a reserved word is MISSING (06 R168, Table 6-4). -/
def Sys2Proof.Claim.ItemQualityAge : Prop :=
  ∀ a s i x, Scanning s i x →
    (∃ t, exec (.ldq a) s = .next t ∧ OnlyScans s t ∧
      t.chan i = { s.chan i with
        wa := (match ((s.chan i).itemAt a).q with
          | .good => 0 | .stale => 1 | .subst => 2 | .sim => 3 | .missing => 4 | .void => 5),
        scan := some (after x 4) }) ∧
    (∃ t, exec (.ldage a) s = .next t ∧ OnlyScans s t ∧
      t.chan i = { s.chan i with
        wa := (match ((s.chan i).itemAt a).acq with
          | some d => BitVec.ofNat 32 (min ((x.ts * 1000 - d) / 1000) 0x7FFFFFFF)
          | none => 0x7FFFFFFF#32),
        scan := some (after x 4) }) ∧
    (itemKey a = none → ((s.chan i).itemAt a).q = .missing ∧ ((s.chan i).itemAt a).acq = none)

/-- The X forms, LDQ and LDAGE (06 R178, R168). -/
def Obligations.IndexedAndItemReads : Prop := IndexedForms ∧ ItemQualityAge

/-! ## Timers, counters, edge memories (06 R181 to R184) -/

/-- TON, TOF and TP evaluate their timer as R181's program gives, and no other timer changes; pt is max(WA, 0) ms. -/
def Sys2Proof.Claim.TimersFollowProgram : Prop :=
  ∀ n s i x, Scanning s i x →
    let c := s.chan i
    let u := c.timer n
    let pt := (max c.wa.toInt 0).toNat * 1000
    let run := min (u.et + x.d) 2147483647999
    let tonEt := if c.ba then (if u.tt then run else 0) else 0
    let tofEt := if c.ba then 0 else if u.tt then 0 else if u.q then run else u.et
    let tpOn := (!u.q && c.ba && !u.tt) || u.q
    let tpEt := if !u.q && c.ba && !u.tt then 0 else if u.q then run else if c.ba then u.et else 0
    ∀ p ∈ [((Instr.ton n, tonEt, c.ba && decide (pt ≤ tonEt)) : Instr × Nat × Bool),
           (Instr.tof n, tofEt, c.ba || (u.q && !decide (pt ≤ tofEt))),
           (Instr.tp n, tpEt, tpOn && !decide (pt ≤ tpEt))],
    ∃ t, exec p.1 s = .next t ∧ OnlyScans s t ∧
      t.chan i = { c with ba := p.2.2, mem := { c.mem with timers := (t.chan i).mem.timers },
                          touched := (t.chan i).touched, scan := some (after x 6) } ∧
      (t.chan i).timer n = ⟨p.2.1, c.ba, p.2.2⟩ ∧ ∀ m, m ≠ n → (t.chan i).timer m = c.timer m

/-- TRST clears ET, TT and Q when BA is 1 and does nothing when BA is 0; LDET loads ET in whole ms (06 R182). -/
def Sys2Proof.Claim.TimerResetAndLoad : Prop :=
  ∀ n s i x, Scanning s i x →
    let c := s.chan i
    (∃ t, exec (.trst n) s = .next t ∧ OnlyScans s t ∧
      t.chan i = { c with mem := { c.mem with timers := (t.chan i).mem.timers }, touched := (t.chan i).touched,
                          scan := some (after x 3) } ∧
      (t.chan i).timer n = (if c.ba then ⟨0, false, false⟩ else c.timer n) ∧
      ∀ m, m ≠ n → (t.chan i).timer m = c.timer m) ∧
    (∃ t, exec (.ldet n) s = .next t ∧ OnlyScans s t ∧
      t.chan i = { c with wa := BitVec.ofNat 32 ((c.timer n).et / 1000), scan := some (after x 3) })

/-- TON, TOF, TP, TRST and LDET (06 R181, R182). -/
def Obligations.Timers : Prop := TimersFollowProgram ∧ TimerResetAndLoad

/-- CTU and CTD evaluate their counter as R183's program gives; CRST and CLD change CV alone; LDCV loads it. -/
def Sys2Proof.Claim.CountersFollowProgram : Prop :=
  ∀ n s i x, Scanning s i x →
    let c := s.chan i
    let u := c.counter n
    let rise := u.cinit && c.ba && !u.cl
    let up := if rise then min (u.cv.toInt + 1) 2147483647 else u.cv.toInt
    let down := if rise then max (u.cv.toInt - 1) (-2147483648) else u.cv.toInt
    let same := fun (t : State) (cyc : Nat) (ba : Bool) =>
      t.chan i = { c with ba := ba, mem := { c.mem with counters := (t.chan i).mem.counters },
                          touched := (t.chan i).touched, scan := some (after x cyc) } ∧
      ∀ m, m ≠ n → (t.chan i).counter m = c.counter m
    (∀ p ∈ [((Instr.ctu n, up, decide (c.wa.toInt ≤ up)) : Instr × Int × Bool),
            (Instr.ctd n, down, decide (down ≤ c.wa.toInt))],
      ∃ t, exec p.1 s = .next t ∧ OnlyScans s t ∧ same t 5 p.2.2 ∧
        (t.chan i).counter n = ⟨BitVec.ofInt 32 p.2.1, p.2.2, c.ba, true⟩) ∧
    (∀ p ∈ [((Instr.crst n, 0) : Instr × Word), (Instr.cld n, c.wa)],
      ∃ t, exec p.1 s = .next t ∧ OnlyScans s t ∧ same t 3 c.ba ∧
        (t.chan i).counter n = { u with cv := if c.ba then p.2 else u.cv }) ∧
    (∃ t, exec (.ldcv n) s = .next t ∧ OnlyScans s t ∧
      t.chan i = { c with wa := u.cv, scan := some (after x 3) })

/-- REDGE and FEDGE: the first execution finds no edge; later ones compare BA with the stored bit (06 R184). -/
def Sys2Proof.Claim.EdgesFollowProgram : Prop :=
  ∀ n s i x, Scanning s i x →
    let c := s.chan i
    let u := c.edge n
    ∀ p ∈ [((Instr.redge n, u.einit && c.ba && !u.m) : Instr × Bool), (Instr.fedge n, u.einit && u.m && !c.ba)],
    ∃ t, exec p.1 s = .next t ∧ OnlyScans s t ∧
      t.chan i = { c with ba := p.2, mem := { c.mem with edges := (t.chan i).mem.edges }, touched := (t.chan i).touched,
                          scan := some (after x 3) } ∧
      (t.chan i).edge n = ⟨c.ba, true⟩ ∧ ∀ m, m ≠ n → (t.chan i).edge m = c.edge m

/-- CTU, CTD, CRST, CLD, LDCV, REDGE and FEDGE (06 R183, R184). -/
def Obligations.CountersAndEdges : Prop := CountersFollowProgram ∧ EdgesFollowProgram

/-! ## The nesting stack and the end of a scan (06 R173 to R176) -/

/-- The opening instructions and the operation each pushes. -/
def Sys2Proof.Claim.openers : List (Instr × StackOp) :=
  [(.andOpen, .and), (.orOpen, .or), (.xorOpen, .xor), (.addOpen, .add), (.subOpen, .sub), (.mulOpen, .mul), (.qmulOpen, .qmul)]

/-- An opening instruction pushes (BA, WA, operation) when every scanning channel's stack holds fewer than 16 entries,
and leaves BA and WA unchanged (06 R173). -/
def Sys2Proof.Claim.OpeningPushes : Prop :=
  ∀ p ∈ openers, ∀ s i x, Scanning s i x → (∀ j, (s.chan j).scan ≠ none → (s.chan j).stack.length < 16) →
    ∃ t, exec p.1 s = .next t ∧ OnlyScans s t ∧
      t.chan i = { s.chan i with stack := ⟨(s.chan i).ba, (s.chan i).wa, p.2⟩ :: (s.chan i).stack,
                                 scan := some (after x 2) }

/-- ")" pops the top entry when no scanning channel's stack is empty: BA or WA takes the combination, with the popped
value on the left (06 R174). -/
def Sys2Proof.Claim.ClosingCombines : Prop :=
  ∀ s i x b w k rest, Scanning s i x → (∀ j, (s.chan j).scan ≠ none → (s.chan j).stack ≠ []) →
    (s.chan i).stack = ⟨b, w, k⟩ :: rest →
    let c := { s.chan i with stack := rest, scan := some (after x 4) }
    let word := fun (r : Int) => { c with wa := clamp r, ov := c.ov || outside r }
    ∃ t, exec .closeParen s = .next t ∧ OnlyScans s t ∧
      match k with
      | .and => t.chan i = { c with ba := b && c.ba }
      | .or => t.chan i = { c with ba := b || c.ba }
      | .xor => t.chan i = { c with ba := b != c.ba }
      | .add => t.chan i = word (w.toInt + c.wa.toInt)
      | .sub => t.chan i = word (w.toInt - c.wa.toInt)
      | .mul => t.chan i = word (w.toInt * c.wa.toInt)
      | .qmul => ∃ q, HalfEven (w.toInt * c.wa.toInt) 65536 q ∧ t.chan i = word q

/-- Opening instructions push, closing ones pop (06 R173, R174). -/
def Obligations.NestingStack : Prop := OpeningPushes ∧ ClosingCombines

/-- An opening instruction with 16 entries on the stack and a ")" with none abandon the scan: it is over, its ballots
withheld, its memory as it stood (06 R175). -/
def Obligations.StackFaultsAbandon : Prop :=
  ∀ s i x, Scanning s i x → (∀ j, j ≠ i → (s.chan j).scan = none) →
    ∀ p ∈ (Instr.closeParen, 0) :: openers.map (fun o => (o.1, 16)), (s.chan i).stack.length = p.2 →
    ∃ t, exec p.1 s = .next t ∧ (t.chan i).scan = none ∧ (t.chan i).stack = [] ∧
      (∀ o, (t.chan i).readBit o = (s.chan i).readBit o) ∧ (∀ o, (t.chan i).readWord o = (s.chan i).readWord o) ∧
      (t.comb.cyc.work.get i).done = (s.comb.cyc.work.get i).done ∧
      (s.lowVoting = some i → bitOf (SMap.get dNat t.chn.lgeFlags x.task) (if p.2 = 0 then 5 else 6) = true)

/-- END completes the scan and discards the stack; the task joins those whose ballots the channel posts, and entries
left on the stack set STK_RES (06 R162, R176). -/
def Sys2Proof.Claim.EndCompletes : Prop :=
  ∀ s i x, Scanning s i x →
    ∃ t, exec .endScan s = .next t ∧ (t.chan i).scan = none ∧ (t.chan i).stack = [] ∧
      x.task ∈ (t.comb.cyc.work.get i).done ∧
      (∀ o, (t.chan i).readBit o = (s.chan i).readBit o) ∧ (∀ o, (t.chan i).readWord o = (s.chan i).readWord o) ∧
      (s.lowVoting = some i → (s.chan i).stack ≠ [] → bitOf (SMap.get dNat t.chn.lgeFlags x.task) 4 = true)

/-- Where a scan goes on, and how it ends (06 R176, R177). -/
def Obligations.JumpsAndEnd : Prop := JumpsGoForward ∧ EndCompletes

/-! ## Host commands (17) -/

/-- The host island hands over one entry, of pair `q`, to an idle management island in power state SERVICE: nothing is
held, nothing waits to be posted, and every latched entry of every pair has been fetched and served. -/
structure Sys2Proof.Claim.Quiet (s : State) (h : Hdr) (q : Qp) : Prop where
  power : s.pwr.power = .service
  clocks : s.clk.wait = []
  next : s.hst.handover = [h.qp]
  small : h.qp < 64
  pair : s.qp? h.qp = some q
  kind : q.kind = 1
  idle : ∀ p ∈ s.hst.qps, p.latched = p.fetched ∧ p.tailDb = p.fetched % p.size ∧ p.bufs = [] ∧ p.gathered = []
  good : h.bad = false
  free : h.fence = false
  held : s.mgt.held = []
  fences : s.mgt.fenceWait = []
  reads : s.hst.reads = []
  cpls : s.hst.cpls = []
  events : s.hst.events = []
  deleting : s.hst.deleting = []
  cell : s.hst.cell = none

/-- The command has completed with status `st` and results `r0` and `r1`: it is held no longer, it is counted, and its
entry is in the ring, or in RUN waits for the next HST cell (17 R442, 16 R425). -/
def Sys2Proof.Claim.Done (s t : State) (h : Hdr) (q : Qp) (st r0 r1 : Nat) : Prop :=
  (∀ x ∈ t.mgt.held, x.seq ≠ s.mgt.seq) ∧
  (if st = 0 then t.mgt.cmdOk = min (s.mgt.cmdOk + 1) max32 else t.mgt.cmdFail = min (s.mgt.cmdFail + 1) max32) ∧
  (if t.mgt.run = .run then
    ∃ c ∈ t.hst.cpls, c.qp = h.qp ∧ c.cid = h.cid ∧ c.status = st ∧ c.res0 = r0 ∧ c.res1 = r1 ∧ c.dt = s.tim.dt
   else q.entry r0 r1 s.tim.dt h.cid st ∈ t.hst.out)

/-- The command is held, taken at the state's DT, and has not completed (17 R441). -/
def Sys2Proof.Claim.Held (s t : State) (h : Hdr) (c : Instr) : Prop :=
  t.mgt.held = [⟨s.mgt.seq, h.qp, h.cid, hostOpc c, s.tim.dt, 0⟩] ∧ t.mgt.cmdOk = s.mgt.cmdOk ∧ t.mgt.cmdFail = s.mgt.cmdFail

/-- In the management island only the count of commands taken and of completions has moved. -/
def Sys2Proof.Claim.OnlyCounted (s t : State) : Prop :=
  t.mgt = { s.mgt with seq := s.mgt.seq + 1, cmdOk := t.mgt.cmdOk, cmdFail := t.mgt.cmdFail, lastFail := t.mgt.lastFail }

/-- The commands that only read. -/
inductive Sys2Proof.Claim.Query (h : Hdr) : Instr → Prop
  | identify : Query h (.identify h)
  | ringStatus (n : Nat) : Query h (.ringStatus h n)
  | status : Query h (.status h)
  | swapReport (f n : Nat) : Query h (.swapReport h f n)
  | query (f n : Nat) : Query h (.query h f n)
  | solution (p : Nat) : Query h (.solution h p)
  | regRead (k i : Nat) : Query h (.regRead h k i)
  | archiveRead (f n : Nat) : Query h (.archiveRead h f n)
  | recCounts : Query h (.recCounts h)
  | slotQuery (n : Nat) : Query h (.slotQuery h n)
  | rtcRead : Query h (.rtcRead h)
  | panelStatus : Query h (.panelStatus h)
  | captureRead (p : Nat) : Query h (.captureRead h p)
  | history (c : Nat) : Query h (.history h c)
  | echo (a b : Nat) : Query h (.echo h a b)

/-- A command that only reads completes at once, in every run state that takes it, and changes nothing but the host
interface, the count of commands and the free values used (17 Table 17-4). -/
def Sys2Proof.Claim.QueriesOnlyRead : Prop :=
  ∀ s h q c, Quiet s h q → Query h c → s.takes (hostOpc c) = true → s.paramsOk c = true →
    ∃ t st r0 r1, exec c s = .next t ∧ Done s t h q st r0 r1 ∧ OnlyCounted s t ∧
      t = { s with hst := t.hst, mgt := t.mgt, fresh := t.fresh }

/-- ECHO returns its 16 bytes, IDENTIFY the part, the ROM revision and the run state, RTC_READ the calendar
(17 Table 17-4). -/
def Sys2Proof.Claim.QueryResults : Prop :=
  ∀ s h q, Quiet s h q →
    (∀ a b, a < 2 ^ 64 → b < 2 ^ 64 → ∃ t, exec (.echo h a b) s = .next t ∧ Done s t h q 0 a b) ∧
    (∃ t, exec (.identify h) s = .next t ∧
      Done s t h q 0 (0x4096 * 65536 + Config.romRev.toNat)
        (match s.mgt.run with | .init => 0 | .setup => 1 | .run => 2 | .halt => 3)) ∧
    (∃ t, exec (.rtcRead h) s = .next t ∧
      let c := civilOf s.rtc.secs
      Done s t h q 0 (leNat (leBytes 2 c.year ++ [BitVec.ofNat 8 c.month, BitVec.ofNat 8 c.day, BitVec.ofNat 8 c.hour,
        BitVec.ofNat 8 c.minute, BitVec.ofNat 8 c.second])) s.tim.dt)

/-- Commands that only read (17 Table 17-4). -/
def Obligations.Queries : Prop := QueriesOnlyRead ∧ QueryResults

/-- A command taken in a run state its row does not list completes with RUN_STATE and has no other effect (17 R450). -/
def Sys2Proof.Claim.WrongRunStateRefused : Prop :=
  ∀ s h q o c, Quiet s h q → hostEntry c = some (o, h) → s.paramsOk c = true → authorised o = false →
    s.mgt.run ∉ opcStates o →
    ∃ t, exec c s = .next t ∧ Done s t h q 0x01 0 s.tim.dt ∧ OnlyCounted s t ∧ t = { s with hst := t.hst, mgt := t.mgt }

/-- A malformed entry at the head of the hand-over, or one with a field out of range, is a host error, whose results are
unpredictable (16 R433, 17 R450): the model stops with that fault, and host commands stop with no other. -/
def Sys2Proof.Claim.HostErrorsStop : Prop :=
  ∀ s h o c, hostEntry c = some (o, h) →
    ((s.takeable h = true ∧ (h.bad = true ∨ s.paramsOk c = false) → exec c s = .fault .hostError) ∧
     (∀ f, exec c s = .fault f → f = .hostError ∧ s.takeable h = true ∧ (h.bad = true ∨ s.paramsOk c = false)) ∧
     ∀ r, exec c s ≠ .refused r)

/-- A command the run state does not list is refused; a host error stops the model (17 R450, 16 R433). -/
def Obligations.Admission : Prop := WrongRunStateRefused ∧ HostErrorsStop

/-- An entry with FENCE is not taken while an earlier command of its submission queue is held: it waits, and so does every
later entry of that queue (17 R443). -/
def Obligations.FenceHoldsBack : Prop :=
  ∀ s h o c, hostEntry c = some (o, h) → s.takeable h = true → h.bad = false → s.paramsOk c = true → h.qp < 64 →
    s.hst.handover.head? = some h.qp → s.fenceReady = none →
    ((h.fence = true ∧ ∃ x ∈ s.mgt.held, x.qp = h.qp ∧ x.fate = 0) ∨ (∃ w ∈ s.mgt.fenceWait, w.1 = h.qp)) →
    s.hst.handover.length ≠ 1 →
    exec c s = .next { s with hst := { s.hst with handover := s.hst.handover.drop 1 },
                              mgt := { s.mgt with fenceWait := s.mgt.fenceWait ++ [(h.qp, c)] } }

/-- QP_CREATE refuses an existing pair, QPID 0 and a QP01 that is no EVENT pair, and a stream whose mask names a channel or
port another stream of its kind holds; otherwise the pair exists, empty. QP_DELETE takes a pair away (16 R419, R420). -/
def Obligations.PairsComeAndGo : Prop :=
  ∀ s h q, Quiet s h q →
    (∀ p, s.paramsOk (.qpCreate h p) = true →
      ∃ t, exec (.qpCreate h p) s = .next t ∧
        if (s.qp? p.qpid).isSome then Done s t h q 0x08 0 s.tim.dt
        else if p.qpid = 0 ∨ (p.qpid = 1 ∧ p.kind ≠ 2) then Done s t h q 0x09 0 s.tim.dt
        else if ∃ x ∈ s.hst.qps, x.kind = p.kind ∧ x.mask &&& p.mask ≠ 0 then Done s t h q 0x0A 0 s.tim.dt
        else Done s t h q 0 0 s.tim.dt ∧
          t.qp? p.qpid = some (newQp p.qpid p.kind p.sizeLog p.vector p.ien p.sqBase p.cqBase p.mask)) ∧
    (∀ n, q.id = 0 → n ≤ 63 → s.sending n = false →
      ∃ t, exec (.qpDelete h n) s = .next t ∧
        if n = 0 then Done s t h q 0x09 0 s.tim.dt
        else Done s t h q 0 0 s.tim.dt ∧ t.qp? n = none)

/-- An authorised command taken in a run state that lists it, with none under verification, consumes the outstanding
challenge, is held, and its block goes to the key island as the last piece of key work (17 R447, R449). -/
def Obligations.AuthorisedCommandsVerify : Prop :=
  ∀ s h q c, Quiet s h q →
    ((∃ m b, c = .halt h m b) ∨ (∃ b, c = .setup h b) ∨ (∃ x b, c = .activate h x b) ∨
     (∃ e r g d b, c = .trim h e r g d b) ∨ (∃ b, c = .dormant h b) ∨ (∃ p m w b, c = .outputForce h p m w b)) →
    s.mgt.run ∈ opcStates (hostOpc c) → s.paramsOk c = true → s.mgt.auth = none →
    ∃ t j, exec c s = .next t ∧ Held s t h c ∧ t.mgt.chal = none ∧
      t.mgt.auth = some ⟨s.mgt.seq, c, s.mgt.chal⟩ ∧ t.key.jobs = s.key.jobs ++ [j] ∧ j.work = .auth

/-- A command that needs the key island is held, and its work is the last piece of key work: UPDATE with no other update,
ATTEST of a slot that holds a key, LEGACY_EXPORT of an exportable key under a key the wrap engine may use, IDENTITY, and
VERIFY of a super in WRITING (04 R94, 17 R444, 18 R469, R470). -/
def Obligations.KeyWorkQueues : Prop :=
  ∀ s h q, Quiet s h q → s.mgt.run ≠ .init →
    let waits := fun (c : Instr) (w : KeyWork) =>
      ∃ t j, exec c s = .next t ∧ Held s t h c ∧ t.key.jobs = s.key.jobs ++ [j] ∧ j.work = w
    (∀ m, (∀ j ∈ s.key.jobs, ∀ a b, j.work ≠ .update a b) → waits (.update h m) (.update s.mgt.seq m)) ∧
    (∀ n b, n < 256 → b.length = 32 → (s.slot n).st = .key → (s.slot 0).st ≠ .faulted → (s.slot 1).st ≠ .faulted →
      waits (.attest h n b) (.attest s.mgt.seq n b)) ∧
    (∀ n w, n < 256 → w < 256 → (s.slot n).st = .key → (s.slot n).exportable = true → (s.keyPeek engWrap w).isSome = true →
      waits (.legacyExport h n w) (.wrap s.mgt.seq n w)) ∧
    waits (.identity h) (.identity s.mgt.seq) ∧
    (∀ x, x ≤ 1 → (s.super x).st = .writing → (∀ j ∈ s.key.jobs, ∀ a, j.work ≠ .verify a x) →
      waits (.verify h x) (.verify s.mgt.seq x))

/-- A command that takes effect later is held, and waits in the queue of its unit, with its operands: SIMULATE for a
snapshot, the calendar's adjustments for their boundary, RTC_FROM_PTP for the second it fixes, TX_AN for the next
hyperperiod, FREQ_MEASURE for the next whole second, EDIT and READ in RUN for the next hyperperiod (01 Table 1-7,
20 R511 to R514, 13 R370, 19 R488, 04 R117). -/
def Obligations.WaitingCommandsQueue : Prop :=
  ∀ s h q, Quiet s h q → s.mgt.run ≠ .init →
    let waits := fun (c : Instr) (u : State → State → Prop) => ∃ t, exec c s = .next t ∧ Held s t h c ∧ u s t
    let adj := fun (a : Adj) (s t : State) => t.rtc = { s.rtc with waiting := s.rtc.waiting ++ [⟨s.mgt.seq, s.tim.dt, a⟩] }
    (∀ n b, (∃ d ∈ s.stnDefs, d.stn = n) → n < 4096 → 60 ≤ b.length →
      waits (.simulate h n 1 b) (fun s t => t.stn.sims = s.stn.sims ++ [⟨s.mgt.seq, s.tim.dt, n, some (b.take 60)⟩]) ∧
      waits (.simulate h n 0 b) (fun s t => t.stn.sims = s.stn.sims ++ [⟨s.mgt.seq, s.tim.dt, n, none⟩])) ∧
    waits (.addHour h) (adj .addHour) ∧ waits (.subHour h) (adj .subHour) ∧
    (∀ c, civilFits c = true → c.valid = true → waits (.rtcSet h c) (adj (.set c.secs))) ∧
    (s.tim.tstate = .trusted → s.tim.utcValid = true →
      waits (.rtcFromPtp h) (fun s t => ∃ p, t.rtc.ptp = s.rtc.ptp ++ [p] ∧ p.seq = s.mgt.seq ∧
        p.w = s.tim.dt / 1000000000 + 1)) ∧
    (∀ p a d, p ≤ 7 → a ≤ 1 → s.ethDef? p = some d → d.macsec = true →
      waits (.txAn h p a) (fun s t => t.eth.txan = s.eth.txan ++ [(s.mgt.seq, p, a)])) ∧
    (∀ x, x ≤ 9 → waits (.freqMeasure h x) (fun s t => ∃ j, t.clk.freqJobs = s.clk.freqJobs ++ [j] ∧ j.src = x ∧
      j.t = (s.tim.dt / 1000000000 + 1) * 1000000000 ∧ j.moved = false)) ∧
    (s.mgt.run = .run → ∀ l, s.paramsOk (.read h l) = true → (∀ p ∈ l, (s.valueEntry? p).isSome = true) →
      waits (.read h l) (fun s t => t.sup.reads = s.sup.reads ++ [⟨s.mgt.seq, l⟩])) ∧
    (s.mgt.run = .run → ∀ l, s.paramsOk (.edit h l) = true → (s.editStatus l).1 = 0 →
      waits (.edit h l) (fun s t => t.sup.edits = s.sup.edits ++ [⟨s.mgt.seq, (s.editStatus l).2⟩]))

/-- WRITE puts its bytes into a super that is neither ACTIVE nor ARMED, which is WRITING from then on, and touches no byte
outside them; ACTIVE, ARMED and a write beyond 16 MiB are refused (04 R94, 17 Table 17-4). -/
def Obligations.WriteStoresImageBytes : Prop :=
  ∀ s h q x o d, Quiet s h q → s.mgt.run ≠ .init → s.paramsOk (.write h x o d) = true →
    (∀ j ∈ s.key.jobs, ∀ a, j.work ≠ .verify a x) →
    ∃ t, exec (.write h x o d) s = .next t ∧
      if (s.super x).st = .active then Done s t h q 0x13 0 s.tim.dt ∧ t.sup = s.sup
      else if (s.super x).st = .armed then Done s t h q 0x04 0 s.tim.dt ∧ t.sup = s.sup
      else if 16777216 < o + d.length then Done s t h q 0x17 0 s.tim.dt ∧ t.sup = s.sup
      else Done s t h q 0 0 s.tim.dt ∧ (t.super x).st = .writing ∧
        (∀ y, y ≤ 1 → y ≠ x → t.super y = s.super y) ∧
        (∀ a, a < o ∨ o + d.length ≤ a → SMap.get dByte (t.super x).bytes a = SMap.get dByte (s.super x).bytes a) ∧
        (∀ n b, d[n]? = some b → SMap.get dByte (t.super x).bytes (o + n) = b)

/-- ARM of a LOADED super that meets R101 makes it ARMED for its hyperperiod; DISARM of a swap not yet committed makes it
LOADED again, and ARM completes with ABORTED; with none armed, or a committed swap, DISARM is refused (04 R100 to R103). -/
def Obligations.ArmAndDisarm : Prop :=
  ∀ s h q, Quiet s h q → s.mgt.run = .run → (∀ a, s.sup.armed = some a → a.seq ≠ some s.mgt.seq) →
    (∀ x k, x ≤ 1 → k < 2 ^ 64 → s.armStatus x (toSigned 64 k) = 0 →
      ∃ t, exec (.arm h x k) s = .next t ∧ Held s t h (.arm h x k) ∧ (t.super x).st = .armed ∧
        t.sup.armed = some ⟨x, toSigned 64 k, false, false, ⟨false, false, false⟩, some s.mgt.seq⟩) ∧
    (∃ t, exec (.disarm h) s = .next t ∧
      match s.sup.armed with
      | none => Done s t h q 0x14 0 s.tim.dt ∧ t.sup = s.sup
      | some a => if a.committed then Done s t h q 0x16 0 s.tim.dt ∧ t.sup = s.sup
        else Done s t h q 0 0 s.tim.dt ∧ t.sup.armed = none ∧ (a.super ≤ 1 → (t.super a.super).st = .loaded))

/-- RUN is refused with the first status of Table 17-2 that applies; otherwise the device enters RUN (17 R437). -/
def Obligations.RunNeedsItsPreconditions : Prop :=
  ∀ s h q r, Quiet s h q → (s.mgt.run = .setup ∨ s.mgt.run = .halt) →
    (s.runStatus r ≠ 0 →
      ∃ t, exec (.run h r) s = .next t ∧ Done s t h q (s.runStatus r) 0 s.tim.dt ∧ t.mgt.run = s.mgt.run) ∧
    (s.runStatus r = 0 →
      ∃ t, exec (.run h r) s = .next t ∧ t.mgt.run = .run ∧ (∀ x ∈ t.mgt.held, x.seq ≠ s.mgt.seq)) ∧
    (∀ i, s.activeSuper ≠ none → s.sup.bank = some i → s.building = false → s.key.minEpoch ≤ i.epoch →
      s.imageFits i = true → s.votingCount ≠ 0 → (r = true → s.tim.tstate = .trusted) → s.runStatus r = 0)

/-- The commands whose effect is complete when they are accepted: CHALLENGE, RTC_TRIM, ALARM_SET, SET_POSITION, MAP_WRITE,
DOMAIN_SELECT, DELTA, CALIBRATE, FREEZE and THAW, and outside RUN EDIT and READ, change the one thing each names
(17 Table 17-4). -/
def Obligations.ImmediateCommandsAct : Prop :=
  ∀ s h q, Quiet s h q →
    (s.mgt.run ≠ .init → s.key.rngFail = false → ∃ t c, exec (.challenge h) s = .next t ∧
      t.mgt.chal = some c ∧ c.issue = s.tim.dt ∧ c.value = (List.range 16).map (fun i => Config.trng (s.fresh + i)) ∧
      Done s t h q 0 (leNat (c.value.take 8)) (leNat (c.value.drop 8))) ∧
    (s.mgt.run ≠ .init → ∀ n : Int, -2048 ≤ n → n ≤ 2047 → ∃ t, exec (.rtcTrim h n) s = .next t ∧
      Done s t h q 0 0 s.tim.dt ∧ t.rtc = { s.rtc with trimNext := some n }) ∧
    (s.mgt.run ≠ .init → ∀ n m p c, n ≤ 1 → m < 64 → p ≤ 1 → civilFits c = true → ∃ t, exec (.alarmSet h n m p 0 c) s = .next t ∧
      Done s t h q 0 0 s.tim.dt ∧
      t.alarm n = { s.alarm n with en := false, drop := decide (p = 1), mask := m, t := c, blocked := none }) ∧
    (s.mgt.run = .setup ∨ s.mgt.run = .halt → ∀ a (p : Int), a ≤ 15 → -2147483648 ≤ p → p ≤ 2147483647 →
      ∃ t, exec (.setPosition h a p) s = .next t ∧
        if (s.axDef? a).isSome then Done s t h q 0 0 s.tim.dt ∧ (a < s.axs.ax.length → t.ax a = { s.ax a with pos := p, ref := true })
        else Done s t h q 0xA2 0 s.tim.dt ∧ t.axs = s.axs) ∧
    (s.mgt.run = .setup ∨ s.mgt.run = .halt → ∀ m d, m ≤ 3 → 393216 ≤ d.length →
      ∃ t, exec (.mapWrite h m d) s = .next t ∧
        if s.panel?.isSome then Done s t h q 0 0 s.tim.dt ∧ t.pnl = { s.pnl with maps := t.pnl.maps } ∧
          ∀ k, k ≠ m → t.pnl.maps[k]? = s.pnl.maps[k]?
        else Done s t h q 0x91 0 s.tim.dt ∧ t.pnl = s.pnl) ∧
    (s.mgt.run ≠ .init → ∀ d, ∃ t, exec (.domainSelect h d) s = .next t ∧
      if (s.tim.domain d).lock then Done s t h q 0 0 s.tim.dt ∧ t.tim.active = d
      else Done s t h q 0x81 0 s.tim.dt ∧ t.tim = s.tim) ∧
    (s.mgt.run ≠ .init → ∀ r, deltaFit r = true →
      (∀ x ∈ deltaRecs r, s.hasProblem x.prob = true ∧ s.deltaFits x = true) →
      s.slv.hyd.deltas.length + r.length / 16 ≤ 65536 → s.slv.disp.deltas.length + r.length / 16 ≤ 65536 →
      ∃ t, exec (.delta h r) s = .next t ∧ Done s t h q 0 0 s.tim.dt ∧
        t.slv.hyd.deltas = s.slv.hyd.deltas ++ (deltaRecs r).filter (fun x => decide (x.prob = 1)) ∧
        t.slv.disp.deltas = s.slv.disp.deltas ++ (deltaRecs r).filter (fun x => decide (x.prob = 2))) ∧
    (s.mgt.run = .setup ∨ s.mgt.run = .halt → ∀ p c g o, p ≤ 1 → p < s.adc.pairs.length → calResult c = some (g, o) →
      ∃ t, exec (.calibrate h p c) s = .next t ∧ Done s t h q 0 0 s.tim.dt ∧
        t.adcPair p = { s.adcPair p with ok := true, gain := g, ofs := o }) ∧
    (s.mgt.run ≠ .init → ∃ t, exec (.freeze h) s = .next t ∧
      if s.rcd.freeze.isSome then Done s t h q 0x61 0 s.tim.dt ∧ t.rcd = s.rcd
      else Done s t h q 0 0 s.tim.dt ∧ t.rcd.freeze = some s.tim.dt) ∧
    (s.mgt.run ≠ .init → ∃ t, exec (.thaw h) s = .next t ∧
      if s.rcd.freeze.isSome then Done s t h q 0 0 s.tim.dt ∧ t.rcd.freeze = none
      else Done s t h q 0x62 0 s.tim.dt ∧ t.rcd = s.rcd) ∧
    (∀ f n, f < 2 ^ 32 → 1 ≤ n → n ≤ 1024 → ∃ t, exec (.recRead h f n) s = .next t ∧
      Done s t h q 0 ((s.rcd.stored.filter (fun r => decide (f ≤ r.rno))).take n).length s.tim.dt ∧
      t.rcd = { s.rcd with badSeal := t.rcd.badSeal }) ∧
    (s.mgt.run = .setup ∨ s.mgt.run = .halt → ∀ l, s.paramsOk (.read h l) = true → (∀ p ∈ l, (s.valueEntry? p).isSome = true) →
      ∃ t, exec (.read h l) s = .next t ∧ Done s t h q 0 0 s.tim.dt ∧ t.chn = s.chn ∧ t.sup = s.sup) ∧
    (s.mgt.run = .setup ∨ s.mgt.run = .halt → ∀ p v e, s.paramsOk (.edit h [(p, v)]) = true →
      s.editStatus [(p, v)] = (0, [(e, v)]) →
      ∃ t, exec (.edit h [(p, v)]) s = .next t ∧ Done s t h q 0 0 s.tim.dt ∧
        SMap.get dOpt t.sup.overlay e.addr = some v ∧ ∀ a, a ≠ e.addr → SMap.get dOpt t.sup.overlay a = SMap.get dOpt s.sup.overlay a)

/-- MOVE, HOME and STOP act on a declared axis: the command is held until standstill; one that already runs on the axis
ends with ABORTED; MOVE of an axis without reference, or out of its range, is refused (15 R398, R399, R403, 17 R444). -/
def Obligations.AxisCommandsHold : Prop :=
  ∀ s h q a d, Quiet s h q → (s.mgt.run = .setup ∨ s.mgt.run = .halt) → s.axDef? a = some d → a ≤ 15 →
    a < s.axs.ax.length → (s.ax a).seq = none → s.interOf a = none → (s.ax a).endHome = s.ax a →
    (∀ g v, -2147483648 ≤ g → g ≤ 2147483647 → v < 2 ^ 32 → ∃ t, exec (.move h a g v) s = .next t ∧
      if (s.ax a).ref = false then Done s t h q 0xA1 0 s.tim.dt ∧ t.axs = s.axs
      else if (s.ax a).moveBad d g v = true then Done s t h q 0xA3 0 s.tim.dt ∧ t.axs = s.axs
      else if (s.ax a).moving = false ∧ g = (s.ax a).pos then Done s t h q 0 0 s.tim.dt ∧ (t.ax a).seq = none
      else Held s t h (.move h a g v) ∧ (t.ax a).seq = some s.mgt.seq) ∧
    (∀ p, -2147483648 ≤ p → p ≤ 2147483647 → (s.ax a).moving = true →
      ∃ t, exec (.home h a p) s = .next t ∧ Held s t h (.home h a p) ∧ (t.ax a).seq = some s.mgt.seq ∧
        (t.ax a).next = .home p) ∧
    (∀ b, b ≤ 1 → ∃ t, exec (.stop h a b) s = .next t ∧
      if (s.ax a).moving = true then Held s t h (.stop h a b) ∧ (t.ax a).job = .stop (decide (b = 1))
      else Done s t h q 0 0 s.tim.dt ∧ (t.ax a).seq = none)

/-- PANEL_UPDATE needs a panel, a region of it and an uncracked panel: its frame then takes the region's pending slot, where
in RUN it waits for a PNL cell (22 R550). TOPOLOGY is refused for a problem the image does not declare; when its section is
in order, fits the store and none is being built, it is held while the structure is built (08 R233). -/
def Obligations.PanelAndTopologyCommands : Prop :=
  ∀ s h q, Quiet s h q → s.mgt.run ≠ .init →
    (∀ r f d, s.paramsOk (.panelUpdate h r f d) = true → ∃ t, exec (.panelUpdate h r f d) s = .next t ∧
      match s.panel? with
      | none => Done s t h q 0x91 0 s.tim.dt ∧ t.pnl = s.pnl
      | some p => if p.regions.length ≤ r then Done s t h q 0x91 0 s.tim.dt ∧ t.pnl = s.pnl
        else if s.pnl.cracked then Done s t h q 0x92 0 s.tim.dt ∧ t.pnl = s.pnl
        else s.mgt.run = .run → r < s.pnl.regs.length →
          Held s t h (.panelUpdate h r f d) ∧ (t.preg r).pend = some ⟨s.mgt.seq, f, d⟩) ∧
    (∀ p b, p = 1 ∨ p = 2 → s.sup.bank = none ∨ s.hasProblem p = false →
      ∃ t, exec (.topology h p b) s = .next t ∧ Done s t h q 0x43 0 s.tim.dt ∧ t.slv = s.slv) ∧
    (∀ b i d0, s.sup.bank = some i → s.slv.hyd.defn = some d0 → s.slv.hyd.topo = none →
      let v := View.ofBytes b
      v.size = v.wantLen 8 v → hydOk v { i with hyd := some v.hyd } v.hyd = true →
      s.slv.peak + v.hyd.blocks 2 ≤ 24576 →
      ∃ t, exec (.topology h 1 b) s = .next t ∧ Held s t h (.topology h 1 b) ∧
        t.slv.hyd.topo = some (s.mgt.seq, v.hyd, false))

/-! ## Power, resets, clocks (19) -/

/-- A start of kind `k` of PWR_STATE.LASTSTART has begun: the islands are powered and the device is in INIT (19 R498 to
R500). -/
def Sys2Proof.Claim.Started (t : State) (k : Nat) : Prop :=
  t.pwr.power = .service ∧ t.pwr.lastStart = k ∧ t.mgt.run = .init

/-- VIN and VAUX move the power state as Table 19-5 gives, and VIOb is the level of its bank; an event that changes no
supply changes nothing (19 R492 to R495). -/
def Obligations.SuppliesMovePower : Prop :=
  ∀ s : State,
    (∃ t, exec .vinPresent s = .next t ∧ t.pwr.vin = true ∧
      if s.pwr.vin then t = s
      else match s.pwr.power with
        | .off => Started t 0
        | .dormantLoss => Started t 2
        | .dormantOrderly => if s.pwr.wakePending.isSome then Started t 4 else t.pwr.power = .dormantOrderly
        | .service => t.pwr.power = .service) ∧
    (∃ t, exec .vinLoss s = .next t ∧ t.pwr.vin = false ∧
      if s.pwr.vin = false then t = s
      else t.pwr.power = (match s.pwr.power with
        | .service => if s.pwr.vaux then .dormantLoss else .off
        | .off => .off
        | p => if s.pwr.vaux then p else .off)) ∧
    (∃ t, exec .vauxPresent s = .next t ∧ t.pwr.vaux = true ∧
      t.pwr.power = if s.pwr.power = .off ∧ s.pwr.vin = false then .dormantLoss else s.pwr.power) ∧
    (∃ t, exec .vauxLoss s = .next t ∧ t.pwr.vaux = false ∧
      if s.pwr.vaux = false then t = s
      else t.pwr.power = (match s.pwr.power with
        | .service => .service
        | .off => .off
        | p => if s.pwr.vin then p else .off)) ∧
    (∀ b : Fin 4, b.val < s.pwr.vio.length →
      (∃ t, exec (.vioLoss b) s = .next t ∧ t.pwr.vio.getD b.val true = false ∧
        ∀ c, c ≠ b.val → t.pwr.vio.getD c false = s.pwr.vio.getD c false) ∧
      (∃ t, exec (.vioRestore b) s = .next t ∧ t.pwr.vio.getD b.val false = true ∧
        ∀ c, c ≠ b.val → t.pwr.vio.getD c false = s.pwr.vio.getD c false))

/-- PORST_N, WARM_N and a wake start the device where Table 19-6 and R497 let them, and change nothing elsewhere; TRST_N
changes nothing; the end of the DORMANT sequence switches the islands off; the start-up work ends in SETUP, or in RUN under
AUTORUN (19 R496 to R500, 17 R439). -/
def Obligations.ResetsAndWakesStart : Prop :=
  ∀ s : State,
    (∃ t, exec .porstN s = .next t ∧ if s.pwr.power = .off ∨ s.pwr.vin = false then t = s else Started t 1) ∧
    (∃ t, exec .warmN s = .next t ∧ if s.pwr.power = .service then Started t 3 else t = s) ∧
    exec .trstN s = .next s ∧
    (∀ w, ∃ t, exec (.wake w) s = .next t ∧
      if s.canWake w = false ∨ s.pwr.power ≠ .dormantOrderly then t = s
      else if s.pwr.vin then Started t 4 ∧ t.pwr.wakeSrc = (match s.pwr.wakePending.getD w with
          | .e4 => 1 | .c00 => 2 | .al0 => 3 | .al1 => 4)
        else t = { s with pwr := { s.pwr with wakePending := some (s.pwr.wakePending.getD w) } }) ∧
    (∃ t, exec .dormantEntryEnd s = .next t ∧
      if s.pwr.power = .service ∧ s.pwr.dormEntry = true then
        t.pwr.power = .dormantOrderly ∧ t.clk.foscRun = false ∧ t.clk.wait = []
      else t = s) ∧
    (∀ r, ∃ t, exec (.startUpComplete r) s = .next t ∧
      if s.pwr.power = .service ∧ s.mgt.run = .init ∧ s.mgt.startWork = true then
        (t.mgt.run = .setup ∨ t.mgt.run = .run) ∧ t.mgt.startWork = false
      else t = s)

/-- An operating second adds one to the counter while the always-on island is clocked (19 R501); the watchdog resets the
management and host islands, discards what the host had sent, counts, and leaves the comb and its hyperperiod as they are
(19 R502). -/
def Obligations.OperatingSecondsAndWatchdog : Prop :=
  ∀ s : State,
    (∃ t, exec .operatingSecond s = .next t ∧
      if s.pwr.power = .off ∨ (s.clk.aonSosc = true ∧ s.clk.soscRun = false) then t = s
      else t.pwr = { s.pwr with ops := (s.pwr.ops + 1) % 2 ^ 40, opsStart := t.tim.dt }) ∧
    (∃ t, exec .managementWatchdogExpiry s = .next t ∧
      if s.pwr.power = .service then
        t.hst.qps = [] ∧ t.hst.link = false ∧ t.mgt.held = [] ∧ t.mgt.fenceWait = [] ∧ t.mgt.chal = none ∧
        t.key.jobs = [] ∧ t.sup.edits = [] ∧ t.pwr.wdog = min (s.pwr.wdog + 1) max32 ∧ t.comb = s.comb ∧ t.chn = s.chn
      else t = s)

/-- Each clock monitor: sixteen good windows in a row qualify a source, two bad ones in a row of a qualified source fail it,
and a failure is counted and held in CLK_FAIL (19 R481, R489). -/
def Sys2Proof.Claim.MonitorsJudgeSources : Prop :=
  ∀ s c i n, c.mon? = some i → s.clk.mons.length = 8 → s.judged c = true → n < 2 ^ 32 →
    let m := s.mon i
    let good := s.goodWindow c n
    (∃ t, exec (.monitorWindowEnd c n) s = .next t ∧
      if good then
        (if m.qual then t = s.setMon i { m with bad := 0 }
         else if 15 ≤ m.good then (t.mon i).qual = true ∧ (t.mon i).bad = 0
         else t = s.setMon i { m with good := m.good + 1, bad := 0 })
      else if m.qual then
        (if 1 ≤ m.bad then t.mon i = ⟨false, true, 0, 0⟩ ∧ bitOf t.clk.fail c.code = true ∧
            t.clk.failcnt = min (s.clk.failcnt + 1) max32
         else t = s.setMon i { m with bad := 1 })
      else t = s.setMon i { m with good := 0 }) ∧
    (∃ t, exec (.stopDetection c) s = .next t ∧
      if m.qual then t.mon i = ⟨false, true, 0, 0⟩ ∧ bitOf t.clk.fail c.code = true ∧
          t.clk.failcnt = min (s.clk.failcnt + 1) max32
      else t = s)

/-- FOSC and SOSC stop at a stop detection and run again at a return; a measurement of SOSC stores its frequency while both
run (19 R481, R482). -/
def Sys2Proof.Claim.OscillatorsStopAndReturn : Prop :=
  ∀ s : State, s.pwr.power = .service →
    (s.clk.foscRun = true → s.clk.soscRun = true →
      (∃ t, exec (.stopDetection .fosc) s = .next t ∧ t.clk.foscRun = false) ∧
      (∃ t, exec (.stopDetection .sosc) s = .next t ∧ t.clk.soscRun = false)) ∧
    (∃ t, exec (.oscillatorReturn .fosc) s = .next t ∧ t.clk.foscRun = true) ∧
    (∃ t, exec (.oscillatorReturn .sosc) s = .next t ∧ t.clk.soscRun = true) ∧
    (∀ f, f < 2 ^ 26 → ∃ t, exec (.soscCalibration f) s = .next t ∧
      t = { s with clk := { s.clk with soscMhz := if s.clk.foscRun ∧ s.clk.soscRun then f else s.clk.soscMhz } })

/-- Clock monitors judge the sources, and the oscillators stop and return (19 R481, R482, R489). -/
def Obligations.SourcesJudged : Prop := MonitorsJudgeSources ∧ OscillatorsStopAndReturn

/-- The window of the oldest frequency measurement ends its command; the ramp of an island ends its wait; a handshake
timeout excludes a channel that has a partner and gates any other island but the key island (19 R488, R490; 01 R11). -/
def Obligations.IslandsAndMeasurements : Prop :=
  ∀ s : State,
    (∀ j rest n, s.clk.freqJobs = j :: rest → ∃ t, exec (.freqMeasureWindowEnd n) s = .next t ∧
      t.clk.freqJobs.map (fun x => x.seq) = rest.map (fun x => x.seq) ∧ ∀ h ∈ t.mgt.held, h.seq ≠ j.seq) ∧
    (s.clk.freqJobs = [] → ∀ n, exec (.freqMeasureWindowEnd n) s = .next s) ∧
    (∀ i, ∃ t, exec (.islandResumption i) s = .next t ∧
      if s.pwr.power = .service ∧ i ∈ s.clk.ramp then i ∉ t.clk.wait ∧ i ∉ t.clk.ramp else t = s) ∧
    (s.pwr.power = .service → ∀ i, i ≠ .key → i.chan? = none → ∃ t, exec (.handshakeTimeout i) s = .next t ∧ i ∈ t.clk.wait) ∧
    (s.pwr.power = .service → ∀ c j : ChId, (s.chan c).st = .voting → j ≠ c → (s.chan j).st = .voting → (s.chan j).clkFail = false →
      ∃ t, exec (.handshakeTimeout c.island) s = .next t ∧ (t.chan c).st = .excluded ∧ (t.chan c).cause = 4)

/-! ## Device time (02) -/

/-- A PTP message that a domain takes: a Sync at its slave port gives the domain clock or its sample, a delay message gives
the port's path delay, an Announce gives interval, slave port and UTC offset (02 R34 to R37). -/
def Obligations.PtpMessagesTaken : Prop :=
  ∀ (s : State) (m : PtpMsg) (d : Dom), s.dtLive = true → s.ptpTakes m d = true →
    let x := (s.advanceTo (s.ingress m / 65536).toNat).tim.domain d
    ∃ t, exec (.ptpMessageReceive m) s = .next t ∧
      match m.body with
      | .sync o =>
        let c : Rat := ((o + SMap.get dInt s.tim.delay m.port + s.asym m.port - s.ingress m : Int) : Rat) / 65536
        if x.slave = some m.port then
          t.tim.domain d = if x.set then { x with sample := some (c - x.ofs), missed := 0 }
            else { x with set := true, ofs := c, sample := some 0, missed := 0 }
        else t.tim.domain d = x
      | .delay n => SMap.get dInt t.tim.delay m.port = n ∧ ∀ p, p ≠ m.port → SMap.get dInt t.tim.delay p = SMap.get dInt s.tim.delay p
      | .announce u v l b =>
        t.tim.domain d = { x with logSync := l, slave := if b then some m.port else x.slave } ∧
        (s.tim.active = d → t.tim.utcOfs = u ∧ t.tim.utcValid = v)

/-- The servo at the end of a sync interval: no Sync counts as missed and unlocks at MISS; an outlier is counted and moves
nothing; any other offset o over interval L gives the integral, the frequency within ±200,000 ns/s, and steps the domain
clock by o (02 R38 to R40). -/
def Obligations.ServoFollowsOffset : Prop :=
  ∀ (s : State) (d : Dom), s.dtLive = true → s.servoEn = true → s.domEn d = true →
    let e := s.intervalEnd d
    let x := (s.advanceTo e).tim.domain d
    ∃ t, exec (.syncIntervalEnd d) s = .next t ∧ (t.tim.domain d).ivEnd = e ∧ (t.tim.domain d).sample = none ∧
      match x.sample with
      | none => (t.tim.domain d).missed = min (x.missed + 1) max16 ∧ (t.tim.domain d).ofs = x.ofs ∧
          (t.tim.domain d).lock = (x.lock && decide (min (x.missed + 1) max16 < s.domFld d 0 23 16))
      | some o =>
        (t.tim.domain d).missed = 0 ∧
        if (s.domFld d 0x14 15 0 : Rat) < ratAbs o then
          (t.tim.domain d).outliers = min (x.outliers + 1) max16 ∧ (t.tim.domain d).freq = x.freq ∧ (t.tim.domain d).ofs = x.ofs
        else
          let r := o / ((syncLen x.logSync : Nat) / (1000000000 : Rat))
          (t.tim.domain d).ofs = x.ofs + o ∧
          (t.tim.domain d).integ = x.integ + (s.domFld d 4 31 16 : Rat) / 65536 * r ∧
          (t.tim.domain d).freq = max (-200000) (min 200000 ((s.domFld d 4 15 0 : Rat) / 65536 * r + (t.tim.domain d).integ))

/-- The first-lock step sets DT to the domain clock at once while no comb runs, and the domain becomes active; a bleed ends
less than 1 ns from the active domain clock; DT passes 2^64 − 1 ns to 0 (02 R32, R41, R43). -/
def Obligations.StepsBleedsAndWrap : Prop :=
  ∀ s : State,
    (∀ d, s.dtLive = true → s.comb.cstate = 0 → s.tim.stepDue = some d → ∃ t, exec .firstLockStep s = .next t ∧
      t.tim.dt = (s.tim.now + (s.tim.domain d).ofs).floor.toNat % 2 ^ 64 ∧ t.tim.active = d ∧ t.tim.everLocked = true ∧
      t.tim.stepDue = none ∧ (t.tim.domain d).ofs = 0) ∧
    (s.dtLive = true → s.tim.bleeding = true → (s.tim.domain s.tim.active).lock = true → 0 < s.fld 0x4000 15 12 →
      ratAbs (s.tim.domain s.tim.active).freq ≤ 200000 →
      ∃ t, exec .bleedEnd s = .next t ∧ t.tim.bleeding = false ∧ t.tim.active = s.tim.active ∧
        ratAbs (t.tim.domain t.tim.active).ofs < 1) ∧
    (s.tim.bleeding = false → exec .bleedEnd s = .next s) ∧
    (∃ t, exec .dtWrap s = .next t ∧ t.tim.dt = 0 ∧ t.tim.frac = 0 ∧ t.comb.k = hpOf s.hNs s.pNs 0) ∧
    (∀ p, p < 8 → s.dtLive = true → s.servoEn = true → s.bcMode = true → s.portFld p 5 5 = 1 → s.tim.tstate = .trusted →
      ∃ t, exec (.masterSyncTransmit p) s = .next t ∧ t = { s with hst := { s.hst with out := t.hst.out } } ∧
        ∀ d, s.portUses p d = true → s.domEn d = true → Out.ptp p (s.domNum d) ∈ t.hst.out)

/-- A read of the low part of a value latches its high part, and changes nothing else, while registers can be reached
(02 R31, 03 R86, 09 R282, 11 R323 and R336, 19 R507, 20 Table R524). -/
def Obligations.ReadsLatchHighParts : Prop :=
  ∀ s : State,
    let lat := fun (c : Instr) (t : State) => exec c s = .next (if s.barOk then t else s)
    lat .timDtloRead { s with tim := { s.tim with dtHi := s.tim.dt / 2 ^ 32, dtFrac := (s.tim.frac * 65536).floor.toNat % 65536 } } ∧
    lat .cmbHploRead { s with comb := { s.comb with hpHi := hp64 s.hp / 2 ^ 32 } } ∧
    lat .slvDwinloRead { s with slv := { s.slv with disp := { s.slv.disp with winHi :=
      (match s.slv.disp.win with | some k => hp64 k | none => 0) / 2 ^ 32 } } } ∧
    lat .mtrIntvloRead { s with mtr := { s.mtr with intvHi := s.intvNo / 2 ^ 32 % 2 ^ 32 } } ∧
    lat .pwrOpsloRead { s with pwr := { s.pwr with opsHi := s.pwr.ops / 2 ^ 32 } } ∧
    (∃ cal1 sub, cal1 / 2 ^ 24 = weekday s.rtc.secs ∧ sub < 65536 ∧
      lat .rtcCal0Read { s with rtc := { s.rtc with cal1 := cal1, sub := sub } }) ∧
    (∀ o, ∃ l, lat (.legacyRegisterRead o) { s with mtr := { s.mtr with lwrapLat := l } } ∧
      ∀ h, s.mtr.legacyAt o = some h → l = h.lwrap)

/-! ## Channels (05) -/

/-- An ECC error or a timeout excludes a VOTING channel that has a partner, its cause recorded and its memory lost; the last
one restarts in place under forcing of every point (05 R132, R133, R138). -/
def Obligations.ChannelErrorsExclude : Prop :=
  ∀ (s : State) (i : ChId), s.pwr.power = .service → (s.chan i).st = .voting →
    (∀ j, j ≠ i → (s.chan j).st = .voting → (s.chan j).clkFail = false →
      ∃ t, exec (.channelEccError i) s = .next t ∧ (t.chan i).st = .excluded ∧ (t.chan i).cause = 2 ∧ (t.chan i).mem = ChMem.empty ∧
        (t.chan i).marks = [] ∧ (t.chan i).excl = min ((s.chan i).excl + 1) max32 ∧
        ∀ k, k ≠ i → (t.chan k).st = (s.chan k).st ∧ (t.chan k).mem = (s.chan k).mem) ∧
    ((∀ j, j ≠ i → (s.chan j).st ≠ .voting ∨ (s.chan j).clkFail = true) → (s.chan i).restart = false →
      ∃ t, exec (.channelEccError i) s = .next t ∧ (t.chan i).st = .voting ∧ (t.chan i).restart = true ∧
        ForceCause.restart ∈ t.clk.force)

/-- The way back: an excluded channel whose clock runs and whose back-off has passed begins its self-test; steps that all
pass lead to a copy from a VOTING channel, or with none VOTING to VOTING, and any other result excludes; outside RUN a pass
of the copy that finds no dirty page leads to SHADOW with the source's memory (05 R143, R144, R149, R155). -/
def Obligations.ChannelsReturn : Prop :=
  ∀ (s : State) (i : ChId), s.pwr.power = .service → s.mgt.run ≠ .init → (s.chan i).clkFail = false →
    ((s.chan i).st = .excluded → (s.chan i).notBefore ≤ s.tim.dt → s.failedRestart = none →
      ∃ t, exec (.attemptStart i) s = .next t ∧ (t.chan i).st = .selftest ∧
        (t.chan i).attempts = min ((s.chan i).attempts + 1) max16 ∧ ∀ j, j ≠ i → t.chan j = s.chan j) ∧
    ((s.chan i).st = .selftest → (s.chan i).restart = false → s.chn.trying = none → s.sup.bank ≠ none →
      ∀ p, ∃ t, exec (.selftestEnd i p) s = .next t ∧
        if p % 16 = 15 then
          (if s.votingCount = 0 then (t.chan i).st = .voting
           else (t.chan i).st = .copy ∧ ∃ j, (t.chan i).copySrc = some j ∧ (s.chan j).st = .voting)
        else (t.chan i).st = .excluded ∧ (t.chan i).cause = 6) ∧
    (∀ j, (s.chan i).st = .copy → (s.mgt.run = .setup ∨ s.mgt.run = .halt) → (s.chan i).copySrc = some j → i ≠ j →
      ∃ t, exec (.copyPassEnd i) s = .next t ∧
        if (s.chan i).copyInit = true ∧ (s.chan j).touched = [] then
          (t.chan i).st = .shadow ∧ (t.chan i).mem = (s.chan j).mem ∧ t.chan j = s.chan j
        else (t.chan i).st = .copy ∧ (t.chan i).copyInit = true ∧ (t.chan j).touched = [] ∧ (t.chan j).mem = (s.chan j).mem)

/-! ## The comb: cells, boundaries, swaps (03, 04) -/

/-- The cell of entry `e` opens for a resource: the comb runs, no swap is due, the entry defines a cell in this hyperperiod
that has not opened, and its start tick lies ahead (03 R57, R78). -/
structure Sys2Proof.Claim.Opens (s : State) (e : Nat) (x : CombEntry) (res : Nat) : Prop where
  entry : s.entries[e]? = some x
  kind : x.res = res
  runs : s.cellsRun = true
  swap : s.swapDue = false
  hp : x.runsIn s.comb.k = true
  ahead : s.tim.dt ≤ s.cellStart x s.comb.k
  once : s.comb.opened.contains e = false

/-- The state in which the cell has just opened, at its start tick. -/
def Sys2Proof.Claim.begun (s : State) (e : Nat) (x : CombEntry) : State :=
  let t := s.advanceTo (s.cellStart x s.comb.k)
  { t with comb := { t.comb with opened := e :: t.comb.opened } }

/-- No activity of an earlier cell is unfinished. -/
def Sys2Proof.Claim.Clear (s : State) : Prop :=
  s.comb.open_ = [] ∧ (∀ i, (s.chan i).scan = none) ∧ s.stn.cells = [] ∧ ∀ x ∈ s.adc.conv, x.run = none

/-- While the comb does not run, or DT is not counted, no cell opens: the cell commands change nothing (03 Table 3-9). -/
def Obligations.NoCellWithoutComb : Prop :=
  ∀ s : State, s.cellsRun = false → s.rcd.win = none → ∀ (e n : Nat) (x y : Tri Nat) (b : Bool) (d : Nat) (l : List Slice)
    (k : SolveCond) (m : List EmSamples) (c : CalSums),
    ∀ i ∈ [Instr.lgeCell e x, .lpeCell e x y, .agreeCell e x b d, .waggleCell e x y, .voteCell e l, .ckptCell e x b,
      .slvPubCell e b, .slvHydCell e k, .slvDispCell e k, .mtrBlockCell e m b, .mtrIntvCell e n, .axsLatchCell e b,
      .axsCmdCell e b, .outCell e b, .keyCell e, .recCell e, .pnlCell e, .hstCell e, .adcCell e c, .stationReadCell e,
      .stationWriteCell e],
    exec i s = .next s

/-- The cells of the control cycle (01 R18 to R20, 05 R125, 06 R158 to R161): Agree opens a new cycle and delivers one
snapshot to every receiving channel; LGE starts one scan in every running channel, at the entry of its task; LPE leaves its
loops open in a channel that does not commit all; Waggle adds the bursts posted. No index differs. -/
def Obligations.ControlCycleCells : Prop :=
  ∀ s e x (k : Nat), Clear s →
    (Opens s e x 3 → ∀ done din, ∃ t, exec (.agreeCell e ⟨k, k, k⟩ done din) s = .next t ∧
      t.comb.cyc.agreeDt = s.cellStart x s.comb.k ∧ t.comb.cyc.live = done ∧
      (done = true → ∀ i, (t.chan i).receives = true → (t.chan i).snap = t.dist.words ∧ (t.chan i).items = t.dist.items) ∧
      (done = false → ⟨e, 3, []⟩ ∈ t.comb.open_ ∧ ∀ i, (t.chan i).snap = (s.chan i).snap)) ∧
    (∀ img td, Opens s e x 1 → s.comb.cyc.live = true → s.sup.bank = some img → img.logic.tasks[x.act]? = some td →
      ∃ t, exec (.lgeCell e ⟨k, k, k⟩) s = .next t ∧ ∀ i,
        if s.runsChn i then
          let r := (s.chan i).task x.act
          let ts := s.comb.cyc.agreeDt / 1000
          let d := match r.last with
            | some l => if r.gap = true ∨ ts ≤ l then td.periodMs * 1000 else min (ts - l) 0xFFFFFFFF
            | none => td.periodMs * 1000
          (t.chan i).scan = some ⟨x.act, e, td.entry, ts, d, 64⟩ ∧ (t.chan i).ba = false ∧ (t.chan i).wa = 0 ∧
          (t.chan i).ix = 0 ∧ (t.chan i).ov = false ∧ (t.chan i).dz = false ∧ (t.chan i).iff = false ∧ (t.chan i).stack = [] ∧
          (t.chan i).mem.bits = (s.chan i).mem.bits ∧ (t.chan i).mem.words = (s.chan i).mem.words ∧ (t.chan i).mem.out = (s.chan i).mem.out
        else t.chan i = s.chan i) ∧
    (∀ img done, Opens s e x 2 → s.comb.cyc.live = true → s.sup.bank = some img →
      ∃ t, exec (.lpeCell e ⟨k, k, k⟩ done) s = .next t ∧ (∀ i, s.runsChn i = false → t.chan i = s.chan i) ∧
        (t.comb.open_ = [] ↔ ∀ i, s.runsChn i = true → (img.lpeUnits x).length ≤ unitsDone (done.get i) (img.lpeUnits x))) ∧
    (∀ n, Opens s e x 4 → s.comb.cyc.live = true → ∃ t, exec (.waggleCell e ⟨k, k, k⟩ n) s = .next t ∧ t.chn = s.chn ∧
      (∀ i, t.vot.posted.get i = if s.runsChn i then ((s.bursts i).take (n.get i)).foldl Posted.add (s.vot.posted.get i)
        else s.vot.posted.get i) ∧
      (t.comb.open_ = [] ↔ ∀ i, s.runsChn i = true → (s.bursts i).length ≤ n.get i))

/-- The vote of a point (05 Table 5-4): of three posted ballots the majority, of two the common one, of one that one,
and without agreement the safe words; the checkpoint of channels that agree carries the words of their retentive area and
the hyperperiod (05 R152, R153). Channels without earlier marks stay VOTING. -/
def Obligations.VotesAndCheckpoints : Prop :=
  ∀ s e x, Clear s → (∀ i, (s.chan i).marks = []) →
    (∀ l n p, Opens s e x 5 → s.comb.cyc.live = true → s.chn.trying = none → (∀ sl, sl ∈ l ∧ s.runs (sliceIsland sl) = true) →
      (n, p) ∈ s.pointList → s.indexForced p = false →
      ∃ t, exec (.voteCell e l) s = .next t ∧ (∀ i, (s.chan i).st = .voting → (t.chan i).st = .voting) ∧
        let v := (t.vot.voted.find? (fun u => u.1 = n)).map (fun u => u.2)
        (∀ a b c wa wb wc, s.counted = [a, b, c] → s.ballot a n = some wa → s.ballot b n = some wb → s.ballot c n = some wc →
          v = some (if wa = wb ∨ wa = wc then wa else if wb = wc then wb else p.safe)) ∧
        (∀ a b wa wb, s.counted = [a, b] → s.ballot a n = some wa → s.ballot b n = some wb →
          v = some (if wa = wb then wa else p.safe)) ∧
        (∀ a wa, s.counted = [a] → s.ballot a n = some wa → v = some wa) ∧
        (∀ a b wa, s.counted = [a, b] → s.ballot a n = some wa → s.ballot b n = none → v = some p.safe) ∧
        ((∀ i, s.ballot i n = none) → v = none)) ∧
    (∀ k img i, Opens s e x 6 → s.sup.bank = some img → s.counted.head? = some i →
      (∀ j ∈ s.counted, (s.chan j).retCrc img.logic.retWords = (s.chan i).retCrc img.logic.retWords ∧ s.runsChn j = true) →
      (∀ c, s.newestCkpt = some c → c.hp < s.comb.k) →
      ∃ t c, exec (.ckptCell e ⟨k, k, k⟩ true) s = .next t ∧ t.newestCkpt = some c ∧ c.hp = s.comb.k ∧
        c.data = (s.chan i).retWords img.logic.retWords ∧ c.digestPfx = img.digestPfx)

/-- The solver's cells: the publish cell takes a publication finished before its start; a hydraulic cell that waits for its
clock counts as missed, one of a lane self-test does not run, and a solve ends with one cause, publishing only without
failure; a dispatch cell leaves the other problem and its own publication alone (08 R215, R234, R241 to R243, R246;
09 R271; 01 R19). -/
def Obligations.SolverCells : Prop :=
  ∀ s e x, Clear s →
    (Opens s e x 8 → s.runs .slv = true → ∀ d q, s.slv.hyd.defn = some d → s.slv.disp.defn = some q →
      ∃ t, exec (.slvPubCell e true) s = .next t ∧
        let st := s.cellStart x s.comb.k
        (s.slv.hyd.pub.dt < st → t.slv.snapHyd = some s.slv.hyd.pub) ∧
        (st ≤ s.slv.hyd.pub.dt → s.slv.hyd.prev.dt < st → t.slv.snapHyd = some s.slv.hyd.prev) ∧
        (s.slv.disp.pub.dt < st → t.slv.snapDisp = some s.slv.disp.pub)) ∧
    (∀ c, Opens s e x 9 → ∃ t, exec (.slvHydCell e c) s = .next t ∧
      if s.runs .slv = false then t.slv = { s.slv with hyd := { s.slv.hyd with missed := min (s.slv.hyd.missed + 1) 255 } }
      else s.slv.hyd.topo = none →
        if 0 < s.slv.laneTest ∨ 0 < s.slv.hyd.rebuild then
          t.slv.hyd.cause = caNotRun ∧ t.slv.hyd.reuse = min (s.slv.hyd.reuse + 1) 255 ∧ t.slv.hyd.defn = s.slv.hyd.defn
        else if s.slv.hyd.defn.isSome then
          t.slv.hyd.prev = s.slv.hyd.pub ∧
          (if t.slv.hyd.cause = caNone then
            t.slv.hyd.reuse = 0 ∧ t.slv.hyd.pub.acq = some t.slv.hyd.pub.dt ∧ t.slv.hyd.pubs = min (s.slv.hyd.pubs + 1) max32
           else t.slv.hyd.reuse = min (s.slv.hyd.reuse + 1) 255 ∧ t.slv.hyd.pub.acq = s.slv.hyd.pub.acq ∧
            t.slv.hyd.pubs = s.slv.hyd.pubs)
        else t.slv = s.slv) ∧
    (∀ c, Opens s e x 10 → s.runs .slv = true → s.slv.disp.topo = none → ∃ t, exec (.slvDispCell e c) s = .next t ∧
      t.slv.hyd = s.slv.hyd ∧ t.slv.disp.pub = { s.slv.disp.pub with missing := t.slv.disp.pub.missing } ∧ t.slv.disp.win = s.slv.disp.win)

/-- The solver's events: a store error is counted, marks a working set or starts the rebuild of a structure from the image;
a finished build is marked in RUN, and outside RUN ends its command; the end of a build ends ACTIVATE; a dispatch window
ends at its boundary and the next one starts there (08 R216, R233, R245; 09 R254, R271). -/
def Obligations.SolverEvents : Prop :=
  ∀ s : State,
    (s.pwr.power = .service →
      (∃ t, exec (.solverStoreEccError 1 false) s = .next t ∧
        t.slv = { s.slv with eccUnc := min (s.slv.eccUnc + 1) max32, hyd := { s.slv.hyd with wsErr := true } }) ∧
      (∃ t, exec (.solverStoreEccError 2 false) s = .next t ∧
        t.slv = { s.slv with eccUnc := min (s.slv.eccUnc + 1) max32, disp := { s.slv.disp with wsErr := true } }) ∧
      (∃ t, exec (.solverStoreEccError 1 true) s = .next t ∧ t.slv.eccUnc = min (s.slv.eccUnc + 1) max32 ∧
        t.slv.hyd.defn = s.sup.bank.bind (fun i => i.hyd) ∧ t.slv.hyd.factor = none ∧ t.slv.hyd.deltas = [] ∧
        t.slv.hyd.pub.missing = true)) ∧
    (∀ q d, s.slv.hyd.topo = some (q, d, false) → ∃ t, exec (.topologyBuildComplete 1) s = .next t ∧
      if s.mgt.run = .run then t.slv.hyd.topo = some (q, d, true) ∧ t.slv.hyd.defn = s.slv.hyd.defn
      else t.slv.hyd.topo = none ∧ t.slv.hyd.defn = some d ∧ ∀ h ∈ t.mgt.held, h.seq ≠ q) ∧
    (s.slv.hyd.topo = none → exec (.topologyBuildComplete 1) s = .next s) ∧
    (∃ t, exec .solverStructuresBuilt s = .next t ∧
      if s.runs .slv then t.mgt.solverBuild = false ∧ t.mgt.activate = none ∧
        (∀ a, s.mgt.activate = some a → ∀ h ∈ t.mgt.held, h.seq ≠ a.1) ∧
        (s.mgt.run ≠ .run → t.slv.hyd.rebuild = 0 ∧ t.slv.disp.rebuild = 0)
      else t = s) ∧
    (∃ t, exec .dispatchWindowEnd s = .next t ∧
      match s.windowDue with
      | none => t = s
      | some _ => t.slv.disp.win = some s.comb.k ∧ t.slv.disp.startDue = true ∧ t.slv.disp.running = false ∧
          t.slv.hyd = s.slv.hyd ∧ t.tim = s.tim)

/-- A hyperperiod boundary of a running comb: the hyperperiod counts on by one and every cell may open again (01 R15, 03
R54); a super swap acts only at its boundary, where the staged image and its super take over (04 R106); the end tick of an
open scan ends the scans and counts an overrun (03 R80, R81). -/
def Obligations.BoundariesSwapsOverruns : Prop :=
  ∀ s : State,
    (s.dtLive = true → 0 < s.hNs → s.comb.cstate = 2 → s.sup.armed = none → s.tim.stepDue = none → s.mgt.haltDue = false →
      s.mgt.run = .run → s.mgt.fenceWait = [] → s.key.jobs = [] → s.mgt.auth = none →
      ∃ t, exec .hyperperiodBoundary s = .next t ∧ t.comb.k = s.comb.k + 1 ∧ t.comb.opened = [] ∧ t.comb.cstate = 2 ∧
        t.comb.gap = false ∧ t.sup.edits = [] ∧ t.sup.reads = []) ∧
    (s.hNs = 0 → exec .hyperperiodBoundary s = .next s) ∧
    (s.swapDue = false → exec .superSwap s = .next s) ∧
    (∀ m a b, s.swapDue = true → s.tim.dt = hpStart s.hNs s.pNs s.comb.k → s.sup.armed = some m → s.sup.staged = some b →
      s.sup.bank = some a → m.super ≤ 1 → s.votingCount ≠ 0 → (∀ i, (s.chan i).holdsProgram = true → m.chStaged.get i = true) →
      ∃ t, exec .superSwap s = .next t ∧ t.sup.bank = some b ∧ t.sup.armed = none ∧ t.sup.staged = none ∧ t.sup.overlay = [] ∧
        (t.super m.super).st = .active ∧ t.sup.edits = []) ∧
    (∀ e, s.openScan = some e → s.comb.cstate = 2 → s.comb.open_ = [] → s.stn.cells = [] → (∀ x ∈ s.adc.conv, x.run = none) →
      ∃ t, exec (.cellEndOverrun e) s = .next t ∧ (∀ i, (t.chan i).scan = none) ∧
        t.comb.ovrTot = if s.dtLive then min (s.comb.ovrTot + 1) max32 else s.comb.ovrTot)

/-- Output cells (01 R21, 15 R396, R406): the latch cell captures every declared axis; the command and output cells drive the
voted words of their points and take them from the voted values, and drive nothing when they overrun. -/
def Obligations.OutputCells : Prop :=
  ∀ s e x, s.runs .axs = true → s.vot.feedsTaken = true →
    (Opens s e x 0x0E → ∀ done, ∃ t, exec (.axsLatchCell e done) s = .next t ∧ t.vot = s.vot ∧
      ∀ a, a < 16 → a < s.axs.ax.length →
        if (s.axDef? a).isSome then t.ax a = { s.ax a with item := (s.ax a).words, acq := some t.tim.dt, missing := !done }
        else t.ax a = s.ax a) ∧
    (Opens s e x 0x10 → ∀ n p ws, (n, p) ∈ s.pointList → (p.oclass = 1 ∨ p.oclass = 2) → s.forced p = false →
      s.vot.voted.find? (fun v => v.1 = n) = some (n, ws) →
      (∃ t, exec (.outCell e true) s = .next t ∧ SMap.get dWords t.vot.driven n = ws ∧ t.vot.voted.find? (fun v => v.1 = n) = none) ∧
      (∃ t, exec (.outCell e false) s = .next t ∧ t.vot.driven = s.vot.driven ∧ t.vot.voted.find? (fun v => v.1 = n) = none)) ∧
    (Opens s e x 0x0F → ∀ n p d ws, (n, p) ∈ s.pointList → p.oclass = 3 → s.axDef? p.target = some d →
      bitOf (x.act % 16) d.group = true → s.forced p = false → s.vot.voted.find? (fun v => v.1 = n) = some (n, ws) →
      (∃ t, exec (.axsCmdCell e true) s = .next t ∧ SMap.get dWords t.vot.driven n = ws ∧
        t.vot.voted.find? (fun v => v.1 = n) = none) ∧
      (∃ t, exec (.axsCmdCell e false) s = .next t ∧ t.vot.driven = s.vot.driven ∧ t.axs = s.axs ∧
        t.vot.voted.find? (fun v => v.1 = n) = none))

/-- Cells that open a window of work: KEY, REC and HST work from their start to their end tick, 16 cycles of dispatch first
in the key island; a PNL cell starts the first pending region that fits; an ADC cell of an interleaved sequence starts it;
Read and Write cells of a link are open from then on (18 R471, 21 R528, 16 R425, 22 R551, 14 R380, 10 R289, R292). -/
def Obligations.WorkCells : Prop :=
  ∀ s e x,
    (Opens s e x 0x11 → s.runs .key = true → s.key.win = none → ∃ t, exec (.keyCell e) s = .next t ∧
      t.key.win = some ⟨s.cellEnd x s.comb.k, ((begun s e x).tim.dt : Nat) + 16 * s.keyCyc⟩) ∧
    (Opens s e x 0x12 → s.runs .key = true → s.rcd.win = none → ∃ t, exec (.recCell e) s = .next t ∧
      t.rcd.win = some ⟨s.cellEnd x s.comb.k, x.act % 65536, ((begun s e x).tim.dt : Nat) + 16 * s.keyCyc⟩ ∧ t.rcd.staging = s.rcd.staging) ∧
    (Opens s e x 0x14 → s.runs .hst = true → ∃ t w, exec (.hstCell e) s = .next t ∧ t.hst.cell = some w ∧
      w.stop = s.cellEnd x s.comb.k) ∧
    (Opens s e x 0x13 → s.runs .pnl = true → ∃ t, exec (.pnlCell e) s = .next t ∧
      match s.panel? with
      | none => t = begun s e x
      | some d => ∀ r, r < 16 → r < s.pnl.regs.length → (∀ q, q < r → s.mayStart d q = false) → s.mayStart d r = true →
          ((48 : Rat) * s.pnlCyc + (500 + 5 * s.startSize d r : Nat) ≤ ((x.len : Nat) * 1000 - 21 : Rat) * (99979 / 100000)) →
          (t.preg r).run.isSome = true ∧ (t.preg r).journal.journaled = true) ∧
    (∀ n c a q, Opens s e x (0x18 + n) → n ≤ 3 → n < s.adc.conv.length → s.runs .adc = true → s.analog? = some a →
      (∀ y ∈ s.adc.conv, y.run = none) → x.act % 256 ≠ 255 →
      a.seqs.find? (fun y => decide (y.seqno = x.act % 256) && decide (y.adc = n)) = some q → q.inter = true →
      ∃ t r, exec (.adcCell e c) s = .next t ∧ (t.adcConv n).run = some r ∧ r.e = e ∧ r.left = q.nconv) ∧
    (∀ l, s.entries[e]? = some x → Opens s e x x.res → linkOf x.res = some l → s.runs .field = true → s.stn.cells = [] →
      (x.cphase = 1 → ∃ t c, exec (.stationReadCell e) s = .next t ∧ t.stn.cells = [c] ∧ c.e = e ∧ c.link = l ∧ c.read = true ∧
        c.groups = (s.chain x.act).map (fun g => g.group)) ∧
      (x.cphase = 6 → ∃ t c, exec (.stationWriteCell e) s = .next t ∧ c ∈ t.stn.cells ∧ c.e = e ∧ c.link = l ∧ c.read = false))

/-! ## Metering, axes, converters, stations (10, 11, 14, 15) -/

/-- While metering runs, pulses and the faults of delta-sigma inputs join the open interval, an accumulation period ends on
its grid, an interval boundary opens the next interval, and the block and interval cells end what has passed; while it does
not run these events change nothing (11 R307, R308, R311, R312, R315, R325, R326). -/
def Obligations.MeteringFollowsBlocks : Prop :=
  ∀ s : State,
    (s.mtr.running = false → ∀ p u y, ∀ c ∈ [Instr.pinPulse p u, .mdInputFault p u, .mdTransitionResume p u, .accumulationPeriodEnd y,
      .meteringIntervalBoundary], exec c s = .next s) ∧
    (s.mtr.running = true → s.runs .mtr = true → s.dtLive = true →
      (∀ p u i, s.mtr.cur = some i → s.mtr.wait = [] → u < i.stop → ∃ t j, exec (.pinPulse p u) s = .next t ∧ t.mtr.cur = some j ∧
        SMap.get dNat j.pulses p = SMap.get dNat i.pulses p + 1 ∧ ∀ r, r ≠ p → SMap.get dNat j.pulses r = SMap.get dNat i.pulses r) ∧
      (∀ m u, m < 48 → ∃ t, exec (.mdInputFault m u) s = .next t ∧
        match SMap.get dSpans s.mtr.flt m with
        | (_, none) :: _ => t.mtr = s.mtr
        | l => SMap.get dSpans t.mtr.flt m = (u, none) :: l ∧ t.mtr.mdFlt = s.mtr.mdFlt ||| 2 ^ m) ∧
      (∀ m u a l, SMap.get dSpans s.mtr.flt m = (a, none) :: l → ∃ t, exec (.mdTransitionResume m u) s = .next t ∧
        SMap.get dSpans t.mtr.flt m = (a, some u) :: l ∧ t.mtr.mdFlt = s.mtr.mdFlt) ∧
      (∀ y d, s.meter? = some d → 0 < s.mtr.perEnd → ∃ t, exec (.accumulationPeriodEnd y) s = .next t ∧
        t.mtr.perEnd = s.mtr.perEnd + periodNs ∧ t.mtr.blockStart = s.mtr.blockStart) ∧
      (∀ i d, s.mtr.cur = some i → s.meter? = some d → 0 < d.lenNs → ∃ t j, exec .meteringIntervalBoundary s = .next t ∧
        t.mtr.cur = some j ∧ j.stop = d.gridEnd i.stop ∧ j.pulses = [] ∧ t.mtr.segFrom = some i.stop)) ∧
    (∀ e x, s.runs .mtr = true →
      (Opens s e x 0x0C → ∀ y done d i, s.meter? = some d → s.mtr.running = true → s.mtr.cur = some i →
        ∃ t, exec (.mtrBlockCell e y done) s = .next t ∧ t.mtr.blockStart = s.cellStart x s.comb.k ∧
          t.mtr.pubDt = some (s.cellStart x s.comb.k) ∧ t.mtr.missing = !done ∧ (done = false → ⟨e, 0x0C, []⟩ ∈ t.comb.open_)) ∧
      (Opens s e x 0x0D → ∀ n, ∃ t, exec (.mtrIntvCell e n) s = .next t ∧
        (∀ i ∈ t.mtr.wait, i.thermDone = true → i.begun = true) ∧ (∀ i ∈ t.mtr.wait, i.begun = true → i.late = true ∧ i.wrote < i.records) ∧
        (s.comb.open_ = [] → (t.comb.open_ = [] ↔ ∀ i ∈ t.mtr.wait, i.begun = false))))

/-- The axes (15 R394, R398, R401, R404, R409): the lead of an enable ends, a profile update moves the axis one step, a
standstill ends the motion at its target and its command, an idle axis is disabled, a switch edge is latched with its
position and counted, and a PWM period takes the duty driven last. -/
def Obligations.AxisEvents : Prop :=
  ∀ (s : State) (a : Nat) (d : AxisDef), s.axUp = true → s.axDef? a = some d → a < s.axs.ax.length →
    (∃ t, exec (.axisEnableLeadEnd a) s = .next t ∧
      t.ax a = { s.ax a with lead := none } ∧ ∀ b, b ≠ a → t.ax b = s.ax b) ∧
    ((s.ax a).moving = true → (s.ax a).lead = none → s.interOf a = none → s.inter? d.group = none →
      (if (s.ax a).done d then
        (s.ax a).job = .move → (s.ax a).next = .none → ∃ t, exec (.axisStandstill a) s = .next t ∧ (t.ax a).moving = false ∧
          (t.ax a).pos = (s.ax a).target ∧ (t.ax a).v = 0 ∧ (t.ax a).seq = none ∧
          ∀ q, (s.ax a).seq = some q → ∀ h ∈ t.mgt.held, h.seq ≠ q
       else ∃ t, exec (.axisProfileUpdate a) s = .next t ∧ t.ax a = (s.ax a).update d (s.ax a).upd ∧
          (t.ax a).upd = (s.ax a).upd + 10000 ∧ ∀ b, b ≠ a → t.ax b = s.ax b)) ∧
    ((s.ax a).moving = false → exec (.axisProfileUpdate a) s = .next s ∧ exec (.axisStandstill a) s = .next s) ∧
    (∃ t, exec (.autoDisable a) s = .next t ∧
      if d.autoDis = true ∧ (s.ax a).en = true ∧ (s.ax a).moving = false then
        (t.ax a).en = false ∧ (t.ax a).pos = (s.ax a).pos ∧ (t.ax a).ref = ((s.ax a).ref && d.retain)
      else t = s) ∧
    (∀ w l u, w ≤ 2 → l ≠ (if w = 0 then (s.ax a).refSw else if w = 1 then (s.ax a).limP else (s.ax a).limN) →
      ∃ t, exec (.switchEdge a w l u) s = .next t ∧ (t.ax a).latchPos = (s.ax a).posAt u ∧
        (t.ax a).latchCnt = ((s.ax a).latchCnt + 1) % 256 ∧ (t.ax a).latchSw = w ∧ (t.ax a).latchAct = l ∧ (t.ax a).edgeUs = u / 1000) ∧
    (∀ n g, s.axes? = some g → g.pwm.getD n 0 ≠ 0 → n < 16 → n < s.axs.pwm.length → ∃ t, exec (.pwmPeriodStart n) s = .next t ∧
      t.axs = { s.axs with pwm := t.axs.pwm } ∧ t.axs.pwm.getD n 0 = s.axs.pwmNext.getD n 0 ∧
      ∀ m, m ≠ n → t.axs.pwm.getD m 0 = s.axs.pwm.getD m 0)

/-- Stations and converters: a slot of the first group of an open Read cell polls it; a malformed frame is counted and
judged no further, an answer leaves the inbox, an exchange whose WRITE is not on the bus ends; a conversion fills the slot
of its input; the reference out of range spoils conversions until it returns (10 R289, R290, R296, R300; 14 R377, R382). -/
def Obligations.StationsAndConverters : Prop :=
  ∀ s : State,
    (∀ k g d, s.stn.cells = [k] → k.read = true → k.groups.head? = some g → s.groupDef? g = some d → d.group = g → s.cellsRun = true →
      s.runs .field = true → k.slot = none → s.tim.dt < k.stop → ∃ t k', exec (.stationSlotOpen g) s = .next t ∧ t.stn.cells = [k'] ∧
        k'.groups = k.groups.drop 1 ∧ k'.e = k.e ∧ k'.stop = k.stop ∧ ∃ c p, k'.slot = some (g, c, p)) ∧
    (∀ l, s.firstMsg l = none → exec (.answer l) s = .next s ∧ exec (.malformedWfpFrame l) s = .next s) ∧
    (∀ l m, s.firstMsg l = some m → s.runs .field = true →
      (m.malformed = true → ∃ t, exec (.malformedWfpFrame l) s = .next t ∧
        t.stn = { s.stn with inbox := s.stn.inbox.erase m, badfrm := min (s.stn.badfrm + 1) max32 }) ∧
      (m.malformed = false → ∃ t, exec (.answer l) s = .next t ∧ t.stn.inbox = s.stn.inbox.erase m ∧
        (s.senderOf m = none → t.stn = { s.stn with inbox := s.stn.inbox.erase m, undecl := min (s.stn.undecl + 1) max32 }))) ∧
    (∀ n, s.stnDef? n = none → exec (.exchangeComplete n) s = .next s) ∧
    (∀ n d x, s.stnDef? n = some d → d.stn = n → s.stnSt? n = some x → x.exch.isSome = true → s.stn.cells = [] →
      s.runs .field = true → s.writeInTx n = false →
      ∃ t y, exec (.exchangeComplete n) s = .next t ∧ t.stnSt? n = some y ∧ y.exch = none) ∧
    (∀ n code d r c, s.analog? = some d → (s.adcConv n).run = some r → r.inter = false → r.cur = some c → s.cellsRun = true →
      s.runs .adc = true → cycNs (c.hold + 32) < r.stop → n < s.adc.conv.length → c.input < 64 →
      ∃ t, exec (.adcConversionComplete n code) s = .next t ∧
        (t.adcConv n).conv = min ((s.adcConv n).conv + 1) max32 ∧ ((t.slotVers c.input).head?.map (fun v => v.acq)) = some (some (cycNs c.hold))) ∧
    (s.runs .adc = true → ∀ u,
      (s.adc.refBad = none → ∃ t b, exec (.referenceOutOfRange u) s = .next t ∧ t.adc = { s.adc with refBad := some b } ∧ b = t.tim.dt) ∧
      (∀ a, s.adc.refBad = some a → ∃ t, exec (.referenceInRange u) s = .next t ∧
        t.adc = { s.adc with refBad := none, refSpan := (a, t.tim.dt) }))

/-! ## CAN and Ethernet (12, 13) -/

/-- A CAN controller (12 R344, R347, R350, R351, R353): the head of its queue goes on the bus, completes or returns to the
head; errors move the counters, above 255 of the transmit counter it is bus-off; recovery clears both; a frame received is
counted; a wake frame acts as a wake. -/
def Obligations.CanControllers : Prop :=
  ∀ (s : State) (c u : Nat), s.stn.cells = [] → c < s.can.ch.length →
    (∀ o r, s.canMaySend c u = true → (s.canCh c).armed = o :: r → ∃ t, exec (.canTransmitStart c u) s = .next t ∧
      (t.canCh c).tx = some o ∧ (t.canCh c).armed = r) ∧
    (s.canMaySend c u = false → exec (.canTransmitStart c u) s = .next s) ∧
    (∀ o, s.canNormal c = true → (s.canCh c).tx = some o →
      (∃ t, exec (.canTransmitComplete c u) s = .next t ∧ (t.canCh c).tx = none ∧
        (t.canCh c).txok = min ((s.canCh c).txok + 1) max32 ∧ (t.canCh c).tec = (s.canCh c).tec - 1) ∧
      (∃ t p, exec (.canArbitrationLost c u) s = .next t ∧ (t.canCh c).tx = none ∧ (t.canCh c).armed = p :: (s.canCh c).armed ∧
        p.use = o.use ∧ (t.canCh c).tec = (s.canCh c).tec)) ∧
    (∀ f, s.canNormal c = true → f.inc ∈ [0, 1, 8] → ((s.canCh c).est = .active ∨ (s.canCh c).est = .passive) →
      (f.sending = false → ∃ t, exec (.canError c u f) s = .next t ∧ (t.canCh c).rxec = min ((s.canCh c).rxec + f.inc) 255 ∧
        (t.canCh c).lec = f.lec) ∧
      (f.sending = true → (s.canCh c).tx.isSome = true → ∃ t, exec (.canError c u f) s = .next t ∧ (t.canCh c).tx = none ∧
        (t.canCh c).tec = (s.canCh c).tec + f.inc ∧
        (255 < (s.canCh c).tec + f.inc → (t.canCh c).est = .boffWait ∧ (t.canCh c).boffcnt = min ((s.canCh c).boffcnt + 1) 255))) ∧
    (∀ d, s.canUp c = true → s.canDef? c = some d →
      ((s.canCh c).est = .boffWait → ∃ t, exec (.busOffRecoveryStart c) s = .next t ∧ (t.canCh c).est = .boffRec ∧
        (t.canCh c).recAt = t.tim.dt) ∧
      ((s.canCh c).est = .boffRec → ∃ t, exec (.busOffRecoveryEnd c u) s = .next t ∧
        if (s.canCh c).recAt + d.recovery ≤ u then (t.canCh c).est = .active ∧ (t.canCh c).tec = 0 ∧ (t.canCh c).rxec = 0
        else t = s) ∧
      (((s.canCh c).est = .active ∨ (s.canCh c).est = .passive) → ∀ f, ∃ t, exec (.canFrameReceive c u f) s = .next t ∧
        (t.canCh c).rxok = min ((s.canCh c).rxok + 1) max32)) ∧
    (∀ f, ∃ t, exec (.wakeFrame u f) s = .next t ∧
      if s.pwr.power = .dormantOrderly ∧ s.canWake .c00 = true ∧ s.wakeMatch f = true then
        (if s.pwr.vin then Started t 4 else t.pwr.wakePending = some (s.pwr.wakePending.getD .c00))
      else if s.pwr.power = .service ∨ s.pwr.power = .off ∨ s.canWake .c00 = false ∨ s.wakeMatch f = false then t = s
      else t.pwr = s.pwr)

/-- An Ethernet port (13 R360, R365, R366, R371, R374; 21 R533): a damaged frame is counted and goes no further, a good one
of an unprotected single port is accepted; a frame sent is counted; supervision frames leave on the linked members of a
pair; an aged source leaves the duplicate table; the link follows the wire; and in DORMANT port E4 answers its four requests
with their code and sequence number. -/
def Obligations.EthernetPorts : Prop :=
  ∀ (s : State) (p u : Nat), s.stn.cells = [] → p < s.eth.ports.length →
    (∀ f d, s.portUp p = true → s.ethDef? p = some d → (s.port p).link = true → ∃ t, exec (.ethFrameReceive p u f) s = .next t ∧
      if 1560 < f.len ∨ f.fcsOk = false then (t.port p).rxerr = min ((s.port p).rxerr + 1) max16 ∧ (t.port p).rxok = (s.port p).rxok
      else d.macsec = false → d.red = 0 → (t.port p).rxok = min ((s.port p).rxok + 1) max32 ∧ (t.port p).rxerr = (s.port p).rxerr) ∧
    (∀ f b d, s.ethDef? p = some d → d.members = [p] → (s.port p).link = true → (s.port p).busy = some (f, b) → b ≤ u →
      ∃ t, exec (.ethTransmitComplete p u) s = .next t ∧ (t.port p).txok = min ((s.port p).txok + 1) max32) ∧
    (∀ d, s.portUp p = true → s.ethDef? p = some d → ∃ t, exec (.supervisionFrameTransmit p) s = .next t ∧
      if d.red = 0 then t = s else ∀ q ∈ d.members, (s.port q).link = true → Out.ethTx q [] ∈ t.hst.out) ∧
    (∀ m, s.portUp p = true → ∃ t, exec (.duplicateEntryAgeOut p m) s = .next t ∧
      (t.port p).dup = (s.port p).dup.filter (fun x => x.mac ≠ m)) ∧
    (∀ b, ∃ t, exec (.portLinkChange p b) s = .next t ∧ if s.portUp p then (t.port p).link = b else t = s) ∧
    (∀ n f k, ∀ x ∈ [((Instr.dormantStatus u n, 129) : Instr × Nat), (.dormantTime u n, 130), (.dormantRecRead u n f k, 131),
        (.dormantWake u n, 132)],
      ∃ t, exec x.1 s = .next t ∧
        if s.dormAnswers u then
          (∃ l, Out.ethTx 4 ([BitVec.ofNat 8 x.2, 0] ++ leBytes 2 n ++ l) ∈ t.hst.out) ∧
          (x.2 = 132 → s.pwr.power = .dormantOrderly → s.pwr.vin = true → Started t 4)
        else t = s)

/-! ## Host interface, registers, recorder, keys, calendar, panel (16 to 22) -/

/-- Doorbells within a ring are taken, others are host errors; data of a read that arrive fetch their entries; the link and
AQCTL.EN bring pairs and take them away; a message held off is sent when the hold-off ends; staging ends in a staged swap or
an INVALID super (16 R413, R415, R418, R424, R428, R429; 04 R102). -/
def Obligations.HostInterfaceEvents : Prop :=
  ∀ s : State,
    (∀ n v l, s.ringIndexOk n v = false → exec (.sqTailDoorbell n v l) s = .fault .hostError ∧ exec (.cqHeadDoorbell n v) s = .fault .hostError) ∧
    (∀ n v l q, s.ringIndexOk n v = true → s.qp? n = some q → s.runs .hst = true →
      (∃ t, exec (.sqTailDoorbell n v l) s = .next t ∧ ∃ r, t.qp? n = some r ∧ r.tailDb = v ∧ r.headDb = q.headDb) ∧
      (∃ t, exec (.cqHeadDoorbell n v) s = .next t ∧ ∃ r, t.qp? n = some r ∧ r.headDb = v ∧ r.tailDb = q.tailDb)) ∧
    (∀ r rest q, s.hst.reads = r :: rest → r.late = false → s.qp? r.qp = some q → s.continuous = true → ∀ b,
      ∃ t, exec (.hostReadDataArrival b) s = .next t ∧ (∃ x, t.qp? r.qp = some x ∧ q.fetched + r.d ≤ x.fetched) ∧
        t.hst.lateRd = if b then min (s.hst.lateRd + 1) max32 else s.hst.lateRd) ∧
    (∃ t, exec .pcieLinkDown s = .next t ∧
      if s.hst.link = true ∧ s.runs .hst = true then
        t.hst.link = false ∧ t.hst.qps = [] ∧ t.hst.cpls = [] ∧ t.hst.linkDn = min (s.hst.linkDn + 1) max32 ∧ t.comb = s.comb
      else t = s) ∧
    exec .pcieLinkUp s = .next (if s.runs .hst then { s with hst := { s.hst with link := true } } else s) ∧
    (∃ t, exec .aqctlEnSet s = .next t ∧
      if s.barOk = true ∧ s.fld 0x34 0 0 ≠ 1 then t.fld 0x34 0 0 = 1 ∧
        ∃ q, t.qp? 0 = some q ∧ q.kind = 1 ∧ q.sizeLog = s.fld 0x20 4 0 ∧ q.vector = s.fld 0x20 13 8 ∧ q.latched = 0 ∧ q.posted = 0
      else t = s) ∧
    (∃ t, exec .aqctlEnClear s = .next t ∧
      if s.barOk = true ∧ s.fld 0x34 0 0 ≠ 0 then t.fld 0x34 0 0 = 0 ∧ t.qp? 0 = none ∧ ∀ n, n ≠ 0 → t.qp? n = s.qp? n
      else t = s) ∧
    (∀ n q, s.qp? n = some q → q.ien = true → s.hst.msixMask.contains q.vector = false → ∃ t, exec (.msiXHoldoffEnd n) s = .next t ∧
      if q.sig = true ∧ q.holdoff = true ∧ s.runs .hst = true then t.hst.out = Out.msix q.vector :: s.hst.out
      else t.hst.out = s.hst.out) ∧
    (∀ a, s.sup.armed = some a → a.super ≤ 1 → s.pwr.power = .service →
      (∃ t, exec (.stagingComplete true) s = .next t ∧ t.sup.armed = some { a with staged := true, chStaged := ⟨true, true, true⟩, seq := none } ∧
        t.sup.staged = some (s.super a.super).view.image ∧ ∀ q, a.seq = some q → ∀ h ∈ t.mgt.held, h.seq ≠ q) ∧
      (∃ t, exec (.stagingComplete false) s = .next t ∧ t.sup.armed = none ∧ (t.super a.super).st = .invalid))

/-- A register write reaches the fields that take it: RW always, RWL outside RUN, the queue addresses while EN is 0; in RUN
a locked field keeps its value and the write is counted; a value outside a field's range is unpredictable, and the model
stops; XIN1 qualifies anew after a write of its frequency (16 R414, R417, R418; 00 R7; 19 R507; 22 R555). -/
def Obligations.RegisterWritesReachFields : Prop :=
  ∀ s : State, s.barOk = true →
    (∀ o v, o % 4 = 0 → ownWrite o = false → s.admitsWrite o v.toNat = true → ∃ t, exec (.registerWrite o v) s = .next t ∧
      (∀ f ∈ storedFields, f.off = o → t.fld f.off f.hi f.lo = if s.taken f then bitsOf v.toNat f.hi f.lo else s.fld f.off f.hi f.lo) ∧
      (∀ f ∈ storedFields, f.off ≠ o → t.fld f.off f.hi f.lo = s.fld f.off f.hi f.lo) ∧
      (∀ f ∈ storedFields, f.off = o → f.ty = .rwl → s.mgt.run = .run → t.hst.lockWr = min (s.hst.lockWr + 1) max32)) ∧
    (∀ o v, o % 4 = 0 → ownWrite o = false → s.admitsWrite o v.toNat = false → exec (.registerWrite o v) s = .fault .unpredictableWrite) ∧
    (∀ o v, o % 4 ≠ 0 → exec (.registerWrite o v) s = .next s) ∧
    (∀ k, s.mgt.run ≠ .run →
      (10000 ≤ k → k ≤ 50000 → 0 < s.clk.mons.length → ∃ t, exec (.xin1FrequencyWrite k) s = .next t ∧ t.fld 0x1000 15 0 = k ∧
        (t.mon 0).qual = false) ∧
      (k < 10000 ∨ 50000 < k → exec (.xin1FrequencyWrite k) s = .fault .unpredictableWrite)) ∧
    (∀ b, ∃ t, exec (.panelTestWrite b) s = .next t ∧ t.fld 0xA004 0 0 = (if b then 1 else 0))

/-- The recorder: a record takes the next number and a place in the staging buffer, or is counted as refused when it is full;
a commit takes the first one out; a freeze ends after its window. The calendar: a second boundary without adjustments counts
one second, and the range begins anew (20 R509, R520; 21 R527, R528, R531). -/
def Obligations.RecorderAndCalendar : Prop :=
  ∀ s : State,
    (∀ v r c b, s.pwr.power ≠ .off → ∃ t, exec (.recordRaise v r c b) s = .next t ∧ t.rcd.written = (s.rcd.written + 1) % 2 ^ 32 ∧
      if s.rcd.staging.length < 1024 then ∃ x, t.rcd.staging = s.rcd.staging ++ [x] ∧ x.rno = s.rcd.written ∧ x.sev = v.val
      else t.rcd.staging = s.rcd.staging ∧ t.rcd.stgFull = min (s.rcd.stgFull + 1) max32) ∧
    (∀ r rest, s.mgt.run ≠ .run → s.mayCommit = true → s.rcd.sign = none → s.rcd.staging = r :: rest → s.rcd.stored.length < recPlaces →
      ∃ t x, exec .recordCommitEnd s = .next t ∧ t.rcd.staging = rest ∧ t.rcd.stored = s.rcd.stored ++ [x] ∧ x.rno = r.rno ∧ x.sev = r.sev ∧
        t.rcd.lastChained = r.rno) ∧
    (∃ t, exec .freezeExpiry s = .next t ∧ t.rcd.freeze = none ∧ (s.rcd.freeze = none → t = s)) ∧
    (∃ t, exec .rtcSecondBoundary s = .next t ∧
      if s.calendarRuns then s.rtc.waiting = [] → s.rtc.ptp = [] →
        t.rtc.secs = (if s.rtc.secs + 1 = rangeSecs then 0 else s.rtc.secs + 1) ∧ t.rtc.trimSec = (s.rtc.trimSec + 1) % 64
      else t = s) ∧
    (s.rtc.ptp = [] → exec .ptpSettingApply s = .next s) ∧
    (∀ p, s.rtc.ptp = [p] → s.rtc.waiting = [] → s.calendarRuns = true → p.w * 1000000000 ≤ s.secondEnd → s.dtLive = true →
      s.tim.dt ≤ p.w * 1000000000 → p.w * 1000000000 < 2 ^ 64 →
      0 ≤ p.secs → p.secs < rangeSecs → ∃ t, exec .ptpSettingApply s = .next t ∧ t.rtc.secs = p.secs.toNat ∧ t.rtc.ptp = [])

/-- Key work that ends leaves the queue and ends its command; a failing generator stops what needs random numbers until its
tests pass; a challenge is gone 600 s after its issue. An authorised command whose block fails a check ends, is counted, and
changes no run state; one that passes has its effect: HALT, SETUP, ACTIVATE, TRIM, DORMANT, OUTPUT_FORCE (17 R440, R447,
R449; 18 R471, R473; 11 R308). -/
def Obligations.KeyWorkAndAuthorisation : Prop :=
  ∀ s : State, s.mgt.fenceWait = [] →
    (∀ j q s1, s.key.jobs = [j] → j.work = .identity q → s.takeJob = some (j, s1) → ∃ t, exec .keyWorkEnd s = .next t ∧ t.key.jobs = [] ∧
      ∀ h ∈ t.mgt.held, h.seq ≠ q) ∧
    (s.takeJob = none → exec .keyWorkEnd s = .next s ∧ exec .authVerificationEnd s = .next s) ∧
    (s.runs .key = true → (∃ t, exec .rngHealthFail s = .next t ∧ t.key.rngFail = true) ∧
      (∃ t, exec .rngTestsPass s = .next t ∧ t.key.rngFail = false ∧ (s.key.rngFail = true → t.key.chalWait = []))) ∧
    (∀ c, s.mgt.chal = some c → s.dtLive = true → c.issue + chalNs < 2 ^ 64 → ∃ t, exec .challengeExpiry s = .next t ∧ t.mgt.chal = none) ∧
    (s.mgt.chal = none → exec .challengeExpiry s = .next s) ∧
    (∀ j a s1, s.key.jobs = [j] → j.work = .auth → s.takeJob = some (j, s1) → s.mgt.auth = some a →
      let bad := s1.takes (hostOpc a.cmd) = false ∨ s1.authStatus a ≠ 0 ∨ s1.rowStatus a.cmd ≠ 0
      ∃ t, exec .authVerificationEnd s = .next t ∧ t.mgt.auth = none ∧
        (bad → t.mgt.run = s.mgt.run ∧ t.mgt.authFail = min (s.mgt.authFail + 1) max32 ∧ ∀ h ∈ t.mgt.held, h.seq ≠ a.seq) ∧
        (¬ bad → match a.cmd with
          | .halt _ m _ => t.mgt.run = .halt ∧ t.mgt.hmode = m
          | .setup _ _ => t.mgt.run = .setup ∧ t.mgt.forces = []
          | .activate _ x _ => x ≤ 1 → (t.super x).st = .active
          | .trim _ e r g d _ => SMap.get dOpt t.mtr.trims (8 * e + r) = some (g, toSigned 16 d)
          | .dormant _ _ => t.pwr.dormEntry = true
          | .outputForce _ p m ws _ => ∀ x, s.points[p]? = some x →
              if m = 1 then (p, ws.take x.nwords) ∈ t.mgt.forces else ∀ y ∈ t.mgt.forces, y.1 ≠ p
          | _ => t.mgt.run = s.mgt.run))

/-- The panel: a frame drives the next phase of a running update, which completes with its last frame; the rails come up, go
down when nothing runs, and are discharged; the hold-up reading follows VHU (22 R547, R548, R553, R555, R556). -/
def Obligations.PanelEvents : Prop :=
  ∀ s : State,
    (∀ r u o d, s.pnlOn = true → s.pnl.rails = .up → r < 16 → r < s.pnl.regs.length → (s.preg r).run = some u → u.phase < u.total →
      u.first ≤ s.tim.dt → s.panel? = some d → o ≤ d.crkMax → (∀ q, q ≠ r → (s.preg q).driven = false) →
      ∃ t, exec (.panelFrameStart o) s = .next t ∧ (t.preg r).run = some { u with phase := u.phase + 1 }) ∧
    (∀ r u, s.pnlOn = true → s.pnl.rails = .up → r < s.pnl.regs.length → (s.preg r).run = some u → u.total ≤ u.phase →
      (s.preg r).pend = none → (s.preg r).work = false → ∃ t, exec (.panelUpdateComplete r) s = .next t ∧
        (t.preg r).run = none ∧ (t.preg r).done = some u.jseq ∧ t.pnl.updOk = min (s.pnl.updOk + 1) max32) ∧
    (∀ o d, s.pnlOn = true → s.pnl.rails = .rising → s.pnl.closing = false → s.panel? = some d → o ≤ d.crkMax →
      ∃ t, exec (.railsUpComplete o) s = .next t ∧ t.pnl.rails = .up ∧ t.pnl.railAt = s.pnl.railAt + 100000 ∧ t.pnl.cracked = s.pnl.cracked) ∧
    (∀ v, (∃ t, exec (.vhuBelowThreshold v) s = .next t ∧ t.pnl.vhuMv = min 65535 v) ∧
      (∃ t, exec (.vhuRestored v) s = .next t ∧ t.pnl.vhuMv = min 65535 v)) ∧
    (∀ d, s.panel? = some d → ∃ t, exec .railIdleExpiry s = .next t ∧
      if s.pnlOn = true ∧ s.pnl.rails = .up ∧ s.anyRunning = false ∧ s.anyPending = false then t.pnl.rails = .discharging ∧ t.pnl.vcom = false
      else t = s) ∧
    (∃ t, exec .dischargeEnd s = .next t ∧
      if s.pnl.rails = .discharging then s.anyRunning = false → t.pnl.rails = .down ∧ t.pnl.holdup = false
      else t = s)

/-! ## The machine -/

/-- A step takes the command at the front of the queue and gives it the rest (the order of commands); with no command waiting
the block ticks, and the step always completes (DESIGN CHOICE, log entry 2). -/
def Obligations.StepRunsFront : Prop :=
  (∀ s c rest, s.pending = c :: rest → step s = exec c { s with pending := rest }) ∧
  ∀ s, s.pending = [] → ∃ t, step s = .next t

/-- No command is refused, and only host commands, doorbells and register writes can stop the block, with the two faults of
what the host may not do (00 R7, 16 R433). -/
def Obligations.OnlyHostErrorsStop : Prop :=
  ∀ c s, (∀ r, exec c s ≠ .refused r) ∧
    ∀ f, exec c s = .fault f →
      match c with
      | .registerWrite .. | .xin1FrequencyWrite _ => f = .unpredictableWrite
      | .sqTailDoorbell .. | .cqHeadDoorbell .. => f = .hostError
      | c => f = .hostError ∧ (hostEntry c).isSome = true

/-- The stored register fields and the bytes of both supers are in canonical form. -/
def Sys2Proof.Claim.Canonical (s : State) : Prop :=
  SMap.wf regReset s.regs = true ∧ SMap.wf dByte s.sup.s0.bytes = true ∧ SMap.wf dByte s.sup.s1.bytes = true

/-- After reset (DESIGN CHOICE, log entry 1) the device is in OFF, DT stands at its origin, no scan is open, nothing is held or waits, both
supers are EMPTY and every stored register field has its reset value (02 R52, 19 R495, 04 R94, 00 Table 0-3). -/
def Sys2Proof.Claim.ResetState : Prop :=
  State.reset.pwr.power = .off ∧ State.reset.pending = [] ∧ State.reset.tim.dt = dtOrigin ∧ State.reset.mgt.held = [] ∧
  State.reset.hst.qps = [] ∧ (∀ i, (State.reset.chan i).scan = none) ∧
  (∀ x, x ≤ 1 → (State.reset.super x).st = .empty) ∧ (∀ f ∈ storedFields, State.reset.fld f.off f.hi f.lo = f.rst)

/-- The canonical form holds after reset. -/
def Sys2Proof.Claim.CanonicalAtReset : Prop := Canonical State.reset

/-- What reset leaves, in canonical form. -/
def Obligations.ResetStateIsCanonical : Prop := ResetState ∧ CanonicalAtReset

/-- Every step keeps the canonical form. -/
def Obligations.CanonicalKept : Prop := ∀ s t, Canonical s → step s = .next t → Canonical t

/-! ## What units leave alone -/

/-- Only device time, frequency measurements that a change of time touches, rings and what left the block, records, and the
count of free values used have changed: what any event may do beside its own effect. -/
def Sys2Proof.Claim.Elsewhere (s t : State) : Prop :=
  t = { s with tim := t.tim, clk := { s.clk with freqJobs := t.clk.freqJobs }, hst := t.hst, rcd := t.rcd, fresh := t.fresh }

/-- Events of one unit leave every other unit as it was: time and PTP the rest but the mark of the open metering interval,
axes and PWM outputs all but the axes and the commands they end, CAN controllers all but the controllers and the stations,
answers all but stations and station counters, converters and metering inputs all but themselves. -/
def Obligations.EventsStayInTheirUnits : Prop :=
  ∀ s t c, s.stn.cells = [] → exec c s = .next t →
    (∀ d m, c ∈ [Instr.ptpMessageReceive m, .syncIntervalEnd d, .bleedEnd] → Elsewhere { s with mtr := t.mtr } t) ∧
    (∀ a w l u n, c ∈ [Instr.axisEnableLeadEnd a, .axisProfileUpdate a, .axisStandstill a, .autoDisable a, .switchEdge a w l u,
      .pwmPeriodStart n] → Elsewhere { s with axs := t.axs, mgt := t.mgt } t) ∧
    (∀ k u f g, c ∈ [Instr.canTransmitStart k u, .canTransmitComplete k u, .canArbitrationLost k u, .canError k u f,
      .canFrameReceive k u g, .busOffRecoveryStart k, .busOffRecoveryEnd k u] → Elsewhere { s with can := t.can, stn := t.stn } t) ∧
    (∀ l, c ∈ [Instr.answer l, .malformedWfpFrame l] → Elsewhere { s with stn := t.stn, mtr := t.mtr } t) ∧
    (∀ n v u, c ∈ [Instr.adcConversionComplete n v, .referenceOutOfRange u, .referenceInRange u] → Elsewhere { s with adc := t.adc } t) ∧
    (∀ m u, c ∈ [Instr.mdInputFault m u, .mdTransitionResume m u] → Elsewhere { s with mtr := t.mtr } t)

/-- A host command taken from an idle queue changes its own unit, the commands held and their counts, and no other unit. -/
def Obligations.CommandsStayInTheirUnits : Prop :=
  ∀ s h q c t, Quiet s h q → exec c s = .next t →
    (∀ p, c ∈ [Instr.challenge h, .qpCreate h p, .freeze h, .thaw h] → Elsewhere { s with mgt := t.mgt, key := t.key } t) ∧
    (∀ f n r, c ∈ [Instr.recRead h f n, .freqMeasure h r] → Elsewhere { s with mgt := t.mgt } t) ∧
    (∀ n x p m e, c ∈ [Instr.rtcTrim h n, .alarmSet h m p e m x, .rtcSet h x, .addHour h, .subHour h, .rtcFromPtp h] →
      Elsewhere { s with mgt := t.mgt, rtc := t.rtc } t) ∧
    (∀ a p v d, c ∈ [Instr.setPosition h a p, .move h a p v, .home h a p, .stop h a d] → Elsewhere { s with mgt := t.mgt, axs := t.axs } t) ∧
    (∀ x o b, c ∈ [Instr.write h x o b, .verify h x, .arm h x o, .disarm h] →
      Elsewhere { s with mgt := t.mgt, sup := t.sup, key := t.key } t) ∧
    (∀ x n b m r, c ∈ [Instr.update h b, .attest h n b, .legacyExport h n m, .identity h, .slotQuery h r] ∨ c = .verify h x →
      Elsewhere { s with mgt := t.mgt, key := t.key } t) ∧
    (∀ l r, c ∈ [Instr.edit h l, .read h r] → Elsewhere { s with mgt := t.mgt, sup := t.sup, chn := t.chn } t) ∧
    (∀ n m b, c = .simulate h n m b → Elsewhere { s with mgt := t.mgt, stn := t.stn } t) ∧
    (∀ r, c = .delta h r → Elsewhere { s with mgt := t.mgt, slv := t.slv } t) ∧
    (∀ p x, c = .calibrate h p x → Elsewhere { s with mgt := t.mgt, adc := t.adc } t) ∧
    (∀ p a, c = .txAn h p a → Elsewhere { s with mgt := t.mgt, eth := t.eth } t) ∧
    (∀ m b, c = .mapWrite h m b → Elsewhere { s with mgt := t.mgt, pnl := t.pnl } t) ∧
    (∀ d, c = .domainSelect h d → Elsewhere { s with mgt := t.mgt, mtr := t.mtr } t)
end

