-- ==== Sys2Proof/Laws/Host.lean ====
section
/-!
SUPPORT. Sys2Proof/Laws/Host.lean: what the host interface does with a command when nothing else waits: service of idle
rings changes ring positions alone, a command at the head of the hand-over is taken at once.
-/
namespace Sys2Proof.Machine

theorem iter_none {α : Type} (n : Nat) (f : α → Option α) (x : α) (h : f x = none) : iter n f x = x := by
  cases n with
  | zero => rfl
  | succ n => simp only [iter, h]

theorem foldl_fix {α β : Type} (f : α → β → α) (x : α) (l : List β) (h : ∀ b ∈ l, f x b = x) : l.foldl f x = x := by
  induction l with
  | nil => rfl
  | cons b l ih =>
    rw [List.foldl_cons, h b List.mem_cons_self]
    exact ih (fun c hc => h c (List.mem_cons_of_mem _ hc))

/-- A pair whose latched entries have all been fetched and served. -/
def Qp.Idle (p : Qp) : Prop := p.latched = p.fetched ∧ p.tailDb = p.fetched % p.size ∧ p.bufs = [] ∧ p.gathered = []

theorem Qp.size_pos (p : Qp) : 0 < p.size := Nat.pow_pos (by decide)

/-- Latching an idle pair moves its consumed position alone. -/
theorem Qp.latch_idle (p : Qp) (h : p.Idle) : p.latch = { p with released := p.latch.released } := by
  have hs := p.size_pos
  unfold Qp.latch
  split
  · rfl
  · have e : p.latched + (p.tailDb + p.size - p.latched % p.size) % p.size = p.latched := by
      rw [h.1, h.2.1, Nat.add_sub_cancel_left, Nat.mod_self, Nat.add_zero]
    rw [e]

theorem Qp.idle_latch (p : Qp) (h : p.Idle) : p.latch.Idle := by
  rw [p.latch_idle h]; exact h

theorem State.qp?_mem (s : State) (id : Nat) (p : Qp) (h : s.qp? id = some p) : p ∈ s.hst.qps :=
  List.mem_of_find?_eq_some h

theorem State.latchAll_idle (s : State) (h : ∀ p ∈ s.hst.qps, p.Idle) : ∀ p ∈ s.latchAll.hst.qps, p.Idle := by
  intro p hp
  obtain ⟨r, hr, rfl⟩ := List.mem_map.mp hp
  exact r.idle_latch (h r hr)

/-- No batch is fetched from idle pairs. -/
theorem State.issueBatch_idle (s : State) (h : ∀ p ∈ s.hst.qps, p.Idle) (id : Nat) : s.issueBatch id = none := by
  unfold State.issueBatch
  split
  · rfl
  · rename_i p hp
    have hi := h p (s.qp?_mem id p hp)
    have e : p.latched - (p.fetched + s.outstanding id) = 0 := by rw [hi.1]; omega
    simp only [e, Nat.zero_min, Nat.min_zero, ite_self, decide_true, Bool.true_or, if_true]

theorem fetchPass_idle (s : State) (h : ∀ p ∈ s.hst.qps, p.Idle) : fetchPass s = none := by
  unfold fetchPass
  dsimp only
  rw [foldl_fix _ (s.latchAll, false) _ (fun id _ => by
    simp only [State.issueBatch_idle s.latchAll (s.latchAll_idle h) id])]
  rfl

theorem State.copyRx_idle (s : State) (h : ∀ p ∈ s.hst.qps, p.Idle) : s.copyRx = s := by
  have b : ∀ id p, s.qp? id = some p → p.bufs = [] := fun id p hp => (h p (s.qp?_mem id p hp)).2.2.1
  have c : ∀ id, canRxOnce id s = none := by
    intro id; unfold canRxOnce; split
    · rfl
    · rename_i p hp; rw [b id p hp]
  have e : ∀ id, ethRxOnce id s = none := by
    intro id; unfold ethRxOnce; split
    · rfl
    · rename_i p hp; rw [b id p hp]
  have g : ∀ id dt, s.endCanBuf id dt = s := by
    intro id dt; unfold State.endCanBuf; split
    · rfl
    · rename_i p hp; rw [(h p (s.qp?_mem id p hp)).2.2.2]; rfl
  unfold State.copyRx
  apply foldl_fix
  intro p _
  simp only [iter_none _ _ _ (c p.id), iter_none _ _ _ (e p.id), g]
  split <;> (try split) <;> rfl

theorem State.sendTx_idle (s : State) (h : ∀ p ∈ s.hst.qps, p.Idle) : s.sendTx = s := by
  unfold State.sendTx
  apply foldl_fix
  intro p hp
  rw [(h p hp).2.2.1]
  split <;> rfl

theorem State.postAll_idle (s : State) (hc : s.hst.cpls = []) (he : s.hst.events = []) : s.postAll = s := by
  unfold State.postAll
  simp only [hc, List.length_nil, Nat.mul_zero, iter, he]

/-- Service with nothing waiting changes the rings' consumed positions alone. -/
theorem State.hostServe_idle (s : State) (h : ∀ p ∈ s.hst.qps, p.Idle) (hc : s.hst.cpls = []) (he : s.hst.events = [])
    (hw : s.hst.cell = none) : ∃ l, s.hostServe = { s with hst := { s.hst with qps := l } } := by
  unfold State.hostServe
  by_cases hk : s.continuous = true
  · refine ⟨s.latchAll.hst.qps, ?_⟩
    have e0 : s.closeCan = s := by unfold State.closeCan; rw [hw]
    simp only [hk, if_true, State.serve, e0, s.copyRx_idle h, s.postAll_idle hc he, s.sendTx_idle h, State.fetchPasses,
      iter_none _ _ _ (fetchPass_idle s h)]
    exact State.postAll_idle _ hc he
  · refine ⟨s.hst.qps, ?_⟩
    rw [if_neg hk]
    unfold State.cellServe
    split
    · rfl
    · rename_i w e; rw [hw] at e; cases e

/-- With no command behind a FENCE nothing is pumped. -/
theorem State.pumpFence_none (s : State) (h : s.mgt.fenceWait = []) : s.pumpFence = s := by
  unfold State.pumpFence; rw [h]; rfl

/-- With no deletion pending none ends. -/
theorem State.endDeletes_none (s : State) (h : s.hst.deleting = []) : s.endDeletes = s := by
  unfold State.endDeletes; rw [h]; rfl

/-- A command handed over to an idle management island is taken at once. -/
theorem State.hostCommand_taken (s : State) (c : Instr) (h : Hdr) (hr : s.runs .mgt = true) (hn : s.hst.handover = [h.qp])
    (hs : h.qp < 64) (hg : h.bad = false) (hp : s.paramsOk c = true) (hf : h.fence = false) (hw : s.mgt.fenceWait = []) :
    s.hostCommand c h =
      .next (let t := (({ s with hst := { s.hst with handover := [] } } : State).takeCmd c h 0).pumpFence
             if t.hst.handover.isEmpty then t.hostServe else t) := by
  have ht : s.takeable h = true := by
    unfold State.takeable; rw [hr, hn]; simp only [Bool.true_and, decide_eq_true_eq]; omega
  have e : s.handOver c h = (({ s with hst := { s.hst with handover := [] } } : State).takeCmd c h 0).pumpFence := by
    unfold State.handOver
    simp only [s.pumpFence_none hw, hn, hw, hf, List.headD_cons, List.drop_one, List.tail_cons, List.any_nil, Bool.false_and,
      Bool.or_self, Bool.not_false, if_true]
    rw [Nat.div_eq_of_lt hs]
  unfold State.hostCommand
  simp only [ht, hg, hp, e, Bool.not_true, Bool.or_self, Bool.false_eq_true, if_false]

/-- A completion posted in continuous service: its entry is in the ring, and only rings, pending messages and what left the
block have changed. -/
theorem State.postCpl_now (s : State) (c : Cpl) (q : Qp) (hf : c.fate = 0) (hq : s.qp? c.qp = some q) :
    ∃ l m o, s.postCpl c = { s with hst := { s.hst with qps := l, msixPend := m, out := o } } ∧
      q.entry c.res0 c.res1 c.dt c.cid c.status ∈ o := by
  have signal : ∀ (s : State) (p : Qp), ∃ m o, s.signal p = { s with hst := { s.hst with msixPend := m, out := o } } ∧
      ∀ x ∈ s.hst.out, x ∈ o := by
    intro s p
    unfold State.signal
    split
    · split
      · exact ⟨_, _, rfl, fun x hx => hx⟩
      · exact ⟨_, _, rfl, fun x hx => List.mem_cons_of_mem _ hx⟩
    · exact ⟨_, _, rfl, fun x hx => hx⟩
  have after : ∀ (s : State) (id : Nat), ∃ l m o, s.afterPost id = { s with hst := { s.hst with qps := l, msixPend := m, out := o } } ∧
      ∀ x ∈ s.hst.out, x ∈ o := by
    intro s id
    unfold State.afterPost
    split
    · exact ⟨_, _, _, rfl, fun x hx => hx⟩
    · split
      · split
        · exact ⟨_, _, _, rfl, fun x hx => hx⟩
        · rename_i p _ _ _
          obtain ⟨m, o, e, i⟩ := signal (s.setQp { p with sig := false, holdoff := true }) p
          exact ⟨_, m, o, e, i⟩
      · exact ⟨_, _, _, rfl, fun x hx => hx⟩
  unfold State.postCpl
  simp only [hf, ne_eq, not_true, if_false, hq]
  split
  · obtain ⟨l, m, o, e, i⟩ := after ((s.emit (q.entry c.res0 c.res1 c.dt c.cid c.status)).setQp { q with posted := q.posted + 1 }) c.qp
    exact ⟨l, m, o, e, i _ List.mem_cons_self⟩
  · obtain ⟨l, m, o, e, i⟩ := after (((s.emit (.readback c.qp c.cid c.data)).emit (q.entry c.res0 c.res1 c.dt c.cid c.status)).setQp
      { q with posted := q.posted + 1 }) c.qp
    exact ⟨l, m, o, e, i _ List.mem_cons_self⟩

/-- The only command held completes: in continuous service its entry is posted at once, otherwise its completion waits; the
rest of the state is as it was. -/
theorem State.complete_only (s : State) (x : Held) (q : Qp) (st r0 : Nat) (r1 : Option Nat) (data : List Byte)
    (hh : s.mgt.held = [x]) (hx : x.fate = 0) (hd : s.hst.deleting = []) (hc : s.hst.cpls = []) (hq : s.qp? x.qp = some q) :
    ∃ l m o cs, s.complete x.seq st r0 r1 data =
        { s with mgt := { s.mgt.countCpl x st with held := [] }, hst := { s.hst with qps := l, msixPend := m, out := o, cpls := cs } } ∧
      (s.continuous = true → cs = [] ∧ q.entry r0 (r1.getD x.acc) s.tim.dt x.cid st ∈ o) ∧
      (s.continuous = false → l = s.hst.qps ∧ o = s.hst.out ∧
        cs = [⟨x.qp, x.cid, x.opc, st, r0, r1.getD x.acc, s.tim.dt, data, 0⟩]) := by
  have e : s.held? x.seq = some x := by simp [State.held?, hh]
  have ef : s.mgt.held.filter (fun y => decide (y.seq ≠ x.seq)) = [] := by simp [hh]
  have ec : ∀ m : Mgt, ({ s with mgt := { m with held := [] } } : State).continuous = (s.runs .hst && decide (m.run ≠ .run)) :=
    fun _ => rfl
  have er : ({ (s.mgt.countCpl x st) with held := [] } : Mgt).run = s.mgt.run := by
    unfold Mgt.countCpl; split <;> rfl
  unfold State.complete State.finish
  simp only [e, ef, hx]
  unfold State.queueCpl
  simp only [Nat.reduceEqDiff, ne_eq, not_true, if_false, ec]
  by_cases hk : s.continuous = true
  · have hk2 : (s.runs .hst && decide ((s.mgt.countCpl x st).run ≠ .run)) = true := by
      have : (s.mgt.countCpl x st).run = s.mgt.run := er
      rw [this]; exact hk
    simp only [ne_eq] at hk2
    simp only [hk2, if_true, State.flushCpls, hc, List.foldl_nil]
    obtain ⟨l, m, o, e1, e2⟩ := State.postCpl_now
      { s with mgt := { (s.mgt.countCpl x st) with held := [] }, hst := { s.hst with cpls := [] } }
      ⟨x.qp, x.cid, x.opc, st, r0, r1.getD x.acc, s.tim.dt, data, 0⟩ q rfl hq
    rw [e1]
    refine ⟨l, m, o, [], ?_, fun _ => ⟨rfl, e2⟩, fun h => ?_⟩
    · exact State.endDeletes_none _ hd
    · rw [hk] at h; cases h
  · have hk2 : (s.runs .hst && decide ((s.mgt.countCpl x st).run ≠ .run)) = false := by
      have : (s.mgt.countCpl x st).run = s.mgt.run := er
      rw [this]; exact Bool.eq_false_iff.mpr hk
    simp only [ne_eq] at hk2
    simp only [hk2, hc, List.nil_append]
    refine ⟨s.hst.qps, s.hst.msixPend, s.hst.out, _, ?_, fun h => absurd h hk, fun _ => ⟨rfl, rfl, rfl⟩⟩
    exact State.endDeletes_none _ hd

end Sys2Proof.Machine
end

