-- ==== Sys2Proof/Laws/SMap.lean ====
section
/-!
SUPPORT. Sys2Proof/Laws/SMap.lean: sparse memories: what a write leaves readable where, and that it keeps the
canonical form.
-/
namespace Sys2Proof

variable {α : Type} (d : Nat → α)

theorem SMap.get_erase_same (m : SMap α) (k : Nat) : SMap.get d (m.erase k) k = d k := by
  induction m with
  | nil => rfl
  | cons p m ih =>
    obtain ⟨a, w⟩ := p
    by_cases h : a = k
    · simpa [SMap.erase, h] using ih
    · simpa [SMap.erase, SMap.get, h] using ih

theorem SMap.get_erase_other (m : SMap α) (k j : Nat) (h : j ≠ k) : SMap.get d (m.erase k) j = SMap.get d m j := by
  induction m with
  | nil => rfl
  | cons p m ih =>
    obtain ⟨a, w⟩ := p
    by_cases h1 : a = k
    · subst h1
      simpa [SMap.erase, SMap.get, Ne.symm h] using ih
    · rw [SMap.erase, if_neg h1]
      simp only [SMap.get, ih]

theorem SMap.get_insert_other (m : SMap α) (k j : Nat) (v : α) (h : j ≠ k) :
    SMap.get d (m.insert k v) j = SMap.get d m j := by
  induction m with
  | nil => simp [SMap.insert, SMap.get, Ne.symm h]
  | cons p m ih =>
    obtain ⟨a, w⟩ := p
    by_cases h1 : k < a
    · simp [SMap.insert, SMap.get, h1, Ne.symm h]
    · rw [SMap.insert, if_neg h1]
      simp only [SMap.get, ih]

/-- An address that a memory does not list. -/
def SMap.lacks (m : SMap α) (k : Nat) : Prop := ∀ p ∈ m, p.1 ≠ k

theorem SMap.lacks_erase (m : SMap α) (k : Nat) : SMap.lacks (m.erase k) k := by
  induction m with
  | nil => intro p hp; cases hp
  | cons q m ih =>
    obtain ⟨a, w⟩ := q
    by_cases h : a = k
    · simpa [SMap.erase, h] using ih
    · intro p hp
      rw [SMap.erase, if_neg h] at hp
      rcases List.mem_cons.mp hp with rfl | hp
      · exact h
      · exact ih p hp

theorem SMap.get_insert_same (m : SMap α) (k : Nat) (v : α) (h : SMap.lacks m k) :
    SMap.get d (m.insert k v) k = v := by
  induction m with
  | nil => simp [SMap.insert, SMap.get]
  | cons p m ih =>
    obtain ⟨a, w⟩ := p
    have ha : a ≠ k := h (a, w) List.mem_cons_self
    have hm : SMap.lacks m k := fun q hq => h q (List.mem_cons_of_mem _ hq)
    by_cases h1 : k < a
    · simp [SMap.insert, SMap.get, h1]
    · simp [SMap.insert, SMap.get, h1, ha, ih hm]

/-- A read of the address written gives the value written. -/
@[simp] theorem SMap.get_set_same [DecidableEq α] (m : SMap α) (k : Nat) (v : α) :
    SMap.get d (SMap.set d m k v) k = v := by
  unfold SMap.set
  split
  · rename_i h; rw [h]; exact SMap.get_erase_same d m k
  · exact SMap.get_insert_same d _ k v (SMap.lacks_erase m k)

/-- A write leaves every other address as it was. -/
theorem SMap.get_set_other [DecidableEq α] (m : SMap α) (k j : Nat) (v : α) (h : j ≠ k) :
    SMap.get d (SMap.set d m k v) j = SMap.get d m j := by
  unfold SMap.set
  split
  · exact SMap.get_erase_other d m k j h
  · rw [SMap.get_insert_other d _ k j v h, SMap.get_erase_other d m k j h]

/-! ## The canonical form -/

/-- A bound below every address of a memory may be lowered. -/
theorem SMap.wfFrom_lower [DecidableEq α] (m : SMap α) (lo hi : Option Nat)
    (h : ∀ b, lo = some b → ∃ c, hi = some c ∧ b ≤ c) (w : SMap.wfFrom d hi m = true) : SMap.wfFrom d lo m = true := by
  cases m with
  | nil => rfl
  | cons p m =>
    obtain ⟨a, v⟩ := p
    simp only [SMap.wfFrom, Bool.and_eq_true] at w ⊢
    refine ⟨⟨?_, w.1.2⟩, w.2⟩
    cases lo with
    | none => rfl
    | some b =>
      obtain ⟨c, rfl, hc⟩ := h b rfl
      have := of_decide_eq_true w.1.1
      exact decide_eq_true (by omega)

theorem SMap.wfFrom_erase [DecidableEq α] (m : SMap α) (k : Nat) (lo : Option Nat) (w : SMap.wfFrom d lo m = true) :
    SMap.wfFrom d lo (m.erase k) = true := by
  induction m generalizing lo with
  | nil => rfl
  | cons p m ih =>
    obtain ⟨a, v⟩ := p
    simp only [SMap.wfFrom, Bool.and_eq_true] at w
    by_cases h : a = k
    · rw [SMap.erase, if_pos h]
      refine SMap.wfFrom_lower d _ lo (some a) ?_ (ih (some a) w.2)
      intro b hb
      subst hb
      have := of_decide_eq_true w.1.1
      exact ⟨a, rfl, by omega⟩
    · rw [SMap.erase, if_neg h]
      simp only [SMap.wfFrom, Bool.and_eq_true]
      exact ⟨w.1, ih (some a) w.2⟩

theorem SMap.wfFrom_insert [DecidableEq α] (m : SMap α) (k : Nat) (v : α) (lo : Option Nat) (hv : v ≠ d k)
    (hk : ∀ b, lo = some b → b < k) (hl : SMap.lacks m k) (w : SMap.wfFrom d lo m = true) :
    SMap.wfFrom d lo (m.insert k v) = true := by
  have bound : ∀ lo : Option Nat, (∀ b, lo = some b → b < k) → SMap.above lo k = true := by
    intro lo h
    cases lo with
    | none => rfl
    | some b => exact decide_eq_true (h b rfl)
  induction m generalizing lo with
  | nil => simp [SMap.insert, SMap.wfFrom, bound lo hk, hv]
  | cons p m ih =>
    obtain ⟨a, u⟩ := p
    have ha : a ≠ k := hl (a, u) List.mem_cons_self
    have hm : SMap.lacks m k := fun q hq => hl q (List.mem_cons_of_mem _ hq)
    by_cases h1 : k < a
    · simp only [SMap.insert, if_pos h1, SMap.wfFrom, Bool.and_eq_true] at w ⊢
      exact ⟨⟨bound lo hk, by simp [hv]⟩, ⟨decide_eq_true h1, w.1.2⟩, w.2⟩
    · simp only [SMap.insert, if_neg h1, SMap.wfFrom, Bool.and_eq_true] at w ⊢
      refine ⟨w.1, ih (some a) ?_ hm w.2⟩
      intro b hb
      cases hb
      omega

/-- A write keeps the canonical form. -/
theorem SMap.wf_set [DecidableEq α] (m : SMap α) (k : Nat) (v : α) (w : SMap.wf d m = true) :
    SMap.wf d (SMap.set d m k v) = true := by
  unfold SMap.wf SMap.set at *
  split
  · exact SMap.wfFrom_erase d m k none w
  · rename_i h
    exact SMap.wfFrom_insert d _ k v none h (by intro b hb; cases hb) (SMap.lacks_erase m k)
      (SMap.wfFrom_erase d m k none w)

theorem SMap.wf_nil [DecidableEq α] : SMap.wf d ([] : SMap α) = true := rfl

end Sys2Proof
end

