-- ==== Sys2Proof/Laws/Lge.lean ====
section
/-!
SUPPORT. Sys2Proof/Laws/Lge.lean: what the shared operations of the logic engine do: an instruction in every channel
with an open scan, in the channels one after another, the operand forms, rounding and saturation.
-/
namespace Sys2Proof.Machine

@[simp] theorem Tri.get_set_same {α : Type} (t : Tri α) (i : ChId) (v : α) : (t.set i v).get i = v := by cases i <;> rfl

theorem Tri.get_set_other {α : Type} (t : Tri α) (i j : ChId) (v : α) (h : j ≠ i) : (t.set i v).get j = t.get j := by
  cases i <;> cases j <;> first | rfl | exact absurd rfl h

@[simp] theorem Tri.get_map {α β : Type} (f : α → β) (t : Tri α) (i : ChId) : (t.map f).get i = f (t.get i) := by
  cases i <;> rfl

@[simp] theorem State.setChan_same (s : State) (i : ChId) (c : Chan) : (s.setChan i c).chan i = c :=
  Tri.get_set_same s.chn.ch i c

theorem State.setChan_other (s : State) (i j : ChId) (c : Chan) (h : j ≠ i) : (s.setChan i c).chan j = s.chan j :=
  Tri.get_set_other s.chn.ch i j c h

/-- One instruction in a channel with an open scan. -/
theorem State.lge_chan (s : State) (f : Chan → Chan) (i : ChId) :
    (s.lge f).chan i = if (s.chan i).scan.isSome then f (s.chan i) else s.chan i :=
  Tri.get_map _ s.chn.ch i

theorem State.lge_open (s : State) (f : Chan → Chan) (i : ChId) (x : Scan) (h : (s.chan i).scan = some x) :
    (s.lge f).chan i = f (s.chan i) := by
  rw [State.lge_chan, h]; rfl

/-- One instruction changes nothing outside the channels, and no channel without an open scan. -/
theorem State.lge_frame (s : State) (f : Chan → Chan) :
    s.lge f = { s with chn := { s.chn with ch := (s.lge f).chn.ch } } ∧
    ∀ j, (s.chan j).scan = none → (s.lge f).chan j = s.chan j := by
  refine ⟨rfl, fun j h => ?_⟩
  rw [State.lge_chan, h]; rfl

/-! ## Operands -/

/-- A bit written reads as written; every other bit reads as before. -/
theorem Chan.readBit_writeBit (c : Chan) (op o : BitOp) (v : Bool) :
    (c.writeBit op v).readBit o = if o = op then v else c.readBit o := by
  have touch : ∀ (d : Chan) (p : Nat), (d.touch p).readBit o = d.readBit o := by
    intro d p; unfold Chan.touch; split <;> rfl
  cases op <;> cases o <;> rename_i a b <;> simp only [Chan.writeBit, touch] <;> simp only [Chan.readBit] <;>
    try simp only [reduceCtorEq, if_false]
  · by_cases h : b = a
    · subst h; simp
    · simp [h, SMap.get_set_other dBit _ a b v h]
  · by_cases h : b = a
    · subst h; simp
    · simp [h, SMap.get_set_other dBit _ a b v h]

theorem Chan.touch_keeps (d : Chan) (p : Nat) : d.touch p = { d with touched := (d.touch p).touched } := by
  unfold Chan.touch; split <;> rfl

/-- A bit written changes bits alone. -/
theorem Chan.writeBit_keeps (c : Chan) (op : BitOp) (v : Bool) :
    c.writeBit op v = { c with mem := { c.mem with bits := (c.writeBit op v).mem.bits, req := (c.writeBit op v).mem.req },
                               touched := (c.writeBit op v).touched } := by
  cases op <;> simp only [Chan.writeBit] <;> rw [Chan.touch_keeps]

/-- The word operand a store names. -/
def storeAsWord : StoreOp → WordOp
  | .word a => .word a
  | .out a => .out a

/-- A word stored reads as stored; every other word reads as before. -/
theorem Chan.readWord_store (c : Chan) (op : StoreOp) (o : WordOp) (v : Word) :
    (c.store op v).readWord o = if o = storeAsWord op then v else c.readWord o := by
  have touch : ∀ (d : Chan) (p : Nat), (d.touch p).readWord o = d.readWord o := by
    intro d p; unfold Chan.touch; split <;> rfl
  cases op <;> cases o <;> rename_i a b <;> simp only [Chan.store, Chan.storeWord, Chan.storeOut, storeAsWord, touch] <;>
    simp only [Chan.readWord] <;> try simp only [reduceCtorEq, if_false]
  · by_cases h : b = a
    · subst h; simp
    · simp [h, SMap.get_set_other dWord _ a b v h]
  · by_cases h : b = a
    · subst h; simp
    · simp [h, SMap.get_set_other dWord _ a b v h]

/-- A word stored changes words alone. -/
theorem Chan.store_keeps (c : Chan) (op : StoreOp) (v : Word) :
    c.store op v = { c with mem := { c.mem with words := (c.store op v).mem.words, out := (c.store op v).mem.out },
                            touched := (c.store op v).touched } := by
  cases op <;> simp only [Chan.store, Chan.storeWord, Chan.storeOut] <;> rw [Chan.touch_keeps]

/-! ## Rounding and saturation (06 R180) -/

/-- Saturation is the clamp to the 32-bit range. -/
theorem satInt_clamp (r : Int) : satInt r = max (-2147483648) (min 2147483647 r) := by
  unfold satInt; split <;> (try split) <;> omega

/-- `rndDiv` is half to even: the error is at most half the divisor, and a tie goes to the even quotient. -/
theorem rndDiv_halfEven (n : Int) (d : Nat) (h : 0 < d) :
    2 * (n - rndDiv n d * d).natAbs ≤ d ∧ (2 * (n - rndDiv n d * d).natAbs = d → 2 ∣ rndDiv n d) := by
  have h1 : n.fdiv d = n / d := Int.fdiv_eq_ediv_of_nonneg n (by omega)
  have h2 : n - n / d * d = n % d := by have := Int.mul_ediv_add_emod n d; rw [Int.mul_comm] at this; omega
  have h3 : 0 ≤ n % d := Int.emod_nonneg n (by omega)
  have h4 : n % d < d := Int.emod_lt_of_pos n (by omega)
  have h5 : ∀ q : Int, n - (q + 1) * d = n - q * d - d := by intro q; rw [Int.add_mul]; omega
  unfold rndDiv
  simp only [h1]
  generalize n / d = q at *
  split
  · constructor <;> omega
  · split
    · rw [h5]; constructor <;> omega
    · split
      · constructor <;> omega
      · rw [h5]; constructor <;> omega

end Sys2Proof.Machine
end

