-- ==== Sys2Proof/Laws/State.lean ====
section
/-!
SUPPORT. Sys2Proof/Laws/State.lean: what each named update of the state leaves as it was, field by field, and what reading
its own field gives after it.
-/
namespace Sys2Proof.Machine

variable (s : State)

/-! ## Reading what was written -/

theorem updAt_get_same {α : Type} (l : List α) (i : Nat) (x d : α) (h : i < l.length) : (updAt l i (fun _ => x)).getD i d = x := by
  induction l generalizing i with
  | nil => exact absurd h (Nat.not_lt_zero i)
  | cons y l ih => cases i with
    | zero => rfl
    | succ i => exact ih i (Nat.lt_of_succ_lt_succ h)

theorem updAt_get_other {α : Type} (l : List α) (i j : Nat) (f : α → α) (d : α) (h : j ≠ i) : (updAt l i f).getD j d = l.getD j d := by
  induction l generalizing i j with
  | nil => rfl
  | cons y l ih => cases i with
    | zero => cases j with
      | zero => exact absurd rfl h
      | succ j => rfl
    | succ i => cases j with
      | zero => rfl
      | succ j => exact ih i j (fun e => h (congrArg Nat.succ e))

@[simp] theorem State.setReg_same (o : Nat) (v : Word) : (s.setReg o v).reg o = v := by simp [State.setReg, State.reg]
theorem State.setReg_other (o p : Nat) (v : Word) (h : p ≠ o) : (s.setReg o v).reg p = s.reg p :=
  SMap.get_set_other _ _ _ _ _ h
@[simp] theorem State.emit_out (o : Out) : (s.emit o).hst.out = o :: s.hst.out := rfl
@[simp] theorem State.setMtr_mtr (m : Mtr) : (s.setMtr m).mtr = m := rfl

@[simp] theorem State.setAx_same (i : Nat) (x : Ax) (h : i < s.axs.ax.length) : (s.setAx i x).ax i = x := updAt_get_same _ _ _ _ h
theorem State.setAx_other (i j : Nat) (x : Ax) (h : j ≠ i) : (s.setAx i x).ax j = s.ax j := updAt_get_other _ _ _ _ _ h
@[simp] theorem State.setCan_same (i : Nat) (x : CanCh) (h : i < s.can.ch.length) : (s.setCan i x).canCh i = x := updAt_get_same _ _ _ _ h
theorem State.setCan_other (i j : Nat) (x : CanCh) (h : j ≠ i) : (s.setCan i x).canCh j = s.canCh j := updAt_get_other _ _ _ _ _ h
@[simp] theorem State.setPort_same (i : Nat) (x : EthPort) (h : i < s.eth.ports.length) : (s.setPort i x).port i = x := updAt_get_same _ _ _ _ h
theorem State.setPort_other (i j : Nat) (x : EthPort) (h : j ≠ i) : (s.setPort i x).port j = s.port j := updAt_get_other _ _ _ _ _ h
@[simp] theorem State.setPreg_same (i : Nat) (x : PnlRegSt) (h : i < s.pnl.regs.length) : (s.setPreg i x).preg i = x := updAt_get_same _ _ _ _ h
theorem State.setPreg_other (i j : Nat) (x : PnlRegSt) (h : j ≠ i) : (s.setPreg i x).preg j = s.preg j := updAt_get_other _ _ _ _ _ h
@[simp] theorem State.setMon_same (i : Nat) (x : SrcMon) (h : i < s.clk.mons.length) : (s.setMon i x).mon i = x := updAt_get_same _ _ _ _ h
theorem State.setMon_other (i j : Nat) (x : SrcMon) (h : j ≠ i) : (s.setMon i x).mon j = s.mon j := updAt_get_other _ _ _ _ _ h
@[simp] theorem State.setConv_same (i : Nat) (x : AdcConv) (h : i < s.adc.conv.length) : (s.setConv i x).adcConv i = x := updAt_get_same _ _ _ _ h
theorem State.setConv_other (i j : Nat) (x : AdcConv) (h : j ≠ i) : (s.setConv i x).adcConv j = s.adcConv j := updAt_get_other _ _ _ _ _ h
@[simp] theorem State.setPair_same (i : Nat) (x : AdcPair) (h : i < s.adc.pairs.length) : (s.setPair i x).adcPair i = x := updAt_get_same _ _ _ _ h
theorem State.setPair_other (i j : Nat) (x : AdcPair) (h : j ≠ i) : (s.setPair i x).adcPair j = s.adcPair j := updAt_get_other _ _ _ _ _ h
@[simp] theorem State.setSuper_same (i : Nat) (x : Super) : (s.setSuper i x).super i = x := by
  unfold State.setSuper State.super; split <;> rfl
@[simp] theorem State.setAlarm_same (i : Nat) (x : Alarm) : (s.setAlarm i x).alarm i = x := by
  unfold State.setAlarm State.alarm; split <;> rfl
@[simp] theorem State.setSlotKey_same (i : Nat) (x : KeySlot) : (s.setSlotKey i x).slot i = x := SMap.get_set_same _ _ _ _
theorem State.setSlotKey_other (i j : Nat) (x : KeySlot) (h : j ≠ i) : (s.setSlotKey i x).slot j = s.slot j :=
  SMap.get_set_other _ _ _ _ _ h

/-! ## Everything else stays -/

@[simp] theorem State.setReg_pwr (o : Nat) (v : Word) : (s.setReg o v).pwr = s.pwr := rfl
@[simp] theorem State.setReg_clk (o : Nat) (v : Word) : (s.setReg o v).clk = s.clk := rfl
@[simp] theorem State.setReg_tim (o : Nat) (v : Word) : (s.setReg o v).tim = s.tim := rfl
@[simp] theorem State.setReg_comb (o : Nat) (v : Word) : (s.setReg o v).comb = s.comb := rfl
@[simp] theorem State.setReg_sup (o : Nat) (v : Word) : (s.setReg o v).sup = s.sup := rfl
@[simp] theorem State.setReg_chn (o : Nat) (v : Word) : (s.setReg o v).chn = s.chn := rfl
@[simp] theorem State.setReg_vot (o : Nat) (v : Word) : (s.setReg o v).vot = s.vot := rfl
@[simp] theorem State.setReg_hst (o : Nat) (v : Word) : (s.setReg o v).hst = s.hst := rfl
@[simp] theorem State.setReg_mgt (o : Nat) (v : Word) : (s.setReg o v).mgt = s.mgt := rfl
@[simp] theorem State.setReg_rtc (o : Nat) (v : Word) : (s.setReg o v).rtc = s.rtc := rfl
@[simp] theorem State.setReg_rcd (o : Nat) (v : Word) : (s.setReg o v).rcd = s.rcd := rfl
@[simp] theorem State.setReg_pnl (o : Nat) (v : Word) : (s.setReg o v).pnl = s.pnl := rfl
@[simp] theorem State.setReg_slv (o : Nat) (v : Word) : (s.setReg o v).slv = s.slv := rfl
@[simp] theorem State.setReg_stn (o : Nat) (v : Word) : (s.setReg o v).stn = s.stn := rfl
@[simp] theorem State.setReg_can (o : Nat) (v : Word) : (s.setReg o v).can = s.can := rfl
@[simp] theorem State.setReg_eth (o : Nat) (v : Word) : (s.setReg o v).eth = s.eth := rfl
@[simp] theorem State.setReg_dist (o : Nat) (v : Word) : (s.setReg o v).dist = s.dist := rfl
@[simp] theorem State.setReg_mtr (o : Nat) (v : Word) : (s.setReg o v).mtr = s.mtr := rfl
@[simp] theorem State.setReg_adc (o : Nat) (v : Word) : (s.setReg o v).adc = s.adc := rfl
@[simp] theorem State.setReg_axs (o : Nat) (v : Word) : (s.setReg o v).axs = s.axs := rfl
@[simp] theorem State.setReg_key (o : Nat) (v : Word) : (s.setReg o v).key = s.key := rfl
@[simp] theorem State.setReg_fresh (o : Nat) (v : Word) : (s.setReg o v).fresh = s.fresh := rfl
@[simp] theorem State.setReg_pending (o : Nat) (v : Word) : (s.setReg o v).pending = s.pending := rfl

@[simp] theorem State.setFld_pwr (o h l v : Nat) : (s.setFld o h l v).pwr = s.pwr := rfl
@[simp] theorem State.setFld_clk (o h l v : Nat) : (s.setFld o h l v).clk = s.clk := rfl
@[simp] theorem State.setFld_tim (o h l v : Nat) : (s.setFld o h l v).tim = s.tim := rfl
@[simp] theorem State.setFld_comb (o h l v : Nat) : (s.setFld o h l v).comb = s.comb := rfl
@[simp] theorem State.setFld_sup (o h l v : Nat) : (s.setFld o h l v).sup = s.sup := rfl
@[simp] theorem State.setFld_chn (o h l v : Nat) : (s.setFld o h l v).chn = s.chn := rfl
@[simp] theorem State.setFld_vot (o h l v : Nat) : (s.setFld o h l v).vot = s.vot := rfl
@[simp] theorem State.setFld_hst (o h l v : Nat) : (s.setFld o h l v).hst = s.hst := rfl
@[simp] theorem State.setFld_mgt (o h l v : Nat) : (s.setFld o h l v).mgt = s.mgt := rfl
@[simp] theorem State.setFld_rtc (o h l v : Nat) : (s.setFld o h l v).rtc = s.rtc := rfl
@[simp] theorem State.setFld_rcd (o h l v : Nat) : (s.setFld o h l v).rcd = s.rcd := rfl
@[simp] theorem State.setFld_pnl (o h l v : Nat) : (s.setFld o h l v).pnl = s.pnl := rfl
@[simp] theorem State.setFld_slv (o h l v : Nat) : (s.setFld o h l v).slv = s.slv := rfl
@[simp] theorem State.setFld_stn (o h l v : Nat) : (s.setFld o h l v).stn = s.stn := rfl
@[simp] theorem State.setFld_can (o h l v : Nat) : (s.setFld o h l v).can = s.can := rfl
@[simp] theorem State.setFld_eth (o h l v : Nat) : (s.setFld o h l v).eth = s.eth := rfl
@[simp] theorem State.setFld_dist (o h l v : Nat) : (s.setFld o h l v).dist = s.dist := rfl
@[simp] theorem State.setFld_mtr (o h l v : Nat) : (s.setFld o h l v).mtr = s.mtr := rfl
@[simp] theorem State.setFld_adc (o h l v : Nat) : (s.setFld o h l v).adc = s.adc := rfl
@[simp] theorem State.setFld_axs (o h l v : Nat) : (s.setFld o h l v).axs = s.axs := rfl
@[simp] theorem State.setFld_key (o h l v : Nat) : (s.setFld o h l v).key = s.key := rfl
@[simp] theorem State.setFld_fresh (o h l v : Nat) : (s.setFld o h l v).fresh = s.fresh := rfl
@[simp] theorem State.setFld_pending (o h l v : Nat) : (s.setFld o h l v).pending = s.pending := rfl

@[simp] theorem State.emit_pwr (o : Out) : (s.emit o).pwr = s.pwr := rfl
@[simp] theorem State.emit_clk (o : Out) : (s.emit o).clk = s.clk := rfl
@[simp] theorem State.emit_tim (o : Out) : (s.emit o).tim = s.tim := rfl
@[simp] theorem State.emit_comb (o : Out) : (s.emit o).comb = s.comb := rfl
@[simp] theorem State.emit_sup (o : Out) : (s.emit o).sup = s.sup := rfl
@[simp] theorem State.emit_chn (o : Out) : (s.emit o).chn = s.chn := rfl
@[simp] theorem State.emit_vot (o : Out) : (s.emit o).vot = s.vot := rfl
@[simp] theorem State.emit_mgt (o : Out) : (s.emit o).mgt = s.mgt := rfl
@[simp] theorem State.emit_rtc (o : Out) : (s.emit o).rtc = s.rtc := rfl
@[simp] theorem State.emit_rcd (o : Out) : (s.emit o).rcd = s.rcd := rfl
@[simp] theorem State.emit_pnl (o : Out) : (s.emit o).pnl = s.pnl := rfl
@[simp] theorem State.emit_slv (o : Out) : (s.emit o).slv = s.slv := rfl
@[simp] theorem State.emit_stn (o : Out) : (s.emit o).stn = s.stn := rfl
@[simp] theorem State.emit_can (o : Out) : (s.emit o).can = s.can := rfl
@[simp] theorem State.emit_eth (o : Out) : (s.emit o).eth = s.eth := rfl
@[simp] theorem State.emit_dist (o : Out) : (s.emit o).dist = s.dist := rfl
@[simp] theorem State.emit_mtr (o : Out) : (s.emit o).mtr = s.mtr := rfl
@[simp] theorem State.emit_adc (o : Out) : (s.emit o).adc = s.adc := rfl
@[simp] theorem State.emit_axs (o : Out) : (s.emit o).axs = s.axs := rfl
@[simp] theorem State.emit_key (o : Out) : (s.emit o).key = s.key := rfl
@[simp] theorem State.emit_regs (o : Out) : (s.emit o).regs = s.regs := rfl
@[simp] theorem State.emit_fresh (o : Out) : (s.emit o).fresh = s.fresh := rfl
@[simp] theorem State.emit_pending (o : Out) : (s.emit o).pending = s.pending := rfl

@[simp] theorem State.setQp_pwr (q : Qp) : (s.setQp q).pwr = s.pwr := rfl
@[simp] theorem State.setQp_clk (q : Qp) : (s.setQp q).clk = s.clk := rfl
@[simp] theorem State.setQp_tim (q : Qp) : (s.setQp q).tim = s.tim := rfl
@[simp] theorem State.setQp_comb (q : Qp) : (s.setQp q).comb = s.comb := rfl
@[simp] theorem State.setQp_sup (q : Qp) : (s.setQp q).sup = s.sup := rfl
@[simp] theorem State.setQp_chn (q : Qp) : (s.setQp q).chn = s.chn := rfl
@[simp] theorem State.setQp_vot (q : Qp) : (s.setQp q).vot = s.vot := rfl
@[simp] theorem State.setQp_mgt (q : Qp) : (s.setQp q).mgt = s.mgt := rfl
@[simp] theorem State.setQp_rtc (q : Qp) : (s.setQp q).rtc = s.rtc := rfl
@[simp] theorem State.setQp_rcd (q : Qp) : (s.setQp q).rcd = s.rcd := rfl
@[simp] theorem State.setQp_pnl (q : Qp) : (s.setQp q).pnl = s.pnl := rfl
@[simp] theorem State.setQp_slv (q : Qp) : (s.setQp q).slv = s.slv := rfl
@[simp] theorem State.setQp_stn (q : Qp) : (s.setQp q).stn = s.stn := rfl
@[simp] theorem State.setQp_can (q : Qp) : (s.setQp q).can = s.can := rfl
@[simp] theorem State.setQp_eth (q : Qp) : (s.setQp q).eth = s.eth := rfl
@[simp] theorem State.setQp_dist (q : Qp) : (s.setQp q).dist = s.dist := rfl
@[simp] theorem State.setQp_mtr (q : Qp) : (s.setQp q).mtr = s.mtr := rfl
@[simp] theorem State.setQp_adc (q : Qp) : (s.setQp q).adc = s.adc := rfl
@[simp] theorem State.setQp_axs (q : Qp) : (s.setQp q).axs = s.axs := rfl
@[simp] theorem State.setQp_key (q : Qp) : (s.setQp q).key = s.key := rfl
@[simp] theorem State.setQp_regs (q : Qp) : (s.setQp q).regs = s.regs := rfl
@[simp] theorem State.setQp_fresh (q : Qp) : (s.setQp q).fresh = s.fresh := rfl
@[simp] theorem State.setQp_pending (q : Qp) : (s.setQp q).pending = s.pending := rfl

@[simp] theorem State.setChan_pwr (i : ChId) (c : Chan) : (s.setChan i c).pwr = s.pwr := rfl
@[simp] theorem State.setChan_clk (i : ChId) (c : Chan) : (s.setChan i c).clk = s.clk := rfl
@[simp] theorem State.setChan_tim (i : ChId) (c : Chan) : (s.setChan i c).tim = s.tim := rfl
@[simp] theorem State.setChan_comb (i : ChId) (c : Chan) : (s.setChan i c).comb = s.comb := rfl
@[simp] theorem State.setChan_sup (i : ChId) (c : Chan) : (s.setChan i c).sup = s.sup := rfl
@[simp] theorem State.setChan_vot (i : ChId) (c : Chan) : (s.setChan i c).vot = s.vot := rfl
@[simp] theorem State.setChan_hst (i : ChId) (c : Chan) : (s.setChan i c).hst = s.hst := rfl
@[simp] theorem State.setChan_mgt (i : ChId) (c : Chan) : (s.setChan i c).mgt = s.mgt := rfl
@[simp] theorem State.setChan_rtc (i : ChId) (c : Chan) : (s.setChan i c).rtc = s.rtc := rfl
@[simp] theorem State.setChan_rcd (i : ChId) (c : Chan) : (s.setChan i c).rcd = s.rcd := rfl
@[simp] theorem State.setChan_pnl (i : ChId) (c : Chan) : (s.setChan i c).pnl = s.pnl := rfl
@[simp] theorem State.setChan_slv (i : ChId) (c : Chan) : (s.setChan i c).slv = s.slv := rfl
@[simp] theorem State.setChan_stn (i : ChId) (c : Chan) : (s.setChan i c).stn = s.stn := rfl
@[simp] theorem State.setChan_can (i : ChId) (c : Chan) : (s.setChan i c).can = s.can := rfl
@[simp] theorem State.setChan_eth (i : ChId) (c : Chan) : (s.setChan i c).eth = s.eth := rfl
@[simp] theorem State.setChan_dist (i : ChId) (c : Chan) : (s.setChan i c).dist = s.dist := rfl
@[simp] theorem State.setChan_mtr (i : ChId) (c : Chan) : (s.setChan i c).mtr = s.mtr := rfl
@[simp] theorem State.setChan_adc (i : ChId) (c : Chan) : (s.setChan i c).adc = s.adc := rfl
@[simp] theorem State.setChan_axs (i : ChId) (c : Chan) : (s.setChan i c).axs = s.axs := rfl
@[simp] theorem State.setChan_key (i : ChId) (c : Chan) : (s.setChan i c).key = s.key := rfl
@[simp] theorem State.setChan_regs (i : ChId) (c : Chan) : (s.setChan i c).regs = s.regs := rfl
@[simp] theorem State.setChan_fresh (i : ChId) (c : Chan) : (s.setChan i c).fresh = s.fresh := rfl
@[simp] theorem State.setChan_pending (i : ChId) (c : Chan) : (s.setChan i c).pending = s.pending := rfl

@[simp] theorem State.setMtr_pwr (m : Mtr) : (s.setMtr m).pwr = s.pwr := rfl
@[simp] theorem State.setMtr_clk (m : Mtr) : (s.setMtr m).clk = s.clk := rfl
@[simp] theorem State.setMtr_tim (m : Mtr) : (s.setMtr m).tim = s.tim := rfl
@[simp] theorem State.setMtr_comb (m : Mtr) : (s.setMtr m).comb = s.comb := rfl
@[simp] theorem State.setMtr_sup (m : Mtr) : (s.setMtr m).sup = s.sup := rfl
@[simp] theorem State.setMtr_chn (m : Mtr) : (s.setMtr m).chn = s.chn := rfl
@[simp] theorem State.setMtr_vot (m : Mtr) : (s.setMtr m).vot = s.vot := rfl
@[simp] theorem State.setMtr_hst (m : Mtr) : (s.setMtr m).hst = s.hst := rfl
@[simp] theorem State.setMtr_mgt (m : Mtr) : (s.setMtr m).mgt = s.mgt := rfl
@[simp] theorem State.setMtr_rtc (m : Mtr) : (s.setMtr m).rtc = s.rtc := rfl
@[simp] theorem State.setMtr_rcd (m : Mtr) : (s.setMtr m).rcd = s.rcd := rfl
@[simp] theorem State.setMtr_pnl (m : Mtr) : (s.setMtr m).pnl = s.pnl := rfl
@[simp] theorem State.setMtr_slv (m : Mtr) : (s.setMtr m).slv = s.slv := rfl
@[simp] theorem State.setMtr_stn (m : Mtr) : (s.setMtr m).stn = s.stn := rfl
@[simp] theorem State.setMtr_can (m : Mtr) : (s.setMtr m).can = s.can := rfl
@[simp] theorem State.setMtr_eth (m : Mtr) : (s.setMtr m).eth = s.eth := rfl
@[simp] theorem State.setMtr_dist (m : Mtr) : (s.setMtr m).dist = s.dist := rfl
@[simp] theorem State.setMtr_adc (m : Mtr) : (s.setMtr m).adc = s.adc := rfl
@[simp] theorem State.setMtr_axs (m : Mtr) : (s.setMtr m).axs = s.axs := rfl
@[simp] theorem State.setMtr_key (m : Mtr) : (s.setMtr m).key = s.key := rfl
@[simp] theorem State.setMtr_regs (m : Mtr) : (s.setMtr m).regs = s.regs := rfl
@[simp] theorem State.setMtr_fresh (m : Mtr) : (s.setMtr m).fresh = s.fresh := rfl
@[simp] theorem State.setMtr_pending (m : Mtr) : (s.setMtr m).pending = s.pending := rfl

@[simp] theorem State.setMon_pwr (i : Nat) (m : SrcMon) : (s.setMon i m).pwr = s.pwr := rfl
@[simp] theorem State.setMon_tim (i : Nat) (m : SrcMon) : (s.setMon i m).tim = s.tim := rfl
@[simp] theorem State.setMon_comb (i : Nat) (m : SrcMon) : (s.setMon i m).comb = s.comb := rfl
@[simp] theorem State.setMon_sup (i : Nat) (m : SrcMon) : (s.setMon i m).sup = s.sup := rfl
@[simp] theorem State.setMon_chn (i : Nat) (m : SrcMon) : (s.setMon i m).chn = s.chn := rfl
@[simp] theorem State.setMon_vot (i : Nat) (m : SrcMon) : (s.setMon i m).vot = s.vot := rfl
@[simp] theorem State.setMon_hst (i : Nat) (m : SrcMon) : (s.setMon i m).hst = s.hst := rfl
@[simp] theorem State.setMon_mgt (i : Nat) (m : SrcMon) : (s.setMon i m).mgt = s.mgt := rfl
@[simp] theorem State.setMon_rtc (i : Nat) (m : SrcMon) : (s.setMon i m).rtc = s.rtc := rfl
@[simp] theorem State.setMon_rcd (i : Nat) (m : SrcMon) : (s.setMon i m).rcd = s.rcd := rfl
@[simp] theorem State.setMon_pnl (i : Nat) (m : SrcMon) : (s.setMon i m).pnl = s.pnl := rfl
@[simp] theorem State.setMon_slv (i : Nat) (m : SrcMon) : (s.setMon i m).slv = s.slv := rfl
@[simp] theorem State.setMon_stn (i : Nat) (m : SrcMon) : (s.setMon i m).stn = s.stn := rfl
@[simp] theorem State.setMon_can (i : Nat) (m : SrcMon) : (s.setMon i m).can = s.can := rfl
@[simp] theorem State.setMon_eth (i : Nat) (m : SrcMon) : (s.setMon i m).eth = s.eth := rfl
@[simp] theorem State.setMon_dist (i : Nat) (m : SrcMon) : (s.setMon i m).dist = s.dist := rfl
@[simp] theorem State.setMon_mtr (i : Nat) (m : SrcMon) : (s.setMon i m).mtr = s.mtr := rfl
@[simp] theorem State.setMon_adc (i : Nat) (m : SrcMon) : (s.setMon i m).adc = s.adc := rfl
@[simp] theorem State.setMon_axs (i : Nat) (m : SrcMon) : (s.setMon i m).axs = s.axs := rfl
@[simp] theorem State.setMon_key (i : Nat) (m : SrcMon) : (s.setMon i m).key = s.key := rfl
@[simp] theorem State.setMon_regs (i : Nat) (m : SrcMon) : (s.setMon i m).regs = s.regs := rfl
@[simp] theorem State.setMon_fresh (i : Nat) (m : SrcMon) : (s.setMon i m).fresh = s.fresh := rfl
@[simp] theorem State.setMon_pending (i : Nat) (m : SrcMon) : (s.setMon i m).pending = s.pending := rfl

@[simp] theorem State.setConv_pwr (n : Nat) (x : AdcConv) : (s.setConv n x).pwr = s.pwr := rfl
@[simp] theorem State.setConv_clk (n : Nat) (x : AdcConv) : (s.setConv n x).clk = s.clk := rfl
@[simp] theorem State.setConv_tim (n : Nat) (x : AdcConv) : (s.setConv n x).tim = s.tim := rfl
@[simp] theorem State.setConv_comb (n : Nat) (x : AdcConv) : (s.setConv n x).comb = s.comb := rfl
@[simp] theorem State.setConv_sup (n : Nat) (x : AdcConv) : (s.setConv n x).sup = s.sup := rfl
@[simp] theorem State.setConv_chn (n : Nat) (x : AdcConv) : (s.setConv n x).chn = s.chn := rfl
@[simp] theorem State.setConv_vot (n : Nat) (x : AdcConv) : (s.setConv n x).vot = s.vot := rfl
@[simp] theorem State.setConv_hst (n : Nat) (x : AdcConv) : (s.setConv n x).hst = s.hst := rfl
@[simp] theorem State.setConv_mgt (n : Nat) (x : AdcConv) : (s.setConv n x).mgt = s.mgt := rfl
@[simp] theorem State.setConv_rtc (n : Nat) (x : AdcConv) : (s.setConv n x).rtc = s.rtc := rfl
@[simp] theorem State.setConv_rcd (n : Nat) (x : AdcConv) : (s.setConv n x).rcd = s.rcd := rfl
@[simp] theorem State.setConv_pnl (n : Nat) (x : AdcConv) : (s.setConv n x).pnl = s.pnl := rfl
@[simp] theorem State.setConv_slv (n : Nat) (x : AdcConv) : (s.setConv n x).slv = s.slv := rfl
@[simp] theorem State.setConv_stn (n : Nat) (x : AdcConv) : (s.setConv n x).stn = s.stn := rfl
@[simp] theorem State.setConv_can (n : Nat) (x : AdcConv) : (s.setConv n x).can = s.can := rfl
@[simp] theorem State.setConv_eth (n : Nat) (x : AdcConv) : (s.setConv n x).eth = s.eth := rfl
@[simp] theorem State.setConv_dist (n : Nat) (x : AdcConv) : (s.setConv n x).dist = s.dist := rfl
@[simp] theorem State.setConv_mtr (n : Nat) (x : AdcConv) : (s.setConv n x).mtr = s.mtr := rfl
@[simp] theorem State.setConv_axs (n : Nat) (x : AdcConv) : (s.setConv n x).axs = s.axs := rfl
@[simp] theorem State.setConv_key (n : Nat) (x : AdcConv) : (s.setConv n x).key = s.key := rfl
@[simp] theorem State.setConv_regs (n : Nat) (x : AdcConv) : (s.setConv n x).regs = s.regs := rfl
@[simp] theorem State.setConv_fresh (n : Nat) (x : AdcConv) : (s.setConv n x).fresh = s.fresh := rfl
@[simp] theorem State.setConv_pending (n : Nat) (x : AdcConv) : (s.setConv n x).pending = s.pending := rfl

@[simp] theorem State.setPair_pwr (n : Nat) (x : AdcPair) : (s.setPair n x).pwr = s.pwr := rfl
@[simp] theorem State.setPair_clk (n : Nat) (x : AdcPair) : (s.setPair n x).clk = s.clk := rfl
@[simp] theorem State.setPair_tim (n : Nat) (x : AdcPair) : (s.setPair n x).tim = s.tim := rfl
@[simp] theorem State.setPair_comb (n : Nat) (x : AdcPair) : (s.setPair n x).comb = s.comb := rfl
@[simp] theorem State.setPair_sup (n : Nat) (x : AdcPair) : (s.setPair n x).sup = s.sup := rfl
@[simp] theorem State.setPair_chn (n : Nat) (x : AdcPair) : (s.setPair n x).chn = s.chn := rfl
@[simp] theorem State.setPair_vot (n : Nat) (x : AdcPair) : (s.setPair n x).vot = s.vot := rfl
@[simp] theorem State.setPair_hst (n : Nat) (x : AdcPair) : (s.setPair n x).hst = s.hst := rfl
@[simp] theorem State.setPair_mgt (n : Nat) (x : AdcPair) : (s.setPair n x).mgt = s.mgt := rfl
@[simp] theorem State.setPair_rtc (n : Nat) (x : AdcPair) : (s.setPair n x).rtc = s.rtc := rfl
@[simp] theorem State.setPair_rcd (n : Nat) (x : AdcPair) : (s.setPair n x).rcd = s.rcd := rfl
@[simp] theorem State.setPair_pnl (n : Nat) (x : AdcPair) : (s.setPair n x).pnl = s.pnl := rfl
@[simp] theorem State.setPair_slv (n : Nat) (x : AdcPair) : (s.setPair n x).slv = s.slv := rfl
@[simp] theorem State.setPair_stn (n : Nat) (x : AdcPair) : (s.setPair n x).stn = s.stn := rfl
@[simp] theorem State.setPair_can (n : Nat) (x : AdcPair) : (s.setPair n x).can = s.can := rfl
@[simp] theorem State.setPair_eth (n : Nat) (x : AdcPair) : (s.setPair n x).eth = s.eth := rfl
@[simp] theorem State.setPair_dist (n : Nat) (x : AdcPair) : (s.setPair n x).dist = s.dist := rfl
@[simp] theorem State.setPair_mtr (n : Nat) (x : AdcPair) : (s.setPair n x).mtr = s.mtr := rfl
@[simp] theorem State.setPair_axs (n : Nat) (x : AdcPair) : (s.setPair n x).axs = s.axs := rfl
@[simp] theorem State.setPair_key (n : Nat) (x : AdcPair) : (s.setPair n x).key = s.key := rfl
@[simp] theorem State.setPair_regs (n : Nat) (x : AdcPair) : (s.setPair n x).regs = s.regs := rfl
@[simp] theorem State.setPair_fresh (n : Nat) (x : AdcPair) : (s.setPair n x).fresh = s.fresh := rfl
@[simp] theorem State.setPair_pending (n : Nat) (x : AdcPair) : (s.setPair n x).pending = s.pending := rfl

@[simp] theorem State.setSlot_pwr (n : Nat) (x : Slot) : (s.setSlot n x).pwr = s.pwr := rfl
@[simp] theorem State.setSlot_clk (n : Nat) (x : Slot) : (s.setSlot n x).clk = s.clk := rfl
@[simp] theorem State.setSlot_tim (n : Nat) (x : Slot) : (s.setSlot n x).tim = s.tim := rfl
@[simp] theorem State.setSlot_comb (n : Nat) (x : Slot) : (s.setSlot n x).comb = s.comb := rfl
@[simp] theorem State.setSlot_sup (n : Nat) (x : Slot) : (s.setSlot n x).sup = s.sup := rfl
@[simp] theorem State.setSlot_chn (n : Nat) (x : Slot) : (s.setSlot n x).chn = s.chn := rfl
@[simp] theorem State.setSlot_vot (n : Nat) (x : Slot) : (s.setSlot n x).vot = s.vot := rfl
@[simp] theorem State.setSlot_hst (n : Nat) (x : Slot) : (s.setSlot n x).hst = s.hst := rfl
@[simp] theorem State.setSlot_mgt (n : Nat) (x : Slot) : (s.setSlot n x).mgt = s.mgt := rfl
@[simp] theorem State.setSlot_rtc (n : Nat) (x : Slot) : (s.setSlot n x).rtc = s.rtc := rfl
@[simp] theorem State.setSlot_rcd (n : Nat) (x : Slot) : (s.setSlot n x).rcd = s.rcd := rfl
@[simp] theorem State.setSlot_pnl (n : Nat) (x : Slot) : (s.setSlot n x).pnl = s.pnl := rfl
@[simp] theorem State.setSlot_slv (n : Nat) (x : Slot) : (s.setSlot n x).slv = s.slv := rfl
@[simp] theorem State.setSlot_stn (n : Nat) (x : Slot) : (s.setSlot n x).stn = s.stn := rfl
@[simp] theorem State.setSlot_can (n : Nat) (x : Slot) : (s.setSlot n x).can = s.can := rfl
@[simp] theorem State.setSlot_eth (n : Nat) (x : Slot) : (s.setSlot n x).eth = s.eth := rfl
@[simp] theorem State.setSlot_dist (n : Nat) (x : Slot) : (s.setSlot n x).dist = s.dist := rfl
@[simp] theorem State.setSlot_mtr (n : Nat) (x : Slot) : (s.setSlot n x).mtr = s.mtr := rfl
@[simp] theorem State.setSlot_axs (n : Nat) (x : Slot) : (s.setSlot n x).axs = s.axs := rfl
@[simp] theorem State.setSlot_key (n : Nat) (x : Slot) : (s.setSlot n x).key = s.key := rfl
@[simp] theorem State.setSlot_regs (n : Nat) (x : Slot) : (s.setSlot n x).regs = s.regs := rfl
@[simp] theorem State.setSlot_fresh (n : Nat) (x : Slot) : (s.setSlot n x).fresh = s.fresh := rfl
@[simp] theorem State.setSlot_pending (n : Nat) (x : Slot) : (s.setSlot n x).pending = s.pending := rfl

@[simp] theorem State.setAx_pwr (a : Nat) (x : Ax) : (s.setAx a x).pwr = s.pwr := rfl
@[simp] theorem State.setAx_clk (a : Nat) (x : Ax) : (s.setAx a x).clk = s.clk := rfl
@[simp] theorem State.setAx_tim (a : Nat) (x : Ax) : (s.setAx a x).tim = s.tim := rfl
@[simp] theorem State.setAx_comb (a : Nat) (x : Ax) : (s.setAx a x).comb = s.comb := rfl
@[simp] theorem State.setAx_sup (a : Nat) (x : Ax) : (s.setAx a x).sup = s.sup := rfl
@[simp] theorem State.setAx_chn (a : Nat) (x : Ax) : (s.setAx a x).chn = s.chn := rfl
@[simp] theorem State.setAx_vot (a : Nat) (x : Ax) : (s.setAx a x).vot = s.vot := rfl
@[simp] theorem State.setAx_hst (a : Nat) (x : Ax) : (s.setAx a x).hst = s.hst := rfl
@[simp] theorem State.setAx_mgt (a : Nat) (x : Ax) : (s.setAx a x).mgt = s.mgt := rfl
@[simp] theorem State.setAx_rtc (a : Nat) (x : Ax) : (s.setAx a x).rtc = s.rtc := rfl
@[simp] theorem State.setAx_rcd (a : Nat) (x : Ax) : (s.setAx a x).rcd = s.rcd := rfl
@[simp] theorem State.setAx_pnl (a : Nat) (x : Ax) : (s.setAx a x).pnl = s.pnl := rfl
@[simp] theorem State.setAx_slv (a : Nat) (x : Ax) : (s.setAx a x).slv = s.slv := rfl
@[simp] theorem State.setAx_stn (a : Nat) (x : Ax) : (s.setAx a x).stn = s.stn := rfl
@[simp] theorem State.setAx_can (a : Nat) (x : Ax) : (s.setAx a x).can = s.can := rfl
@[simp] theorem State.setAx_eth (a : Nat) (x : Ax) : (s.setAx a x).eth = s.eth := rfl
@[simp] theorem State.setAx_dist (a : Nat) (x : Ax) : (s.setAx a x).dist = s.dist := rfl
@[simp] theorem State.setAx_mtr (a : Nat) (x : Ax) : (s.setAx a x).mtr = s.mtr := rfl
@[simp] theorem State.setAx_adc (a : Nat) (x : Ax) : (s.setAx a x).adc = s.adc := rfl
@[simp] theorem State.setAx_key (a : Nat) (x : Ax) : (s.setAx a x).key = s.key := rfl
@[simp] theorem State.setAx_regs (a : Nat) (x : Ax) : (s.setAx a x).regs = s.regs := rfl
@[simp] theorem State.setAx_fresh (a : Nat) (x : Ax) : (s.setAx a x).fresh = s.fresh := rfl
@[simp] theorem State.setAx_pending (a : Nat) (x : Ax) : (s.setAx a x).pending = s.pending := rfl

@[simp] theorem State.setInter_pwr (g : Nat) (x : Option Inter) : (s.setInter g x).pwr = s.pwr := rfl
@[simp] theorem State.setInter_clk (g : Nat) (x : Option Inter) : (s.setInter g x).clk = s.clk := rfl
@[simp] theorem State.setInter_tim (g : Nat) (x : Option Inter) : (s.setInter g x).tim = s.tim := rfl
@[simp] theorem State.setInter_comb (g : Nat) (x : Option Inter) : (s.setInter g x).comb = s.comb := rfl
@[simp] theorem State.setInter_sup (g : Nat) (x : Option Inter) : (s.setInter g x).sup = s.sup := rfl
@[simp] theorem State.setInter_chn (g : Nat) (x : Option Inter) : (s.setInter g x).chn = s.chn := rfl
@[simp] theorem State.setInter_vot (g : Nat) (x : Option Inter) : (s.setInter g x).vot = s.vot := rfl
@[simp] theorem State.setInter_hst (g : Nat) (x : Option Inter) : (s.setInter g x).hst = s.hst := rfl
@[simp] theorem State.setInter_mgt (g : Nat) (x : Option Inter) : (s.setInter g x).mgt = s.mgt := rfl
@[simp] theorem State.setInter_rtc (g : Nat) (x : Option Inter) : (s.setInter g x).rtc = s.rtc := rfl
@[simp] theorem State.setInter_rcd (g : Nat) (x : Option Inter) : (s.setInter g x).rcd = s.rcd := rfl
@[simp] theorem State.setInter_pnl (g : Nat) (x : Option Inter) : (s.setInter g x).pnl = s.pnl := rfl
@[simp] theorem State.setInter_slv (g : Nat) (x : Option Inter) : (s.setInter g x).slv = s.slv := rfl
@[simp] theorem State.setInter_stn (g : Nat) (x : Option Inter) : (s.setInter g x).stn = s.stn := rfl
@[simp] theorem State.setInter_can (g : Nat) (x : Option Inter) : (s.setInter g x).can = s.can := rfl
@[simp] theorem State.setInter_eth (g : Nat) (x : Option Inter) : (s.setInter g x).eth = s.eth := rfl
@[simp] theorem State.setInter_dist (g : Nat) (x : Option Inter) : (s.setInter g x).dist = s.dist := rfl
@[simp] theorem State.setInter_mtr (g : Nat) (x : Option Inter) : (s.setInter g x).mtr = s.mtr := rfl
@[simp] theorem State.setInter_adc (g : Nat) (x : Option Inter) : (s.setInter g x).adc = s.adc := rfl
@[simp] theorem State.setInter_key (g : Nat) (x : Option Inter) : (s.setInter g x).key = s.key := rfl
@[simp] theorem State.setInter_regs (g : Nat) (x : Option Inter) : (s.setInter g x).regs = s.regs := rfl
@[simp] theorem State.setInter_fresh (g : Nat) (x : Option Inter) : (s.setInter g x).fresh = s.fresh := rfl
@[simp] theorem State.setInter_pending (g : Nat) (x : Option Inter) : (s.setInter g x).pending = s.pending := rfl

@[simp] theorem State.setCan_pwr (c : Nat) (x : CanCh) : (s.setCan c x).pwr = s.pwr := rfl
@[simp] theorem State.setCan_clk (c : Nat) (x : CanCh) : (s.setCan c x).clk = s.clk := rfl
@[simp] theorem State.setCan_tim (c : Nat) (x : CanCh) : (s.setCan c x).tim = s.tim := rfl
@[simp] theorem State.setCan_comb (c : Nat) (x : CanCh) : (s.setCan c x).comb = s.comb := rfl
@[simp] theorem State.setCan_sup (c : Nat) (x : CanCh) : (s.setCan c x).sup = s.sup := rfl
@[simp] theorem State.setCan_chn (c : Nat) (x : CanCh) : (s.setCan c x).chn = s.chn := rfl
@[simp] theorem State.setCan_vot (c : Nat) (x : CanCh) : (s.setCan c x).vot = s.vot := rfl
@[simp] theorem State.setCan_hst (c : Nat) (x : CanCh) : (s.setCan c x).hst = s.hst := rfl
@[simp] theorem State.setCan_mgt (c : Nat) (x : CanCh) : (s.setCan c x).mgt = s.mgt := rfl
@[simp] theorem State.setCan_rtc (c : Nat) (x : CanCh) : (s.setCan c x).rtc = s.rtc := rfl
@[simp] theorem State.setCan_rcd (c : Nat) (x : CanCh) : (s.setCan c x).rcd = s.rcd := rfl
@[simp] theorem State.setCan_pnl (c : Nat) (x : CanCh) : (s.setCan c x).pnl = s.pnl := rfl
@[simp] theorem State.setCan_slv (c : Nat) (x : CanCh) : (s.setCan c x).slv = s.slv := rfl
@[simp] theorem State.setCan_stn (c : Nat) (x : CanCh) : (s.setCan c x).stn = s.stn := rfl
@[simp] theorem State.setCan_eth (c : Nat) (x : CanCh) : (s.setCan c x).eth = s.eth := rfl
@[simp] theorem State.setCan_dist (c : Nat) (x : CanCh) : (s.setCan c x).dist = s.dist := rfl
@[simp] theorem State.setCan_mtr (c : Nat) (x : CanCh) : (s.setCan c x).mtr = s.mtr := rfl
@[simp] theorem State.setCan_adc (c : Nat) (x : CanCh) : (s.setCan c x).adc = s.adc := rfl
@[simp] theorem State.setCan_axs (c : Nat) (x : CanCh) : (s.setCan c x).axs = s.axs := rfl
@[simp] theorem State.setCan_key (c : Nat) (x : CanCh) : (s.setCan c x).key = s.key := rfl
@[simp] theorem State.setCan_regs (c : Nat) (x : CanCh) : (s.setCan c x).regs = s.regs := rfl
@[simp] theorem State.setCan_fresh (c : Nat) (x : CanCh) : (s.setCan c x).fresh = s.fresh := rfl
@[simp] theorem State.setCan_pending (c : Nat) (x : CanCh) : (s.setCan c x).pending = s.pending := rfl

@[simp] theorem State.setPort_pwr (p : Nat) (x : EthPort) : (s.setPort p x).pwr = s.pwr := rfl
@[simp] theorem State.setPort_clk (p : Nat) (x : EthPort) : (s.setPort p x).clk = s.clk := rfl
@[simp] theorem State.setPort_tim (p : Nat) (x : EthPort) : (s.setPort p x).tim = s.tim := rfl
@[simp] theorem State.setPort_comb (p : Nat) (x : EthPort) : (s.setPort p x).comb = s.comb := rfl
@[simp] theorem State.setPort_sup (p : Nat) (x : EthPort) : (s.setPort p x).sup = s.sup := rfl
@[simp] theorem State.setPort_chn (p : Nat) (x : EthPort) : (s.setPort p x).chn = s.chn := rfl
@[simp] theorem State.setPort_vot (p : Nat) (x : EthPort) : (s.setPort p x).vot = s.vot := rfl
@[simp] theorem State.setPort_hst (p : Nat) (x : EthPort) : (s.setPort p x).hst = s.hst := rfl
@[simp] theorem State.setPort_mgt (p : Nat) (x : EthPort) : (s.setPort p x).mgt = s.mgt := rfl
@[simp] theorem State.setPort_rtc (p : Nat) (x : EthPort) : (s.setPort p x).rtc = s.rtc := rfl
@[simp] theorem State.setPort_rcd (p : Nat) (x : EthPort) : (s.setPort p x).rcd = s.rcd := rfl
@[simp] theorem State.setPort_pnl (p : Nat) (x : EthPort) : (s.setPort p x).pnl = s.pnl := rfl
@[simp] theorem State.setPort_slv (p : Nat) (x : EthPort) : (s.setPort p x).slv = s.slv := rfl
@[simp] theorem State.setPort_stn (p : Nat) (x : EthPort) : (s.setPort p x).stn = s.stn := rfl
@[simp] theorem State.setPort_can (p : Nat) (x : EthPort) : (s.setPort p x).can = s.can := rfl
@[simp] theorem State.setPort_dist (p : Nat) (x : EthPort) : (s.setPort p x).dist = s.dist := rfl
@[simp] theorem State.setPort_mtr (p : Nat) (x : EthPort) : (s.setPort p x).mtr = s.mtr := rfl
@[simp] theorem State.setPort_adc (p : Nat) (x : EthPort) : (s.setPort p x).adc = s.adc := rfl
@[simp] theorem State.setPort_axs (p : Nat) (x : EthPort) : (s.setPort p x).axs = s.axs := rfl
@[simp] theorem State.setPort_key (p : Nat) (x : EthPort) : (s.setPort p x).key = s.key := rfl
@[simp] theorem State.setPort_regs (p : Nat) (x : EthPort) : (s.setPort p x).regs = s.regs := rfl
@[simp] theorem State.setPort_fresh (p : Nat) (x : EthPort) : (s.setPort p x).fresh = s.fresh := rfl
@[simp] theorem State.setPort_pending (p : Nat) (x : EthPort) : (s.setPort p x).pending = s.pending := rfl

@[simp] theorem State.setPreg_pwr (r : Nat) (x : PnlRegSt) : (s.setPreg r x).pwr = s.pwr := rfl
@[simp] theorem State.setPreg_clk (r : Nat) (x : PnlRegSt) : (s.setPreg r x).clk = s.clk := rfl
@[simp] theorem State.setPreg_tim (r : Nat) (x : PnlRegSt) : (s.setPreg r x).tim = s.tim := rfl
@[simp] theorem State.setPreg_comb (r : Nat) (x : PnlRegSt) : (s.setPreg r x).comb = s.comb := rfl
@[simp] theorem State.setPreg_sup (r : Nat) (x : PnlRegSt) : (s.setPreg r x).sup = s.sup := rfl
@[simp] theorem State.setPreg_chn (r : Nat) (x : PnlRegSt) : (s.setPreg r x).chn = s.chn := rfl
@[simp] theorem State.setPreg_vot (r : Nat) (x : PnlRegSt) : (s.setPreg r x).vot = s.vot := rfl
@[simp] theorem State.setPreg_hst (r : Nat) (x : PnlRegSt) : (s.setPreg r x).hst = s.hst := rfl
@[simp] theorem State.setPreg_mgt (r : Nat) (x : PnlRegSt) : (s.setPreg r x).mgt = s.mgt := rfl
@[simp] theorem State.setPreg_rtc (r : Nat) (x : PnlRegSt) : (s.setPreg r x).rtc = s.rtc := rfl
@[simp] theorem State.setPreg_rcd (r : Nat) (x : PnlRegSt) : (s.setPreg r x).rcd = s.rcd := rfl
@[simp] theorem State.setPreg_slv (r : Nat) (x : PnlRegSt) : (s.setPreg r x).slv = s.slv := rfl
@[simp] theorem State.setPreg_stn (r : Nat) (x : PnlRegSt) : (s.setPreg r x).stn = s.stn := rfl
@[simp] theorem State.setPreg_can (r : Nat) (x : PnlRegSt) : (s.setPreg r x).can = s.can := rfl
@[simp] theorem State.setPreg_eth (r : Nat) (x : PnlRegSt) : (s.setPreg r x).eth = s.eth := rfl
@[simp] theorem State.setPreg_dist (r : Nat) (x : PnlRegSt) : (s.setPreg r x).dist = s.dist := rfl
@[simp] theorem State.setPreg_mtr (r : Nat) (x : PnlRegSt) : (s.setPreg r x).mtr = s.mtr := rfl
@[simp] theorem State.setPreg_adc (r : Nat) (x : PnlRegSt) : (s.setPreg r x).adc = s.adc := rfl
@[simp] theorem State.setPreg_axs (r : Nat) (x : PnlRegSt) : (s.setPreg r x).axs = s.axs := rfl
@[simp] theorem State.setPreg_key (r : Nat) (x : PnlRegSt) : (s.setPreg r x).key = s.key := rfl
@[simp] theorem State.setPreg_regs (r : Nat) (x : PnlRegSt) : (s.setPreg r x).regs = s.regs := rfl
@[simp] theorem State.setPreg_fresh (r : Nat) (x : PnlRegSt) : (s.setPreg r x).fresh = s.fresh := rfl
@[simp] theorem State.setPreg_pending (r : Nat) (x : PnlRegSt) : (s.setPreg r x).pending = s.pending := rfl

@[simp] theorem State.setSlotKey_pwr (n : Nat) (x : KeySlot) : (s.setSlotKey n x).pwr = s.pwr := rfl
@[simp] theorem State.setSlotKey_clk (n : Nat) (x : KeySlot) : (s.setSlotKey n x).clk = s.clk := rfl
@[simp] theorem State.setSlotKey_tim (n : Nat) (x : KeySlot) : (s.setSlotKey n x).tim = s.tim := rfl
@[simp] theorem State.setSlotKey_comb (n : Nat) (x : KeySlot) : (s.setSlotKey n x).comb = s.comb := rfl
@[simp] theorem State.setSlotKey_sup (n : Nat) (x : KeySlot) : (s.setSlotKey n x).sup = s.sup := rfl
@[simp] theorem State.setSlotKey_chn (n : Nat) (x : KeySlot) : (s.setSlotKey n x).chn = s.chn := rfl
@[simp] theorem State.setSlotKey_vot (n : Nat) (x : KeySlot) : (s.setSlotKey n x).vot = s.vot := rfl
@[simp] theorem State.setSlotKey_hst (n : Nat) (x : KeySlot) : (s.setSlotKey n x).hst = s.hst := rfl
@[simp] theorem State.setSlotKey_mgt (n : Nat) (x : KeySlot) : (s.setSlotKey n x).mgt = s.mgt := rfl
@[simp] theorem State.setSlotKey_rtc (n : Nat) (x : KeySlot) : (s.setSlotKey n x).rtc = s.rtc := rfl
@[simp] theorem State.setSlotKey_rcd (n : Nat) (x : KeySlot) : (s.setSlotKey n x).rcd = s.rcd := rfl
@[simp] theorem State.setSlotKey_pnl (n : Nat) (x : KeySlot) : (s.setSlotKey n x).pnl = s.pnl := rfl
@[simp] theorem State.setSlotKey_slv (n : Nat) (x : KeySlot) : (s.setSlotKey n x).slv = s.slv := rfl
@[simp] theorem State.setSlotKey_stn (n : Nat) (x : KeySlot) : (s.setSlotKey n x).stn = s.stn := rfl
@[simp] theorem State.setSlotKey_can (n : Nat) (x : KeySlot) : (s.setSlotKey n x).can = s.can := rfl
@[simp] theorem State.setSlotKey_eth (n : Nat) (x : KeySlot) : (s.setSlotKey n x).eth = s.eth := rfl
@[simp] theorem State.setSlotKey_dist (n : Nat) (x : KeySlot) : (s.setSlotKey n x).dist = s.dist := rfl
@[simp] theorem State.setSlotKey_mtr (n : Nat) (x : KeySlot) : (s.setSlotKey n x).mtr = s.mtr := rfl
@[simp] theorem State.setSlotKey_adc (n : Nat) (x : KeySlot) : (s.setSlotKey n x).adc = s.adc := rfl
@[simp] theorem State.setSlotKey_axs (n : Nat) (x : KeySlot) : (s.setSlotKey n x).axs = s.axs := rfl
@[simp] theorem State.setSlotKey_regs (n : Nat) (x : KeySlot) : (s.setSlotKey n x).regs = s.regs := rfl
@[simp] theorem State.setSlotKey_fresh (n : Nat) (x : KeySlot) : (s.setSlotKey n x).fresh = s.fresh := rfl
@[simp] theorem State.setSlotKey_pending (n : Nat) (x : KeySlot) : (s.setSlotKey n x).pending = s.pending := rfl

@[simp] theorem State.setVio_clk (b : Nat) (v : Bool) : (s.setVio b v).clk = s.clk := rfl
@[simp] theorem State.setVio_tim (b : Nat) (v : Bool) : (s.setVio b v).tim = s.tim := rfl
@[simp] theorem State.setVio_comb (b : Nat) (v : Bool) : (s.setVio b v).comb = s.comb := rfl
@[simp] theorem State.setVio_sup (b : Nat) (v : Bool) : (s.setVio b v).sup = s.sup := rfl
@[simp] theorem State.setVio_chn (b : Nat) (v : Bool) : (s.setVio b v).chn = s.chn := rfl
@[simp] theorem State.setVio_vot (b : Nat) (v : Bool) : (s.setVio b v).vot = s.vot := rfl
@[simp] theorem State.setVio_hst (b : Nat) (v : Bool) : (s.setVio b v).hst = s.hst := rfl
@[simp] theorem State.setVio_mgt (b : Nat) (v : Bool) : (s.setVio b v).mgt = s.mgt := rfl
@[simp] theorem State.setVio_rtc (b : Nat) (v : Bool) : (s.setVio b v).rtc = s.rtc := rfl
@[simp] theorem State.setVio_rcd (b : Nat) (v : Bool) : (s.setVio b v).rcd = s.rcd := rfl
@[simp] theorem State.setVio_pnl (b : Nat) (v : Bool) : (s.setVio b v).pnl = s.pnl := rfl
@[simp] theorem State.setVio_slv (b : Nat) (v : Bool) : (s.setVio b v).slv = s.slv := rfl
@[simp] theorem State.setVio_stn (b : Nat) (v : Bool) : (s.setVio b v).stn = s.stn := rfl
@[simp] theorem State.setVio_can (b : Nat) (v : Bool) : (s.setVio b v).can = s.can := rfl
@[simp] theorem State.setVio_eth (b : Nat) (v : Bool) : (s.setVio b v).eth = s.eth := rfl
@[simp] theorem State.setVio_dist (b : Nat) (v : Bool) : (s.setVio b v).dist = s.dist := rfl
@[simp] theorem State.setVio_mtr (b : Nat) (v : Bool) : (s.setVio b v).mtr = s.mtr := rfl
@[simp] theorem State.setVio_adc (b : Nat) (v : Bool) : (s.setVio b v).adc = s.adc := rfl
@[simp] theorem State.setVio_axs (b : Nat) (v : Bool) : (s.setVio b v).axs = s.axs := rfl
@[simp] theorem State.setVio_key (b : Nat) (v : Bool) : (s.setVio b v).key = s.key := rfl
@[simp] theorem State.setVio_regs (b : Nat) (v : Bool) : (s.setVio b v).regs = s.regs := rfl
@[simp] theorem State.setVio_fresh (b : Nat) (v : Bool) : (s.setVio b v).fresh = s.fresh := rfl
@[simp] theorem State.setVio_pending (b : Nat) (v : Bool) : (s.setVio b v).pending = s.pending := rfl

@[simp] theorem State.setGroup_pwr (g : Nat) (x : GroupSt) : (s.setGroup g x).pwr = s.pwr := rfl
@[simp] theorem State.setGroup_clk (g : Nat) (x : GroupSt) : (s.setGroup g x).clk = s.clk := rfl
@[simp] theorem State.setGroup_tim (g : Nat) (x : GroupSt) : (s.setGroup g x).tim = s.tim := rfl
@[simp] theorem State.setGroup_comb (g : Nat) (x : GroupSt) : (s.setGroup g x).comb = s.comb := rfl
@[simp] theorem State.setGroup_sup (g : Nat) (x : GroupSt) : (s.setGroup g x).sup = s.sup := rfl
@[simp] theorem State.setGroup_chn (g : Nat) (x : GroupSt) : (s.setGroup g x).chn = s.chn := rfl
@[simp] theorem State.setGroup_vot (g : Nat) (x : GroupSt) : (s.setGroup g x).vot = s.vot := rfl
@[simp] theorem State.setGroup_hst (g : Nat) (x : GroupSt) : (s.setGroup g x).hst = s.hst := rfl
@[simp] theorem State.setGroup_mgt (g : Nat) (x : GroupSt) : (s.setGroup g x).mgt = s.mgt := rfl
@[simp] theorem State.setGroup_rtc (g : Nat) (x : GroupSt) : (s.setGroup g x).rtc = s.rtc := rfl
@[simp] theorem State.setGroup_rcd (g : Nat) (x : GroupSt) : (s.setGroup g x).rcd = s.rcd := rfl
@[simp] theorem State.setGroup_pnl (g : Nat) (x : GroupSt) : (s.setGroup g x).pnl = s.pnl := rfl
@[simp] theorem State.setGroup_slv (g : Nat) (x : GroupSt) : (s.setGroup g x).slv = s.slv := rfl
@[simp] theorem State.setGroup_can (g : Nat) (x : GroupSt) : (s.setGroup g x).can = s.can := rfl
@[simp] theorem State.setGroup_eth (g : Nat) (x : GroupSt) : (s.setGroup g x).eth = s.eth := rfl
@[simp] theorem State.setGroup_dist (g : Nat) (x : GroupSt) : (s.setGroup g x).dist = s.dist := rfl
@[simp] theorem State.setGroup_mtr (g : Nat) (x : GroupSt) : (s.setGroup g x).mtr = s.mtr := rfl
@[simp] theorem State.setGroup_adc (g : Nat) (x : GroupSt) : (s.setGroup g x).adc = s.adc := rfl
@[simp] theorem State.setGroup_axs (g : Nat) (x : GroupSt) : (s.setGroup g x).axs = s.axs := rfl
@[simp] theorem State.setGroup_key (g : Nat) (x : GroupSt) : (s.setGroup g x).key = s.key := rfl
@[simp] theorem State.setGroup_regs (g : Nat) (x : GroupSt) : (s.setGroup g x).regs = s.regs := rfl
@[simp] theorem State.setGroup_fresh (g : Nat) (x : GroupSt) : (s.setGroup g x).fresh = s.fresh := rfl
@[simp] theorem State.setGroup_pending (g : Nat) (x : GroupSt) : (s.setGroup g x).pending = s.pending := rfl

@[simp] theorem State.updStn_pwr (n : Nat) (f : StnSt → StnSt) : (s.updStn n f).pwr = s.pwr := by unfold State.updStn; split <;> rfl
@[simp] theorem State.updStn_clk (n : Nat) (f : StnSt → StnSt) : (s.updStn n f).clk = s.clk := by unfold State.updStn; split <;> rfl
@[simp] theorem State.updStn_tim (n : Nat) (f : StnSt → StnSt) : (s.updStn n f).tim = s.tim := by unfold State.updStn; split <;> rfl
@[simp] theorem State.updStn_comb (n : Nat) (f : StnSt → StnSt) : (s.updStn n f).comb = s.comb := by unfold State.updStn; split <;> rfl
@[simp] theorem State.updStn_sup (n : Nat) (f : StnSt → StnSt) : (s.updStn n f).sup = s.sup := by unfold State.updStn; split <;> rfl
@[simp] theorem State.updStn_chn (n : Nat) (f : StnSt → StnSt) : (s.updStn n f).chn = s.chn := by unfold State.updStn; split <;> rfl
@[simp] theorem State.updStn_vot (n : Nat) (f : StnSt → StnSt) : (s.updStn n f).vot = s.vot := by unfold State.updStn; split <;> rfl
@[simp] theorem State.updStn_hst (n : Nat) (f : StnSt → StnSt) : (s.updStn n f).hst = s.hst := by unfold State.updStn; split <;> rfl
@[simp] theorem State.updStn_mgt (n : Nat) (f : StnSt → StnSt) : (s.updStn n f).mgt = s.mgt := by unfold State.updStn; split <;> rfl
@[simp] theorem State.updStn_rtc (n : Nat) (f : StnSt → StnSt) : (s.updStn n f).rtc = s.rtc := by unfold State.updStn; split <;> rfl
@[simp] theorem State.updStn_rcd (n : Nat) (f : StnSt → StnSt) : (s.updStn n f).rcd = s.rcd := by unfold State.updStn; split <;> rfl
@[simp] theorem State.updStn_pnl (n : Nat) (f : StnSt → StnSt) : (s.updStn n f).pnl = s.pnl := by unfold State.updStn; split <;> rfl
@[simp] theorem State.updStn_slv (n : Nat) (f : StnSt → StnSt) : (s.updStn n f).slv = s.slv := by unfold State.updStn; split <;> rfl
@[simp] theorem State.updStn_can (n : Nat) (f : StnSt → StnSt) : (s.updStn n f).can = s.can := by unfold State.updStn; split <;> rfl
@[simp] theorem State.updStn_eth (n : Nat) (f : StnSt → StnSt) : (s.updStn n f).eth = s.eth := by unfold State.updStn; split <;> rfl
@[simp] theorem State.updStn_dist (n : Nat) (f : StnSt → StnSt) : (s.updStn n f).dist = s.dist := by unfold State.updStn; split <;> rfl
@[simp] theorem State.updStn_mtr (n : Nat) (f : StnSt → StnSt) : (s.updStn n f).mtr = s.mtr := by unfold State.updStn; split <;> rfl
@[simp] theorem State.updStn_adc (n : Nat) (f : StnSt → StnSt) : (s.updStn n f).adc = s.adc := by unfold State.updStn; split <;> rfl
@[simp] theorem State.updStn_axs (n : Nat) (f : StnSt → StnSt) : (s.updStn n f).axs = s.axs := by unfold State.updStn; split <;> rfl
@[simp] theorem State.updStn_key (n : Nat) (f : StnSt → StnSt) : (s.updStn n f).key = s.key := by unfold State.updStn; split <;> rfl
@[simp] theorem State.updStn_regs (n : Nat) (f : StnSt → StnSt) : (s.updStn n f).regs = s.regs := by unfold State.updStn; split <;> rfl
@[simp] theorem State.updStn_fresh (n : Nat) (f : StnSt → StnSt) : (s.updStn n f).fresh = s.fresh := by unfold State.updStn; split <;> rfl
@[simp] theorem State.updStn_pending (n : Nat) (f : StnSt → StnSt) : (s.updStn n f).pending = s.pending := by unfold State.updStn; split <;> rfl

@[simp] theorem State.setSuper_pwr (n : Nat) (x : Super) : (s.setSuper n x).pwr = s.pwr := by unfold State.setSuper; split <;> rfl
@[simp] theorem State.setSuper_clk (n : Nat) (x : Super) : (s.setSuper n x).clk = s.clk := by unfold State.setSuper; split <;> rfl
@[simp] theorem State.setSuper_tim (n : Nat) (x : Super) : (s.setSuper n x).tim = s.tim := by unfold State.setSuper; split <;> rfl
@[simp] theorem State.setSuper_comb (n : Nat) (x : Super) : (s.setSuper n x).comb = s.comb := by unfold State.setSuper; split <;> rfl
@[simp] theorem State.setSuper_chn (n : Nat) (x : Super) : (s.setSuper n x).chn = s.chn := by unfold State.setSuper; split <;> rfl
@[simp] theorem State.setSuper_vot (n : Nat) (x : Super) : (s.setSuper n x).vot = s.vot := by unfold State.setSuper; split <;> rfl
@[simp] theorem State.setSuper_hst (n : Nat) (x : Super) : (s.setSuper n x).hst = s.hst := by unfold State.setSuper; split <;> rfl
@[simp] theorem State.setSuper_mgt (n : Nat) (x : Super) : (s.setSuper n x).mgt = s.mgt := by unfold State.setSuper; split <;> rfl
@[simp] theorem State.setSuper_rtc (n : Nat) (x : Super) : (s.setSuper n x).rtc = s.rtc := by unfold State.setSuper; split <;> rfl
@[simp] theorem State.setSuper_rcd (n : Nat) (x : Super) : (s.setSuper n x).rcd = s.rcd := by unfold State.setSuper; split <;> rfl
@[simp] theorem State.setSuper_pnl (n : Nat) (x : Super) : (s.setSuper n x).pnl = s.pnl := by unfold State.setSuper; split <;> rfl
@[simp] theorem State.setSuper_slv (n : Nat) (x : Super) : (s.setSuper n x).slv = s.slv := by unfold State.setSuper; split <;> rfl
@[simp] theorem State.setSuper_stn (n : Nat) (x : Super) : (s.setSuper n x).stn = s.stn := by unfold State.setSuper; split <;> rfl
@[simp] theorem State.setSuper_can (n : Nat) (x : Super) : (s.setSuper n x).can = s.can := by unfold State.setSuper; split <;> rfl
@[simp] theorem State.setSuper_eth (n : Nat) (x : Super) : (s.setSuper n x).eth = s.eth := by unfold State.setSuper; split <;> rfl
@[simp] theorem State.setSuper_dist (n : Nat) (x : Super) : (s.setSuper n x).dist = s.dist := by unfold State.setSuper; split <;> rfl
@[simp] theorem State.setSuper_mtr (n : Nat) (x : Super) : (s.setSuper n x).mtr = s.mtr := by unfold State.setSuper; split <;> rfl
@[simp] theorem State.setSuper_adc (n : Nat) (x : Super) : (s.setSuper n x).adc = s.adc := by unfold State.setSuper; split <;> rfl
@[simp] theorem State.setSuper_axs (n : Nat) (x : Super) : (s.setSuper n x).axs = s.axs := by unfold State.setSuper; split <;> rfl
@[simp] theorem State.setSuper_key (n : Nat) (x : Super) : (s.setSuper n x).key = s.key := by unfold State.setSuper; split <;> rfl
@[simp] theorem State.setSuper_regs (n : Nat) (x : Super) : (s.setSuper n x).regs = s.regs := by unfold State.setSuper; split <;> rfl
@[simp] theorem State.setSuper_fresh (n : Nat) (x : Super) : (s.setSuper n x).fresh = s.fresh := by unfold State.setSuper; split <;> rfl
@[simp] theorem State.setSuper_pending (n : Nat) (x : Super) : (s.setSuper n x).pending = s.pending := by unfold State.setSuper; split <;> rfl

@[simp] theorem State.setAlarm_pwr (n : Nat) (a : Alarm) : (s.setAlarm n a).pwr = s.pwr := by unfold State.setAlarm; split <;> rfl
@[simp] theorem State.setAlarm_clk (n : Nat) (a : Alarm) : (s.setAlarm n a).clk = s.clk := by unfold State.setAlarm; split <;> rfl
@[simp] theorem State.setAlarm_tim (n : Nat) (a : Alarm) : (s.setAlarm n a).tim = s.tim := by unfold State.setAlarm; split <;> rfl
@[simp] theorem State.setAlarm_comb (n : Nat) (a : Alarm) : (s.setAlarm n a).comb = s.comb := by unfold State.setAlarm; split <;> rfl
@[simp] theorem State.setAlarm_sup (n : Nat) (a : Alarm) : (s.setAlarm n a).sup = s.sup := by unfold State.setAlarm; split <;> rfl
@[simp] theorem State.setAlarm_chn (n : Nat) (a : Alarm) : (s.setAlarm n a).chn = s.chn := by unfold State.setAlarm; split <;> rfl
@[simp] theorem State.setAlarm_vot (n : Nat) (a : Alarm) : (s.setAlarm n a).vot = s.vot := by unfold State.setAlarm; split <;> rfl
@[simp] theorem State.setAlarm_hst (n : Nat) (a : Alarm) : (s.setAlarm n a).hst = s.hst := by unfold State.setAlarm; split <;> rfl
@[simp] theorem State.setAlarm_mgt (n : Nat) (a : Alarm) : (s.setAlarm n a).mgt = s.mgt := by unfold State.setAlarm; split <;> rfl
@[simp] theorem State.setAlarm_rcd (n : Nat) (a : Alarm) : (s.setAlarm n a).rcd = s.rcd := by unfold State.setAlarm; split <;> rfl
@[simp] theorem State.setAlarm_pnl (n : Nat) (a : Alarm) : (s.setAlarm n a).pnl = s.pnl := by unfold State.setAlarm; split <;> rfl
@[simp] theorem State.setAlarm_slv (n : Nat) (a : Alarm) : (s.setAlarm n a).slv = s.slv := by unfold State.setAlarm; split <;> rfl
@[simp] theorem State.setAlarm_stn (n : Nat) (a : Alarm) : (s.setAlarm n a).stn = s.stn := by unfold State.setAlarm; split <;> rfl
@[simp] theorem State.setAlarm_can (n : Nat) (a : Alarm) : (s.setAlarm n a).can = s.can := by unfold State.setAlarm; split <;> rfl
@[simp] theorem State.setAlarm_eth (n : Nat) (a : Alarm) : (s.setAlarm n a).eth = s.eth := by unfold State.setAlarm; split <;> rfl
@[simp] theorem State.setAlarm_dist (n : Nat) (a : Alarm) : (s.setAlarm n a).dist = s.dist := by unfold State.setAlarm; split <;> rfl
@[simp] theorem State.setAlarm_mtr (n : Nat) (a : Alarm) : (s.setAlarm n a).mtr = s.mtr := by unfold State.setAlarm; split <;> rfl
@[simp] theorem State.setAlarm_adc (n : Nat) (a : Alarm) : (s.setAlarm n a).adc = s.adc := by unfold State.setAlarm; split <;> rfl
@[simp] theorem State.setAlarm_axs (n : Nat) (a : Alarm) : (s.setAlarm n a).axs = s.axs := by unfold State.setAlarm; split <;> rfl
@[simp] theorem State.setAlarm_key (n : Nat) (a : Alarm) : (s.setAlarm n a).key = s.key := by unfold State.setAlarm; split <;> rfl
@[simp] theorem State.setAlarm_regs (n : Nat) (a : Alarm) : (s.setAlarm n a).regs = s.regs := by unfold State.setAlarm; split <;> rfl
@[simp] theorem State.setAlarm_fresh (n : Nat) (a : Alarm) : (s.setAlarm n a).fresh = s.fresh := by unfold State.setAlarm; split <;> rfl
@[simp] theorem State.setAlarm_pending (n : Nat) (a : Alarm) : (s.setAlarm n a).pending = s.pending := by unfold State.setAlarm; split <;> rfl

end Sys2Proof.Machine
end

