-- ==== Sys2Proof/Laws/Ops.lean ====
section
/-!
SUPPORT. Sys2Proof/Laws/Ops.lean: everything the shared operations can change, one lemma each: raising an event or a record,
completing a command, the passing of time, the opening of a cell.
-/
namespace Sys2Proof.Machine

/-- Signalling a completion queue changes pending messages and what left the block. -/
theorem State.signal_only (s : State) (q : Qp) : ∃ x, s.signal q = { s with hst := x } := by
  unfold State.signal
  split
  · split
    · exact ⟨_, rfl⟩
    · exact ⟨_, rfl⟩
  · exact ⟨s.hst, rfl⟩

theorem State.afterPost_only (s : State) (id : Nat) : ∃ x, s.afterPost id = { s with hst := x } := by
  unfold State.afterPost
  split
  · exact ⟨s.hst, rfl⟩
  · rename_i p _
    split
    · split
      · exact ⟨_, rfl⟩
      · obtain ⟨x, e⟩ := (s.setQp { p with sig := false, holdoff := true }).signal_only p
        exact ⟨x, e⟩
    · exact ⟨_, rfl⟩

/-- Posting an event changes the host interface alone. -/
theorem State.postEvent_only (s : State) (e : Event) : ∃ x, s.postEvent e = { s with hst := x } := by
  unfold State.postEvent
  split
  · exact ⟨s.hst, rfl⟩
  · split
    · rename_i r _ _ q _
      dsimp only
      split
      · split
        · obtain ⟨x, h⟩ := State.afterPost_only ((s.emit (q.entry e.res0 (hp64 e.hp) e.dt e.n e.sev)).setQp
            { q with posted := q.posted + 1, fetched := q.posted + 1, latched := q.posted + 1 }) r
          exact ⟨x, h⟩
        · split
          · obtain ⟨x, h⟩ := State.afterPost_only ((s.emit (q.entry q.id (hp64 s.hp) s.tim.dt 255 sevFault)).setQp
              { q with posted := q.posted + 1, fetched := q.posted + 1, latched := q.posted + 1 }) r
            exact ⟨{ x with evLost := satAdd max32 x.evLost 1 }, by rw [h]; rfl⟩
          · exact ⟨_, rfl⟩
      · exact ⟨_, rfl⟩
    · exact ⟨_, rfl⟩

theorem State.foldl_hst {α : Type} (f : State → α → State) (h : ∀ s a, ∃ x, f s a = { s with hst := x }) (l : List α) (s : State) :
    ∃ x, l.foldl f s = { s with hst := x } := by
  induction l generalizing s with
  | nil => exact ⟨s.hst, rfl⟩
  | cons a l ih =>
    obtain ⟨x, e⟩ := h s a
    obtain ⟨y, g⟩ := ih (f s a)
    exact ⟨y, by rw [List.foldl_cons, g, e]⟩

theorem State.flushEvents_only (s : State) : ∃ x, s.flushEvents = { s with hst := x } :=
  State.foldl_hst _ State.postEvent_only _ _

/-- Raising an event changes the host interface alone. -/
theorem State.raise_only (s : State) (n r : Nat) : ∃ x, s.raise n r = { s with hst := x } := by
  unfold State.raise
  dsimp only
  split
  · exact ⟨s.hst, rfl⟩
  · split
    · exact ⟨s.hst, rfl⟩
    · split
      · split
        · split
          · obtain ⟨x, e⟩ := s.flushEvents_only
            obtain ⟨y, g⟩ := s.flushEvents.postEvent_only ⟨n, r, s.hp, s.tim.dt, evSeverity n r⟩
            exact ⟨y, by rw [g, e]⟩
          · exact ⟨_, rfl⟩
        · exact ⟨_, rfl⟩
      · exact ⟨_, rfl⟩

/-- A record changes the recorder, and the host interface by the event of a refused one. -/
theorem State.record_only (s : State) (v b c : Nat) (d : List Byte) : ∃ x y, s.record v b c d = { s with hst := x, rcd := y } := by
  unfold State.record
  split
  · dsimp only
    split
    · exact ⟨s.hst, _, rfl⟩
    · split
      · exact ⟨s.hst, _, rfl⟩
      · obtain ⟨x, e⟩ := State.raise_only { s with rcd := { s.rcd with
            written := (s.rcd.written + 1) % 2 ^ 32, stgFull := satAdd max32 s.rcd.stgFull 1,
            refused := updAt s.rcd.refused v (fun n => (n + 1) % 2 ^ 32), ev97 := true } } 97 v
        exact ⟨x, _, e⟩
  · exact ⟨s.hst, s.rcd, rfl⟩

/-- An event with its record changes the host interface and the recorder. -/
theorem State.raiseRec_only (s : State) (n r v b : Nat) : ∃ x y, s.raiseRec n r v b = { s with hst := x, rcd := y } := by
  unfold State.raiseRec
  obtain ⟨x, e⟩ := s.raise_only n r
  obtain ⟨y, z, g⟩ := (s.raise n r).record_only v b n (leBytes 8 s.tim.dt ++ leBytes 8 r ++ leBytes 8 (hp64 s.hp))
  exact ⟨y, z, by rw [g, e]⟩

/-- A unit record uses one free value beside. -/
theorem State.unitRec_only (s : State) (v b : Nat) : ∃ x y, s.unitRec v b = { s with hst := x, rcd := y, fresh := s.fresh + 1 } := by
  obtain ⟨x, y, e⟩ := s.freshNat.2.record_only v b 0x0108 (leBytes 8 s.tim.dt ++ leBytes 8 s.freshNat.1)
  exact ⟨x, y, e⟩

theorem State.postCpl_only (s : State) (c : Cpl) : ∃ x, s.postCpl c = { s with hst := x } := by
  unfold State.postCpl
  split
  · exact ⟨s.hst, rfl⟩
  · split
    · exact ⟨_, rfl⟩
    · rename_i q _
      dsimp only
      split
      · obtain ⟨x, h⟩ := State.afterPost_only ((s.emit (q.entry c.res0 c.res1 c.dt c.cid c.status)).setQp { q with posted := q.posted + 1 }) c.qp
        exact ⟨x, h⟩
      · obtain ⟨x, h⟩ := State.afterPost_only (((s.emit (.readback c.qp c.cid c.data)).emit (q.entry c.res0 c.res1 c.dt c.cid c.status)).setQp
          { q with posted := q.posted + 1 }) c.qp
        exact ⟨x, h⟩

theorem State.queueCpl_only (s : State) (c : Cpl) : ∃ x, s.queueCpl c = { s with hst := x } := by
  unfold State.queueCpl
  split
  · exact ⟨_, rfl⟩
  · split
    · exact ⟨s.hst, rfl⟩
    · split
      · obtain ⟨x, e⟩ := State.foldl_hst State.postCpl State.postCpl_only s.hst.cpls { s with hst := { s.hst with cpls := [] } }
        obtain ⟨y, g⟩ := s.flushCpls.postCpl_only c
        exact ⟨y, by rw [g]; unfold State.flushCpls; rw [e]⟩
      · exact ⟨_, rfl⟩

/-- Ending a command changes the host interface and the commands held with their counts. -/
theorem State.finish_only (s : State) (q st r0 : Nat) (r1 : Option Nat) (d : List Byte) :
    ∃ x m, s.finish q st r0 r1 d = { s with hst := x, mgt := m } := by
  unfold State.finish
  split
  · exact ⟨s.hst, s.mgt, rfl⟩
  · rename_i h _
    dsimp only
    obtain ⟨x, e⟩ := State.queueCpl_only { s with mgt := { (s.mgt.countCpl h st) with held := s.mgt.held.filter (fun x => x.seq ≠ q) } }
      ⟨h.qp, h.cid, h.opc, st, r0, r1.getD h.acc, s.tim.dt, d, h.fate⟩
    exact ⟨x, _, e⟩

theorem State.foldl_host {α : Type} (f : State → α → State) (h : ∀ s a, ∃ x m, f s a = { s with hst := x, mgt := m }) (l : List α)
    (s : State) : ∃ x m, l.foldl f s = { s with hst := x, mgt := m } := by
  induction l generalizing s with
  | nil => exact ⟨s.hst, s.mgt, rfl⟩
  | cons a l ih =>
    obtain ⟨x, m, e⟩ := h s a
    obtain ⟨y, n, g⟩ := ih (f s a)
    exact ⟨y, n, by rw [List.foldl_cons, g, e]⟩

theorem State.endDeletes_only (s : State) : ∃ x m, s.endDeletes = { s with hst := x, mgt := m } := by
  unfold State.endDeletes
  apply State.foldl_host
  intro t p
  split
  · exact ⟨t.hst, t.mgt, rfl⟩
  · obtain ⟨x, m, e⟩ := State.finish_only { t with hst := { t.hst with deleting := t.hst.deleting.filter (fun x => x.1 ≠ p.1) } } p.1 0 0 none []
    exact ⟨x, m, e⟩

/-- Completing a command changes the host interface and the management island alone. -/
theorem State.complete_host (s : State) (q st r0 : Nat) (r1 : Option Nat) (d : List Byte) :
    ∃ x m, s.complete q st r0 r1 d = { s with hst := x, mgt := m } := by
  unfold State.complete
  obtain ⟨x, m, e⟩ := s.finish_only q st r0 r1 d
  obtain ⟨y, n, g⟩ := (s.finish q st r0 r1 d).endDeletes_only
  exact ⟨y, n, by rw [g, e]⟩

/-- The passing of time changes device time, and marks frequency measurements that a bleed touches. -/
theorem State.passLive_only (s : State) (d : Rat) :
    ∃ x l, s.passLive d = { s with tim := x, clk := { s.clk with freqJobs := l } } := by
  have key : ∀ u : State, (∃ l, u = { s with clk := { s.clk with freqJobs := l } }) → ∀ (b : Bool) (x y : Tim),
      ∃ z l, (if b = true then { u with tim := x } else { u with tim := y }) = { s with tim := z, clk := { s.clk with freqJobs := l } } := by
    rintro u ⟨l, rfl⟩ b x y
    cases b
    · exact ⟨y, l, rfl⟩
    · exact ⟨x, l, rfl⟩
  unfold State.passLive
  apply key
  split
  · exact ⟨_, rfl⟩
  · exact ⟨s.clk.freqJobs, rfl⟩

theorem State.advanceTo_only (s : State) (t : Nat) :
    ∃ x l, s.advanceTo t = { s with tim := x, clk := { s.clk with freqJobs := l } } := by
  unfold State.advanceTo
  split
  · exact ⟨s.tim, s.clk.freqJobs, rfl⟩
  · split
    · exact s.passLive_only _
    · split
      · exact ⟨s.tim, s.clk.freqJobs, rfl⟩
      · exact ⟨_, s.clk.freqJobs, rfl⟩

/-- A cell opens at its start tick, and is not opened again in its hyperperiod (03 R57, R78). -/
theorem State.openCell_opens (s : State) (e : Nat) (x : CombEntry) (p : Nat → Bool) (he : s.entries[e]? = some x) (hp : p x.res = true)
    (hc : s.cellsRun = true) (hs : s.swapDue = false) (hk : x.runsIn s.comb.k = true) (ht : s.tim.dt ≤ s.cellStart x s.comb.k)
    (ho : s.comb.opened.contains e = false) :
    s.openCell e p = some (x, let t := s.advanceTo (s.cellStart x s.comb.k)
                              { t with comb := { t.comb with opened := e :: t.comb.opened } }) := by
  simp only [State.openCell, he, hp, hc, hs, hk, ht, ho, decide_true, Bool.and_self, Bool.not_false, if_true]

end Sys2Proof.Machine
end

