-- ==== Sys2Proof/Tests/Slice0.lean ====
section
/-!
SUPPORT. Sys2Proof/Tests/Slice0.lean: the author's tests: commands that are not well formed, a state that meets the
hypotheses of each statement, one step of some commands against worked values of the spec.
-/
namespace Sys2Proof.Tests

set_option Elab.async false

open Sys2Proof Sys2Proof.Machine Sys2Proof.Claim

/-! ## WellFormed refuses a term for each of its checks -/

def hdr : Hdr := ⟨0, 7, false, false⟩
def badHdr : Hdr := ⟨64, 7, false, false⟩
def badCid : Hdr := ⟨0, 65536, false, false⟩
def date : Civil := ⟨2031, 3, 14, 9, 30, 0⟩
def frame : CanFrame := ⟨false, false, false, false, false, 0x123, []⟩
def ether : EthRx := ⟨64, true, true, 1, [], none, none, .other, []⟩
def pairBlock : QpParam := ⟨2, 3, 4, 0, false, 4096, 8192, 1⟩

theorem test_wf_refuses_events :
    ∀ i ∈ [Instr.startUpComplete ⟨[], ⟨0, 0, 0⟩, [], [256]⟩, .startUpComplete ⟨[], ⟨0, 0, 0⟩, List.replicate 3 ⟨0, 0, 0, 0⟩, []⟩,
      .soscCalibration (2 ^ 32), .ptpMessageReceive ⟨8, 0, 0, .sync 0⟩, .ptpMessageReceive ⟨0, 256, 0, .sync 0⟩,
      .masterSyncTransmit 8, .selftestEnd .a 5, .solverStoreEccError 3 true, .topologyBuildComplete 0,
      .accumulationPeriodEnd [⟨48, []⟩], .accumulationPeriodEnd [⟨0, List.replicate 7 []⟩], .mdInputFault 48 0,
      .mdTransitionResume 48 0, .pinPulse 32 0, .adcConversionComplete 4 0, .adcConversionComplete 0 65536,
      .adcConversionComplete 0 (-32769), .stationSlotOpen 4096, .answer 0x48, .malformedWfpFrame 0x48, .exchangeComplete 4096,
      .switchEdge 16 0 true 0, .switchEdge 0 3 true 0, .axisEnableLeadEnd 16, .axisProfileUpdate 16, .axisStandstill 16,
      .autoDisable 16, .pwmPeriodStart 16, .recordRaise 0 0 65536 [], .recordRaise 0 0 0 (zeros 41), .panelUpdateComplete 16],
    i.wf = false := by decide

theorem test_wf_refuses_cells :
    ∀ i ∈ [Instr.lgeCell 262144 ⟨0, 0, 0⟩, .lpeCell 262144 ⟨0, 0, 0⟩ ⟨0, 0, 0⟩, .agreeCell 262144 ⟨0, 0, 0⟩ true 0,
      .agreeCell 0 ⟨0, 0, 0⟩ true (2 ^ 64), .waggleCell 262144 ⟨0, 0, 0⟩ ⟨0, 0, 0⟩, .voteCell 262144 [],
      .voteCell 0 (List.replicate 6 .field), .ckptCell 262144 ⟨0, 0, 0⟩ true, .slvPubCell 262144 true,
      .slvHydCell 262144 ⟨[], none, none, true⟩, .slvDispCell 262144 ⟨[], none, none, true⟩, .mtrBlockCell 262144 [] true,
      .mtrBlockCell 0 [⟨48, []⟩] true, .mtrIntvCell 262144 0, .axsLatchCell 262144 true, .axsCmdCell 262144 true,
      .outCell 262144 true, .keyCell 262144, .recCell 262144, .pnlCell 262144, .hstCell 262144, .adcCell 262144 ⟨0, 0, 0, 0⟩,
      .stationReadCell 262144, .stationWriteCell 262144, .cellEndOverrun 262144],
    i.wf = false := by decide

theorem test_wf_refuses_links :
    ∀ i ∈ [Instr.canTransmitStart 56 0, .canTransmitComplete 56 0, .canArbitrationLost 56 0, .canFrameReceive 56 0 frame,
      .canFrameReceive 0 0 { frame with id := 2048 }, .canFrameReceive 0 0 { frame with ide := true, id := 2 ^ 29 },
      .canFrameReceive 0 0 { frame with data := zeros 9 }, .canFrameReceive 0 0 { frame with fdf := true, data := zeros 65 },
      .canFrameReceive 0 0 { frame with fdf := true, rtr := true }, .canFrameReceive 0 0 { frame with brs := true },
      .canError 56 0 ⟨1, true, 8⟩, .canError 0 0 ⟨8, true, 8⟩, .canError 0 0 ⟨1, true, 2⟩, .busOffRecoveryStart 56,
      .busOffRecoveryEnd 56 0, .wakeFrame 0 { frame with id := 2048 }, .ethFrameReceive 8 0 ether,
      .ethFrameReceive 0 0 { ether with src := 2 ^ 48 }, .ethFrameReceive 0 0 { ether with tags := [65536] },
      .ethFrameReceive 0 0 { ether with len := 0, bytes := [0] }, .ethFrameReceive 0 0 { ether with sec := some ⟨2 ^ 64, 0, 0, true⟩ },
      .ethFrameReceive 0 0 { ether with sec := some ⟨0, 4, 0, true⟩ }, .ethFrameReceive 0 0 { ether with sec := some ⟨0, 0, 2 ^ 32, true⟩ },
      .ethFrameReceive 0 0 { ether with red := some 65536 }, .ethTransmitComplete 8 0, .supervisionFrameTransmit 8,
      .duplicateEntryAgeOut 8 0, .duplicateEntryAgeOut 0 (2 ^ 48), .portLinkChange 8 true, .dormantStatus 0 65536,
      .dormantTime 0 65536, .dormantRecRead 0 65536 0 0, .dormantRecRead 0 0 (2 ^ 32) 0, .dormantRecRead 0 0 0 65536,
      .dormantWake 0 65536, .sqTailDoorbell 64 0 [], .sqTailDoorbell 0 (2 ^ 32) [], .sqTailDoorbell 0 0 [⟨0, 256, []⟩],
      .cqHeadDoorbell 64 0, .cqHeadDoorbell 0 (2 ^ 32), .registerWrite 65536 0, .registerWrite 2 0, .xin1FrequencyWrite 65536,
      .legacyRegisterRead 65536, .legacyRegisterRead 2, .msiXHoldoffEnd 64],
    i.wf = false := by decide

theorem test_wf_refuses_headers :
    ∀ h ∈ [badHdr, badCid],
    ∀ i ∈ [Instr.identify h, .qpCreate h pairBlock, .qpDelete h 2, .ringStatus h 2, .run h true, .halt h 0 [], .setup h [],
      .challenge h, .write h 0 0 [], .verify h 0, .status h, .activate h 0 [], .arm h 0 0, .disarm h, .swapReport h 0 0,
      .edit h [], .read h [], .simulate h 0 0 [], .query h 0 1, .delta h [], .topology h 1 [], .solution h 1, .regRead h 1 0,
      .archiveRead h 0 1, .trim h 0 0 0 0 [], .recRead h 0 1, .freeze h, .thaw h, .recCounts h, .update h [], .slotQuery h 0,
      .attest h 0 [], .legacyExport h 0 0, .identity h, .domainSelect h .pri, .rtcSet h date, .rtcRead h, .addHour h, .subHour h,
      .alarmSet h 0 0 0 0 date, .rtcFromPtp h, .rtcTrim h 0, .panelUpdate h 0 0 [], .mapWrite h 0 [], .panelStatus h,
      .setPosition h 0 0, .move h 0 0 0, .home h 0 0, .stop h 0 0, .calibrate h 0 ⟨0, 0, 0, 0⟩, .captureRead h 0, .txAn h 0 0,
      .history h 0, .dormant h [], .freqMeasure h 0, .echo h 0 0, .outputForce h 0 0 [] []],
    i.wf = false := by decide

theorem test_wf_refuses_host_operands :
    ∀ i ∈ [Instr.qpCreate hdr { pairBlock with qpid := 64 }, .qpCreate hdr { pairBlock with kind := 0 },
      .qpCreate hdr { pairBlock with kind := 6 }, .qpCreate hdr { pairBlock with sizeLog := 3 },
      .qpCreate hdr { pairBlock with sizeLog := 17 }, .qpCreate hdr { pairBlock with vector := 64 },
      .qpCreate hdr { pairBlock with sqBase := 8 }, .qpCreate hdr { pairBlock with cqBase := 8 },
      .qpCreate hdr { pairBlock with mask := 2 ^ 56 }, .qpDelete hdr 64, .ringStatus hdr 64, .halt hdr 0 [], .setup hdr [],
      .write hdr 2 0 (zeros 16), .write hdr 0 (2 ^ 32) (zeros 16), .write hdr 0 8 (zeros 16), .write hdr 0 0 (zeros 17),
      .write hdr 0 0 [], .verify hdr 2, .activate hdr 0 [], .arm hdr 2 0, .arm hdr 0 (2 ^ 64), .swapReport hdr (2 ^ 32) 0,
      .edit hdr [], .edit hdr [(2 ^ 32, 0)], .read hdr [], .read hdr [2 ^ 32], .simulate hdr 4096 0 [], .simulate hdr 0 2 [],
      .query hdr 65536 1, .query hdr 0 0, .query hdr 0 4097, .delta hdr [0], .topology hdr 3 [], .solution hdr 0, .regRead hdr 3 0,
      .regRead hdr 1 256, .archiveRead hdr (2 ^ 32) 1, .archiveRead hdr 0 0, .archiveRead hdr 0 1025, .trim hdr 0 0 0 0 [], .recRead hdr (2 ^ 32) 1, .recRead hdr 0 1025,
      .slotQuery hdr 256, .attest hdr 256 (zeros 32), .attest hdr 0 (zeros 31), .legacyExport hdr 256 0, .legacyExport hdr 0 256],
    i.wf = false := by decide

theorem test_wf_refuses_with_any_block (b : List Byte) :
    (Instr.halt hdr 2 b).wf = false ∧ (Instr.activate hdr 2 b).wf = false ∧ (Instr.trim hdr 256 0 0 0 b).wf = false ∧
    (Instr.trim hdr 0 6 0 0 b).wf = false ∧ (Instr.trim hdr 0 0 (2 ^ 24) 0 b).wf = false ∧
    (Instr.trim hdr 0 0 0 65536 b).wf = false ∧ (Instr.outputForce hdr 4096 0 [] b).wf = false ∧
    (Instr.outputForce hdr 0 2 [] b).wf = false ∧ (Instr.mapWrite hdr 4 b).wf = false :=
  ⟨rfl, rfl, rfl, rfl, rfl, rfl, rfl, rfl, rfl⟩

theorem test_wf_refuses_long_lists (d : List Byte) (e : List (Nat × Word)) (r : List Nat) (hd : 1048576 < d.length)
    (he : 512 < e.length) (hr : 512 < r.length) :
    (Instr.write hdr 0 0 d).wf = false ∧ (Instr.edit hdr e).wf = false ∧ (Instr.read hdr r).wf = false := by
  have a : decide (d.length ≤ 1048576) = false := decide_eq_false (by omega)
  have b : decide (e.length ≤ 512) = false := decide_eq_false (by omega)
  have c : decide (r.length ≤ 512) = false := decide_eq_false (by omega)
  refine ⟨?_, ?_, ?_⟩
  · change (_ && decide (d.length ≤ 1048576)) = false
    rw [a, Bool.and_false]
  · change (_ && decide (e.length ≤ 512) && _) = false
    rw [b, Bool.and_false, Bool.false_and]
  · change (_ && decide (r.length ≤ 512) && _) = false
    rw [c, Bool.and_false, Bool.false_and]

theorem test_wf_refuses_calendar_and_axes :
    ∀ i ∈ [Instr.rtcSet hdr { date with year := 65536 }, .rtcSet hdr { date with month := 256 }, .rtcSet hdr { date with day := 256 },
      .rtcSet hdr { date with hour := 256 }, .rtcSet hdr { date with minute := 256 }, .rtcSet hdr { date with second := 256 },
      .alarmSet hdr 2 0 0 0 date, .alarmSet hdr 0 64 0 0 date, .alarmSet hdr 0 0 2 0 date, .alarmSet hdr 0 0 0 2 date,
      .rtcTrim hdr 2048, .rtcTrim hdr (-2049), .panelUpdate hdr 16 0 [], .panelUpdate hdr 0 (2 ^ 32) [], .mapWrite hdr 0 [],
      .setPosition hdr 16 0, .setPosition hdr 0 2147483648, .move hdr 16 0 0, .move hdr 0 (-2147483649) 0, .move hdr 0 0 (2 ^ 32),
      .home hdr 16 0, .home hdr 0 2147483648, .stop hdr 16 0, .stop hdr 0 2, .calibrate hdr 2 ⟨0, 0, 0, 0⟩, .captureRead hdr 2,
      .txAn hdr 8 0, .txAn hdr 0 2, .history hdr 3, .dormant hdr [], .freqMeasure hdr 10, .echo hdr (2 ^ 64) 0,
      .echo hdr 0 (2 ^ 64), .outputForce hdr 0 0 [] []],
    i.wf = false := by decide

theorem test_wf_refuses_operands :
    ∀ i ∈ [Instr.jmp 0, .jc (2 ^ 24), .jnc 0, .ld (.bit (2 ^ 21)), .st (.req (2 ^ 21)), .ldw (.const (2 ^ 21)), .add (.snap (2 ^ 21)),
      .sub (.sys (2 ^ 21)), .mul (.out (2 ^ 21)), .ldwx (.word (2 ^ 21)), .stw (.out (2 ^ 21)), .stwx (.word (2 ^ 21)), .ldq 131072,
      .ldage 131072, .ton 16384, .ctu 16384, .redge 16384],
    i.wf = false := by decide

theorem test_wf_accepts :
    ∀ i ∈ [Instr.jmp (2 ^ 24 - 1), .add (.imm 0x1FFFFF), .ld (.req (2 ^ 21 - 1)), .ton 16383, .qpCreate hdr pairBlock,
      .write hdr 1 16 (zeros 16), .alarmSet hdr 1 63 1 0 date, .move hdr 15 2147483647 0, .canFrameReceive 55 0 frame,
      .ethFrameReceive 7 0 ether, .lgeCell 262143 ⟨0, 0, 0⟩, .recordRaise 3 15 65535 (zeros 40), .rtcTrim hdr (-2048)],
    i.wf = true := by decide


/-! ## States that meet the hypotheses of the statements -/

/-- The laboratory: supplies present, every source qualified, every island clocked, SETUP, keys filled, one admin pair. -/
def adminQp : Qp := newQp 0 1 4 0 true 0 0 0
def lab : State :=
  { State.reset with
    pwr := { Pwr.reset with power := .service, vin := true, vaux := true }
    clk := { Clk.reset with mons := List.replicate 8 ⟨true, false, 0, 0⟩, foscRun := true, soscRun := true }
    hst := { Hst.reset with link := true, qps := [adminQp] }
    mgt := { Mgt.reset with run := .setup }
    key := { Key.reset with ready := true } }

/-- The laboratory in a run state, with one entry handed over. -/
def quietIn (r : Run) : State := { lab with mgt := { Mgt.reset with run := r }, hst := { lab.hst with handover := [0] } }

theorem witness_Quiet : Quiet (quietIn .setup) hdr adminQp ∧ Quiet (quietIn .run) hdr adminQp ∧ Quiet (quietIn .halt) hdr adminQp ∧
    Quiet (quietIn .init) hdr adminQp :=
  ⟨⟨rfl, rfl, rfl, by decide, rfl, rfl, by decide, rfl, rfl, rfl, rfl, rfl, rfl, rfl, rfl, rfl⟩,
   ⟨rfl, rfl, rfl, by decide, rfl, rfl, by decide, rfl, rfl, rfl, rfl, rfl, rfl, rfl, rfl, rfl⟩,
   ⟨rfl, rfl, rfl, by decide, rfl, rfl, by decide, rfl, rfl, rfl, rfl, rfl, rfl, rfl, rfl, rfl⟩,
   ⟨rfl, rfl, rfl, by decide, rfl, rfl, by decide, rfl, rfl, rfl, rfl, rfl, rfl, rfl, rfl, rfl⟩⟩

/-- A scan under way in channel A, whose registers are `c`. -/
def scan0 : Scan := ⟨0, 0, 5, 1000000, 10000, 64⟩
def bench (c : Chan) : State := { lab with chn := { Chn.reset with ch := ⟨{ c with scan := some scan0 }, Chan.reset, Chan.reset⟩ } }
def stacked (n : Nat) (k : StackOp) : Chan := { Chan.reset with stack := List.replicate n ⟨true, 2, k⟩, wa := 3 }

theorem witness_LogicWords :
    ∀ p ∈ ([(.jmp 1, 0x02000001), (.jmp 0xFFFFFF, 0x02FFFFFF), (.ton 16383, 0x80003FFF), (.ld (.req 0x1FFFFF), 0x10BFFFFF),
        (.add (.imm 0x1FFFFF), 0x40FFFFFF), (.stwx (.out 0), 0x33800000), (.tbit 31, 0x2800001F)] : List (Instr × Nat)),
      lgeFits p.1 = true ∧ lgeEncode p.1 = some p.2 ∧ p.2 < 2 ^ 32 ∧ lgeDecode p.2 = some p.1 := by decide +kernel

theorem witness_Scanning : Scanning (bench Chan.reset) .a scan0 := rfl

theorem witness_Divisions (c : Chan) : c.readWord (.imm 1) ≠ 0 ∧ c.readWord (.imm 0x1FFFFF) ≠ 0 ∧ c.readWord (.imm 0) = 0 :=
  ⟨(by decide : (1 : Word) ≠ 0), (by decide : (0xFFFFFFFF : Word) ≠ 0), rfl⟩

theorem witness_NestingStack :
    (∀ n ∈ [0, 15], ∀ j ∈ ChId.all, ((bench (stacked n .add)).chan j).scan ≠ none → ((bench (stacked n .add)).chan j).stack.length < 16) ∧
    (∀ k ∈ [StackOp.and, .or, .xor, .add, .sub, .mul, .qmul],
      (∀ j ∈ ChId.all, ((bench (stacked 1 k)).chan j).scan ≠ none → ((bench (stacked 1 k)).chan j).stack ≠ []) ∧
      ((bench (stacked 1 k)).chan .a).stack = ⟨true, 2, k⟩ :: []) ∧ ∀ j, j ∈ ChId.all :=
  ⟨by decide, by decide, fun j => by cases j <;> decide⟩

theorem witness_StackFaultsAbandon :
    (∀ n ∈ [0, 16], (∀ j ∈ ChId.all, j ≠ ChId.a → ((bench (stacked n .add)).chan j).scan = none) ∧
      ((bench (stacked n .add)).chan .a).stack.length = n ∧ (bench (stacked n .add)).lowVoting = some .a) ∧ ∀ j, j ∈ ChId.all :=
  ⟨by decide, fun j => by cases j <;> decide⟩

/-! ### Host commands -/

theorem witness_Queries :
    ∀ c ∈ [Instr.identify hdr, .ringStatus hdr 63, .status hdr, .swapReport hdr (2 ^ 32 - 1) 1, .query hdr 0 1, .query hdr 65535 4096,
      .solution hdr 2, .regRead hdr 1 255, .archiveRead hdr 0 1024, .recCounts hdr, .slotQuery hdr 255, .rtcRead hdr, .panelStatus hdr,
      .captureRead hdr 1, .history hdr 2, .echo hdr (2 ^ 64 - 1) 0],
      (quietIn .setup).takes (hostOpc c) = true ∧ (quietIn .setup).paramsOk c = true := by decide +kernel

theorem witness_Queries_reads : Query hdr (.identify hdr) ∧ Query hdr (.echo hdr 0 (2 ^ 64 - 1)) := ⟨.identify, .echo 0 _⟩

theorem witness_Admission :
    (hostEntry (.setPosition hdr 0 0) = some (0xA0, hdr) ∧ (quietIn .run).paramsOk (.setPosition hdr 0 0) = true ∧ authorised 0xA0 = false ∧
      (quietIn .run).mgt.run ∉ opcStates 0xA0) ∧
    (hostEntry (.slotQuery { hdr with bad := true } 0) = some (0x71, { hdr with bad := true }) ∧
      (quietIn .setup).takeable { hdr with bad := true } = true) ∧
    (hostEntry (.slotQuery hdr 256) = some (0x71, hdr) ∧ (quietIn .setup).takeable hdr = true ∧
      (quietIn .setup).paramsOk (.slotQuery hdr 256) = false) := by decide +kernel

/-- Two entries handed over; a command of the same queue is held, or waits for its own FENCE. -/
def fenced (w : Bool) : State :=
  { lab with hst := { lab.hst with handover := [0, 0] }
             mgt := { Mgt.reset with run := .setup, held := [⟨0, 0, 1, 0x61, 0, 0⟩]
                                     fenceWait := if w then [(0, .freeze { hdr with fence := true })] else [] } }

theorem witness_FenceHoldsBack :
    ∀ p ∈ [(false, true), (true, true), (true, false)],
      let h : Hdr := { hdr with fence := p.2 }
      hostEntry (.thaw h) = some (0x62, h) ∧ (fenced p.1).takeable h = true ∧ h.bad = false ∧ (fenced p.1).paramsOk (.thaw h) = true ∧
      h.qp < 64 ∧ (fenced p.1).hst.handover.head? = some h.qp ∧ (fenced p.1).fenceReady = none ∧
      ((h.fence = true ∧ ∃ x ∈ (fenced p.1).mgt.held, x.qp = h.qp ∧ x.fate = 0) ∨ (∃ w ∈ (fenced p.1).mgt.fenceWait, w.1 = h.qp)) ∧
      (fenced p.1).hst.handover.length ≠ 1 := by decide +kernel

theorem witness_PairsComeAndGo :
    (∀ p ∈ [pairBlock, { pairBlock with qpid := 0 }, { pairBlock with qpid := 1 },
      { pairBlock with qpid := 63, mask := 2 ^ 55 }],
      (quietIn .setup).paramsOk (.qpCreate hdr p) = true) ∧
    ((quietIn .setup).qp? 0).isSome = true ∧ ((quietIn .setup).qp? 1).isSome = false ∧ ((quietIn .setup).qp? 63).isSome = false ∧
    (∃ x ∈ (newQp 2 3 4 0 true 0 0 (2 ^ 55)) :: (quietIn .setup).hst.qps, x.kind = 3 ∧ x.mask &&& 2 ^ 55 ≠ 0) ∧
    adminQp.id = 0 ∧ (∀ n ∈ [0, 63], (quietIn .setup).sending n = false) := by decide +kernel

/-- An authorisation block of 3,520 zero bytes. -/
def block : List Byte := List.replicate 3520 0
theorem block_fits : blkOk block = true := decide_eq_true (List.length_replicate ..)

/-- An image with one voted point, an electrical system, value entries, stations, ports and axes for the host to name. -/
def anyPoint : Point := ⟨1, 1, 0, 0, 0, [0]⟩
def anyStn : StnDef := { (default : StnDef) with stn := 4095, group := 7, sid := 1 }
def anyPort : EthPortDef := { (default : EthPortDef) with port := 7, macsec := true }
def anyAxis : AxisDef := { (default : AxisDef) with
  axis := 15, posMin := -1000, posMax := 1000, v1 := 100, a1 := 10, amax := 10, dmax := 10, d1 := 10, vHome := 10, vStart := 1, vStop := 1 }
def anyValue : ValueEntry := ⟨9, 3, 1, 4, -10, 10⟩
def cell (r : Nat) : CombEntry := ⟨1, 1000, 100, 1, 0, r, 0⟩
def img : Image :=
  { (default : Image) with
    comb := ⟨1000, 0, 1, 31, 31, 31, (List.range 21).map cell ++ [⟨1, 1000, 100, 1, 0, 0x20, 7⟩, ⟨6, 1000, 100, 1, 0, 0x20, 0⟩] ++
      [cell 0x18, cell 0x1B]⟩
    logic := { (default : Logic) with tasks := [⟨0, 1, 10⟩], wordExt := 8, nconst := 4, outExt := 2 }
    points := [anyPoint]
    values := [anyValue]
    stations := some ⟨0, [{ (default : GroupDef) with group := 7 }], [anyStn]⟩
    eth := [anyPort]
    axes := some ⟨List.replicate 4 false, [anyAxis], List.replicate 16 100⟩ }
def withImage (s : State) : State := { s with sup := { s.sup with bank := some img } }

theorem witness_Quiet_image (r : Run) : Quiet (withImage (quietIn r)) hdr adminQp :=
  ⟨rfl, rfl, rfl, by decide, rfl, rfl, fun p h => by (rw [List.mem_singleton.mp h]; decide),
    rfl, rfl, rfl, rfl, rfl, rfl, rfl, rfl, rfl⟩

theorem witness_AuthorisedCommandsVerify :
    Run.run ∈ opcStates (hostOpc (.halt hdr 1 block)) ∧ Run.halt ∈ opcStates (hostOpc (.setup hdr block)) ∧
    Run.setup ∈ opcStates (hostOpc (.activate hdr 1 block)) ∧ Run.setup ∈ opcStates (hostOpc (.trim hdr 255 5 (2 ^ 24 - 1) 0 block)) ∧
    Run.halt ∈ opcStates (hostOpc (.dormant hdr block)) ∧ Run.halt ∈ opcStates (hostOpc (.outputForce hdr 0 1 [0] block)) ∧
    ∀ s : State, s.points = [anyPoint] → ∀ c ∈ [Instr.halt hdr 1 block, .setup hdr block, .activate hdr 1 block,
      .trim hdr 255 5 (2 ^ 24 - 1) 0 block, .dormant hdr block, .outputForce hdr 0 1 [0] block], s.paramsOk c = true := by
  refine ⟨by decide, by decide, by decide, by decide, by decide, by decide, fun s hs c hc => ?_⟩
  have e : s.points[0]? = some anyPoint := by rw [hs]; rfl
  simp only [List.mem_cons, List.not_mem_nil, or_false] at hc
  rcases hc with rfl | rfl | rfl | rfl | rfl | rfl <;> simp only [State.paramsOk, block_fits, e] <;> decide

/-- Keys an export may use: slot 32 exportable, slot 33 a wrapping key. -/
def withKeys (s : State) : State :=
  { s with key := { s.key with slots := [(32, ⟨.key, 0x02, 0x01, 1, true, false, 1, 1, zeros 32⟩), (33, ⟨.key, 0x02, 0x80, 1, false, false, 1, 1, zeros 32⟩)] }
           sup := { s.sup with s1 := ⟨.writing, 0, []⟩ } }

theorem witness_KeyWorkQueues :
    let s := withKeys (quietIn .setup)
    s.mgt.run ≠ .init ∧ s.key.jobs = [] ∧ (s.slot 4).st = .key ∧ (s.slot 0).st ≠ .faulted ∧ (s.slot 1).st ≠ .faulted ∧
    (s.slot 32).st = .key ∧ (s.slot 32).exportable = true ∧ (s.keyPeek engWrap 33).isSome = true ∧ (s.super 1).st = .writing :=
  ⟨by decide, rfl, rfl, by decide, by decide, rfl, rfl, rfl, rfl⟩

def trusted (s : State) : State := { s with tim := { s.tim with tstate := .trusted, utcValid := true } }

theorem witness_WaitingCommandsQueue :
    let s := trusted (withImage (quietIn .run))
    s.mgt.run = .run ∧ (∃ d ∈ s.stnDefs, d.stn = 4095) ∧ civilFits ⟨2099, 12, 31, 23, 59, 59⟩ = true ∧
    (⟨2099, 12, 31, 23, 59, 59⟩ : Civil).valid = true ∧ s.tim.tstate = .trusted ∧ s.tim.utcValid = true ∧
    s.ethDef? 7 = some anyPort ∧ anyPort.macsec = true ∧ s.paramsOk (.read hdr [9]) = true ∧ (∀ p ∈ [9], (s.valueEntry? p).isSome = true) ∧
    s.paramsOk (.edit hdr [(9, 10)]) = true ∧ (s.editStatus [(9, 10)]).1 = 0 := by decide +kernel

/-- One super in every state but the first two. -/
def superIn (st : SuperSt) : State := { quietIn .setup with sup := { Sup.reset with s1 := ⟨st, 0, []⟩ } }

theorem witness_WriteStoresImageBytes :
    (∀ st ∈ [SuperSt.empty, .writing, .loaded, .active, .armed, .invalid], ((superIn st).super 1).st = st) ∧
    (superIn .empty).mgt.run ≠ .init ∧ (superIn .empty).key.jobs = [] ∧
    (∀ o ∈ [0, 16777200, 16777216], (superIn .empty).paramsOk (.write hdr 1 o (List.replicate 16 1)) = true) := by decide +kernel

/-- A super that holds an image of a comb section alone, loaded; DT stands far enough before the hyperperiod. -/
def combBytes : List (Nat × Byte) :=
  [(54, 1), (256, 1), (261, 2), (264, 32), (512, 0xE8), (513, 3), (524, 1), (526, 31), (527, 31), (528, 31)]
def armable : State :=
  { withImage (quietIn .run) with sup := { Sup.reset with bank := some img, s0 := ⟨.active, 0, []⟩, s1 := ⟨.loaded, 0, combBytes⟩ } }

theorem witness_ArmAndDisarm :
    armable.mgt.run = .run ∧ armable.armStatus 1 (toSigned 64 946684803) = 0 ∧ armable.sup.armed = none ∧
    (946684803 : Nat) < 2 ^ 64 := by decide +kernel

/-- A swap armed by an earlier command, committed or not. -/
def armedBy (k : Bool) : State := { armable with sup := { armable.sup with armed := some ⟨1, 946684803, k, true, ⟨true, true, true⟩, none⟩ } }
theorem witness_ArmAndDisarm_armed :
    ∀ k ∈ [false, true], ∀ a, (armedBy k).sup.armed = some a → a.seq ≠ some (armedBy k).mgt.seq ∧ a.committed = k ∧ a.super ≤ 1 := by
  intro k _ a h
  cases h
  exact ⟨by simp, rfl, Nat.le_refl 1⟩

def runnable (r : Run) : State := { withImage (quietIn r) with sup := { Sup.reset with bank := some img, s0 := ⟨.active, 0, []⟩ } }
theorem witness_RunNeedsItsPreconditions :
    (runnable .setup).runStatus false = 0 ∧ (runnable .setup).runStatus true ≠ 0 ∧ (runnable .halt).runStatus false = 0 ∧
    (quietIn .halt).runStatus false ≠ 0 ∧ (runnable .setup).activeSuper ≠ none ∧ (runnable .setup).building = false ∧
    (runnable .setup).key.minEpoch ≤ img.epoch ∧ (runnable .setup).imageFits img = true ∧ (runnable .setup).votingCount ≠ 0 := by
  decide +kernel

/-! ### Host commands that act at once, axes, panel, topology -/

/-- A hydraulic section: a junction and a fixed head fed by point 0, joined by a pipe; one exponent for each of its arrays. -/
def hydBytes : List Byte :=
  leBytes 4 2 ++ leBytes 4 1 ++ leBytes 2 0 ++ [0, 1] ++ leBytes 2 1 ++ [8, 0] ++
  leBytes 4 (2 ^ 8) ++ leBytes 4 (2 ^ 8) ++ leBytes 4 (2 ^ 8 + 0xFF) ++ leBytes 4 (2 ^ 8) ++ leBytes 4 (2 ^ 8) ++ leBytes 4 11 ++ zeros 24 ++
  (leBytes 4 1 ++ [1, 0, 0, 0] ++ leBytes 4 0xFFFFFFFF ++ leBytes 4 0) ++
  (leBytes 4 2 ++ [2, 0, 0, 0] ++ leBytes 4 0 ++ leBytes 4 0) ++
  (leBytes 4 3 ++ [1, 0, 0, 0] ++ leBytes 4 0 ++ leBytes 4 1 ++ leBytes 4 (2 ^ 8) ++ leBytes 4 0 ++ leBytes 4 0xFFFFFFFF ++ leBytes 4 0xFFFFFFFF) ++
  (List.range 11).flatMap (fun a => [BitVec.ofNat 8 (a + 1), 0, 0, 0])
def hydDef : HydDef := (View.ofBytes hydBytes).hyd
def fedImg : Image := { img with points := [⟨5, 1, 0, 0, 0, [0]⟩], hyd := some hydDef }

/-- The laboratory with the image, its hydraulic problem built, axis 15 referenced, and a panel of one region. -/
def anyPanel : PanelDef := { (default : PanelDef) with hres := 16, vres := 16, regions := [⟨0, 0, 16, 16⟩] }
def fullIn (r : Run) : State :=
  { quietIn r with
    sup := { Sup.reset with bank := some { fedImg with panel := some anyPanel } }
    slv := { Slv.reset with hyd := { HydSt.reset with defn := some hydDef, base := some hydDef } }
    axs := { Axs.reset with ax := List.replicate 16 { Ax.reset with ref := true } } }

theorem witness_Quiet_full (r : Run) : Quiet (fullIn r) hdr adminQp :=
  ⟨rfl, rfl, rfl, by decide, rfl, rfl, fun p h => by (rw [List.mem_singleton.mp h]; decide), rfl, rfl, rfl, rfl, rfl, rfl, rfl, rfl, rfl⟩

theorem witness_ImmediateCommandsAct :
    let s := fullIn .setup
    s.mgt.run ≠ .init ∧ s.key.rngFail = false ∧ (s.axDef? 15).isSome = true ∧ 15 < s.axs.ax.length ∧ (s.axDef? 0).isSome = false ∧
    s.panel?.isSome = true ∧ (quietIn .setup).panel?.isSome = false ∧
    calResult ⟨-12800, 12800, -12800, 12800⟩ = some (0x400000, 0) ∧ 1 < s.adc.pairs.length ∧ s.rcd.freeze.isSome = false ∧
    s.paramsOk (.read hdr [9]) = true ∧ (∀ p ∈ [9], (s.valueEntry? p).isSome = true) ∧ s.paramsOk (.edit hdr [(9, -10)]) = true ∧
    s.editStatus [(9, -10)] = (0, [(anyValue, -10)]) := by decide +kernel

theorem witness_ImmediateCommandsAct_delta :
    let r := [BitVec.ofNat 8 1, 1, 0, 0] ++ leBytes 4 3 ++ leBytes 4 512 ++ zeros 4
    deltaFit r = true ∧ deltaRecs r = [⟨1, 1, 3, 512⟩] ∧ (∀ x ∈ deltaRecs r, (fullIn .run).hasProblem x.prob = true ∧ (fullIn .run).deltaFits x = true) ∧
    (fullIn .run).slv.hyd.deltas.length + r.length / 16 ≤ 65536 ∧ (fullIn .run).slv.disp.deltas.length + r.length / 16 ≤ 65536 := by
  decide +kernel

theorem witness_ImmediateCommandsAct_map : 393216 ≤ (List.replicate 393216 (0 : Byte)).length := Nat.le_of_eq (List.length_replicate ..).symm
def locked : Domain := { Tim.reset.pri with lock := true }
theorem witness_ImmediateCommandsAct_domain :
    (Tim.reset.domain .pri).lock = false ∧ (({ Tim.reset with sec := locked } : Tim).domain .sec).lock = true := ⟨rfl, rfl⟩
theorem witness_ImmediateCommandsAct_frozen :
    ({ fullIn .run with rcd := { Rec.reset with freeze := some dtOrigin } }).rcd.freeze.isSome = true := rfl

/-- The axis of the full laboratory, moving or not, referenced or not. -/
def axisIn (m f : Bool) : State := { fullIn .halt with axs := { Axs.reset with ax := List.replicate 16 { Ax.reset with ref := f, moving := m } } }
theorem witness_AxisCommandsHold :
    ∀ p ∈ [(false, false), (false, true), (true, true)],
      let s := axisIn p.1 p.2
      s.mgt.run = .halt ∧ s.axDef? 15 = some anyAxis ∧ 15 < s.axs.ax.length ∧ (s.ax 15).seq = none ∧ s.interOf 15 = none ∧
      (s.ax 15).endHome = s.ax 15 ∧ (s.ax 15).moving = p.1 ∧ (s.ax 15).ref = p.2 ∧
      (p.2 = true → (s.ax 15).moveBad anyAxis 1000 500000 = false ∧ (s.ax 15).moveBad anyAxis 1001 1 = true ∧ (s.ax 15).pos = 0) := by
  decide +kernel

theorem witness_PanelAndTopologyCommands :
    (∀ r ∈ [0, 1, 15], (fullIn .run).paramsOk (.panelUpdate hdr r (2 ^ 32 - 1) (zeros 128)) = true) ∧ anyPanel.regions.length = 1 ∧
    (fullIn .run).pnl.cracked = false ∧ (fullIn .run).pnl.regs.length = 16 ∧
    (quietIn .run).sup.bank = none ∧ (fullIn .run).hasProblem 2 = false := by decide +kernel

theorem witness_PanelAndTopologyCommands_build :
    let v := View.ofBytes hydBytes
    (fullIn .run).sup.bank = some { fedImg with panel := some anyPanel } ∧ (fullIn .run).slv.hyd.defn = some hydDef ∧
    (fullIn .run).slv.hyd.topo = none ∧ v.size = v.wantLen 8 v ∧ hydOk v { fedImg with panel := some anyPanel, hyd := some v.hyd } v.hyd = true ∧
    (fullIn .run).slv.peak + v.hyd.blocks 2 ≤ 24576 :=
  ⟨rfl, rfl, rfl, by decide +kernel, by decide +kernel, by decide +kernel⟩

/-! ### Power, clocks, device time -/

/-- A state of supplies and power. -/
def powered (p : Power) (vin vaux : Bool) : State := { lab with pwr := { Pwr.reset with power := p, vin := vin, vaux := vaux } }
theorem witness_SuppliesMovePower :
    (∀ b : Fin 4, b.val < lab.pwr.vio.length) ∧ (powered .dormantOrderly false true).pwr.wakePending = none ∧
    ({ powered .dormantOrderly false true with pwr := { (powered .dormantOrderly false true).pwr with wakePending := some .al0 } }).pwr.wakePending.isSome = true :=
  ⟨by decide, rfl, rfl⟩
theorem witness_ResetsAndWakesStart :
    (powered .dormantOrderly true true).canWake .al0 = false ∧
    ({ powered .dormantOrderly true true with regs := [(0x2008, 1)] }).canWake .al0 = true := by decide +kernel

theorem witness_MonitorsJudgeSources :
    lab.clk.mons.length = 8 ∧ (∀ c ∈ ClkSrc.all.take 8, c.mon?.isSome = true ∧ lab.judged c = true) ∧
    lab.goodWindow .xin2 0 = false ∧ lab.goodWindow .xin2 (lab.expected .xin2).floor.toNat = true := by decide +kernel
theorem witness_OscillatorsStopAndReturn : lab.pwr.power = .service ∧ lab.clk.foscRun = true ∧ lab.clk.soscRun = true := ⟨rfl, rfl, rfl⟩

def job : FreqJob := ⟨4, 9, dtOrigin + 1000000000, .free, false, none⟩
def voters : Tri Chan := ⟨{ Chan.reset with st := .voting }, { Chan.reset with st := .voting }, { Chan.reset with st := .voting }⟩
def voting : State := { lab with chn := { Chn.reset with ch := voters } }
theorem witness_IslandsAndMeasurements :
    ({ lab with clk := { lab.clk with freqJobs := [job] } }).clk.freqJobs = job :: [] ∧ lab.clk.freqJobs = [] ∧
    Island.pnl ∈ ({ lab with clk := { lab.clk with wait := [.pnl], ramp := [.pnl] } }).clk.ramp ∧ Island.hst ≠ .key ∧ Island.hst.chan? = none ∧
    (voting.chan .a).st = .voting ∧ ChId.b ≠ .a ∧ (voting.chan .b).st = .voting ∧ (voting.chan .b).clkFail = false :=
  ⟨rfl, rfl, by decide, by decide, rfl, rfl, by decide, rfl, rfl⟩

/-- PTP on: domain PRI is number 0 at port 0, where port 7 is a master. -/
def ptpDom (l : Bool) (x : Option Rat) : Domain :=
  { Tim.reset.pri with set := true, lock := l, sample := x, ofs := 5, freq := 100, slave := some 0 }
def ptp (l : Bool) (x : Option Rat) : State :=
  { lab with regs := [(0x4000, 0x648201), (0x4020, 1), (0x4100, 0x40), (0x4170, 0x60)]
             tim := { Tim.reset with pri := ptpDom l x, stepDue := some .pri, bleeding := true, tstate := .trusted } }
theorem witness_PtpMessagesTaken :
    (ptp true none).dtLive = true ∧
    ∀ b ∈ [PtpBody.sync 0, .delay 5, .announce 37 true (-3) true, .announce 0 false 1 false],
      (ptp true none).ptpTakes ⟨0, 0, 0, b⟩ .pri = true := by decide +kernel
theorem witness_ServoFollowsOffset :
    ∀ x ∈ [none, some (0 : Rat), some 1000000], (ptp true x).dtLive = true ∧ (ptp true x).servoEn = true ∧ (ptp true x).domEn .pri = true := by
  decide +kernel
theorem witness_StepsBleedsAndWrap :
    let s := ptp true none
    s.dtLive = true ∧ s.comb.cstate = 0 ∧ s.tim.stepDue = some .pri ∧ s.tim.bleeding = true ∧ lab.tim.bleeding = false ∧
    (s.tim.domain s.tim.active).lock = true ∧ 0 < s.fld 0x4000 15 12 ∧ ratAbs (s.tim.domain s.tim.active).freq ≤ 200000 ∧
    s.servoEn = true ∧ s.bcMode = true ∧ s.portFld 7 5 5 = 1 ∧ s.tim.tstate = .trusted ∧ s.portUses 7 .pri = true ∧ s.domEn .pri = true := by
  decide +kernel
theorem witness_ReadsLatchHighParts : lab.barOk = true ∧ State.reset.barOk = false := by decide +kernel

/-! ### Channels -/

theorem witness_ChannelErrorsExclude :
    let s := voting
    let t := { lab with chn := { Chn.reset with ch := { voters with b := Chan.reset, c := { Chan.reset with st := .voting, clkFail := true } } } }
    s.pwr.power = .service ∧ (s.chan .a).st = .voting ∧ (∀ j ∈ ChId.all, j ≠ .a → (s.chan j).st = .voting ∧ (s.chan j).clkFail = false) ∧
    (t.chan .a).st = .voting ∧ (t.chan .a).restart = false := by decide +kernel

/-- Channel B on its way back, next to A and C. -/
def returning (st : ChState) : State :=
  { fullIn .setup with chn := { Chn.reset with ch := { voters with b := { Chan.reset with st := st, copySrc := some .a, copyInit := true } } } }
theorem witness_ChannelsReturn :
    ∀ st ∈ [ChState.excluded, .selftest, .copy],
      let s := returning st
      s.pwr.power = .service ∧ s.mgt.run ≠ .init ∧ (s.chan .b).clkFail = false ∧ (s.chan .b).st = st ∧ (s.chan .b).notBefore ≤ s.tim.dt ∧
      s.failedRestart = none ∧ (s.chan .b).restart = false ∧ s.chn.trying = none ∧ s.sup.bank ≠ none ∧ s.mgt.run = .setup ∧
      (s.chan .b).copySrc = some .a ∧ (s.chan .a).touched = [] := by decide +kernel

/-! ### The comb: entry r of the image is a cell of resource r; 21 and 22 are link cells, 23 and 24 ADC cells -/

/-- Running, at the start of a hyperperiod; three channels vote. -/
def running : State :=
  { fullIn .run with
    chn := { Chn.reset with ch := voters }
    comb := { CombSt.reset with cstate := 2, k := 946684800, cyc := { Cycle.reset with live := true } } }

theorem all_chans (P : ChId → Prop) (h : ∀ i ∈ ChId.all, P i) : ∀ i, P i := fun i => h i (by cases i <;> decide)

theorem witness_Opens :
    (∀ r ∈ List.range 21, Opens running r (cell r) r) ∧ Opens running 21 ⟨1, 1000, 100, 1, 0, 0x20, 7⟩ 0x20 ∧
    Opens running 22 ⟨6, 1000, 100, 1, 0, 0x20, 0⟩ 0x20 ∧ Opens running 23 (cell 0x18) (0x18 + 0) ∧ Opens running 24 (cell 0x1B) (0x18 + 3) := by
  refine ⟨fun r h => ?_, ⟨rfl, rfl, by decide +kernel, rfl, by decide +kernel, by decide +kernel, rfl⟩,
    ⟨rfl, rfl, by decide +kernel, rfl, by decide +kernel, by decide +kernel, rfl⟩,
    ⟨rfl, rfl, by decide +kernel, rfl, by decide +kernel, by decide +kernel, rfl⟩,
    ⟨rfl, rfl, by decide +kernel, rfl, by decide +kernel, by decide +kernel, rfl⟩⟩
  have key : ∀ r ∈ List.range 21, running.entries[r]? = some (cell r) ∧ running.cellsRun = true ∧ (cell r).runsIn running.comb.k = true ∧
      running.tim.dt ≤ running.cellStart (cell r) running.comb.k := by decide +kernel
  exact ⟨(key r h).1, rfl, (key r h).2.1, rfl, (key r h).2.2.1, (key r h).2.2.2, rfl⟩

theorem witness_Clear : Clear running := ⟨rfl, all_chans _ (by decide), rfl, by decide⟩

theorem witness_NoCellWithoutComb : lab.cellsRun = false ∧ lab.rcd.win = none := ⟨by decide +kernel, rfl⟩

theorem witness_ControlCycleCells :
    running.comb.cyc.live = true ∧ running.sup.bank = some { fedImg with panel := some anyPanel } ∧
    { fedImg with panel := some anyPanel }.logic.tasks[(cell 1).act]? = some ⟨0, 1, 10⟩ ∧ running.runsChn .a = true := ⟨rfl, rfl, rfl, rfl⟩

/-- Three, two or one channels vote, with ballots for the one point; the third may differ. -/
def balloting (n w : Nat) : State :=
  let st : Nat → Chan := fun i => { Chan.reset with st := if i < n then .voting else .excluded }
  let b : Word → Posted := fun v => ⟨[(0, [v])], none, none⟩
  { running with chn := { Chn.reset with ch := ⟨st 0, st 1, st 2⟩ }, vot := { Voter.reset with posted := ⟨b 7, b (BitVec.ofNat 32 w), b 9⟩ } }

theorem witness_VotesAndCheckpoints :
    (∀ i, ((balloting 3 8).chan i).marks = []) ∧
    (∀ n ∈ [3, 2, 1], ∀ w ∈ [7, 8], let s := balloting n w
      s.chn.trying = none ∧ s.comb.cyc.live = true ∧ (∀ sl ∈ [Slice.field, .axis, .bank, .solver, .analog], s.runs (sliceIsland sl) = true) ∧
      (0, (⟨5, 1, 0, 0, 0, [0]⟩ : Point)) ∈ s.pointList ∧ s.indexForced ⟨5, 1, 0, 0, 0, [0]⟩ = false ∧
      s.counted = [ChId.a, .b, .c].take n ∧ s.ballot .a 0 = some [7] ∧ s.ballot .b 0 = some [BitVec.ofNat 32 w] ∧ s.ballot .c 0 = some [9]) :=
  ⟨all_chans _ (by decide), by decide +kernel⟩

theorem witness_VotesAndCheckpoints_silent :
    let s := { running with vot := Voter.reset }
    let t := { balloting 2 7 with vot := { Voter.reset with posted := ⟨⟨[(0, [7])], none, none⟩, Posted.none, Posted.none⟩ } }
    (∀ i, s.ballot i 0 = none) ∧ t.counted = [.a, .b] ∧ t.ballot .a 0 = some [7] ∧ t.ballot .b 0 = none :=
  ⟨all_chans _ (by decide +kernel), by decide +kernel, rfl, rfl⟩

theorem witness_VotesAndCheckpoints_ckpt :
    running.counted.head? = some .a ∧ (∀ j ∈ running.counted, (running.chan j).retCrc fedImg.logic.retWords = (running.chan .a).retCrc fedImg.logic.retWords ∧
      running.runsChn j = true) ∧ running.newestCkpt = none := by decide +kernel

/-- A dispatch problem beside the hydraulic one. -/
def solving : State :=
  { running with slv := { running.slv with
      disp := { DispSt.reset with defn := some (default : DispDef) }
      hyd := { running.slv.hyd with pub := { PubBuf.reset with dt := dtOrigin }, prev := { PubBuf.reset with dt := 5 } } } }
theorem witness_SolverCells :
    solving.runs .slv = true ∧ solving.slv.hyd.defn = some hydDef ∧ solving.slv.disp.defn = some default ∧
    solving.slv.hyd.topo = none ∧ solving.slv.disp.topo = none ∧ solving.slv.hyd.pub.dt < solving.cellStart (cell 8) solving.comb.k ∧
    ¬ (0 < solving.slv.laneTest ∨ 0 < solving.slv.hyd.rebuild) ∧
    (let s := { solving with slv := { solving.slv with hyd := { solving.slv.hyd with pub := { PubBuf.reset with dt := dtOrigin + 2000000 } } } }
     s.cellStart (cell 8) s.comb.k ≤ s.slv.hyd.pub.dt ∧ s.slv.hyd.prev.dt < s.cellStart (cell 8) s.comb.k) := by decide +kernel

theorem witness_SolverEvents :
    solving.pwr.power = .service ∧
    ({ solving with slv := { solving.slv with hyd := { solving.slv.hyd with topo := some (3, hydDef, false) } } }).slv.hyd.topo = some (3, hydDef, false) ∧
    solving.runs .slv = true := ⟨rfl, rfl, by decide +kernel⟩

/-- A committed swap at the boundary. -/
def swapping : State :=
  { running with sup := { running.sup with armed := some ⟨1, 946684800, true, true, ⟨true, true, true⟩, none⟩, staged := some img } }
theorem witness_BoundariesSwapsOverruns :
    (let s := running
     s.dtLive = true ∧ 0 < s.hNs ∧ s.comb.cstate = 2 ∧ s.sup.armed = none ∧ s.tim.stepDue = none ∧ s.mgt.haltDue = false ∧ s.mgt.run = .run ∧
      s.mgt.fenceWait = [] ∧ s.key.jobs = [] ∧ s.mgt.auth = none ∧ lab.hNs = 0 ∧ s.swapDue = false) ∧
    (let s := swapping
     s.swapDue = true ∧ s.tim.dt = hpStart s.hNs s.pNs s.comb.k ∧ s.sup.armed = some ⟨1, 946684800, true, true, ⟨true, true, true⟩, none⟩ ∧
      s.sup.staged = some img ∧ s.sup.bank.isSome = true ∧ s.votingCount ≠ 0 ∧ ∀ i ∈ ChId.all, (⟨true, true, true⟩ : Tri Bool).get i = true) ∧
    (let s := { running with chn := { Chn.reset with ch := { voters with a := { voters.a with scan := some { scan0 with e := 1 } } } } }
     s.openScan = some 1 ∧ s.comb.cstate = 2 ∧ s.comb.open_ = [] ∧ s.stn.cells = [] ∧ ∀ x ∈ s.adc.conv, x.run = none) := by decide +kernel

/-- A voted value of the one point, which is an output of class `c`. -/
def driving (c : Nat) : State :=
  { running with
    sup := { running.sup with bank := some { fedImg with points := [⟨c, 1, 15, 0, 0, [0]⟩] } }
    vot := { Voter.reset with voted := [(0, [5])], feedsTaken := true } }
theorem witness_OutputCells :
    ∀ c ∈ [1, 2, 3], let s := driving c
      s.runs .axs = true ∧ s.vot.feedsTaken = true ∧ (0, (⟨c, 1, 15, 0, 0, [0]⟩ : Point)) ∈ s.pointList ∧ s.forced ⟨c, 1, 15, 0, 0, [0]⟩ = false ∧
      s.vot.voted.find? (fun v => v.1 = 0) = some (0, [5]) ∧ s.axDef? 15 = some anyAxis ∧ bitOf (1 % 16) anyAxis.group = true ∧
      (s.axDef? 0).isSome = false := by decide +kernel
theorem witness_OutputCells_opens :
    Opens { driving 1 with sup := { (driving 1).sup with bank := some { fedImg with points := [⟨1, 1, 15, 0, 0, [0]⟩] } } } 0x10 (cell 0x10) 0x10 ∧
    Opens (driving 3) 0x0E (cell 0x0E) 0x0E :=
  ⟨⟨rfl, rfl, by decide +kernel, rfl, by decide +kernel, by decide +kernel, rfl⟩,
   ⟨rfl, rfl, by decide +kernel, rfl, by decide +kernel, by decide +kernel, rfl⟩⟩
/-- A command cell for axis group 0. -/
def axsEntry : CombEntry := ⟨1, 1000, 100, 1, 0, 0x0F, 1⟩
theorem witness_OutputCells_command :
    Opens { driving 3 with sup := { (driving 3).sup with bank := some { fedImg with comb := { fedImg.comb with entries := [axsEntry] } } } } 0 axsEntry 0x0F :=
  ⟨rfl, rfl, by decide +kernel, rfl, by decide +kernel, by decide +kernel, rfl⟩

def anySeq : AdcSeq := ⟨0, 3, true, 8, [5]⟩
def pending1 : PnlRegSt := { PnlRegSt.reset with pend := some ⟨1, 1, zeros 128⟩ }
theorem witness_WorkCells :
    (let s := running
     s.runs .key = true ∧ s.key.win = none ∧ s.rcd.win = none ∧ s.runs .hst = true ∧ s.runs .pnl = true ∧ s.panel? = some anyPanel ∧
      s.runs .adc = true ∧ s.runs .field = true ∧ s.stn.cells = [] ∧ (∀ y ∈ s.adc.conv, y.run = none) ∧ 3 < s.adc.conv.length ∧
      (cell 0x1B).act % 256 ≠ 255 ∧ linkOf 0x20 = some 0 ∧ linkOf 0x57 = some 0x37 ∧ linkOf 0x58 = some 0x40 ∧ linkOf 0x5F = some 0x47) ∧
    [anySeq].find? (fun y => decide (y.seqno = (cell 0x1B).act % 256) && decide (y.adc = 3)) = some anySeq ∧ anySeq.inter = true ∧
    ({ running with sup := { running.sup with bank := some { fedImg with analog := some ⟨false, [], [], [anySeq]⟩ } } }).analog?.isSome = true ∧
    (let s := { running with pnl := { Pnl.reset with regs := pending1 :: List.replicate 15 PnlRegSt.reset } }
     0 < s.pnl.regs.length ∧ s.mayStart anyPanel 0 = true ∧ s.mayStart anyPanel 1 = false ∧
      (48 : Rat) * s.pnlCyc + (500 + 5 * s.startSize anyPanel 0 : Nat) ≤ (((cell 0x13).len : Nat) * 1000 - 21 : Rat) * (99979 / 100000)) := by
  decide +kernel

/-! ### Metering, axes, stations, links -/

def meter : MeterDef := { (default : MeterDef) with intvS := 900, mckDiv := [1] }
/-- Metering runs; an interval is open. -/
def interval : Intv := ⟨dtOrigin + 900000000000, [], [], none, [], [], [], false, false, false, false, false, 0⟩
def metering (f : SMap (List (Nat × Option Nat))) : State :=
  { running with
    sup := { running.sup with bank := some { fedImg with meter := some meter } }
    mtr := { Mtr.reset with running := true, cur := some interval, perEnd := dtOrigin + 1, flt := f } }
theorem witness_MeteringFollowsBlocks :
    lab.mtr.running = false ∧
    (∀ f ∈ [([] : SMap (List (Nat × Option Nat))), [(47, [(5, none)])]], let s := metering f
      s.mtr.running = true ∧ s.runs .mtr = true ∧ s.dtLive = true ∧ s.mtr.cur = some interval ∧ s.mtr.wait = [] ∧
      dtOrigin + 899999999999 < interval.stop ∧ s.meter? = some meter ∧ 0 < s.mtr.perEnd ∧ 0 < meter.lenNs ∧ s.comb.open_ = []) ∧
    SMap.get dSpans (metering [(47, [(5, none)])]).mtr.flt 47 = (5, none) :: [] := by decide +kernel
theorem witness_MeteringFollowsBlocks_cells : Opens (metering []) 0x0C (cell 0x0C) 0x0C ∧ Opens (metering []) 0x0D (cell 0x0D) 0x0D :=
  ⟨⟨rfl, rfl, by decide +kernel, rfl, by decide +kernel, by decide +kernel, rfl⟩,
   ⟨rfl, rfl, by decide +kernel, rfl, by decide +kernel, by decide +kernel, rfl⟩⟩

/-- Axis 15 in motion, at its target or short of it. -/
def moving (pos : Int) : State :=
  { fullIn .halt with axs := { Axs.reset with ax := List.replicate 16 { Ax.reset with moving := true, up := true, job := .move, pos := pos, target := 10, seq := some 3 } } }
theorem witness_AxisEvents :
    (∀ p ∈ [9, 10], let s := moving p
      s.axUp = true ∧ s.axDef? 15 = some anyAxis ∧ 15 < s.axs.ax.length ∧ (s.ax 15).moving = true ∧ (s.ax 15).lead = none ∧ s.interOf 15 = none ∧
      s.inter? anyAxis.group = none ∧ (s.ax 15).done anyAxis = decide (p = 10) ∧ (s.ax 15).job = .move ∧ (s.ax 15).next = .none ∧
      true ≠ (s.ax 15).refSw ∧ true ≠ (s.ax 15).limP ∧ true ≠ (s.ax 15).limN) ∧
    ((fullIn .halt).ax 15).moving = false ∧ (fullIn .halt).axes? = some ⟨List.replicate 4 false, [anyAxis], List.replicate 16 100⟩ ∧
    (List.replicate 16 100).getD 15 0 ≠ 0 ∧ 15 < (fullIn .halt).axs.pwm.length := by decide +kernel

/-- An answer of a station, and a frame that is none. -/
def message (b : List Byte) : WfpMsg := ⟨3, 9, .can 2 0 true, b⟩
def answering (b : List Byte) : State := { running with stn := { Stn.reset with inbox := [message b] } }
def readCell : StnCell := ⟨21, 0, true, dtOrigin + 1100000, [7], none, false⟩
def station : StnSt := ⟨0, .present, 0, none, [], none, none, none, false, false, some ⟨true, 22, 0, .none⟩⟩
/-- A converter with a conversion under way, on an image with analogue inputs. -/
def conversion : AdcRun := ⟨23, dtOrigin + 1100000, false, [], some ⟨63, none, 60587827264000⟩, 4, [], 0, [], 0, 0⟩
def converting : State :=
  { running with sup := { running.sup with bank := some { fedImg with analog := some ⟨false, [], [], []⟩ } }
                 adc := { Adc.reset with conv := List.replicate 4 { AdcConv.reset with run := some conversion } } }
theorem witness_StationsAndConverters :
    (let s := { running with stn := { Stn.reset with cells := [readCell] } }
     s.stn.cells = [readCell] ∧ readCell.groups.head? = some 7 ∧ s.groupDef? 7 = some { (default : GroupDef) with group := 7 } ∧ s.cellsRun = true ∧
      s.runs .field = true ∧ readCell.slot = none ∧ s.tim.dt < readCell.stop) ∧
    running.firstMsg 3 = none ∧ (answering []).firstMsg 3 = some (message []) ∧ (message []).malformed = true ∧
    (answering []).senderOf (message []) = none ∧ running.stnDef? 0 = none ∧
    (let b : List Byte := BitVec.ofNat 8 msgAnswer :: zeros 7
     (answering b).firstMsg 3 = some (message b) ∧ (message b).malformed = false) ∧
    (let s := { running with stn := { Stn.reset with st := [(4095, some station)] } }
     s.stnDef? 4095 = some anyStn ∧ anyStn.stn = 4095 ∧ s.stnSt? 4095 = some station ∧ station.exch.isSome = true ∧ s.stn.cells = [] ∧
      s.writeInTx 4095 = false) ∧
    (let s := converting
     s.analog?.isSome = true ∧ (s.adcConv 3).run = some conversion ∧ conversion.inter = false ∧ s.cellsRun = true ∧ s.runs .adc = true ∧
      cycNs (60587827264000 + 32) < conversion.stop ∧ 3 < s.adc.conv.length ∧ s.adc.refBad = none) := by decide +kernel

/-- C55, with a frame armed, sent, or in a state of error. -/
def anyCan : CanChDef := { (default : CanChDef) with chan := 55, recovMs := 0 }
def object : CanObj := ⟨.host, false, false, false, false, 5, [], 0, false, 0, false⟩
def canIn (e : CanErr) (armed : List CanObj) (tx : Option CanObj) : State :=
  { fullIn .run with
    sup := { (fullIn .run).sup with bank := some { fedImg with can := [anyCan] } }
    can := ⟨List.replicate 56 { CanCh.reset with est := e, armed := armed, tx := tx, tec := 250 }⟩ }
theorem witness_CanControllers :
    (let s := canIn .active [object] none
     s.stn.cells = [] ∧ 55 < s.can.ch.length ∧ s.canMaySend 55 dtOrigin = true ∧ (s.canCh 55).armed = object :: [] ∧ s.canNormal 55 = true ∧
      s.canUp 55 = true ∧ s.canDef? 55 = some anyCan ∧ (s.canCh 55).est = .active) ∧
    (canIn .active [] none).canMaySend 55 dtOrigin = false ∧ ((canIn .active [] (some object)).canCh 55).tx = some object ∧
    ((canIn .passive [] (some object)).canCh 55).est = .passive ∧ ((canIn .boffWait [] none).canCh 55).est = .boffWait ∧
    ((canIn .boffRec [] none).canCh 55).est = .boffRec ∧ (∀ n ∈ [0, 1, 8], n ∈ [0, 1, 8]) ∧ 255 < 250 + 8 := by decide +kernel
theorem witness_CanControllers_wake :
    let s := { fullIn .run with
      pwr := { Pwr.reset with power := .dormantOrderly }, regs := [(0x6010, 0x80000005), (0x6014, 0x7FF)]
      sup := { Sup.reset with s0 := ⟨.active, 0, [(54, 1), (256, 0x0B), (261, 2), (265, 4), (512, 1), (516, 0)]⟩ } }
    s.pwr.power = .dormantOrderly ∧ s.wakeMatch ⟨false, false, false, false, false, 5, []⟩ = true ∧
    s.wakeMatch ⟨false, false, false, false, false, 6, []⟩ = false ∧ s.canWake .al0 = false := by decide +kernel

/-- E7, not protected, not redundant; and in a pair. -/
def plainPort (r : Nat) : EthPortDef := { (default : EthPortDef) with port := 7, red := r }
def linkedAt (r : Nat) (busy : Option (EthFrm × Nat)) : State :=
  { fullIn .run with
    sup := { (fullIn .run).sup with bank := some { fedImg with eth := [plainPort r] } }
    eth := ⟨List.replicate 8 { EthPort.reset with link := true, busy := busy }, [], none⟩ }
def wfpFrame : EthFrm := ⟨.host 3, [], 0, false, 0, false, false⟩
theorem witness_EthernetPorts :
    (let s := linkedAt 0 (some (wfpFrame, 5))
     s.stn.cells = [] ∧ 7 < s.eth.ports.length ∧ s.portUp 7 = true ∧ s.ethDef? 7 = some (plainPort 0) ∧ (s.port 7).link = true ∧
      (plainPort 0).macsec = false ∧ (plainPort 0).red = 0 ∧ (plainPort 0).members = [7] ∧ (s.port 7).busy = some (wfpFrame, 5)) ∧
    (linkedAt 1 none).portUp 7 = true ∧ (linkedAt 1 none).ethDef? 7 = some (plainPort 1) ∧ 7 ∈ (plainPort 1).members ∧
    (1560 < 1561 ∨ ether.fcsOk = false) ∧ ¬ (1560 < ether.len ∨ ether.fcsOk = false) ∧ (fullIn .run).dormAnswers 0 = false := by decide +kernel

/-! ### Host interface, registers, always-on units, keys, panel -/

def read1 : HostRead := ⟨0, 1, 0, false⟩
def pairRunning (sig : Bool) : State :=
  { lab with hst := { lab.hst with qps := [{ adminQp with sig := sig, holdoff := true }], reads := [read1] } }
theorem witness_HostInterfaceEvents :
    lab.ringIndexOk 0 16 = false ∧ lab.ringIndexOk 0 15 = true ∧ lab.ringIndexOk 63 65535 = true ∧ lab.ringIndexOk 63 65536 = false ∧
    lab.qp? 0 = some adminQp ∧ lab.runs .hst = true ∧ (pairRunning true).hst.reads = read1 :: [] ∧ read1.late = false ∧
    ((pairRunning true).qp? read1.qp).isSome = true ∧ (pairRunning true).continuous = true ∧ lab.hst.link = true ∧ lab.barOk = true ∧
    lab.fld 0x34 0 0 ≠ 1 ∧ ({ lab with regs := [(0x34, 1)] } : State).fld 0x34 0 0 ≠ 0 ∧ (∀ x ∈ [true, false], ∃ q, (pairRunning x).qp? 0 = some q ∧ q.ien = true ∧
      q.sig = x ∧ (pairRunning x).hst.msixMask.contains q.vector = false) := by
  refine ⟨by decide +kernel, by decide +kernel, by decide +kernel, by decide +kernel, rfl, by decide +kernel, rfl, rfl, rfl, by decide +kernel, rfl,
    by decide +kernel, by decide +kernel, by decide +kernel, fun x _ => ⟨_, rfl, rfl, rfl, rfl⟩⟩
theorem witness_HostInterfaceEvents_staging :
    (armedBy false).sup.armed = some ⟨1, 946684803, false, true, ⟨true, true, true⟩, none⟩ ∧ (armedBy false).pwr.power = .service := ⟨rfl, rfl⟩

theorem witness_RegisterWritesReachFields :
    lab.barOk = true ∧ (0x4000 % 4 = 0 ∧ ownWrite 0x4000 = false ∧ lab.admitsWrite 0x4000 0x648201 = true) ∧
    ((fullIn .run).barOk = true ∧ (fullIn .run).admitsWrite 0x4000 0x648201 = true) ∧
    (ownWrite 0x20 = false ∧ lab.admitsWrite 0x24 0xFFF = false) ∧ 0xFFFE % 4 ≠ 0 ∧ lab.mgt.run ≠ .run ∧ 0 < lab.clk.mons.length := by decide +kernel

/-- Records staged, and the calendar with a setting waiting for the end of its second. -/
def recording (n : Nat) : State := { lab with rcd := { Rec.reset with staging := List.replicate n ⟨0, 3, zeros 52⟩ } }
def calendar : State := { lab with rtc := { Rtc.reset with ptp := [⟨1, 946684801, 5⟩] } }
theorem witness_RecorderAndCalendar :
    lab.pwr.power ≠ .off ∧ (recording 1).rcd.staging.length < 1024 ∧ (recording 1).mgt.run ≠ .run ∧ (recording 1).mayCommit = true ∧
    (recording 1).rcd.sign = none ∧ (recording 1).rcd.staging = ⟨0, 3, zeros 52⟩ :: [] ∧ (recording 1).rcd.stored.length < recPlaces ∧
    lab.calendarRuns = true ∧ lab.rtc.ptp = [] ∧ lab.rtc.waiting = [] ∧
    (let s := calendar
     s.rtc.ptp = [⟨1, 946684801, 5⟩] ∧ s.rtc.waiting = [] ∧ s.calendarRuns = true ∧ 946684801 * 1000000000 ≤ s.secondEnd ∧ s.dtLive = true ∧
      s.tim.dt ≤ 946684801 * 1000000000 ∧ 946684801 * 1000000000 < 2 ^ 64 ∧ (5 : Int) < rangeSecs) := by decide +kernel
theorem witness_RecorderAndCalendar_full : ¬ (recording 1024).rcd.staging.length < 1024 := by
  rw [show (recording 1024).rcd.staging.length = 1024 from List.length_replicate ..]; decide

/-- Key work at the head of the queue in continuous work. -/
def working (w : KeyWork) (a : Option AuthWait) : State :=
  { fullIn .halt with key := { Key.reset with ready := true, jobs := [⟨w, [], false⟩] }, mgt := { Mgt.reset with run := .halt, auth := a } }
def waitingAuth (c : Instr) : AuthWait := ⟨4, c, none⟩
theorem witness_KeyWorkAndAuthorisation :
    (let s := working (.identity 4) none
     s.mgt.fenceWait = [] ∧ s.key.jobs = [⟨.identity 4, [], false⟩] ∧ s.takeJob = some (⟨.identity 4, [], false⟩, { s with key := { s.key with jobs := [] } })) ∧
    lab.takeJob = none ∧ lab.runs .key = true ∧ lab.mgt.chal = none ∧ lab.dtLive = true ∧ dtOrigin + chalNs < 2 ^ 64 := by
  refine ⟨⟨rfl, rfl, rfl⟩, rfl, by decide +kernel, rfl, by decide +kernel, by decide⟩
/-- A SETUP that waits: refused where its block is empty; with a block that verifies it is not. -/
theorem witness_KeyWorkAndAuthorisation_setup (b : List Byte) :
    let s := working .auth (some (waitingAuth (.setup hdr b)))
    let s1 := { s with key := { s.key with jobs := [] } }
    s.takeJob = some (⟨.auth, [], false⟩, s1) ∧ s.mgt.auth = some (waitingAuth (.setup hdr b)) ∧
    s1.takes (hostOpc (.setup hdr b)) = true ∧ s1.rowStatus (.setup hdr b) = 0 ∧
    (b = [] → s1.authStatus (waitingAuth (.setup hdr b)) ≠ 0) ∧
    (s1.authStatus (waitingAuth (.setup hdr b)) = 0 → ¬ (s1.takes (hostOpc (.setup hdr b)) = false ∨
      s1.authStatus (waitingAuth (.setup hdr b)) ≠ 0 ∨ s1.rowStatus (.setup hdr b) ≠ 0)) := by
  refine ⟨rfl, rfl, rfl, rfl, fun h => ?_, fun h => ?_⟩
  · subst h; decide
  · rintro (x | x | x)
    · cases x
    · exact x h
    · exact x rfl

/-- An update that has driven no frame yet, or all of them. -/
def update (p : Nat) : PnlRun := ⟨none, false, 0, 0, [], 1, ⟨2, 0, [], []⟩, ⟨0, 0, 16, 16⟩, 1, 1, dtOrigin, p⟩
def panelIn (r : Rails) (p : Nat) : State :=
  { fullIn .setup with pnl := { Pnl.reset with rails := r, regs := { PnlRegSt.reset with run := some (update p) } :: List.replicate 15 PnlRegSt.reset } }
theorem witness_PanelEvents :
    (let s := panelIn .up 1
     s.pnlOn = true ∧ s.pnl.rails = .up ∧ 0 < s.pnl.regs.length ∧ (s.preg 0).run = some (update 1) ∧ (update 1).phase < (update 1).total ∧
      (update 1).first ≤ s.tim.dt ∧ s.panel? = some anyPanel ∧ 0 ≤ anyPanel.crkMax ∧ ∀ q ∈ List.range 17, q ≠ 0 → (s.preg q).driven = false) ∧
    (update 2).total ≤ (update 2).phase ∧ ((panelIn .up 2).preg 0).pend = none ∧ ((panelIn .up 2).preg 0).work = false ∧
    (panelIn .rising 0).pnl.rails = .rising ∧ (panelIn .rising 0).pnl.closing = false := by decide +kernel

theorem witness_UnitsKeepToThemselves : lab.stn.cells = [] ∧ Instr.bleedEnd ∈ [Instr.ptpMessageReceive ⟨0, 0, 0, .sync 0⟩, .syncIntervalEnd .pri, .bleedEnd] :=
  ⟨rfl, by decide⟩
theorem witness_Canonical : Canonical State.reset ∧ Canonical armable := by
  refine ⟨⟨rfl, rfl, rfl⟩, ⟨rfl, rfl, by decide +kernel⟩⟩

/-! ## One step against worked values of the spec -/

/-- The command answers a next state of which `p` holds. -/
def after (c : Instr) (s : State) (p : State → Bool) : Bool := match exec c s with
  | .next t => p t
  | .fault _ => false
  | .refused _ => false

/-- The interlock of 06 Table 6-10, its words as printed there. -/
theorem test_decode_interlock :
    ∀ p ∈ ([(.ldq 0x1A10, 0x34601A10), (.eq (.imm 0), 0x60E00000), (.andOpen, 0x70000000), (.ldw (.snap 0x1A12), 0x30601A12),
        (.gt (.const 0x40), 0x64400040), (.closeParen, 0x77000000), (.ldw (.imm 300), 0x30E0012C), (.ton 161, 0x800000A1),
        (.st (.bit 0x2C40), 0x18002C40), (.btow, 0x26000000), (.stw (.out 0x123), 0x32800123)] : List (Instr × Nat)),
      lgeDecode p.2 = some p.1 ∧ lgeEncode p.1 = some p.2 := by decide +kernel

/-- One word per opcode of 06 Table 6-7, its fields written out: OPCODE in bits 31:24, SP in 23:21 or INDEX in 13:0. -/
theorem test_decode_opcodes :
    ∀ p ∈ ([(.nop, 0x00000000), (.endScan, 0x01000000), (.jc 5, 0x03000005), (.jnc 7, 0x04000007), (.ldix, 0x05000000), (.stix, 0x06000000),
        (.ldn (.req 3), 0x11A00003), (.and (.bit 1), 0x12000001), (.andn (.bit 1), 0x13000001), (.or (.bit 1), 0x14000001),
        (.orn (.bit 1), 0x15000001), (.xor (.bit 1), 0x16000001), (.xorn (.bit 1), 0x17000001), (.stn (.req 1), 0x19A00001),
        (.set (.bit 1), 0x1A000001), (.rst (.bit 1), 0x1B000001), (.not, 0x20000000), (.setba, 0x21000000), (.clrba, 0x22000000),
        (.ldov, 0x23000000), (.lddz, 0x24000000), (.ldif, 0x25000000), (.wtob, 0x27000000), (.tbit 3, 0x28000003), (.sbit 31, 0x2900001F),
        (.ldwx (.sys 2), 0x31C00002), (.stwx (.word 2), 0x33200002), (.ldage 5, 0x35600005), (.sub (.word 1), 0x41200001),
        (.mul (.const 1), 0x42400001), (.div (.snap 1), 0x43600001), (.mod (.out 1), 0x44800001), (.min (.sys 1), 0x45C00001),
        (.max (.imm 1), 0x46E00001), (.andw (.imm 1), 0x47E00001), (.orw (.imm 1), 0x48E00001), (.xorw (.imm 1), 0x49E00001),
        (.shl (.imm 1), 0x4AE00001), (.shr (.imm 1), 0x4BE00001), (.asr (.imm 1), 0x4CE00001), (.qmul (.imm 1), 0x50E00001),
        (.qdiv (.imm 1), 0x51E00001), (.itoq, 0x52000000), (.qtoi, 0x53000000), (.neg, 0x54000000), (.abs, 0x55000000), (.notw, 0x56000000),
        (.ne (.imm 1), 0x61E00001), (.lt (.imm 1), 0x62E00001), (.le (.imm 1), 0x63E00001), (.ge (.imm 1), 0x65E00001),
        (.orOpen, 0x71000000), (.xorOpen, 0x72000000), (.addOpen, 0x73000000), (.subOpen, 0x74000000), (.mulOpen, 0x75000000),
        (.qmulOpen, 0x76000000), (.tof 1, 0x81000001), (.tp 1, 0x82000001), (.trst 1, 0x83000001), (.ldet 1, 0x84000001), (.ctu 1, 0x90000001),
        (.ctd 1, 0x91000001), (.crst 1, 0x92000001), (.cld 1, 0x93000001), (.ldcv 1, 0x94000001), (.redge 1, 0xA0000001),
        (.fedge 1, 0xA1000001)] : List (Instr × Nat)), lgeDecode p.2 = some p.1 := by decide +kernel

/-- Opcodes not listed, a bit space no word operand has, and fields that must be zero spell nothing (06 R177). -/
theorem test_decode_refuses :
    ∀ w ∈ [0x07000000, 0x30A00000, 0x10200000, 0x32600000, 0x31E00000, 0x00000001, 0x02000000, 0x80004000, 0x28000020, 0xFF000000, 0x34200000],
      lgeDecode w = none := by decide +kernel

/-- A bench whose channel A holds BA and WA. -/
def holding (ba : Bool) (wa : Int) : State := bench { Chan.reset with ba := ba, wa := BitVec.ofInt 32 wa }

/-- Word arithmetic: WA, operand, then WA, OV, DZ and the cycles used (06 R180, Table 6-7). -/
theorem test_arithmetic :
    ∀ p ∈ ([(.add (.imm 1), 2147483647, 2147483647, true, false, 2), (.sub (.imm 1), -2147483648, -2147483648, true, false, 2),
        (.add (.imm (-5)), 3, -2, false, false, 2), (.mul (.imm (-3)), 7, -21, false, false, 3), (.mul (.imm 65536), 65536, 2147483647, true, false, 3),
        (.div (.imm 2), -7, -3, false, false, 18), (.mod (.imm 2), -7, -1, false, false, 18), (.div (.imm 0), -7, -2147483648, false, true, 18),
        (.div (.imm 0), 0, 0, false, true, 18), (.mod (.imm 0), -7, 0, false, true, 18), (.div (.imm (-1)), -2147483648, 2147483647, true, false, 18),
        (.mod (.imm (-1)), -2147483648, 0, false, false, 18), (.qmul (.imm 163840), 98304, 245760, false, false, 4),
        (.qmul (.imm 32768), 1, 0, false, false, 4), (.qmul (.imm 32768), 3, 2, false, false, 4), (.qdiv (.imm 131072), 98304, 49152, false, false, 20),
        (.qdiv (.imm 0), 5, 2147483647, false, true, 20), (.itoq, -2, -131072, false, false, 1), (.itoq, 32768, 2147483647, true, false, 1),
        (.qtoi, 163840, 2, false, false, 2), (.qtoi, 229376, 4, false, false, 2), (.qtoi, -98304, -2, false, false, 2),
        (.neg, -2147483648, 2147483647, true, false, 1), (.abs, -2147483648, 2147483647, true, false, 1), (.abs, -9, 9, false, false, 1)] :
        List (Instr × Int × Int × Bool × Bool × Nat)),
      after p.1 (holding false p.2.1) (fun t => let c := t.chan .a
        decide (c.wa.toInt = p.2.2.1) && (c.ov == p.2.2.2.1) && (c.dz == p.2.2.2.2.1) &&
        decide (c.scan = some { scan0 with pc := 6, cyc := 64 + p.2.2.2.2.2 })) = true := by decide +kernel

/-- Bitwise words and shifts by the operand mod 32 (06 Table 6-7). -/
theorem test_bitwise :
    ∀ p ∈ ([(.andw (.imm 0x0F0), 0xFF, 0xF0), (.orw (.imm 0x0F00), 0xFF, 0xFFF), (.xorw (.imm 0x0FF), 0xF0F, 0xFF0), (.shl (.imm 33), 1, 2),
        (.shr (.imm 32), -1, -1), (.shr (.imm 31), -1, 1), (.asr (.imm 4), -32, -2), (.notw, 0, -1), (.min (.imm (-1)), 5, -1), (.max (.imm (-1)), -5, -1),
        (.btow, 9, 0)] : List (Instr × Int × Int)),
      after p.1 (holding false p.2.1) (fun t => decide ((t.chan .a).wa.toInt = p.2.2) && !(t.chan .a).ov) = true := by decide +kernel

/-- Comparisons are signed; TBIT and WTOB look at WA (06 Table 6-7). -/
theorem test_comparisons :
    ∀ p ∈ ([(.eq (.imm 5), 5, true), (.ne (.imm 5), 5, false), (.lt (.imm 1), -2147483648, true), (.le (.imm (-1)), -1, true),
        (.gt (.imm (-1)), 0, true), (.ge (.imm 0), -1, false), (.tbit 31, -1, true), (.tbit 0, -2, false), (.wtob, 4, true), (.wtob, 0, false)] :
        List (Instr × Int × Bool)),
      after p.1 (holding false p.2.1) (fun t => (t.chan .a).ba == p.2.2) = true := by decide +kernel

/-- Bits: load, combine, store, each with BA before and after and the bit before (06 Table 6-7). -/
theorem test_bits :
    ∀ p ∈ ([(.ld (.bit 4), false, true, true), (.ldn (.bit 4), true, true, false), (.and (.bit 4), true, false, false), (.andn (.bit 4), true, true, false),
        (.or (.bit 4), false, true, true), (.orn (.bit 4), false, false, true), (.xor (.bit 4), true, true, false), (.xorn (.bit 4), true, true, true)] :
        List (Instr × Bool × Bool × Bool)),
      after p.1 (bench { Chan.reset with ba := p.2.1, mem := { ChMem.empty with bits := SMap.set dBit [] 4 p.2.2.1 } })
        (fun t => (t.chan .a).ba == p.2.2.2) = true := by decide +kernel
theorem test_stores :
    ∀ p ∈ ([(.st (.req 9), true, true), (.stn (.req 9), true, false), (.set (.req 9), false, false), (.set (.req 9), true, true),
        (.rst (.req 9), true, false)] : List (Instr × Bool × Bool)),
      after p.1 (bench { Chan.reset with ba := p.2.1 }) (fun t => (t.chan .a).readBit (.req 9) == p.2.2) = true := by decide +kernel

/-- The interlock's timer: an input true for 300,000 µs in steps of 100,000 µs expires at the end of its window (06 Table 6-11). -/
def timing (et : Nat) (tt : Bool) : State :=
  bench { Chan.reset with ba := true, wa := 300, mem := { ChMem.empty with timers := SMap.set dTimer [] 161 ⟨et, tt, false⟩ } }
theorem test_interlock_timer :
    ∀ p ∈ [(0, false, 0, false), (0, true, 10000, false), (280000, true, 290000, false), (290000, true, 300000, true)],
      after (.ton 161) (timing p.1 p.2.1) (fun t => decide ((t.chan .a).timer 161 = ⟨p.2.2.1, true, p.2.2.2⟩) && ((t.chan .a).ba == p.2.2.2)) = true := by
  decide +kernel
/-- A pulse runs to its end whatever its input does; TOF holds Q while its window runs (06 R181). -/
theorem test_pulse_and_off_delay :
    after (.tp 0) (bench { Chan.reset with ba := false, wa := 300, mem := { ChMem.empty with timers := SMap.set dTimer [] 0 ⟨5, true, true⟩ } })
      (fun t => decide ((t.chan .a).timer 0 = ⟨10005, false, true⟩)) = true ∧
    after (.tof 0) (bench { Chan.reset with ba := false, wa := 10, mem := { ChMem.empty with timers := SMap.set dTimer [] 0 ⟨0, false, true⟩ } })
      (fun t => decide ((t.chan .a).timer 0 = ⟨10000, false, false⟩)) = true ∧
    after (.trst 0) (bench { Chan.reset with ba := true, mem := { ChMem.empty with timers := SMap.set dTimer [] 0 ⟨5, true, true⟩ } })
      (fun t => decide ((t.chan .a).timer 0 = ⟨0, false, false⟩)) = true ∧
    after (.ldet 0) (bench { Chan.reset with mem := { ChMem.empty with timers := SMap.set dTimer [] 0 ⟨5999, true, true⟩ } })
      (fun t => decide ((t.chan .a).wa = 5)) = true := by decide +kernel

/-- Counters count rising inputs after their first execution and saturate; edges need two executions (06 R183, R184). -/
def counting (u : Counter) (m : Edge) (wa : Int) : State :=
  bench { Chan.reset with ba := true, wa := BitVec.ofInt 32 wa,
                          mem := { ChMem.empty with counters := SMap.set dCounter [] 3 u, edges := SMap.set dEdge [] 3 m } }
theorem test_counters :
    after (.ctu 3) (counting ⟨7, false, false, true⟩ ⟨false, false⟩ 8) (fun t => decide ((t.chan .a).counter 3 = ⟨8, true, true, true⟩)) = true ∧
    after (.ctu 3) (counting ⟨7, false, false, false⟩ ⟨false, false⟩ 8) (fun t => decide ((t.chan .a).counter 3 = ⟨7, false, true, true⟩)) = true ∧
    after (.ctd 3) (counting ⟨1, false, false, true⟩ ⟨false, false⟩ 0) (fun t => decide ((t.chan .a).counter 3 = ⟨0, true, true, true⟩)) = true ∧
    after (.crst 3) (counting ⟨7, true, true, true⟩ ⟨false, false⟩ 0) (fun t => decide ((t.chan .a).counter 3 = ⟨0, true, true, true⟩)) = true ∧
    after (.cld 3) (counting ⟨7, true, true, true⟩ ⟨false, false⟩ 55) (fun t => decide ((t.chan .a).counter 3 = ⟨55, true, true, true⟩)) = true ∧
    after (.ldcv 3) (counting ⟨7, true, true, true⟩ ⟨false, false⟩ 0) (fun t => decide ((t.chan .a).wa = 7)) = true := by decide +kernel
theorem test_edges :
    after (.redge 3) (counting ⟨0, false, false, false⟩ ⟨false, false⟩ 0) (fun t => !(t.chan .a).ba && decide ((t.chan .a).edge 3 = ⟨true, true⟩)) = true ∧
    after (.redge 3) (counting ⟨0, false, false, false⟩ ⟨false, true⟩ 0) (fun t => (t.chan .a).ba) = true ∧
    after (.fedge 3) (counting ⟨0, false, false, false⟩ ⟨true, true⟩ 0) (fun t => !(t.chan .a).ba) = true := by decide +kernel

/-- The stack: SUB( leaves the pushed value on the left; a seventeenth push and a pop of nothing abandon (06 R173 to R175). -/
theorem test_stack :
    after .closeParen (bench { Chan.reset with wa := 3, stack := [⟨true, 10, .sub⟩] }) (fun t => decide ((t.chan .a).wa = 7)) = true ∧
    after .closeParen (bench { Chan.reset with ba := true, stack := [⟨false, 10, .and⟩] }) (fun t => !(t.chan .a).ba) = true ∧
    after .addOpen (bench (stacked 15 .add)) (fun t => decide ((t.chan .a).stack.length = 16)) = true ∧
    after .addOpen (bench (stacked 16 .add)) (fun t => (t.chan .a).scan.isNone && bitOf (SMap.get dNat t.chn.lgeFlags 0) 6) = true ∧
    after .closeParen (bench Chan.reset) (fun t => (t.chan .a).scan.isNone && bitOf (SMap.get dNat t.chn.lgeFlags 0) 5) = true := by decide +kernel

/-- Jumps, the index register, indexed and quality loads (06 R168, R177, R178). -/
theorem test_jumps_and_index :
    after (.jc 9) (holding true 0) (fun t => decide ((t.chan .a).scan = some { scan0 with pc := 14, cyc := 66 })) = true ∧
    after (.jnc 9) (holding true 0) (fun t => decide ((t.chan .a).scan = some { scan0 with pc := 6, cyc := 66 })) = true ∧
    after .ldix (holding true (-1)) (fun t => decide ((t.chan .a).ix = 0x1FFFFF)) = true ∧
    after (.ldwx (.word 6)) (withImage (bench { Chan.reset with ix := 2, wa := 5 })) (fun t => (t.chan .a).iff && decide ((t.chan .a).wa = 0)) = true ∧
    after (.stwx (.word 6)) (withImage (bench { Chan.reset with ix := 1, wa := 5 })) (fun t => !(t.chan .a).iff && decide ((t.chan .a).readWord (.word 7) = 5)) = true ∧
    after (.ldq 0x1A10) (bench { Chan.reset with items := [(6672, ⟨.stale, some 999999000⟩)] }) (fun t => decide ((t.chan .a).wa = 1)) = true ∧
    after (.ldage 0x1A12) (bench { Chan.reset with items := [(6672, ⟨.good, some 999000000⟩)] }) (fun t => decide ((t.chan .a).wa = 1000)) = true ∧
    after .endScan (bench (stacked 1 .add)) (fun t => (t.chan .a).scan.isNone && decide ((t.comb.cyc.work.get .a).done = [0]) &&
      bitOf (SMap.get dNat t.chn.lgeFlags 0) 4) = true := by decide +kernel

/-! ### Steps of the other families -/

/-- What a host command with status, RES0 and RES1 writes to the admin ring in SETUP. -/
def answered (c : Instr) (s : State) (st r0 : Nat) : Bool := after c s (fun t => t.hst.out.any (fun o => match o with
  | .cqe qp _ _ a _ _ cid _ x => decide (qp = 0) && decide (cid = 7) && decide (x = st) && decide (a = r0)
  | _ => false))

/-- Power comes: a start from OFF into INIT; VIN lost with VAUX there: DORMANT on loss; without it: OFF (19 Table 19-5). -/
theorem test_power :
    after .vinPresent State.reset (fun t => decide (t.pwr.power = .service) && decide (t.mgt.run = .init) && decide (t.pwr.lastStart = 0)) = true ∧
    after .vinLoss lab (fun t => decide (t.pwr.power = .dormantLoss)) = true ∧
    after .vinLoss (powered .service true false) (fun t => decide (t.pwr.power = .off)) = true ∧
    after .vauxPresent State.reset (fun t => decide (t.pwr.power = .dormantLoss)) = true ∧
    after .warmN lab (fun t => decide (t.mgt.run = .init) && decide (t.pwr.lastStart = 3)) = true ∧
    after .porstN (powered .dormantLoss true true) (fun t => decide (t.pwr.power = .service) && decide (t.pwr.lastStart = 1)) = true := by decide +kernel

/-- Sixteen good windows qualify, two bad ones fail a source (19 R481). -/
theorem test_monitors :
    let n := lab.expected .xin2 |>.floor.toNat
    let at_ := fun (m : SrcMon) => { lab with clk := { lab.clk with mons := updAt lab.clk.mons 1 (fun _ => m) } }
    after (.monitorWindowEnd .xin2 n) (at_ ⟨false, true, 15, 0⟩) (fun t => (t.mon 1).qual) = true ∧
    after (.monitorWindowEnd .xin2 n) (at_ ⟨false, true, 14, 0⟩) (fun t => !(t.mon 1).qual && decide ((t.mon 1).good = 15)) = true ∧
    after (.monitorWindowEnd .xin2 0) (at_ ⟨true, false, 0, 0⟩) (fun t => (t.mon 1).qual && decide ((t.mon 1).bad = 1)) = true ∧
    after (.monitorWindowEnd .xin2 0) (at_ ⟨true, false, 0, 1⟩) (fun t => !(t.mon 1).qual && decide (t.clk.failcnt = 1) && decide (t.clk.fail = 2)) = true := by
  decide +kernel

/-- ECHO returns its data; commands that fail do so with the status of Table 17-5 (17 Tables 17-4 and 17-5). -/
theorem test_host_answers :
    answered (.echo hdr 0x1122334455667788 5) (quietIn .setup) 0 0x1122334455667788 = true ∧
    answered (.setPosition hdr 3 1) (fullIn .setup) 0xA2 0 = true ∧
    answered (.run hdr false) (quietIn .setup) 0x14 0 = true ∧ answered (.thaw hdr) (quietIn .setup) 0x62 0 = true ∧
    answered (.verify hdr 0) (quietIn .setup) 0 0 = true ∧ answered (.disarm hdr) (quietIn .setup) 0x01 0 = true ∧
    answered (.qpDelete hdr 0) (quietIn .setup) 0x09 0 = true ∧ answered (.qpCreate hdr { pairBlock with qpid := 1 }) (quietIn .setup) 0x09 0 = true ∧
    answered (.edit hdr [(9, 11)]) (fullIn .setup) 0x22 0 = true ∧ answered (.edit hdr [(8, 1)]) (fullIn .setup) 0x21 0 = true := by decide +kernel

/-- New hyperperiod numbers at a change of H (04, the example of R101): 3,000,000 of 1,000 ms is 2,000,000 of 1,500 ms. -/
theorem test_grid :
    let old : Comb := ⟨1000, 0, 1, 0, 0, 0, []⟩
    let new : Comb := ⟨1500, 0, 1, 0, 0, 0, []⟩
    onGrid old new 3000000 = true ∧ newNumber old new 3000000 = 2000000 ∧ onGrid old new 3000001 = false := by decide

/-- A vote of two against one; a tie of three takes the safe word (05 Table 5-4). -/
theorem test_vote :
    after (.voteCell 5 [.solver]) (balloting 3 7) (fun t => decide (SMap.get dWords t.vot.feeds 0 = [7]) || decide (t.vot.voted = [(0, [7])])) = true ∧
    after (.voteCell 5 [.solver]) (balloting 3 8) (fun t => decide (SMap.get dWords t.vot.feeds 0 = [0]) || decide (t.vot.voted = [(0, [0])])) = true := by
  decide +kernel

/-- Fault confinement of ISO 11898-1: 250 + 8 is bus-off, recovery starts over (12 R350, R351). -/
theorem test_can :
    after (.canError 55 dtOrigin ⟨3, true, 8⟩) (canIn .passive [] (some object)) (fun t => decide ((t.canCh 55).est = .boffWait) && decide ((t.canCh 55).boffcnt = 1)) = true ∧
    after (.canTransmitComplete 55 dtOrigin) (canIn .active [] (some object)) (fun t => decide ((t.canCh 55).tec = 249) && decide ((t.canCh 55).txok = 1)) = true ∧
    after (.busOffRecoveryEnd 55 dtOrigin) (canIn .boffRec [] none) (fun t => decide ((t.canCh 55).est = .active) && decide ((t.canCh 55).tec = 0)) = true := by decide +kernel

/-- The calendar counts a second; the last second of 2399 wraps to the first of 2000 with RANGE set (20 R509, R510). -/
theorem test_calendar :
    after .rtcSecondBoundary lab (fun t => decide (t.rtc.secs = 1)) = true ∧
    after .rtcSecondBoundary { lab with rtc := { Rtc.reset with secs := rangeSecs - 1 } } (fun t => decide (t.rtc.secs = 0) && t.rtc.range) = true ∧
    civilOf 0 = ⟨2000, 1, 1, 0, 0, 0⟩ ∧ civilOf (59 * 86400) = ⟨2000, 2, 29, 0, 0, 0⟩ ∧ civilOf (rangeSecs - 1) = ⟨2399, 12, 31, 23, 59, 59⟩ := by decide +kernel

/-- Register writes: RW at once, RWL refused in RUN and counted, RO and W1C as their types say (00 Table 0-3, 16 R417). -/
theorem test_registers :
    after (.registerWrite 0x4000 0x648201) lab (fun t => decide (t.fld 0x4000 0 0 = 1)) = true ∧
    after (.registerWrite 0x4000 0x648201) (fullIn .run) (fun t => decide (t.fld 0x4000 0 0 = 0) && decide (t.hst.lockWr = 1)) = true ∧
    after (.registerWrite 0x100C 2) { lab with clk := { lab.clk with fail := 6 } } (fun t => decide (t.clk.fail = 4)) = true ∧
    (match exec (.xin1FrequencyWrite 9999) lab with | .fault .unpredictableWrite => true | _ => false) = true := by decide +kernel

/-- A step on an empty queue ticks, one on a command runs it with the rest of the queue. -/
theorem test_step :
    (match step { lab with pending := [.warmN, .vinLoss] } with | .next t => decide (t.pending = [.vinLoss]) && decide (t.pwr.lastStart = 3) | _ => false) = true ∧
    (match step State.reset with | .next t => decide (t = State.reset) | _ => false) = true := by decide +kernel

/-- The dates of R511: refused whole outside their ranges, 2400-01-01 too; 2000-02-29 is accepted. -/
theorem test_dates :
    (∀ c ∈ [(⟨2100, 2, 29, 0, 0, 0⟩ : Civil), ⟨2023, 2, 30, 0, 0, 0⟩, ⟨2023, 13, 1, 0, 0, 0⟩, ⟨2023, 1, 1, 24, 0, 0⟩, ⟨2023, 1, 1, 0, 60, 0⟩,
      ⟨2023, 1, 1, 0, 0, 60⟩, ⟨2400, 1, 1, 0, 0, 0⟩], c.valid = false) ∧ (⟨2000, 2, 29, 0, 0, 0⟩ : Civil).valid = true := by decide +kernel

/-- What the host may not do stops the block by name (00 R7, 16 R433). -/
theorem test_host_errors :
    let stops := fun (c : Instr) (s : State) (f : Fault) => match exec c s with
      | .fault g => decide (g = f)
      | _ => false
    stops (.sqTailDoorbell 0 16 []) lab .hostError = true ∧ stops (.cqHeadDoorbell 63 65536) lab .hostError = true ∧
    stops (.slotQuery hdr 256) (quietIn .setup) .hostError = true ∧ stops (.registerWrite 0x24 0xFFF) lab .unpredictableWrite = true := by
  decide +kernel

/-- Units at their limits: a full staging buffer refuses a record, a record takes the next number (21 R527). -/
theorem test_records :
    after (.recordRaise 3 0 9 []) (recording 1) (fun t => decide (t.rcd.staging.length = 2) && decide (t.rcd.written = 1)) = true ∧
    after (.recordRaise 3 0 9 []) (recording 1024) (fun t => decide (t.rcd.staging.length = 1024) && decide (t.rcd.refused = [0, 0, 0, 1])) = true := by
  decide +kernel

/-- An axis: a position set, a move that is refused without reference, the duty of a PWM period (15 R405, R399, R409). -/
theorem test_axes :
    answered (.move hdr 15 5 100) (axisIn false false) 0xA1 0 = true ∧ answered (.move hdr 15 1001 100) (axisIn false true) 0xA3 0 = true ∧
    after (.setPosition hdr 15 (-7)) (axisIn false false) (fun t => decide ((t.ax 15).pos = -7) && (t.ax 15).ref) = true ∧
    after (.pwmPeriodStart 2) { fullIn .halt with axs := { Axs.reset with pwmNext := [0, 0, 65536] } } (fun t => decide (t.axs.pwm.getD 2 0 = 65536)) = true := by
  decide +kernel

/-- Metering: a pulse counts for the open interval, a fault latches the input's bit (11 R307, R315). -/
theorem test_metering :
    after (.pinPulse 31 (dtOrigin + 5)) (metering []) (fun t => match t.mtr.cur with
      | some i => decide (SMap.get dNat i.pulses 31 = 1)
      | none => false) = true ∧
    after (.mdInputFault 47 9) (metering []) (fun t => decide (t.mtr.mdFlt = 2 ^ 47)) = true := by decide +kernel

end Sys2Proof.Tests
end

section
/-!
PROOFS. What can stop the block (00 R7, 16 R433): which fault a command can end in, and that no command is refused.
-/
namespace Sys2Proof.Machine

/-! ## Commands that can stop -/

theorem execRegisterWrite_next_or_unpredictable (o : Nat) (v : Word) (s : State) :
    (∃ t, execRegisterWrite o v s = .next t) ∨ execRegisterWrite o v s = .fault .unpredictableWrite := by
  unfold execRegisterWrite
  dsimp only
  split
  · exact .inl ⟨_, rfl⟩
  split
  · exact .inl ⟨_, rfl⟩
  split
  · exact .inl ⟨_, rfl⟩
  · exact .inr rfl

theorem execXin1FrequencyWrite_next_or_unpredictable (khz : Nat) (s : State) :
    (∃ t, execXin1FrequencyWrite khz s = .next t) ∨ execXin1FrequencyWrite khz s = .fault .unpredictableWrite := by
  unfold execXin1FrequencyWrite
  split
  · exact .inl ⟨_, rfl⟩
  split
  · exact .inl ⟨_, rfl⟩
  split
  · exact .inl ⟨_, rfl⟩
  · exact .inr rfl

theorem execSqTailDoorbell_next_or_hostError (n v : Nat) (l : List SqEntry) (s : State) :
    (∃ t, execSqTailDoorbell n v l s = .next t) ∨ execSqTailDoorbell n v l s = .fault .hostError := by
  unfold execSqTailDoorbell
  split
  · exact .inl ⟨_, rfl⟩
  · exact .inr rfl

theorem execCqHeadDoorbell_next_or_hostError (n v : Nat) (s : State) :
    (∃ t, execCqHeadDoorbell n v s = .next t) ∨ execCqHeadDoorbell n v s = .fault .hostError := by
  unfold execCqHeadDoorbell
  split
  · exact .inl ⟨_, rfl⟩
  · exact .inr rfl

theorem State.hostCommand_next_or_hostError (s : State) (c : Instr) (h : Hdr) :
    (∃ t, s.hostCommand c h = .next t) ∨ s.hostCommand c h = .fault .hostError := by
  unfold State.hostCommand
  split
  · exact .inl ⟨_, rfl⟩
  split
  · exact .inr rfl
  · exact .inl ⟨_, rfl⟩

/-- A command of Table 17-4 goes through the hand-over with its own header. -/
theorem exec_of_hostEntry (c : Instr) (o : Nat) (h : Hdr) (s : State) (e : hostEntry c = some (o, h)) :
    exec c s = s.hostCommand c h := by
  unfold hostEntry at e
  split at e <;> cases e <;> rfl

/-! ## Every command -/

/-- The fault a command can stop with (DEDUCED, log entry 13); none for a command that always completes. -/
def stopFault : Instr → Option Fault
  | .registerWrite .. | .xin1FrequencyWrite _ => some .unpredictableWrite
  | .sqTailDoorbell .. | .cqHeadDoorbell .. => some .hostError
  | c => (hostEntry c).map fun _ => .hostError

/-- Whatever is neither a host command, a doorbell nor a register write completes. -/
theorem exec_next_of_stopFault_none (c : Instr) (s : State) (h : stopFault c = none) : ∃ t, exec c s = .next t := by
  cases c <;> cases h <;> exact ⟨_, rfl⟩

theorem exec_next_or_fault_of_stopFault_some (c : Instr) (s : State) (f : Fault) (h : stopFault c = some f) :
    (∃ t, exec c s = .next t) ∨ exec c s = .fault f := by
  unfold stopFault at h
  split at h
  · cases h; exact execRegisterWrite_next_or_unpredictable ..
  · cases h; exact execXin1FrequencyWrite_next_or_unpredictable ..
  · cases h; exact execSqTailDoorbell_next_or_hostError ..
  · cases h; exact execCqHeadDoorbell_next_or_hostError ..
  · obtain ⟨⟨o, hdr⟩, he, rfl⟩ := Option.map_eq_some_iff.mp h
    rw [exec_of_hostEntry c o hdr s he]
    exact s.hostCommand_next_or_hostError c hdr

/-- A command completes, or stops with the one fault it can have. -/
theorem exec_next_or_stopFault (c : Instr) (s : State) :
    (∃ t, exec c s = .next t) ∨ ∃ f, stopFault c = some f ∧ exec c s = .fault f := by
  cases hf : stopFault c with
  | none => exact .inl (exec_next_of_stopFault_none c s hf)
  | some f => exact (exec_next_or_fault_of_stopFault_some c s f hf).imp_right fun h => ⟨f, rfl, h⟩

theorem exec_ne_refused (c : Instr) (s : State) (r : Refusal) : exec c s ≠ .refused r := by
  intro h
  obtain ⟨t, ht⟩ | ⟨f, -, hf⟩ := exec_next_or_stopFault c s
  · cases h.symm.trans ht
  · cases h.symm.trans hf

theorem stopFault_of_exec_fault (c : Instr) (s : State) (f : Fault) (h : exec c s = .fault f) : stopFault c = some f := by
  obtain ⟨t, ht⟩ | ⟨g, hg, hf⟩ := exec_next_or_stopFault c s
  · cases h.symm.trans ht
  · cases h.symm.trans hf; exact hg

/-- Settles O56: every command completes or stops with the one fault `stopFault` gives it. -/
theorem onlyHostErrorsStop : Obligations.OnlyHostErrorsStop := by
  unfold Obligations.OnlyHostErrorsStop
  intro c s
  refine ⟨exec_ne_refused c s, fun f h => ?_⟩
  have hf := stopFault_of_exec_fault c s f h
  split
  case h_5 noReg noXin noSq noCq =>
    rw [stopFault] at hf
    · obtain ⟨e, he, rfl⟩ := Option.map_eq_some_iff.mp hf
      exact ⟨rfl, by rw [he]; rfl⟩
    all_goals assumption
  all_goals exact (Option.some.inj hf).symm

end Sys2Proof.Machine
end

section
/-!
PROOFS. Device time as a layer of its own: what raising an event, the time state, a change of the active domain and the
passing of time leave of the time unit and of the rest of the block (02).
-/
namespace Sys2Proof.Machine

/-! ## Domains of the time unit -/

@[simp] theorem Tim.domain_setDomain_same (t : Tim) (d : Dom) (x : Domain) : (t.setDomain d x).domain d = x := by
  cases d <;> rfl

theorem Tim.domain_setDomain_other (t : Tim) (d e : Dom) (x : Domain) (h : e ≠ d) :
    (t.setDomain d x).domain e = t.domain e := by
  cases d <;> cases e
  · exact absurd rfl h
  · rfl
  · rfl
  · exact absurd rfl h

@[simp] theorem Tim.setDomain_delay (t : Tim) (d : Dom) (x : Domain) : (t.setDomain d x).delay = t.delay := by cases d <;> rfl
@[simp] theorem Tim.setDomain_active (t : Tim) (d : Dom) (x : Domain) : (t.setDomain d x).active = t.active := by cases d <;> rfl

/-- A domain clock is its record of the time unit, whatever the other fields hold. -/
theorem Tim.domain_congr (t u : Tim) (d : Dom) (hp : t.pri = u.pri) (hs : t.sec = u.sec) : t.domain d = u.domain d := by
  cases d
  · exact hp
  · exact hs

/-! ## Events and settings -/

@[simp] theorem State.raise_tim (s : State) (n r : Nat) : (s.raise n r).tim = s.tim := by
  obtain ⟨x, e⟩ := s.raise_only n r
  rw [e]

/-- A field of `w` bits holds less than 2^w. -/
theorem State.fld_lt (s : State) (o hi lo : Nat) : s.fld o hi lo < 2 ^ (hi + 1 - lo) := Nat.mod_lt _ (Nat.pow_pos (by decide))

/-- Register fields depend on the stored registers alone. -/
theorem State.fld_congr {s u : State} (h : u.regs = s.regs) (o hi lo : Nat) : u.fld o hi lo = s.fld o hi lo := by
  simp only [State.fld, State.reg, h]

theorem State.domFld_congr {s u : State} (h : u.regs = s.regs) (d : Dom) (o hi lo : Nat) : u.domFld d o hi lo = s.domFld d o hi lo :=
  State.fld_congr h ..

theorem State.servoEn_congr {s u : State} (h : u.regs = s.regs) : u.servoEn = s.servoEn := by
  unfold State.servoEn
  rw [State.fld_congr h]

theorem State.domEn_congr {s u : State} (h : u.regs = s.regs) (d : Dom) : u.domEn d = s.domEn d := by
  unfold State.domEn
  rw [State.domFld_congr h]

/-! ## The time state and the active domain (02 R41, R42, R45 to R48) -/

/-- Settling the time state touches the last correction, BLEEDING and the time state of the time unit. -/
theorem State.settleTime_tim (s : State) :
    ∃ f, s.settleTime.tim = { s.tim with
      fcorr := f, tstate := s.timeStateNow,
      bleeding := s.dtLive && s.tim.everLocked && (s.tim.domain s.tim.active).lock &&
        decide (1 ≤ ratAbs (s.tim.domain s.tim.active).ofs) } := by
  unfold State.settleTime
  dsimp only
  split
  · exact ⟨_, rfl⟩
  · exact ⟨_, State.raise_tim ..⟩

/-- Outside the time unit settling changes the host interface, frequency measurements and the open metering interval. -/
theorem State.settleTime_only (s : State) :
    ∃ x l h m, s.settleTime = { s with tim := x, clk := { s.clk with freqJobs := l }, hst := h, mtr := m } := by
  unfold State.settleTime
  dsimp only
  split
  · exact ⟨_, _, _, _, rfl⟩
  · obtain ⟨h, e⟩ := State.raise_only (State.touchFreq _ _ _) 16 s.timeStateNow.code
    exact ⟨_, _, h, _, e⟩

@[simp] theorem State.settleTime_domain (s : State) (d : Dom) : s.settleTime.tim.domain d = s.tim.domain d := by
  obtain ⟨f, e⟩ := s.settleTime_tim
  rw [e]
  exact Tim.domain_congr _ _ d rfl rfl

@[simp] theorem State.settleTime_delay (s : State) : s.settleTime.tim.delay = s.tim.delay := by
  obtain ⟨f, e⟩ := s.settleTime_tim; rw [e]
@[simp] theorem State.settleTime_active (s : State) : s.settleTime.tim.active = s.tim.active := by
  obtain ⟨f, e⟩ := s.settleTime_tim; rw [e]
@[simp] theorem State.settleTime_utcOfs (s : State) : s.settleTime.tim.utcOfs = s.tim.utcOfs := by
  obtain ⟨f, e⟩ := s.settleTime_tim; rw [e]
@[simp] theorem State.settleTime_utcValid (s : State) : s.settleTime.tim.utcValid = s.tim.utcValid := by
  obtain ⟨f, e⟩ := s.settleTime_tim; rw [e]
@[simp] theorem State.settleTime_dt (s : State) : s.settleTime.tim.dt = s.tim.dt := by
  obtain ⟨f, e⟩ := s.settleTime_tim; rw [e]
@[simp] theorem State.settleTime_everLocked (s : State) : s.settleTime.tim.everLocked = s.tim.everLocked := by
  obtain ⟨f, e⟩ := s.settleTime_tim; rw [e]
@[simp] theorem State.settleTime_stepDue (s : State) : s.settleTime.tim.stepDue = s.tim.stepDue := by
  obtain ⟨f, e⟩ := s.settleTime_tim; rw [e]

/-- After settling nothing bleeds unless the active domain clock stands 1 ns or more from DT (02 R41). -/
theorem State.settleTime_bleeding_of_lt_one (s : State) (h : ratAbs (s.tim.domain s.tim.active).ofs < 1) :
    s.settleTime.tim.bleeding = false := by
  obtain ⟨f, e⟩ := s.settleTime_tim
  rw [e]
  have hfar : decide (1 ≤ ratAbs (s.tim.domain s.tim.active).ofs) = false := decide_eq_false (Rat.not_le.mpr h)
  simp only [hfar, Bool.and_false]

/-- A change of the active domain is that of one field, and an event. -/
theorem State.setActive_only (s : State) (d : Dom) : ∃ h, s.setActive d = { s with tim := { s.tim with active := d }, hst := h } := by
  unfold State.setActive
  split
  · rename_i e
    exact ⟨s.hst, by rw [← e]⟩
  · obtain ⟨h, e⟩ := State.raise_only { s with tim := { s.tim with active := d } } 18 d.code
    exact ⟨h, e⟩

/-! ## The passing of time (02 R29, R41, R50) -/

@[simp] theorem State.touchFreq_tim (s : State) (a b : Rat) : (s.touchFreq a b).tim = s.tim := rfl
@[simp] theorem State.touchFreq_dtRate (s : State) (a b : Rat) : (s.touchFreq a b).dtRate = s.dtRate := rfl
@[simp] theorem State.touchFreq_bleedLeft (s : State) (a b : Rat) : (s.touchFreq a b).bleedLeft = s.bleedLeft := rfl

/-- The time unit once a bleed under way has run to its end (02 R41). -/
def State.bledOut (s : State) : Tim := { s.tim.pass s.dtRate s.bleedLeft with bleeding := false }

/-- Time passes at one rate, or at that of the bleed to its end and at the plain rate from there (02 R29, R41). -/
theorem State.passLive_tim (s : State) (d : Rat) :
    (s.passLive d).tim =
      (if s.tim.bleeding && decide (s.bleedLeft ≤ d) then s.bledOut.pass s.bledOut.baseRate (d - s.bleedLeft)
       else s.tim.pass s.dtRate d).putDt (s.tim.now + d) := by
  cases hb : s.tim.bleeding
  · simp only [State.passLive, hb, Bool.false_and, Bool.false_eq_true, if_false]
  · simp only [State.passLive, hb, if_true, State.touchFreq_tim, State.touchFreq_dtRate, State.touchFreq_bleedLeft]
    split <;> rfl

/-- While time passes the time unit moves DT, the domain clocks, the shadow's counts and BLEEDING, and nothing else. -/
theorem State.advanceTo_tim (s : State) (t : Nat) :
    ∃ p q b dt f nx ns, (s.advanceTo t).tim =
      { s.tim with pri := p, sec := q, bleeding := b, dt := dt, frac := f, shadowNx := nx, shadowNs := ns } := by
  unfold State.advanceTo
  split
  · exact ⟨_, _, _, _, _, _, _, rfl⟩
  split
  · rw [State.passLive_tim]
    split <;> exact ⟨_, _, _, _, _, _, _, rfl⟩
  split
  · exact ⟨_, _, _, _, _, _, _, rfl⟩
  · unfold State.passShadow
    dsimp only
    split <;> exact ⟨_, _, _, _, _, _, _, rfl⟩

@[simp] theorem State.advanceTo_delay (s : State) (t : Nat) : (s.advanceTo t).tim.delay = s.tim.delay := by
  obtain ⟨_, _, _, _, _, _, _, e⟩ := s.advanceTo_tim t; rw [e]
@[simp] theorem State.advanceTo_active (s : State) (t : Nat) : (s.advanceTo t).tim.active = s.tim.active := by
  obtain ⟨_, _, _, _, _, _, _, e⟩ := s.advanceTo_tim t; rw [e]
@[simp] theorem State.advanceTo_regs (s : State) (t : Nat) : (s.advanceTo t).regs = s.regs := by
  obtain ⟨_, _, e⟩ := s.advanceTo_only t; rw [e]

end Sys2Proof.Machine
end

section
/-!
PROOFS. What reset leaves and what a read of a low part latches.
-/
namespace Sys2Proof.Machine

/-! ## After reset (log entry 1) -/

/-- Every stored field reads its reset value while no register differs from reset (00 Table 0-3). -/
theorem reset_fld : ∀ f ∈ storedFields, State.reset.fld f.off f.hi f.lo = f.rst := by decide +kernel

/-- Settles O57: every clause reads a field of the reset state; the stored fields are those of `reset_fld`. -/
theorem resetStateIsCanonical : Obligations.ResetStateIsCanonical := by
  unfold Obligations.ResetStateIsCanonical
  refine ⟨⟨rfl, rfl, rfl, rfl, rfl, fun i => ?_, fun x hx => ?_, reset_fld⟩, rfl, rfl, rfl⟩
  · cases i <;> rfl
  · obtain rfl | rfl : x = 0 ∨ x = 1 := by omega
    · rfl
    · rfl

/-! ## Latches (02 R31, 11 R323) -/

/-- A read of a legacy register latches the LWRAP of the register it shows, if it shows one (11 R323). -/
theorem legacyRead_latches (s : State) (o : Nat) :
    ∃ l, legacyRead s o = (if s.barOk then { s with mtr := { s.mtr with lwrapLat := l } } else s) ∧
      ∀ h, s.mtr.legacyAt o = some h → l = h.lwrap := by
  unfold legacyRead
  cases s.mtr.legacyAt o with
  | none => exact ⟨s.mtr.lwrapLat, by cases s.barOk <;> rfl, nofun⟩
  | some h => exact ⟨h.lwrap, by cases s.barOk <;> rfl, fun g e => by cases e; rfl⟩

/-- A read that does nothing while registers cannot be reached is a latch that acts while they can. -/
theorem next_ite_not_barOk (s t : State) :
    (Host.Outcome.next (if !s.barOk then s else t) : Host.Outcome State Fault Refusal) = .next (if s.barOk then t else s) := by
  cases s.barOk <;> rfl

/-- What RTC_CAL1 shows of calendar value `v`: weekday, hour, minute and second (20 Table R524). -/
def calWord (v : Nat) : Nat :=
  weekday v * 2 ^ 24 + (civilOf v).hour * 2 ^ 16 + (civilOf v).minute * 2 ^ 8 + (civilOf v).second

/-- Hour, minute and second stay below the bits of the weekday. -/
theorem calWord_weekday (v : Nat) : calWord v / 2 ^ 24 = weekday v := by
  have hh : (civilOf v).hour < 24 := by dsimp only [civilOf]; omega
  have hm : (civilOf v).minute < 60 := by dsimp only [civilOf]; omega
  have hx : (civilOf v).second < 60 := by dsimp only [civilOf]; omega
  unfold calWord
  omega

/-- A read of RTC_CAL0 latches the time of day with its weekday, and 16 bits of the fraction (20 Table R524). -/
theorem rtcCal0Read_latches (s : State) :
    ∃ sub, sub < 65536 ∧
      rtcCal0Read s = if s.barOk then { s with rtc := { s.rtc with cal1 := calWord s.rtc.secs, sub := sub } } else s := by
  refine ⟨(((s.tim.dt - s.rtc.start : Nat) : Rat) / s.aonCycle).floor.toNat % 65536, Nat.mod_lt _ (by decide), ?_⟩
  unfold rtcCal0Read
  cases s.barOk <;> rfl

/-- Settles O34: each read is its latch while registers can be reached, and nothing otherwise. -/
theorem readsLatchHighParts : Obligations.ReadsLatchHighParts := by
  unfold Obligations.ReadsLatchHighParts
  intro s
  dsimp only
  refine ⟨next_ite_not_barOk .., next_ite_not_barOk .., next_ite_not_barOk .., next_ite_not_barOk .., next_ite_not_barOk .., ?_,
    fun o => ?_⟩
  · obtain ⟨sub, hsub, e⟩ := rtcCal0Read_latches s
    exact ⟨calWord s.rtc.secs, sub, calWord_weekday _, hsub, congrArg Host.Outcome.next e⟩
  · obtain ⟨l, e, hl⟩ := legacyRead_latches s o
    exact ⟨l, congrArg Host.Outcome.next e, hl⟩

end Sys2Proof.Machine
end

section
/-!
PROOFS. What a PTP message does to the domains that take it (02 R34 to R37).
-/
namespace Sys2Proof.Machine

/-! ## What a domain takes and sees -/

theorem State.ingress_congr {s u : State} (h : u.regs = s.regs) (m : PtpMsg) : u.ingress m = s.ingress m := by
  simp only [State.ingress, State.fld_congr h]

theorem State.asym_congr {s u : State} (h : u.regs = s.regs) (p : Nat) : u.asym p = s.asym p := by
  simp only [State.asym, State.fld_congr h]

/-- Whether a domain takes a message is settled by registers alone (02 R34). -/
theorem State.ptpTakes_congr {s u : State} (h : u.regs = s.regs) (m : PtpMsg) (d : Dom) : u.ptpTakes m d = s.ptpTakes m d := by
  unfold State.ptpTakes State.portUses State.portFld State.domNum
  rw [State.servoEn_congr h, State.domEn_congr h, State.domFld_congr h, State.fld_congr h, State.fld_congr h]

/-- A message that some domain takes comes by one of the eight ports while PTP is enabled. -/
theorem State.servoEn_of_ptpTakes {s : State} {m : PtpMsg} {d : Dom} (h : s.ptpTakes m d = true) :
    s.servoEn = true ∧ m.port < 8 := by
  simp only [State.ptpTakes, Bool.and_eq_true, decide_eq_true_eq] at h
  obtain ⟨⟨⟨⟨⟨hs, -⟩, -⟩, hp⟩, -⟩, -⟩ := h
  exact ⟨hs, hp⟩

/-! ## One domain (02 R35, R37) -/

/-- The domain clock a Sync with origin timestamp `o` shows, in ns: origin, path delay and asymmetry from ingress (02 R37). -/
def State.syncOffset (s : State) (m : PtpMsg) (o : Int) : Rat :=
  ((o + SMap.get dInt s.tim.delay m.port + s.asym m.port - s.ingress m : Int) : Rat) / 65536

/-- A domain clock after a Sync that shows it `c` ns from DT: its sample, or the clock itself while it is not set (02 R37). -/
def Domain.sync (x : Domain) (c : Rat) : Domain :=
  if x.set then { x with sample := some (c - x.ofs), missed := 0 } else { x with set := true, ofs := c, sample := some 0, missed := 0 }

/-- What a message makes of the domain that takes it. -/
def State.ptpServed (s : State) (m : PtpMsg) (x : Domain) : Domain :=
  match m.body with
  | .sync o => if x.slave = some m.port then x.sync (s.syncOffset m o) else x
  | .delay _ => x
  | .announce _ _ l b => { x with logSync := l, slave := if b then some m.port else x.slave }

theorem State.ptpDomain_domain_same (s : State) (m : PtpMsg) (d : Dom) :
    (s.ptpDomain m d).tim.domain d = s.ptpServed m (s.tim.domain d) := by
  unfold State.ptpDomain State.ptpServed
  cases m.body with
  | sync o =>
    dsimp only
    split
    · exact Tim.domain_setDomain_same ..
    · rfl
  | delay n => rfl
  | announce u v l b =>
    dsimp only
    split
    · exact (Tim.domain_congr _ _ d rfl rfl).trans (Tim.domain_setDomain_same ..)
    · exact Tim.domain_setDomain_same ..

/-- A message changes, in the block, the time unit; there, the domain that takes it and, by an Announce to the active
domain, the UTC offset. -/
theorem State.ptpDomain_only (s : State) (m : PtpMsg) (d : Dom) :
    ∃ x u v, s.ptpDomain m d = { s with tim := { s.tim.setDomain d x with utcOfs := u, utcValid := v } } ∧
      (s.tim.active ≠ d → u = s.tim.utcOfs ∧ v = s.tim.utcValid) := by
  have same : s.tim.setDomain d (s.tim.domain d) = s.tim := by cases d <;> rfl
  have kept : ∀ x, s.tim.setDomain d x = { s.tim.setDomain d x with utcOfs := s.tim.utcOfs, utcValid := s.tim.utcValid } := by
    intro x; cases d <;> rfl
  unfold State.ptpDomain
  cases m.body with
  | sync o =>
    dsimp only
    split
    · exact ⟨_, _, _, by rw [← kept], fun _ => ⟨rfl, rfl⟩⟩
    · exact ⟨_, _, _, by rw [← kept, same], fun _ => ⟨rfl, rfl⟩⟩
  | delay n => exact ⟨_, _, _, by rw [← kept, same], fun _ => ⟨rfl, rfl⟩⟩
  | announce u v l b =>
    dsimp only
    split
    · rename_i h
      exact ⟨_, _, _, rfl, fun n => absurd h n⟩
    · exact ⟨_, _, _, by rw [← kept], fun _ => ⟨rfl, rfl⟩⟩

@[simp] theorem State.ptpDomain_regs (s : State) (m : PtpMsg) (d : Dom) : (s.ptpDomain m d).regs = s.regs := by
  obtain ⟨x, u, v, e, -⟩ := s.ptpDomain_only m d; rw [e]
@[simp] theorem State.ptpDomain_delay (s : State) (m : PtpMsg) (d : Dom) : (s.ptpDomain m d).tim.delay = s.tim.delay := by
  obtain ⟨x, u, v, e, -⟩ := s.ptpDomain_only m d; rw [e]; exact Tim.setDomain_delay ..
@[simp] theorem State.ptpDomain_active (s : State) (m : PtpMsg) (d : Dom) : (s.ptpDomain m d).tim.active = s.tim.active := by
  obtain ⟨x, u, v, e, -⟩ := s.ptpDomain_only m d; rw [e]; exact Tim.setDomain_active ..

theorem State.ptpDomain_domain_other (s : State) (m : PtpMsg) (d e : Dom) (h : e ≠ d) :
    (s.ptpDomain m d).tim.domain e = s.tim.domain e := by
  obtain ⟨x, u, v, eq, -⟩ := s.ptpDomain_only m d
  rw [eq, ← Tim.domain_setDomain_other s.tim d e x h]
  exact Tim.domain_congr _ _ e rfl rfl

/-- A message to a domain that is not active leaves the UTC offset (02 R35). -/
theorem State.ptpDomain_utc_of_inactive (s : State) (m : PtpMsg) (d : Dom) (h : s.tim.active ≠ d) :
    (s.ptpDomain m d).tim.utcOfs = s.tim.utcOfs ∧ (s.ptpDomain m d).tim.utcValid = s.tim.utcValid := by
  obtain ⟨x, u, v, e, hu⟩ := s.ptpDomain_only m d
  rw [e]
  exact hu h

/-- An Announce to the active domain gives the UTC offset (02 R35). -/
theorem State.ptpDomain_utc_of_active (s : State) (m : PtpMsg) (d : Dom) (u : Int) (v : Bool) (l : Int) (b : Bool)
    (hb : m.body = .announce u v l b) (h : s.tim.active = d) :
    (s.ptpDomain m d).tim.utcOfs = u ∧ (s.ptpDomain m d).tim.utcValid = v := by
  simp only [State.ptpDomain, hb, h, if_true, and_self]

theorem State.ptpServed_congr {s u : State} (hr : u.regs = s.regs) (hd : u.tim.delay = s.tim.delay) (m : PtpMsg) (x : Domain) :
    u.ptpServed m x = s.ptpServed m x := by
  simp only [State.ptpServed, State.syncOffset, hd, State.asym_congr hr, State.ingress_congr hr]

/-! ## Both domains -/

/-- Both domains take a message, the primary first, each if it is meant. -/
def State.ptpBoth (s : State) (m : PtpMsg) : State :=
  let a := if s.ptpTakes m .pri then s.ptpDomain m .pri else s
  if a.ptpTakes m .sec then a.ptpDomain m .sec else a

/-- The secondary takes what is left of the primary's turn, which is all it sees. -/
theorem State.ptpBoth_domain (s : State) (m : PtpMsg) (d : Dom) (h : s.ptpTakes m d = true) :
    (s.ptpBoth m).tim.domain d = s.ptpServed m (s.tim.domain d) := by
  unfold State.ptpBoth
  dsimp only
  cases d with
  | pri =>
    rw [if_pos h]
    split
    · rw [State.ptpDomain_domain_other _ _ _ _ (by decide), State.ptpDomain_domain_same]
    · exact State.ptpDomain_domain_same ..
  | sec =>
    by_cases hp : s.ptpTakes m .pri = true
    · rw [if_pos hp, if_pos ((State.ptpTakes_congr (s.ptpDomain_regs m .pri) m .sec).trans h), State.ptpDomain_domain_same,
        State.ptpServed_congr (s.ptpDomain_regs m .pri) (s.ptpDomain_delay m .pri),
        State.ptpDomain_domain_other _ _ _ _ (by decide)]
    · rw [if_neg hp, if_pos h, State.ptpDomain_domain_same]

@[simp] theorem State.ptpBoth_delay (s : State) (m : PtpMsg) : (s.ptpBoth m).tim.delay = s.tim.delay := by
  unfold State.ptpBoth
  dsimp only
  split <;> split <;> simp only [State.ptpDomain_delay]

/-- The UTC offset is that of the active domain's Announce. -/
theorem State.ptpBoth_utc (s : State) (m : PtpMsg) (d : Dom) (u : Int) (v : Bool) (l : Int) (b : Bool)
    (hb : m.body = .announce u v l b) (ha : s.tim.active = d) (h : s.ptpTakes m d = true) :
    (s.ptpBoth m).tim.utcOfs = u ∧ (s.ptpBoth m).tim.utcValid = v := by
  unfold State.ptpBoth
  dsimp only
  cases d with
  | pri =>
    rw [if_pos h]
    split
    · have inactive : (s.ptpDomain m .pri).tim.active ≠ .sec := by rw [State.ptpDomain_active, ha]; decide
      obtain ⟨hu, hv⟩ := State.ptpDomain_utc_of_inactive _ m .sec inactive
      rw [hu, hv]
      exact s.ptpDomain_utc_of_active m .pri u v l b hb ha
    · exact s.ptpDomain_utc_of_active m .pri u v l b hb ha
  | sec =>
    by_cases hp : s.ptpTakes m .pri = true
    · rw [if_pos hp, if_pos ((State.ptpTakes_congr (s.ptpDomain_regs m .pri) m .sec).trans h)]
      exact State.ptpDomain_utc_of_active _ m .sec u v l b hb ((s.ptpDomain_active m .pri).trans ha)
    · rw [if_neg hp, if_pos h]
      exact s.ptpDomain_utc_of_active m .sec u v l b hb ha

/-! ## Messages (02 R34 to R37) -/

/-- A message other than a delay message goes to both domains at its ingress instant; then the time state settles. -/
theorem ptpReceive_of_not_delay (s : State) (m : PtpMsg) (hl : s.dtLive = true) (hb : ∀ n, m.body ≠ .delay n) :
    ptpReceive s m = ((s.advanceTo (s.ingress m / 65536).toNat).ptpBoth m).settleTime := by
  unfold ptpReceive
  rw [if_pos hl]
  dsimp only
  cases e : m.body with
  | delay n => exact absurd e (hb n)
  | sync o => rfl
  | announce u v l b => rfl

/-- A delay message by one of the eight ports gives that port's path delay first (02 R37). -/
theorem ptpReceive_of_delay (s : State) (m : PtpMsg) (n : Int) (hl : s.dtLive = true) (hb : m.body = .delay n)
    (hs : s.servoEn = true) (hp : m.port < 8) :
    (ptpReceive s m).tim.delay = SMap.set dInt s.tim.delay m.port n := by
  have he : (s.advanceTo (s.ingress m / 65536).toNat).servoEn = true := by
    rw [State.servoEn_congr (s.advanceTo_regs _), hs]
  unfold ptpReceive
  rw [if_pos hl]
  simp only [hb, he, hp, decide_true, Bool.and_self, if_true]
  rw [State.settleTime_delay]
  refine (State.ptpBoth_delay _ m).trans ?_
  rw [State.advanceTo_delay]

/-- Settles O31: the domain that takes the message sees it as `State.ptpServed` says; delays and UTC offset follow. -/
theorem ptpMessagesTaken : Obligations.PtpMessagesTaken := by
  unfold Obligations.PtpMessagesTaken
  intro s m d hl ht
  have hregs := s.advanceTo_regs (s.ingress m / 65536).toNat
  have htakes := (State.ptpTakes_congr hregs m d).trans ht
  have served : (∀ n, m.body ≠ .delay n) → (ptpReceive s m).tim.domain d =
      s.ptpServed m ((s.advanceTo (s.ingress m / 65536).toNat).tim.domain d) := fun hb => by
    rw [ptpReceive_of_not_delay s m hl hb, State.settleTime_domain, State.ptpBoth_domain _ m d htakes,
      State.ptpServed_congr hregs (s.advanceTo_delay _)]
  refine ⟨ptpReceive s m, rfl, ?_⟩
  cases hb : m.body with
  | sync o =>
    have h := served (by simp only [hb, ne_eq, reduceCtorEq, not_false_eq_true, implies_true])
    simp only [State.ptpServed, hb] at h
    dsimp only
    split
    · rename_i hslave
      rw [h, if_pos hslave]
      rfl
    · rename_i hslave
      rw [h, if_neg hslave]
  | delay n =>
    obtain ⟨hs, hp⟩ := State.servoEn_of_ptpTakes ht
    dsimp only
    rw [ptpReceive_of_delay s m n hl hb hs hp]
    exact ⟨SMap.get_set_same .., fun p h => SMap.get_set_other _ _ _ _ _ h⟩
  | announce u v l b =>
    have hn : ∀ n, m.body ≠ .delay n := by simp only [hb, ne_eq, reduceCtorEq, not_false_eq_true, implies_true]
    have h := served hn
    simp only [State.ptpServed, hb] at h
    refine ⟨h, fun ha => ?_⟩
    rw [ptpReceive_of_not_delay s m hl hn, State.settleTime_utcOfs, State.settleTime_utcValid]
    exact State.ptpBoth_utc _ m d u v l b hb ((s.advanceTo_active _).trans ha) htakes

end Sys2Proof.Machine
end

section
/-!
PROOFS. What the end of a sync interval does to its domain (02 R38 to R40).
-/
namespace Sys2Proof.Machine

/-! ## Numbers -/

theorem ratAbs_of_neg {x : Rat} (h : x < 0) : ratAbs x = -x := if_pos h

theorem ratAbs_of_nonneg {x : Rat} (h : 0 ≤ x) : ratAbs x = x := if_neg (Rat.not_lt.mpr h)

theorem satAdd_eq_min (m x n : Nat) : satAdd m x n = min (x + n) m := by
  unfold satAdd
  split <;> omega

/-- The servo's clamp keeps a frequency within `l` either way (02 R38). -/
theorem clamp_eq_max_min (l f : Rat) (hl : 0 ≤ l) :
    (if decide (ratAbs f > l) = true then (if f < 0 then -l else l) else f) = max (-l) (min l f) := by
  unfold ratAbs
  grind

/-! ## The servo (02 R38) -/

theorem Domain.servo_outlier (x : Domain) (o : Rat) (len thr kp ki : Nat) (h : (thr : Rat) < ratAbs o) :
    x.servo o len thr kp ki = ({ x with outliers := min (x.outliers + 1) max16 }, false) := by
  unfold Domain.servo
  rw [if_pos h, satAdd_eq_min]

/-- Any other offset moves integral, frequency and clock, and nothing else. -/
theorem Domain.servo_update (x : Domain) (o : Rat) (len thr kp ki : Nat) (h : ¬ (thr : Rat) < ratAbs o) :
    (x.servo o len thr kp ki).1 =
      { x with
        ofs := x.ofs + o, integ := x.integ + (ki : Rat) / 65536 * (o / ((len : Nat) / (1000000000 : Rat))),
        freq := max (-200000) (min 200000 ((kp : Rat) / 65536 * (o / ((len : Nat) / (1000000000 : Rat))) +
          (x.integ + (ki : Rat) / 65536 * (o / ((len : Nat) / (1000000000 : Rat)))))) } := by
  unfold Domain.servo
  rw [if_neg h, ← clamp_eq_max_min 200000 _ (by decide)]

/-! ## Judging an interval (02 R39, R40) -/

/-- An interval without a Sync counts as missed, and unlocks at MISS. -/
theorem State.judge_missed (s : State) (d : Dom) (h : (s.tim.domain d).sample = none) :
    ∃ st, (s.judge d).1 = { s.tim.domain d with
      missed := min ((s.tim.domain d).missed + 1) max16, good := 0, set := st,
      lock := (s.tim.domain d).lock && decide (min ((s.tim.domain d).missed + 1) max16 < s.domFld d 0 23 16) } := by
  unfold State.judge
  dsimp only
  rw [h]
  simp only [satAdd_eq_min]
  split
  · rename_i hlose
    obtain ⟨-, hm⟩ := Bool.and_eq_true_iff.mp hlose
    have hm := Nat.not_lt.mpr (of_decide_eq_true hm)
    exact ⟨false, by simp only [hm, decide_false, Bool.and_false]⟩
  · rename_i hkeep
    refine ⟨(s.tim.domain d).set, ?_⟩
    cases hk : (s.tim.domain d).lock
    · rfl
    · rw [hk, Bool.true_and, decide_eq_true_eq, ge_iff_le, Nat.not_le] at hkeep
      simp only [hkeep, decide_true, Bool.and_self]

/-- An interval with a Sync takes the servo's result; beside it only counts and the lock change. -/
theorem State.judge_sampled (s : State) (d : Dom) (o : Rat) (h : (s.tim.domain d).sample = some o) :
    ∃ st lk g b dt, (s.judge d).1 =
      { ((s.tim.domain d).servo o (syncLen (s.tim.domain d).logSync) (s.domFld d 0x14 15 0) (s.domFld d 4 15 0)
          (s.domFld d 4 31 16)).1 with
        sample := none, missed := 0, set := st, lock := lk, good := g, bad := b, lockDt := dt } := by
  unfold State.judge
  dsimp only
  rw [h]
  dsimp only
  generalize (if ratAbs o ≤ ((s.domFld d 8 15 0 : Nat) : Rat) then satAdd 65535 (s.tim.domain d).good 1 else 0) = good
  generalize (if ratAbs o > ((s.domFld d 8 31 16 : Nat) : Rat) then satAdd 65535 (s.tim.domain d).bad 1 else 0) = bad
  split
  · split <;> exact ⟨_, _, _, _, _, rfl⟩
  · split <;> exact ⟨_, _, _, _, _, rfl⟩

/-! ## Lock and loss of lock (02 R43, R45) -/

/-- A lock changes the active domain, whether there has been a first lock and the step that is due; and raises events. -/
theorem State.onLock_only (s : State) (d : Dom) :
    ∃ a e w h, s.onLock d = { s with tim := { s.tim with active := a, everLocked := e, stepDue := w }, hst := h } := by
  unfold State.onLock
  obtain ⟨x, hx⟩ := s.raise_only 17 (d.code + 2)
  rw [hx]
  obtain ⟨h, hd⟩ := State.setActive_only { s with hst := x } d
  obtain ⟨g, hp⟩ := State.setActive_only { s with hst := x } .pri
  dsimp only
  rw [hd, hp]
  split
  · split
    · exact ⟨_, _, _, _, rfl⟩
    · split <;> exact ⟨_, _, _, _, rfl⟩
  · split
    · exact ⟨_, _, _, _, rfl⟩
    · split <;> exact ⟨_, _, _, _, rfl⟩

theorem State.onUnlock_only (s : State) (d : Dom) :
    ∃ a h, s.onUnlock d = { s with tim := { s.tim with active := a }, hst := h } := by
  unfold State.onUnlock
  obtain ⟨x, hx⟩ := s.raise_only 17 d.code
  rw [hx]
  dsimp only
  split
  · obtain ⟨h, e⟩ := State.setActive_only { s with hst := x } (Dom.other d)
    exact ⟨_, h, e⟩
  · exact ⟨_, _, rfl⟩

@[simp] theorem State.onLock_domain (s : State) (d e : Dom) : (s.onLock d).tim.domain e = s.tim.domain e := by
  obtain ⟨_, _, _, _, h⟩ := s.onLock_only d
  rw [h]
  exact Tim.domain_congr _ _ e rfl rfl

@[simp] theorem State.onUnlock_domain (s : State) (d e : Dom) : (s.onUnlock d).tim.domain e = s.tim.domain e := by
  obtain ⟨_, _, h⟩ := s.onUnlock_only d
  rw [h]
  exact Tim.domain_congr _ _ e rfl rfl

/-! ## The end of an interval -/

/-- The domain whose interval ends is what judging makes of it at that instant. -/
theorem syncEnd_domain (s : State) (d : Dom) (hl : s.dtLive = true) (hs : s.servoEn = true) (he : s.domEn d = true) :
    (syncEnd s d).tim.domain d = { ((s.advanceTo (s.intervalEnd d)).judge d).1 with ivEnd := s.intervalEnd d } := by
  unfold syncEnd
  rw [hl, hs, he]
  simp only [Bool.and_self, if_true, State.settleTime_domain]
  split <;> simp only [State.onLock_domain, State.onUnlock_domain, Tim.domain_setDomain_same]

/-- Settles O32: judging at the end of the interval, by whether a Sync came and whether it was an outlier. -/
theorem servoFollowsOffset : Obligations.ServoFollowsOffset := by
  unfold Obligations.ServoFollowsOffset
  intro s d hl hs he
  have hregs : ∀ o hi lo, (s.advanceTo (s.intervalEnd d)).domFld d o hi lo = s.domFld d o hi lo :=
    State.domFld_congr (s.advanceTo_regs _) d
  have hdom := syncEnd_domain s d hl hs he
  refine ⟨syncEnd s d, rfl, ?_⟩
  cases hx : ((s.advanceTo (s.intervalEnd d)).tim.domain d).sample with
  | none =>
    obtain ⟨st, hj⟩ := State.judge_missed _ d hx
    rw [hj, hregs] at hdom
    rw [hdom]
    exact ⟨rfl, hx, rfl, rfl, rfl⟩
  | some o =>
    obtain ⟨st, lk, g, b, dt, hj⟩ := State.judge_sampled _ d o hx
    rw [hj, hregs, hregs, hregs] at hdom
    rw [hdom]
    refine ⟨rfl, rfl, rfl, ?_⟩
    split
    · rename_i hout
      rw [Domain.servo_outlier _ _ _ _ _ _ hout]
      exact ⟨rfl, rfl, rfl⟩
    · rename_i hin
      rw [Domain.servo_update _ _ _ _ _ _ hin]
      exact ⟨rfl, rfl, rfl⟩

end Sys2Proof.Machine
end

section
/-!
PROOFS. Changes of DT by steps, bleeds and the wrap, and the Sync messages of master ports (02 R32, R36, R41, R43).
-/
namespace Sys2Proof.Machine

/-! ## What metering and moved waits leave alone at a step (11 R332) -/

theorem State.turnIntv_only (s : State) (d : MeterDef) (t t' : Nat) (f g : RunFlags) :
    ∃ m, s.turnIntv d t t' f g = { s with mtr := m } := by
  unfold State.turnIntv
  split
  · exact ⟨s.mtr, rfl⟩
  · exact ⟨_, rfl⟩

theorem State.catchIntv_only (n : Nat) (s : State) (t : Nat) : ∃ m, s.catchIntv n t = { s with mtr := m } := by
  induction n generalizing s with
  | zero => exact ⟨s.mtr, rfl⟩
  | succ n ih =>
    unfold State.catchIntv
    split
    · rename_i d i _ _
      split
      · obtain ⟨m, e⟩ := s.turnIntv_only d i.stop i.stop RunFlags.none RunFlags.none
        rw [e]
        obtain ⟨m', e'⟩ := ih { s with mtr := m }
        exact ⟨m', e'⟩
      · exact ⟨s.mtr, rfl⟩
    · exact ⟨s.mtr, rfl⟩

theorem State.intvTo_only (s : State) (t : Nat) : ∃ m, s.intvTo t = { s with mtr := m } := by
  unfold State.intvTo
  split
  · split
    · exact ⟨s.mtr, rfl⟩
    · exact State.catchIntv_only _ s t
  · exact ⟨s.mtr, rfl⟩

/-- Metering closes its intervals at a step, and touches nothing else. -/
theorem State.mtrStepTime_only (s : State) (t t' : Nat) : ∃ m, s.mtrStepTime t t' = { s with mtr := m } := by
  unfold State.mtrStepTime
  split
  · exact ⟨s.mtr, rfl⟩
  · rename_i d _
    split
    · exact ⟨s.mtr, rfl⟩
    · obtain ⟨m, e⟩ := s.intvTo_only t
      rw [e]
      obtain ⟨m', e'⟩ := State.turnIntv_only { s with mtr := m } d t t' { RunFlags.none with step := true }
        { RunFlags.none with step := true }
      rw [e']
      exact ⟨_, rfl⟩

@[simp] theorem State.mtrStepTime_tim (s : State) (t t' : Nat) : (s.mtrStepTime t t').tim = s.tim := by
  obtain ⟨m, e⟩ := s.mtrStepTime_only t t'; rw [e]
@[simp] theorem State.mtrStepTime_comb (s : State) (t t' : Nat) : (s.mtrStepTime t t').comb = s.comb := by
  obtain ⟨m, e⟩ := s.mtrStepTime_only t t'; rw [e]
@[simp] theorem State.shiftInstants_tim (s : State) (a b : Nat) : (s.shiftInstants a b).tim = s.tim := rfl
@[simp] theorem State.shiftInstants_comb (s : State) (a b : Nat) : (s.shiftInstants a b).comb = s.comb := rfl

/-! ## The first-lock step (02 R43) -/

/-- A step sets DT to the domain's clock and makes the domain active; that clock then stands at DT. -/
theorem State.stepTo_tim (s : State) (d : Dom) :
    (s.stepTo d).tim.dt = (s.tim.now + (s.tim.domain d).ofs).floor.toNat % 2 ^ 64 ∧ (s.stepTo d).tim.active = d ∧
      (s.stepTo d).tim.everLocked = true ∧ (s.stepTo d).tim.stepDue = none ∧ ((s.stepTo d).tim.domain d).ofs = 0 := by
  unfold State.stepTo
  dsimp only
  obtain ⟨h, e⟩ := State.setActive_only _ d
  rw [e]
  simp only [State.settleTime_dt, State.settleTime_active, State.settleTime_everLocked, State.settleTime_stepDue,
    State.settleTime_domain]
  refine ⟨rfl, trivial, trivial, trivial, ?_⟩
  cases d <;> exact Rat.sub_self

theorem State.stepTo_cstate (s : State) (d : Dom) : (s.stepTo d).comb.cstate = s.comb.cstate := by
  unfold State.stepTo
  dsimp only
  obtain ⟨h, e⟩ := State.setActive_only _ d
  rw [e]
  obtain ⟨x, l, g, m, e'⟩ := State.settleTime_only _
  rw [e']

/-- While no comb runs or waits a step that is due leaves the time unit as the plain step does. -/
theorem State.doStep_without_comb (s : State) (d : Dom) (hd : s.tim.stepDue = some d) (hc : s.comb.cstate = 0) :
    s.doStep.tim = (s.stepTo d).tim := by
  have hidle : ¬ s.comb.cstate = 2 := by omega
  unfold State.doStep
  simp only [hd, if_neg hidle]
  simp only [State.shiftInstants_comb, State.mtrStepTime_comb, State.stepTo_cstate, hc, if_true,
    State.shiftInstants_tim, State.mtrStepTime_tim]

theorem firstLockStep_without_comb (s : State) (d : Dom) (hl : s.dtLive = true) (hd : s.tim.stepDue = some d)
    (hc : s.comb.cstate = 0) : (firstLockStep s).tim = (s.stepTo d).tim := by
  have hidle : s.comb.cstate ≠ 2 := by omega
  unfold firstLockStep
  rw [hl, decide_eq_true hidle, Bool.true_or, Bool.true_or, Bool.and_self, if_pos rfl]
  exact s.doStep_without_comb d hd hc

/-! ## Bleeds (02 R41) -/

theorem Domain.pass_zero (x : Domain) (f : Rat) : x.pass f 0 = x := by
  unfold Domain.pass
  rw [Rat.zero_mul, Rat.add_zero]

theorem Tim.pass_domain (t : Tim) (f b : Rat) (d : Dom) : (t.pass f b).domain d = (t.domain d).pass f b := by
  cases d <;> rfl

/-- At the end of a bleed each domain clock has run on at the rate of the bleed. -/
theorem State.passLive_bleedLeft_domain (s : State) (d : Dom) (h : s.tim.bleeding = true) :
    ((s.passLive s.bleedLeft).tim.domain d) = (s.tim.domain d).pass s.dtRate s.bleedLeft := by
  rw [State.passLive_tim, h]
  simp only [Rat.le_refl, decide_true, Bool.and_self, if_true, Rat.sub_self]
  calc ((s.bledOut.pass s.bledOut.baseRate 0).putDt (s.tim.now + s.bleedLeft)).domain d
      = (s.bledOut.pass s.bledOut.baseRate 0).domain d := Tim.domain_congr _ _ d rfl rfl
    _ = s.bledOut.domain d := by rw [Tim.pass_domain, Domain.pass_zero]
    _ = (s.tim.pass s.dtRate s.bleedLeft).domain d := Tim.domain_congr _ _ d rfl rfl
    _ = (s.tim.domain d).pass s.dtRate s.bleedLeft := Tim.pass_domain ..

theorem State.passLive_active (s : State) (d : Rat) : (s.passLive d).tim.active = s.tim.active := by
  rw [State.passLive_tim]
  split <;> rfl

/-- How fast the active domain clock moves against DT in a bleed, per ns of DT. -/
def State.bleedSlope (s : State) : Rat := (1 + (s.tim.domain s.tim.active).freq / 1000000000) / (1 + s.dtRate) - 1

theorem State.bleedLeft_eq (s : State) :
    s.bleedLeft = if decide (ratAbs (s.tim.domain s.tim.active).ofs < 1) || decide (ratAbs s.bleedSlope = 0) then 0
      else (ratAbs (s.tim.domain s.tim.active).ofs - bleedGoal) / ratAbs s.bleedSlope := rfl

/-- BLEED_RATE has four bits (02 Table 2-5). -/
theorem State.bleedRate_bounds (s : State) (hr : 0 < s.fld 0x4000 15 12) : 0 < s.bleedRate ∧ s.bleedRate < 16 / 1000000 := by
  have hpos : (0 : Rat) < (s.fld 0x4000 15 12 : Nat) := Rat.natCast_pos.mpr hr
  have hlt : ((s.fld 0x4000 15 12 : Nat) : Rat) < (16 : Nat) := Rat.natCast_lt_natCast.mpr (s.fld_lt 0x4000 15 12)
  unfold State.bleedRate
  constructor <;> grind

/-- In a bleed the difference shrinks: the slope is against the sign of the difference, since the bleed rate is positive and
DT runs forward (02 R41). -/
theorem State.bleedSlope_opposes (s : State) (hb : s.tim.bleeding = true) (hl : (s.tim.domain s.tim.active).lock = true)
    (hr : 0 < s.fld 0x4000 15 12) (hf : ratAbs (s.tim.domain s.tim.active).freq ≤ 200000) :
    if (s.tim.domain s.tim.active).ofs < 0 then 0 < s.bleedSlope else s.bleedSlope < 0 := by
  obtain ⟨hpos, hsmall⟩ := s.bleedRate_bounds hr
  have hlo : -200000 ≤ (s.tim.domain s.tim.active).freq := by unfold ratAbs at hf; grind
  unfold State.bleedSlope State.dtRate Tim.baseRate
  simp only [hb, hl, if_true]
  split
  · refine (Rat.lt_iff_sub_pos _ _).mp ((Rat.lt_div_iff ?_).mpr ?_) <;> grind
  · have slower : (1 + (s.tim.domain s.tim.active).freq / 1000000000) /
        (1 + ((s.tim.domain s.tim.active).freq / 1000000000 + s.bleedRate)) < 1 := by
      refine (Rat.div_lt_iff ?_).mpr ?_ <;> grind
    grind

/-- Over what is left of a bleed a difference of 1 ns or more shrinks to the goal, a smaller one stays (02 R41). -/
theorem bleed_reaches_goal (o q b : Rat) (hq : if o < 0 then 0 < q else q < 0)
    (hb : b = if decide (ratAbs o < 1) || decide (ratAbs q = 0) then 0 else (ratAbs o - bleedGoal) / ratAbs q) :
    ratAbs (o + b * q) < 1 := by
  have hg0 : 0 ≤ bleedGoal := by unfold bleedGoal; grind
  have hg1 : bleedGoal < 1 := by unfold bleedGoal; grind
  have hq0 : ratAbs q ≠ 0 := by unfold ratAbs; grind
  rw [decide_eq_false hq0, Bool.or_false] at hb
  by_cases hnear : ratAbs o < 1
  · rw [hb, if_pos (decide_eq_true hnear), Rat.zero_mul, Rat.add_zero]
    exact hnear
  · rw [if_neg (by rw [decide_eq_false hnear]; decide)] at hb
    have hcancel : b * ratAbs q = ratAbs o - bleedGoal := by rw [hb, Rat.div_mul_cancel hq0]
    split at hq
    · rename_i ho
      rw [ratAbs_of_neg ho, ratAbs_of_nonneg (Rat.le_of_lt hq)] at hcancel
      have move : o + b * q = -bleedGoal := by grind
      rw [move]; unfold ratAbs; grind
    · rename_i ho
      rw [ratAbs_of_nonneg (Rat.not_lt.mp ho), ratAbs_of_neg hq] at hcancel
      have move : o + b * q = bleedGoal := by grind
      rw [move, ratAbs_of_nonneg hg0]
      exact hg1

/-- The state in which a bleed has run to its end, before the time state settles. -/
def State.afterBleed (s : State) : State :=
  { s.passLive s.bleedLeft with tim := { (s.passLive s.bleedLeft).tim with bleeding := false } }

theorem bleedEnd_eq (s : State) : bleedEnd s = if s.tim.bleeding && s.dtLive then s.afterBleed.settleTime else s := rfl

@[simp] theorem State.afterBleed_active (s : State) : s.afterBleed.tim.active = s.tim.active := s.passLive_active _

/-- After the bleed of a locked domain the active domain clock stands less than 1 ns from DT (02 R41). -/
theorem State.afterBleed_near (s : State) (hb : s.tim.bleeding = true) (hl : (s.tim.domain s.tim.active).lock = true)
    (hr : 0 < s.fld 0x4000 15 12) (hf : ratAbs (s.tim.domain s.tim.active).freq ≤ 200000) :
    ratAbs (s.afterBleed.tim.domain s.afterBleed.tim.active).ofs < 1 := by
  have hdom : s.afterBleed.tim.domain s.tim.active = (s.tim.domain s.tim.active).pass s.dtRate s.bleedLeft :=
    (Tim.domain_congr _ _ _ rfl rfl).trans (s.passLive_bleedLeft_domain s.tim.active hb)
  rw [State.afterBleed_active, hdom]
  exact bleed_reaches_goal _ s.bleedSlope _ (s.bleedSlope_opposes hb hl hr hf) s.bleedLeft_eq

/-- Settling then leaves BLEEDING clear, the active domain and its clock (02 R41). -/
theorem bleedEnd_reaches_goal (s : State) (hd : s.dtLive = true) (hb : s.tim.bleeding = true)
    (hl : (s.tim.domain s.tim.active).lock = true) (hr : 0 < s.fld 0x4000 15 12)
    (hf : ratAbs (s.tim.domain s.tim.active).freq ≤ 200000) :
    (bleedEnd s).tim.bleeding = false ∧ (bleedEnd s).tim.active = s.tim.active ∧
      ratAbs ((bleedEnd s).tim.domain (bleedEnd s).tim.active).ofs < 1 := by
  have hnear := s.afterBleed_near hb hl hr hf
  rw [bleedEnd_eq, hb, hd, Bool.and_self, if_pos rfl, State.settleTime_active, State.settleTime_domain]
  exact ⟨State.settleTime_bleeding_of_lt_one _ hnear, s.afterBleed_active, hnear⟩

/-! ## Master ports (02 R36) -/

/-- A master port's Sync for one domain: sent if the port carries the domain and the domain is enabled (02 R36). -/
def State.sendSync (s : State) (p : Nat) (d : Dom) : State :=
  if s.portUses p d && s.domEn d then s.emit (.ptp p (s.domNum d)) else s

/-- A Sync sent joins what left the block, which only grows; nothing else changes. -/
theorem State.sendSync_only (s : State) (p : Nat) (d : Dom) :
    ∃ o, s.sendSync p d = { s with hst := { s.hst with out := o } } ∧ (∀ x ∈ s.hst.out, x ∈ o) ∧
      (s.portUses p d = true → s.domEn d = true → Out.ptp p (s.domNum d) ∈ o) := by
  unfold State.sendSync
  split
  · exact ⟨_, rfl, fun x hx => List.mem_cons_of_mem _ hx, fun _ _ => List.mem_cons_self⟩
  · rename_i h
    exact ⟨s.hst.out, rfl, fun x hx => hx, fun hu he => absurd (Bool.and_eq_true_iff.mpr ⟨hu, he⟩) h⟩

/-- A master port sends for both domains in turn while the time state is TRUSTED. -/
theorem masterSync_eq (s : State) (p : Nat) (hp : p < 8) (hl : s.dtLive = true) (hs : s.servoEn = true)
    (hb : s.bcMode = true) (hm : s.portFld p 5 5 = 1) (ht : s.tim.tstate = .trusted) :
    masterSync s p = (s.sendSync p .pri).sendSync p .sec := by
  unfold masterSync
  simp only [hl, hs, hb, hp, hm, ht, decide_true, Bool.and_self, if_true]
  unfold State.sendSync
  cases s.portUses p .pri && s.domEn .pri <;> rfl

theorem masterSync_sends (s : State) (p : Nat) (hp : p < 8) (hl : s.dtLive = true) (hs : s.servoEn = true)
    (hb : s.bcMode = true) (hm : s.portFld p 5 5 = 1) (ht : s.tim.tstate = .trusted) :
    ∃ o, masterSync s p = { s with hst := { s.hst with out := o } } ∧
      ∀ d, s.portUses p d = true → s.domEn d = true → Out.ptp p (s.domNum d) ∈ o := by
  obtain ⟨a, ea, -, ha⟩ := s.sendSync_only p .pri
  obtain ⟨b, eb, kept, hsec⟩ := State.sendSync_only { s with hst := { s.hst with out := a } } p .sec
  refine ⟨b, by rw [masterSync_eq s p hp hl hs hb hm ht, ea, eb], fun d => ?_⟩
  cases d with
  | pri => exact fun hu he => kept _ (ha hu he)
  | sec => exact hsec

/-- Settles O33: the step, the bleed and the wrap by their lemmas. -/
theorem stepsBleedsAndWrap : Obligations.StepsBleedsAndWrap := by
  unfold Obligations.StepsBleedsAndWrap
  intro s
  refine ⟨fun d hl hc hd => ⟨firstLockStep s, rfl, ?_⟩, fun hl hb hk hr hf => ⟨bleedEnd s, rfl, ?_⟩, fun hb => ?_,
    ⟨dtWrap s, rfl, ?_⟩, fun p hp hl hs hb hm ht => ?_⟩
  · rw [firstLockStep_without_comb s d hl hd hc]
    exact s.stepTo_tim d
  · exact bleedEnd_reaches_goal s hl hb hk hr hf
  · refine congrArg Host.Outcome.next ((bleedEnd_eq s).trans ?_)
    rw [hb, Bool.false_and, if_neg Bool.false_ne_true]
  · unfold dtWrap
    obtain ⟨x, l, e⟩ := s.advanceTo_only (2 ^ 64 - 1)
    rw [e]
    exact ⟨rfl, rfl, rfl⟩
  · obtain ⟨o, e, ho⟩ := masterSync_sends s p hp hl hs hb hm ht
    refine ⟨masterSync s p, rfl, ?_, ?_⟩
    · rw [e]
    · rw [e]; exact ho

end Sys2Proof.Machine
end

section
/-!
PROOFS. A host command that an idle block takes: the state it acts on, what is left when it is held, and what is left when it
completes (17 R441 to R446, 16 R425).
-/
namespace Sys2Proof.Machine

/-! ## Completing keeps idle pairs idle (16 R425) -/

/-- Every latched entry of every pair has been fetched and served. -/
def State.PairsIdle (s : State) : Prop := ∀ p ∈ s.hst.qps, p.Idle

theorem State.setQp_idle {s : State} {q : Qp} (hs : s.PairsIdle) (hq : q.Idle) : (s.setQp q).PairsIdle := by
  intro p hp
  obtain ⟨r, hr, rfl⟩ := List.mem_map.mp hp
  split
  · exact hq
  · exact hs r hr

@[simp] theorem State.signal_qps (s : State) (q : Qp) : (s.signal q).hst.qps = s.hst.qps := by
  unfold State.signal
  split
  · split <;> rfl
  · rfl

theorem State.afterPost_idle {s : State} (hs : s.PairsIdle) (id : Nat) : (s.afterPost id).PairsIdle := by
  unfold State.afterPost
  split
  · exact hs
  · rename_i q hq
    have hi : q.Idle := hs q (s.qp?_mem id q hq)
    split
    · split
      · exact State.setQp_idle hs hi
      · unfold State.PairsIdle
        rw [State.signal_qps]
        exact State.setQp_idle (q := { q with sig := false, holdoff := true }) hs hi
    · exact State.setQp_idle hs hi

/-- A completion moves the posted position alone, and that of no other entry. -/
theorem State.postCpl_idle {s : State} (hs : s.PairsIdle) (c : Cpl) : (s.postCpl c).PairsIdle := by
  unfold State.postCpl
  split
  · exact hs
  · split
    · exact hs
    · rename_i q hq
      have hi : q.Idle := hs q (s.qp?_mem c.qp q hq)
      dsimp only
      refine State.afterPost_idle (State.setQp_idle (q := { q with posted := q.posted + 1 }) ?_ hi) c.qp
      split <;> exact hs

theorem State.queueCpl_idle {s : State} (hs : s.PairsIdle) (c : Cpl) : (s.queueCpl c).PairsIdle := by
  unfold State.queueCpl
  split
  · exact hs
  · split
    · exact hs
    · split
      · refine State.postCpl_idle ?_ c
        exact List.foldlRecOn s.hst.cpls State.postCpl hs (fun u hu x _ => State.postCpl_idle hu x)
      · exact hs

theorem State.finish_idle {s : State} (hs : s.PairsIdle) (n st r0 : Nat) (r1 : Option Nat) (d : List Byte) :
    (s.finish n st r0 r1 d).PairsIdle := by
  unfold State.finish
  split
  · exact hs
  · refine State.queueCpl_idle ?_ _
    exact hs

theorem State.endDeletes_idle {s : State} (hs : s.PairsIdle) : s.endDeletes.PairsIdle := by
  refine List.foldlRecOn s.hst.deleting _ hs (fun u hu p _ => ?_)
  split
  · exact hu
  · refine State.finish_idle ?_ _ _ _ _ _
    exact hu

theorem State.complete_idle {s : State} (hs : s.PairsIdle) (n st r0 : Nat) (r1 : Option Nat) (d : List Byte) :
    (s.complete n st r0 r1 d).PairsIdle :=
  State.endDeletes_idle (State.finish_idle hs n st r0 r1 d)

/-! ## Service after a completion -/

/-- In RUN the host island serves in HST cells only (16 R425). -/
theorem State.hostServe_waits {s : State} (hk : s.continuous = false) (hw : s.hst.cell = none) : s.hostServe = s := by
  unfold State.hostServe State.cellServe
  rw [hk, hw]
  rfl

/-- With no event waiting and, in continuous service, no completion, service moves ring positions alone. -/
theorem State.hostServe_settled {s : State} (hi : s.PairsIdle) (hc : s.continuous = true → s.hst.cpls = []) (he : s.hst.events = [])
    (hw : s.hst.cell = none) : ∃ l, s.hostServe = { s with hst := { s.hst with qps := l } } := by
  by_cases hk : s.continuous = true
  · exact s.hostServe_idle hi (hc hk) he hw
  · exact ⟨s.hst.qps, State.hostServe_waits (Bool.eq_false_iff.mpr hk) hw⟩

theorem State.runs_of_service {s : State} (hp : s.pwr.power = .service) (hw : s.clk.wait = []) (i : Island) : s.runs i = true := by
  unfold State.runs State.inService
  rw [hp, hw]
  rfl

theorem State.continuous_iff {s : State} (hp : s.pwr.power = .service) (hw : s.clk.wait = []) :
    s.continuous = true ↔ s.mgt.run ≠ .run := by
  unfold State.continuous
  rw [State.runs_of_service hp hw, Bool.true_and, decide_eq_true_iff]

@[simp] theorem Mgt.countCpl_run (m : Mgt) (x : Held) (st : Nat) : (m.countCpl x st).run = m.run := by
  unfold Mgt.countCpl; split <;> rfl

@[simp] theorem Mgt.countCpl_fenceWait (m : Mgt) (x : Held) (st : Nat) : (m.countCpl x st).fenceWait = m.fenceWait := by
  unfold Mgt.countCpl; split <;> rfl

/-- SUCCESS counts in MGT_CMDOK, any other status in MGT_CMDFAIL (17 Table 17-10). -/
theorem Mgt.countCpl_counts (m : Mgt) (x : Held) (st : Nat) :
    if st = 0 then (m.countCpl x st).cmdOk = min (m.cmdOk + 1) max32
    else (m.countCpl x st).cmdFail = min (m.cmdFail + 1) max32 := by
  unfold Mgt.countCpl
  split <;> exact satAdd_eq_min ..

/-! ## Taking a command (17 R441, R450) -/

/-- The command as it is held from its taking on. -/
def State.newHeld (s : State) (c : Instr) (h : Hdr) : Held := ⟨s.mgt.seq, h.qp, h.cid, hostOpc c, s.tim.dt, 0⟩

/-- The state a command acts on: it is handed over no longer, and the only one held. -/
def State.atTaking (s : State) (c : Instr) (h : Hdr) : State :=
  { s with hst := { s.hst with handover := [] }, mgt := { s.mgt with seq := s.mgt.seq + 1, held := [s.newHeld c h] } }

/-- An idle block is handed a command that needs no authorisation, its fields in range, in a run state that takes it. -/
structure Admitted (s : State) (h : Hdr) (q : Qp) (c : Instr) : Prop where
  quiet : Claim.Quiet s h q
  entry : hostEntry c = some (hostOpc c, h)
  fits : s.paramsOk c = true
  plain : authorised (hostOpc c) = false
  takes : s.mgt.run ∈ opcStates (hostOpc c)

/-- A command whose row lists SETUP, RUN and HALT is taken in every run state but INIT (17 Table 17-4). -/
theorem Admitted.of_started {s : State} {h : Hdr} {q : Qp} {c : Instr} {o : Nat} (hq : Claim.Quiet s h q) (hr : s.mgt.run ≠ .init)
    (he : hostEntry c = some (o, h)) (hl : opcStates o = [.setup, .run, .halt]) (hn : authorised o = false)
    (hp : s.paramsOk c = true) : Admitted s h q c := by
  have ho : hostOpc c = o := by unfold hostOpc; rw [he]
  have hmem : s.mgt.run ∈ opcStates o := by
    rw [hl]
    cases hc : s.mgt.run with
    | init => exact absurd hc hr
    | setup | run | halt => decide
  subst ho
  exact ⟨hq, he, hp, hn, hmem⟩

section
variable {s u : State} {h : Hdr} {q : Qp} {c : Instr}

/-- The command acts at once; then what it leaves is served. -/
theorem Admitted.exec_eq (a : Admitted s h q c) :
    exec c s = .next (let t := ((s.atTaking c h).hostDo s.mgt.seq c).pumpFence
                      if t.hst.handover.isEmpty then t.hostServe else t) := by
  have hq := a.quiet
  have ht : (({ s with hst := { s.hst with handover := [] } } : State).takeCmd c h 0) = (s.atTaking c h).hostDo s.mgt.seq c := by
    unfold State.takeCmd
    simp only [a.plain, Bool.false_eq_true, if_false, hq.held, List.nil_append]
    exact if_pos (List.contains_iff_mem.mpr a.takes)
  rw [exec_of_hostEntry c _ h s a.entry,
    s.hostCommand_taken c h (State.runs_of_service hq.power hq.clocks .mgt) hq.next hq.small hq.good a.fits hq.free hq.fences, ht]

/-- With no entry left to hand over and none behind a FENCE, what the command leaves is served at once. -/
theorem Admitted.exec_served (a : Admitted s h q c) (hd : (s.atTaking c h).hostDo s.mgt.seq c = u) (hn : u.hst.handover = [])
    (hf : u.mgt.fenceWait = []) : exec c s = .next u.hostServe := by
  rw [a.exec_eq, hd, u.pumpFence_none hf]
  dsimp only
  rw [hn]
  rfl

/-- A command that leaves host interface and management island as its taking did is held: beyond its effect only ring
positions move. -/
theorem Admitted.exec_held (a : Admitted s h q c) (hd : (s.atTaking c h).hostDo s.mgt.seq c = u)
    (hh : u.hst = (s.atTaking c h).hst) (hm : u.mgt = (s.atTaking c h).mgt) :
    ∃ l, exec c s = .next { u with hst := { u.hst with qps := l } } := by
  have hq := a.quiet
  obtain ⟨l, e⟩ := State.hostServe_settled (s := u) (by unfold State.PairsIdle; rw [hh]; exact hq.idle) (fun _ => by rw [hh]; exact hq.cpls)
    (by rw [hh]; exact hq.events) (by rw [hh]; exact hq.cell)
  exact ⟨l, by rw [a.exec_served hd (by rw [hh]; rfl) (by rw [hm]; exact hq.fences), e]⟩

/-- A command counted and held no longer is done once its entry is posted, in RUN once its completion waits. -/
theorem done_of_counted {t : State} {st r0 r1 : Nat}
    (hm : t.mgt = { (s.atTaking c h).mgt.countCpl (s.newHeld c h) st with held := [] })
    (posted : s.mgt.run ≠ .run → q.entry r0 r1 s.tim.dt h.cid st ∈ t.hst.out)
    (waits : s.mgt.run = .run →
      ∃ y ∈ t.hst.cpls, y.qp = h.qp ∧ y.cid = h.cid ∧ y.status = st ∧ y.res0 = r0 ∧ y.res1 = r1 ∧ y.dt = s.tim.dt) :
    Claim.Done s t h q st r0 r1 := by
  have hrun : t.mgt.run = s.mgt.run := by rw [hm]; exact Mgt.countCpl_run ..
  refine ⟨fun x hx => ?_, ?_, ?_⟩
  · rw [hm] at hx; cases hx
  · rw [hm]; exact (s.atTaking c h).mgt.countCpl_counts (s.newHeld c h) st
  · rw [hrun]
    split
    · exact waits ‹_›
    · exact posted ‹_›

/-- A command whose effect leaves host interface, management island, time, power and clocks as its taking did, and which then
completes: beyond its effect only host interface and management island change. -/
theorem Admitted.exec_done (a : Admitted s h q c) {st r0 : Nat} {r1 : Option Nat} {d : List Byte}
    (hd : (s.atTaking c h).hostDo s.mgt.seq c = u.complete s.mgt.seq st r0 r1 d) (hh : u.hst = (s.atTaking c h).hst)
    (hm : u.mgt = (s.atTaking c h).mgt) (ht : u.tim = s.tim) (hp : u.pwr = s.pwr) (hc : u.clk = s.clk) :
    ∃ x m, exec c s = .next { u with hst := x, mgt := m } ∧
      Claim.Done s { u with hst := x, mgt := m } h q st r0 (r1.getD s.tim.dt) := by
  have hq := a.quiet
  have hcont : u.continuous = true ↔ s.mgt.run ≠ .run := by
    rw [State.continuous_iff (by rw [hp]; exact hq.power) (by rw [hc]; exact hq.clocks), hm]; rfl
  have hidle : u.PairsIdle := by unfold State.PairsIdle; rw [hh]; exact hq.idle
  obtain ⟨l, p, o, cs, e, now, later⟩ := u.complete_only (s.newHeld c h) q st r0 r1 d (by rw [hm]; rfl) rfl
    (by rw [hh]; exact hq.deleting) (by rw [hh]; exact hq.cpls) (by unfold State.qp?; rw [hh]; exact hq.pair)
  rw [ht] at now later
  replace e : u.complete s.mgt.seq st r0 r1 d = _ := e
  obtain ⟨l', served⟩ := State.hostServe_settled (State.complete_idle hidle s.mgt.seq st r0 r1 d)
    (fun k => by
      rw [e] at k ⊢
      refine (now ?_).1
      rw [← k]; unfold State.continuous; rw [Mgt.countCpl_run]; rfl)
    (by rw [e, hh]; exact hq.events) (by rw [e, hh]; exact hq.cell)
  have hx := a.exec_served hd (by rw [e, hh]; rfl) (by rw [e]; dsimp only; rw [Mgt.countCpl_fenceWait, hm]; exact hq.fences)
  refine ⟨_, { (s.atTaking c h).mgt.countCpl (s.newHeld c h) st with held := [] }, by rw [hx, served, e, hm],
    done_of_counted rfl (fun hr => ?_) (fun hr => ?_)⟩
  · exact (now (hcont.mpr hr)).2
  · obtain ⟨-, -, hcs⟩ := later (Bool.eq_false_iff.mpr fun k => hcont.mp k hr)
    exact ⟨_, by rw [hcs]; exact List.mem_singleton_self _, rfl, rfl, rfl, rfl, rfl, rfl⟩

end

end Sys2Proof.Machine
end

section
/-!
PROOFS. Commands of the image class and of the key island: the bytes a WRITE stores, and the commands that wait as key work
(04 R94, 17 R444, 18 R469, R470).
-/
namespace Sys2Proof

/-! ## Parts of a sparse memory -/

variable {α : Type} (d : Nat → α)

theorem SMap.get_of_lacks (m : SMap α) (k : Nat) (h : SMap.lacks m k) : SMap.get d m k = d k := by
  induction m with
  | nil => rfl
  | cons p m ih =>
    rw [SMap.get, if_neg (h p List.mem_cons_self), ih fun r hr => h r (List.mem_cons_of_mem _ hr)]

/-- The later part of a memory is read where the earlier one lists nothing. -/
theorem SMap.get_append_right (m n : SMap α) (k : Nat) (h : SMap.lacks m k) : SMap.get d (m ++ n) k = SMap.get d n k := by
  induction m with
  | nil => rfl
  | cons p m ih =>
    rw [List.cons_append, SMap.get, if_neg (h p List.mem_cons_self), ih fun r hr => h r (List.mem_cons_of_mem _ hr)]

theorem SMap.get_append_left (m n : SMap α) (k : Nat) (h : SMap.lacks n k) : SMap.get d (m ++ n) k = SMap.get d m k := by
  induction m with
  | nil => exact SMap.get_of_lacks d n k h
  | cons p m ih => rw [List.cons_append, SMap.get, SMap.get, ih]

theorem SMap.lacks_append {m n : SMap α} {k : Nat} (hm : SMap.lacks m k) (hn : SMap.lacks n k) : SMap.lacks (m ++ n) k :=
  fun p hp => (List.mem_append.mp hp).elim (hm p) (hn p)

theorem SMap.lacks_filter {m : SMap α} {k : Nat} {f : Nat → Bool} (h : f k = false) : SMap.lacks (m.filter fun p => f p.1) k := by
  intro p hp e
  have hf := (List.mem_filter.mp hp).2
  rw [e, h] at hf
  cases hf

theorem SMap.get_filter (m : SMap α) (k : Nat) (f : Nat → Bool) (h : f k = true) :
    SMap.get d (m.filter fun p => f p.1) k = SMap.get d m k := by
  induction m with
  | nil => rfl
  | cons p m ih =>
    by_cases hk : p.1 = k
    · rw [List.filter_cons_of_pos (by rw [hk]; exact h), SMap.get, SMap.get, if_pos hk, if_pos hk]
    · rw [SMap.get, if_neg hk, ← ih, List.filter_cons]
      split
      · rw [SMap.get, if_neg hk]
      · rfl

end Sys2Proof

namespace Sys2Proof.Machine

/-! ## The bytes of a WRITE (04 R94) -/

/-- What a super lists of a byte of a WRITE and its place: a zero byte is not listed. -/
def listedByte (ofs : Nat) (p : Byte × Nat) : Option (Nat × Byte) := if p.1 = 0 then none else some (ofs + p.2, p.1)

/-- The new bytes as a super lists them, from the place `k` on. -/
def listedBytes (ofs : Nat) (data : List Byte) (k : Nat) : SMap Byte := (data.zipIdx k).filterMap (listedByte ofs)

theorem listedBytes_lacks {ofs : Nat} {data : List Byte} {k a : Nat} (h : a < ofs + k ∨ ofs + k + data.length ≤ a) :
    SMap.lacks (listedBytes ofs data k) a := by
  intro p hp
  obtain ⟨⟨b, n⟩, hb, e⟩ := List.mem_filterMap.mp hp
  have hn := List.mem_zipIdx hb
  unfold listedByte at e
  split at e
  · cases e
  · cases e
    dsimp only
    omega

theorem listedBytes_cons (ofs : Nat) (x : Byte) (data : List Byte) (k : Nat) :
    listedBytes ofs (x :: data) k = (if x = 0 then [] else [(ofs + k, x)]) ++ listedBytes ofs data (k + 1) := by
  unfold listedBytes listedByte
  rw [List.zipIdx_cons, List.filterMap_cons]
  by_cases hx : x = 0
  · rw [if_pos hx, if_pos hx]; rfl
  · rw [if_neg hx, if_neg hx]; rfl

/-- A byte reads back, listed or zero. -/
theorem get_listedBytes (ofs : Nat) (data : List Byte) (k n : Nat) (b : Byte) (h : data[n]? = some b) :
    SMap.get dByte (listedBytes ofs data k) (ofs + k + n) = b := by
  induction data generalizing k n with
  | nil => cases h
  | cons x data ih =>
    rw [listedBytes_cons]
    cases n with
    | zero =>
      cases h
      rw [SMap.get_append_left dByte _ _ _ (listedBytes_lacks (.inl (by omega)))]
      split
      · rename_i hx; exact hx.symm
      · exact if_pos rfl
    | succ n =>
      rw [SMap.get_append_right]
      · rw [show ofs + k + (n + 1) = ofs + (k + 1) + n by omega]
        exact ih (k + 1) n h
      · intro p hp
        split at hp
        · cases hp
        · rw [List.mem_singleton.mp hp]
          dsimp only
          omega

/-- The bytes below, the new ones, the bytes above. -/
theorem putBytes_eq (m : SMap Byte) (ofs : Nat) (data : List Byte) :
    putBytes m ofs data = m.filter (fun p => decide (p.1 < ofs)) ++ listedBytes ofs data 0 ++
      m.filter (fun p => decide (ofs + data.length ≤ p.1)) := rfl

/-- A byte outside those written reads as before. -/
theorem get_putBytes_outside (m : SMap Byte) (ofs : Nat) (data : List Byte) (a : Nat) (h : a < ofs ∨ ofs + data.length ≤ a) :
    SMap.get dByte (putBytes m ofs data) a = SMap.get dByte m a := by
  have new : SMap.lacks (listedBytes ofs data 0) a := listedBytes_lacks h
  rw [putBytes_eq]
  rcases h with h | h
  · rw [SMap.get_append_left dByte _ _ _ (SMap.lacks_filter (f := fun k => decide (ofs + data.length ≤ k)) (decide_eq_false (by omega))),
      SMap.get_append_left dByte _ _ _ new]
    exact SMap.get_filter dByte m a (fun k => decide (k < ofs)) (decide_eq_true h)
  · rw [SMap.get_append_right dByte _ _ _
      (SMap.lacks_append (SMap.lacks_filter (f := fun k => decide (k < ofs)) (decide_eq_false (by omega))) new)]
    exact SMap.get_filter dByte m a (fun k => decide (ofs + data.length ≤ k)) (decide_eq_true h)

/-- A byte written reads as written. -/
theorem get_putBytes_inside (m : SMap Byte) (ofs : Nat) (data : List Byte) (n : Nat) (b : Byte) (h : data[n]? = some b) :
    SMap.get dByte (putBytes m ofs data) (ofs + n) = b := by
  have hn : n < data.length := (List.getElem?_eq_some_iff.mp h).1
  rw [putBytes_eq, SMap.get_append_left dByte _ _ _
      (SMap.lacks_filter (f := fun k => decide (ofs + data.length ≤ k)) (decide_eq_false (by omega))),
    SMap.get_append_right dByte _ _ _ (SMap.lacks_filter (f := fun k => decide (k < ofs)) (decide_eq_false (by omega)))]
  exact get_listedBytes ofs data 0 n b h

/-! ## WRITE -/

theorem State.setSuper_other (s : State) {x y : Nat} (u : Super) (hx : x ≤ 1) (hy : y ≤ 1) (h : y ≠ x) :
    (s.setSuper x u).super y = s.super y := by
  unfold State.setSuper State.super
  by_cases e : x = 0
  · rw [if_pos e, if_neg (by omega), if_neg (by omega)]
  · rw [if_neg e, if_pos (by omega), if_pos (by omega)]

theorem State.verifying_eq_false {s : State} {x : Nat} (h : ∀ j ∈ s.key.jobs, ∀ n, j.work ≠ .verify n x) : s.verifying x = false := by
  refine List.any_eq_false.mpr fun j hj => ?_
  split
  · rename_i n y e
    exact fun k => h j hj n (by rw [e, of_decide_eq_true k])
  · exact Bool.false_ne_true

/-- A command that only fails leaves supers and images alone. -/
theorem Admitted.exec_fail_sup {s : State} {h : Hdr} {q : Qp} {c : Instr} (a : Admitted s h q c) {st : Nat}
    (hd : (s.atTaking c h).hostDo s.mgt.seq c = (s.atTaking c h).fail s.mgt.seq st) :
    ∃ t, exec c s = .next t ∧ Claim.Done s t h q st 0 s.tim.dt ∧ t.sup = s.sup := by
  obtain ⟨x, m, e, done⟩ := a.exec_done hd rfl rfl rfl rfl rfl
  exact ⟨_, e, done, rfl⟩

/-- A super after a WRITE of `data` at `ofs`. -/
def Super.written (u : Super) (ofs : Nat) (data : List Byte) : Super :=
  { u with st := .writing, bytes := putBytes u.bytes ofs data }

/-- With no VERIFY of the super under way, WRITE is refused by the super's state or its own range, or stores its bytes. -/
theorem State.writeImage_of_not_verifying {s : State} {x : Nat} (hv : s.verifying x = false) (n ofs : Nat) (data : List Byte) :
    s.writeImage n x ofs data =
      if (s.super x).st = .active then s.fail n stSuperActive
      else if (s.super x).st = .armed then s.fail n stSwapPending
      else if 16777216 < ofs + data.length then s.fail n stImageRange
      else (s.setSuper x ((s.super x).written ofs data)).ok n 0 := by
  unfold State.writeImage
  rw [hv]
  rfl

/-- A WRITE that is not refused stores its bytes and completes with SUCCESS. -/
theorem Admitted.exec_written {s : State} {h : Hdr} {q : Qp} {c : Instr} (a : Admitted s h q c) {x : Nat} {u : Super}
    (hd : (s.atTaking c h).hostDo s.mgt.seq c = ((s.atTaking c h).setSuper x u).ok s.mgt.seq 0) :
    ∃ t, exec c s = .next t ∧ Claim.Done s t h q 0 0 s.tim.dt ∧ t.sup = (s.setSuper x u).sup := by
  obtain ⟨y, m, e, done⟩ := a.exec_done hd (State.setSuper_hst ..) (State.setSuper_mgt ..) (State.setSuper_tim ..)
    (State.setSuper_pwr ..) (State.setSuper_clk ..)
  refine ⟨_, e, done, ?_⟩
  unfold State.setSuper
  split <;> rfl

/-- Settles O20: the refusals in their order, then the bytes by the parts of `putBytes`. -/
theorem writeStoresImageBytes : Obligations.WriteStoresImageBytes := by
  unfold Obligations.WriteStoresImageBytes
  intro s h q x o d hq hr hp hv
  have a : Admitted s h q (.write h x o d) := .of_started hq hr rfl rfl rfl hp
  have hx : x ≤ 1 := by
    simp only [State.paramsOk, Bool.and_eq_true, decide_eq_true_eq] at hp
    exact hp.1.1.1.1
  have act := (s.atTaking (.write h x o d) h).writeImage_of_not_verifying (State.verifying_eq_false (x := x) hv) s.mgt.seq o d
  split
  · rename_i active
    exact a.exec_fail_sup (act.trans (if_pos active))
  rename_i inactive
  replace act := act.trans (if_neg inactive)
  split
  · rename_i armed
    exact a.exec_fail_sup (act.trans (if_pos armed))
  rename_i unarmed
  replace act := act.trans (if_neg unarmed)
  split
  · rename_i beyond
    exact a.exec_fail_sup (act.trans (if_pos beyond))
  rename_i within
  replace act := act.trans (if_neg within)
  obtain ⟨t, e, done, hsup⟩ := a.exec_written act
  have hsuper : ∀ y, t.super y = (s.setSuper x ((s.super x).written o d)).super y := by
    intro y; unfold State.super; rw [hsup]; rfl
  refine ⟨t, e, done, ?_, fun y hy hne => ?_, fun n hn => ?_, fun n b hb => ?_⟩
  · rw [hsuper, State.setSuper_same]; rfl
  · rw [hsuper]; exact s.setSuper_other _ hx hy hne
  · rw [hsuper, State.setSuper_same]; exact get_putBytes_outside _ o d n hn
  · rw [hsuper, State.setSuper_same]; exact get_putBytes_inside _ o d n b hb

/-! ## Commands that wait as key work (17 R444, 18 R471) -/

/-- A command whose effect is a piece of key work is held, and its work is the last piece. -/
theorem Admitted.waits_as_keyWork {s : State} {h : Hdr} {q : Qp} {c : Instr} (a : Admitted s h q c) {w : KeyWork}
    (hd : (s.atTaking c h).hostDo s.mgt.seq c = (s.atTaking c h).pushWork w) :
    ∃ t j, exec c s = .next t ∧ Claim.Held s t h c ∧ t.key.jobs = s.key.jobs ++ [j] ∧ j.work = w := by
  obtain ⟨l, e⟩ := a.exec_held hd rfl rfl
  exact ⟨_, _, e, ⟨rfl, rfl, rfl⟩, rfl, rfl⟩

theorem State.updateCmd_eq_pushWork {s : State} (n : Nat) (m : List Byte)
    (h : ∀ j ∈ s.key.jobs, ∀ a b, j.work ≠ .update a b) : s.updateCmd n m = s.pushWork (.update n m) := by
  refine if_neg fun k => ?_
  obtain ⟨j, hj, hk⟩ := List.any_eq_true.mp k
  split at hk
  · rename_i a b e
    exact h j hj a b e
  · cases hk

theorem State.attestCmd_eq_pushWork {s : State} (k n : Nat) (nonce : List Byte) (hn : (s.slot n).st = .key)
    (h0 : (s.slot 0).st ≠ .faulted) (h1 : (s.slot 1).st ≠ .faulted) : s.attestCmd k n nonce = s.pushWork (.attest k n nonce) := by
  unfold State.attestCmd
  rw [if_neg (Decidable.not_not.mpr hn), if_neg (by simp [h0, h1])]

theorem State.exportStatus_eq_zero {s : State} {n w : Nat} (hn : (s.slot n).st = .key) (he : (s.slot n).exportable = true)
    (hw : (s.keyPeek engWrap w).isSome = true) : s.exportStatus n w = 0 := by
  unfold State.exportStatus
  rw [if_neg (Decidable.not_not.mpr hn), he, ← Option.not_isSome, hw]
  rfl

theorem State.legacyExportCmd_eq_pushWork {s : State} (k : Nat) {n w : Nat} (h : s.exportStatus n w = 0) :
    s.legacyExportCmd k n w = s.pushWork (.wrap k n w) := if_pos h

theorem State.verifyImage_eq_pushWork {s : State} (n : Nat) {x : Nat} (hx : (s.super x).st = .writing) (hv : s.verifying x = false) :
    s.verifyImage n x = s.pushWork (.verify n x) := by
  unfold State.verifyImage
  rw [if_neg (Decidable.not_not.mpr hx), hv]
  rfl

/-- Settles O18: each command hands its work over, and is held. -/
theorem keyWorkQueues : Obligations.KeyWorkQueues := by
  unfold Obligations.KeyWorkQueues
  intro s h q hq hr
  refine ⟨fun m free => ?update, fun n b hn hb hkey h0 h1 => ?attest, fun n w hn hw hkey hex hwrap => ?wrap, ?identity,
    fun x hx hwr hv => ?verify⟩
  case update =>
    have a : Admitted s h q (.update h m) := .of_started hq hr rfl rfl rfl rfl
    exact a.waits_as_keyWork (State.updateCmd_eq_pushWork (s := s.atTaking (.update h m) h) _ m free)
  case attest =>
    have a : Admitted s h q (.attest h n b) := .of_started hq hr rfl rfl rfl (by simp [State.paramsOk, byteOk, hn, hb])
    exact a.waits_as_keyWork (State.attestCmd_eq_pushWork (s := s.atTaking (.attest h n b) h) _ n b hkey h0 h1)
  case wrap =>
    have a : Admitted s h q (.legacyExport h n w) := .of_started hq hr rfl rfl rfl (by simp [State.paramsOk, byteOk, hn, hw])
    exact a.waits_as_keyWork (State.legacyExportCmd_eq_pushWork (s := s.atTaking (.legacyExport h n w) h) _
      (State.exportStatus_eq_zero hkey hex hwrap))
  case identity =>
    have a : Admitted s h q (.identity h) := .of_started hq hr rfl rfl rfl rfl
    exact a.waits_as_keyWork rfl
  case verify =>
    have a : Admitted s h q (.verify h x) := .of_started hq hr rfl rfl rfl (decide_eq_true hx)
    exact a.waits_as_keyWork (State.verifyImage_eq_pushWork (s := s.atTaking (.verify h x) h) _ hwr (State.verifying_eq_false hv))

end Sys2Proof.Machine
end

section
/-!
PROOFS. What the valve axes leave alone: a command taken on an axis changes the axes, the events and completions it raises, and
the commands held (15 R396 to R403).
-/
namespace Sys2Proof.Machine

/-! ## A part of the state that every step of a fold keeps -/

theorem foldl_keeps {σ α β : Type} (g : σ → β) (f : σ → α → σ) (h : ∀ s a, g (f s a) = g s) (l : List α) (s : σ) :
    g (l.foldl f s) = g s :=
  List.foldlRecOn (motive := fun t => g t = g s) l f rfl fun t ht a _ => (h t a).trans ht

/-! ## Everything beside the axes -/

/-- The state with the axes, the host interface and the commands held blanked out: two states equal in it differ in those alone. -/
def State.besideAxes (s : State) : State := { s with axs := Axs.reset, hst := Hst.reset, mgt := Mgt.reset }

@[simp] theorem State.setAx_besideAxes (s : State) (a : Nat) (x : Ax) : (s.setAx a x).besideAxes = s.besideAxes := rfl
@[simp] theorem State.setInter_besideAxes (s : State) (g : Nat) (x : Option Inter) : (s.setInter g x).besideAxes = s.besideAxes := rfl
@[simp] theorem State.begin_besideAxes (s : State) (a : Nat) (d : AxisDef) (j : AxJob) (up : Bool) (t : Int) (v : Nat) :
    (s.begin a d j up t v).besideAxes = s.besideAxes := rfl
@[simp] theorem State.releaseEn_besideAxes (s : State) (a : Nat) (d : AxisDef) : (s.releaseEn a d).besideAxes = s.besideAxes := rfl
@[simp] theorem State.clearFlags_besideAxes (s : State) (a : Nat) : (s.clearFlags a).besideAxes = s.besideAxes := rfl
@[simp] theorem State.stopThen_besideAxes (s : State) (a : Nat) (n : AxNext) : (s.stopThen a n).besideAxes = s.besideAxes := rfl

@[simp] theorem State.raise_besideAxes (s : State) (n r : Nat) : (s.raise n r).besideAxes = s.besideAxes := by
  obtain ⟨x, e⟩ := s.raise_only n r; rw [e]; rfl
@[simp] theorem State.complete_besideAxes (s : State) (q st r0 : Nat) (r1 : Option Nat) (d : List Byte) :
    (s.complete q st r0 r1 d).besideAxes = s.besideAxes := by
  obtain ⟨x, m, e⟩ := s.complete_host q st r0 r1 d; rw [e]; rfl

@[simp] theorem State.axReject_besideAxes (s : State) (a : Nat) : (s.axReject a).besideAxes = s.besideAxes :=
  State.raise_besideAxes ..

@[simp] theorem State.axDone_besideAxes (s : State) (a st : Nat) : (s.axDone a st).besideAxes = s.besideAxes := by
  unfold State.axDone
  split
  · rfl
  · exact State.complete_besideAxes ..

@[simp] theorem State.leaveInter_besideAxes (s : State) (a : Nat) : (s.leaveInter a).besideAxes = s.besideAxes := by
  unfold State.leaveInter
  split
  · rfl
  · split <;> rfl

/-! ## Single axes (15 R399, R403) -/

@[simp] theorem State.goTo_besideAxes (s : State) (a : Nat) (d : AxisDef) (t : Int) (v : Nat) :
    (s.goTo a d t v).besideAxes = s.besideAxes := by
  unfold State.goTo
  dsimp only
  split
  · exact State.axDone_besideAxes ..
  · rfl

@[simp] theorem State.goHome_besideAxes (s : State) (a : Nat) (d : AxisDef) (p : Int) : (s.goHome a d p).besideAxes = s.besideAxes := by
  unfold State.goHome
  dsimp only
  generalize (if (s.ax a).refSw then !d.homePos else d.homePos) = up
  split
  · exact State.axDone_besideAxes ..
  · rfl

@[simp] theorem State.axMove_besideAxes (s : State) (a : Nat) (d : AxisDef) (t : Int) (v : Nat) :
    (s.axMove a d t v).besideAxes = s.besideAxes := by
  simp only [State.axMove, apply_ite State.besideAxes, State.goTo_besideAxes, State.stopThen_besideAxes, State.setAx_besideAxes,
    State.leaveInter_besideAxes, ite_self]

@[simp] theorem State.axHome_besideAxes (s : State) (a : Nat) (d : AxisDef) (p : Int) : (s.axHome a d p).besideAxes = s.besideAxes := by
  unfold State.axHome
  dsimp only
  split <;> simp

@[simp] theorem State.axStop_besideAxes (s : State) (a : Nat) (d : AxisDef) (b : Bool) : (s.axStop a d b).besideAxes = s.besideAxes := by
  unfold State.axStop
  dsimp only
  split
  · simp
  · cases b <;> simp

@[simp] theorem State.axDo_besideAxes (s : State) (a : Nat) (d : AxisDef) (c : Nat × Int × Nat) :
    (s.axDo a d c).besideAxes = s.besideAxes := by
  simp only [State.axDo, apply_ite State.besideAxes, State.axMove_besideAxes, State.axHome_besideAxes, State.axStop_besideAxes,
    State.clearFlags_besideAxes, ite_self]

/-! ## Interpolated moves (15 R400) -/

@[simp] theorem State.beginInter_besideAxes (s : State) (g : Nat) (ms : List (Nat × Int × Nat)) :
    (s.beginInter g ms).besideAxes = s.besideAxes := by
  unfold State.beginInter
  dsimp only
  generalize List.foldl _ (List.headD _ _) _ = lead
  split
  · exact foldl_keeps State.besideAxes _ (by simp) ms s
  · rw [State.setInter_besideAxes]
    refine (foldl_keeps State.besideAxes _ (fun _ _ => by rfl) ms _).trans (foldl_keeps State.besideAxes _ (fun u m => ?_) ms s)
    split
    · split <;> rfl
    · rfl

@[simp] theorem State.interTake_besideAxes (s : State) (g : Nat) (ms : List (Nat × List Word)) :
    (s.interTake g ms).besideAxes = s.besideAxes := by
  unfold State.interTake
  dsimp only
  generalize List.map _ ms = js
  split
  · exact foldl_keeps State.besideAxes _ (by simp) ms s
  · generalize List.filterMap _ js = l
    have take : (l.foldl (fun s m => (s.clearFlags m.1).setAx m.1 ((s.clearFlags m.1).ax m.1).endHome) s).besideAxes =
        s.besideAxes := foldl_keeps State.besideAxes _ (fun _ _ => by rfl) l s
    split
    · rw [State.beginInter_besideAxes, take]
    · refine (foldl_keeps State.besideAxes _ (fun u m => ?join) _ _).trans ?start
      case join => split <;> rfl
      case start => split <;> exact take

/-- Words taken on axes change the axes, the host interface and the commands held alone. -/
@[simp] theorem State.axTake_besideAxes (s : State) (l : List (Nat × List Word)) : (s.axTake l).besideAxes = s.besideAxes := by
  unfold State.axTake
  split
  · rfl
  · refine (foldl_keeps State.besideAxes _ (fun u g => ?group) _ _).trans ?singles
    case group =>
      dsimp only
      split <;> simp
    case singles =>
      refine (foldl_keeps State.besideAxes _ (fun u m => ?single) _ _).trans (foldl_keeps State.besideAxes _ (fun _ _ => by rfl) _ _)
      split
      · split <;> simp
      · rfl

end Sys2Proof.Machine
end

section
/-!
PROOFS. What forcing leaves alone: driving points changes outputs, axes and the voter; a change of the causes of forcing sets
the causes beside (01 R13, R14; 19 R491).
-/
namespace Sys2Proof.Machine

/-- The state with the voter, the axes, the host interface, the commands held, the recorder and the free values used blanked out:
two states equal in it differ in outputs and reports alone. -/
def State.besideOutputs (s : State) : State :=
  { s with vot := Voter.reset, axs := Axs.reset, hst := Hst.reset, mgt := Mgt.reset, rcd := Rec.reset, fresh := 0 }

theorem State.besideOutputs_of_besideAxes {s t : State} (h : t.besideAxes = s.besideAxes) : t.besideOutputs = s.besideOutputs :=
  (congrArg State.besideOutputs h :)

theorem State.clk_of_besideOutputs {s t : State} (h : t.besideOutputs = s.besideOutputs) : t.clk = s.clk :=
  (congrArg State.clk h :)

theorem State.chn_of_besideOutputs {s t : State} (h : t.besideOutputs = s.besideOutputs) : t.chn = s.chn :=
  (congrArg State.chn h :)

@[simp] theorem State.raise_besideOutputs (s : State) (n r : Nat) : (s.raise n r).besideOutputs = s.besideOutputs :=
  State.besideOutputs_of_besideAxes (s.raise_besideAxes n r)

@[simp] theorem State.unitRec_besideOutputs (s : State) (v b : Nat) : (s.unitRec v b).besideOutputs = s.besideOutputs := by
  obtain ⟨x, y, e⟩ := s.unitRec_only v b; rw [e]; rfl

@[simp] theorem State.axTake_besideOutputs (s : State) (l : List (Nat × List Word)) : (s.axTake l).besideOutputs = s.besideOutputs :=
  State.besideOutputs_of_besideAxes (s.axTake_besideAxes l)

@[simp] theorem State.deliver_besideOutputs (s : State) (p : Point) (ws : List Word) :
    (s.deliver p ws).besideOutputs = s.besideOutputs := by
  unfold State.deliver
  dsimp only
  split
  · split <;> rfl
  split
  · rfl
  split <;> rfl

@[simp] theorem State.drive_besideOutputs (s : State) (i : Nat) (p : Point) (ws : List Word) :
    (s.drive i p ws).besideOutputs = s.besideOutputs := by
  unfold State.drive
  dsimp only
  split
  · rfl
  · exact State.deliver_besideOutputs ..

@[simp] theorem State.driveForced_besideOutputs (s : State) (i : Nat) (p : Point) :
    (s.driveForced i p).besideOutputs = s.besideOutputs := by
  unfold State.driveForced
  dsimp only
  generalize (if s.runs .axs then _ else _ : Nat) = duty
  split
  · split <;> exact s.drive_besideOutputs i p p.safe
  split
  · split
    · exact (State.axTake_besideOutputs ..).trans (State.drive_besideOutputs ..)
    · exact State.drive_besideOutputs ..
  · exact State.drive_besideOutputs ..

@[simp] theorem State.deliverNow_besideOutputs (s : State) (p : Point) (ws : List Word) :
    (s.deliverNow p ws).besideOutputs = s.besideOutputs := by
  unfold State.deliverNow
  split
  · split
    · exact State.axTake_besideOutputs ..
    · rfl
  · exact State.deliver_besideOutputs ..

/-- A change of the causes of forcing sets the causes; beside them it touches outputs and reports alone. -/
theorem State.setForce_besideOutputs (s : State) (f : List ForceCause) :
    (s.setForce f).besideOutputs = ({ s with clk := { s.clk with force := f } } : State).besideOutputs := by
  unfold State.setForce
  dsimp only
  rw [apply_ite State.besideOutputs, State.unitRec_besideOutputs, ite_self, apply_ite State.besideOutputs, State.raise_besideOutputs,
    ite_self]
  refine (foldl_keeps State.besideOutputs _ (fun u x => ?release) _ _).trans
    (foldl_keeps State.besideOutputs _ (fun u (x : Nat × Point) => u.driveForced_besideOutputs x.1 x.2) _ _)
  split
  · exact State.deliverNow_besideOutputs ..
  · rfl

/-- A cause of forcing that begins holds. -/
theorem State.mem_addForce (s : State) (c : ForceCause) : c ∈ (s.addForce c).clk.force := by
  unfold State.addForce
  split
  next h => exact List.contains_iff_mem.mp h
  next => rw [State.clk_of_besideOutputs (s.setForce_besideOutputs (c :: s.clk.force))]; exact List.mem_cons_self

@[simp] theorem State.addForce_chn (s : State) (c : ForceCause) : (s.addForce c).chn = s.chn := by
  unfold State.addForce
  split
  · rfl
  · exact (State.chn_of_besideOutputs (s.setForce_besideOutputs (c :: s.clk.force)) :)

end Sys2Proof.Machine
end

section
/-!
PROOFS. Exclusion, the restart in place and the way back of a channel (05 R132, R133, R138, R143, R144, R149).
-/
namespace Sys2Proof.Machine

/-! ## Events, records and free values leave the channels alone -/

@[simp] theorem State.raiseRec_chn (s : State) (n r v b : Nat) : (s.raiseRec n r v b).chn = s.chn := by
  obtain ⟨x, y, e⟩ := s.raiseRec_only n r v b; rw [e]
@[simp] theorem State.raiseRec_vot (s : State) (n r v b : Nat) : (s.raiseRec n r v b).vot = s.vot := by
  obtain ⟨x, y, e⟩ := s.raiseRec_only n r v b; rw [e]
@[simp] theorem State.unitRec_chn (s : State) (v b : Nat) : (s.unitRec v b).chn = s.chn := by
  obtain ⟨x, y, e⟩ := s.unitRec_only v b; rw [e]
@[simp] theorem State.unitRec_clk (s : State) (v b : Nat) : (s.unitRec v b).clk = s.clk := by
  obtain ⟨x, y, e⟩ := s.unitRec_only v b; rw [e]
@[simp] theorem State.unstage_chn (s : State) (i : ChId) : (s.unstage i).chn = s.chn := rfl

theorem State.chan_congr {s t : State} (h : t.chn = s.chn) (i : ChId) : t.chan i = s.chan i := by unfold State.chan; rw [h]

theorem State.inService_of_service {s : State} (h : s.pwr.power = .service) : s.inService = true := decide_eq_true h

/-! ## Exclusion (05 R133) -/

theorem ChId.mem_all (i : ChId) : i ∈ ChId.all := by cases i <;> decide

/-- Exclusion changes the channel excluded, and no other part of the channels. -/
theorem State.exclude_chn (s : State) (i : ChId) (cause : Nat) :
    (s.exclude i cause).chn = { s.chn with ch := s.chn.ch.set i ((s.chan i).exclude cause s.tim.dt) } :=
  State.raiseRec_chn ..

@[simp] theorem State.exclude_vot (s : State) (i : ChId) (cause : Nat) : (s.exclude i cause).vot = s.vot := State.raiseRec_vot ..

@[simp] theorem State.exclude_chan_same (s : State) (i : ChId) (cause : Nat) :
    (s.exclude i cause).chan i = (s.chan i).exclude cause s.tim.dt := by
  unfold State.chan
  rw [s.exclude_chn]
  exact Tri.get_set_same ..

theorem State.exclude_chan_other (s : State) {i j : ChId} (cause : Nat) (h : j ≠ i) : (s.exclude i cause).chan j = s.chan j := by
  unfold State.chan
  rw [s.exclude_chn]
  exact Tri.get_set_other _ _ _ _ h

/-! ## Copies that change their source (05 R146) -/

/-- A channel with the progress of its copy blanked out. -/
def Chan.besideCopy (c : Chan) : Chan :=
  { c with copySrc := none, copyInit := false, copyFinal := false, copyAt := 0, copyLeft := 0 }

theorem State.startCopy_chan_same (s : State) (i : ChId) :
    (s.startCopy i).chan i = { s.chan i with copySrc := s.copySource i, copyInit := false, copyFinal := false, copyAt := s.tim.dt,
                                             copyLeft := (s.chan i).lay.total * 1024 } :=
  State.setChan_same ..

theorem State.startCopy_besideCopy (s : State) (i k : ChId) : ((s.startCopy i).chan k).besideCopy = (s.chan k).besideCopy := by
  by_cases h : k = i
  · subst h; rw [s.startCopy_chan_same]; rfl
  · unfold State.startCopy; rw [State.setChan_other _ _ _ _ h]

/-- A copy that goes on from another source changes nothing of a channel but the progress of its copy. -/
theorem State.fixCopies_besideCopy (s : State) (k : ChId) : (s.fixCopies.chan k).besideCopy = (s.chan k).besideCopy := by
  refine foldl_keeps (fun u : State => (u.chan k).besideCopy) _ (fun u i => ?_) ChId.all s
  split
  · split
    · split
      · rfl
      · exact u.startCopy_besideCopy i k
    · exact u.startCopy_besideCopy i k
  · rfl

/-! ## A cause of exclusion meets a channel (05 R132, R138) -/

theorem State.excludeFor_of_partner {s : State} {i j : ChId} (cause : Nat) (hi : (s.chan i).st = .voting) (hj : j ≠ i)
    (hv : (s.chan j).st = .voting) (hc : (s.chan j).clkFail = false) : s.excludeFor i cause = (s.exclude i cause).fixCopies := by
  have partner : ChId.all.any (fun j => decide (j ≠ i) && decide ((s.chan j).st = .voting) && !(s.chan j).clkFail) = true :=
    List.any_eq_true.mpr ⟨j, ChId.mem_all j, by simp [hj, hv, hc]⟩
  simp only [State.excludeFor, hi, partner, if_true]

theorem State.excludeFor_of_last {s : State} {i : ChId} (cause : Nat) (hi : (s.chan i).st = .voting)
    (hl : ∀ j, j ≠ i → (s.chan j).st ≠ .voting ∨ (s.chan j).clkFail = true) (hr : (s.chan i).restart = false) :
    s.excludeFor i cause = s.restartInPlace i := by
  have alone : ChId.all.any (fun j => decide (j ≠ i) && decide ((s.chan j).st = .voting) && !(s.chan j).clkFail) = false := by
    refine List.any_eq_false.mpr fun j _ => ?_
    by_cases h : j = i
    · simp [h]
    · rcases hl j h with hv | hc
      · simp [hv]
      · simp [hc]
  simp only [State.excludeFor, hi, alone, hr, Bool.false_eq_true, if_false]

/-- The restart in place forces every point (05 R138). -/
theorem State.restartInPlace_forces (s : State) (i : ChId) : ForceCause.restart ∈ (s.restartInPlace i).clk.force := by
  unfold State.restartInPlace
  dsimp only
  rw [State.unitRec_clk]
  exact State.mem_addForce ..

theorem State.restartInPlace_chan (s : State) (i : ChId) :
    (s.restartInPlace i).chan i = { s.chan i with restart := true, ready := false, stDone := false, scan := none, stack := [],
                                                  marks := [], resetDone := false } := by
  unfold State.restartInPlace
  dsimp only
  rw [State.chan_congr ((State.unitRec_chn ..).trans (State.addForce_chn ..))]
  exact State.setChan_same ..

theorem channelEcc_of_service {s : State} (i : ChId) (hp : s.pwr.power = .service) : channelEcc s i = s.excludeFor i causeEcc :=
  if_pos (State.inService_of_service hp)

/-- Settles O35: with a partner the channel is excluded, and copies from it go on elsewhere; the last one restarts in place. -/
theorem channelErrorsExclude : Obligations.ChannelErrorsExclude := by
  unfold Obligations.ChannelErrorsExclude
  intro s i hp hi
  refine ⟨fun j hj hv hc => ⟨_, rfl, ?_⟩, fun hl hr => ⟨_, rfl, ?_⟩⟩
  · rw [channelEcc_of_service i hp, State.excludeFor_of_partner causeEcc hi hj hv hc]
    have own := (s.exclude i causeEcc).fixCopies_besideCopy i
    rw [State.exclude_chan_same] at own
    refine ⟨congrArg Chan.st own, congrArg Chan.cause own, congrArg Chan.mem own, congrArg Chan.marks own,
      (congrArg Chan.excl own).trans (satAdd_eq_min ..), fun k hk => ?_⟩
    have other := (s.exclude i causeEcc).fixCopies_besideCopy k
    rw [State.exclude_chan_other s causeEcc hk] at other
    exact ⟨(congrArg Chan.st other :), (congrArg Chan.mem other :)⟩
  · rw [channelEcc_of_service i hp, State.excludeFor_of_last causeEcc hi hl hr]
    rw [s.restartInPlace_chan]
    exact ⟨hi, rfl, s.restartInPlace_forces i⟩

/-! ## The self-test (05 R143, R149) -/

theorem State.beginSelftest_chan_same (s : State) (i : ChId) :
    (s.beginSelftest i).chan i = { s.chan i with st := .selftest, stres := 0, stDone := false, copySrc := none, copyBnd := 0,
                                                 copyInit := false, copyFinal := false, shadowHp := 0, scan := none, stack := [] } :=
  State.setChan_same ..

theorem State.beginSelftest_chan_other (s : State) {i j : ChId} (h : j ≠ i) : (s.beginSelftest i).chan j = s.chan j :=
  State.setChan_other _ _ _ _ h

/-- An attempt of an excluded channel, while no restart in place has failed, counts and begins the self-test (05 R149). -/
theorem attemptStart_of_excluded {s : State} {i : ChId} (hp : s.pwr.power = .service) (hr : s.mgt.run ≠ .init)
    (hc : (s.chan i).clkFail = false) (hx : (s.chan i).st = .excluded) (hb : (s.chan i).notBefore ≤ s.tim.dt)
    (hf : s.failedRestart = none) :
    attemptStart s i = (s.setChan i { s.chan i with
      attempts := satAdd max16 (s.chan i).attempts 1, attemptDt := some s.tim.dt, resetDone := true, stres := 0, stDone := false,
      copyBnd := 0 }).beginSelftest i := by
  simp [attemptStart, State.inService_of_service hp, hr, hc, hx, hb, hf]

/-- The source of a copy, when some channel votes, is a VOTING one (05 R144). -/
theorem State.copySource_voting {s : State} {i : ChId} (hi : (s.chan i).st ≠ .voting) (hv : s.votingCount ≠ 0) :
    ∃ j, s.copySource i = some j ∧ (s.chan j).st = .voting := by
  obtain ⟨j, hmem⟩ := List.exists_mem_of_length_pos (Nat.pos_of_ne_zero hv)
  have hj := (List.mem_filter.mp hmem).2
  have hne : j ≠ i := fun e => hi (e ▸ of_decide_eq_true hj)
  cases h : s.copySource i with
  | some k =>
    have hk := List.find?_some h
    exact ⟨k, rfl, of_decide_eq_true hk⟩
  | none =>
    have hn := List.find?_eq_none.mp h j (by cases i <;> cases j <;> simp at hne ⊢)
    exact absurd hj hn

/-- The next channel to vote depends on the other channels alone. -/
theorem State.copySource_setChan (s : State) {i : ChId} (c : Chan) : (s.setChan i c).copySource i = s.copySource i := by
  cases i <;> rfl

/-- A channel whose self-test has ended with the steps it passed. -/
def Chan.tested (c : Chan) (passed : Nat) : Chan := { c with stres := passed % 16, stDone := true }

/-- What the self-test of an attempt leads to: VOTING with none VOTING, a copy otherwise, exclusion unless every step passed
(05 R143). -/
theorem State.endSelftest_of_attempt {s : State} {i : ChId} {img : Image} (p : Nat) (old : List IdentEntry) (hb : s.sup.bank = some img)
    (hr : (s.chan i).restart = false) (hx : (s.chan i).st = .selftest) (ht : s.chn.trying = none) :
    s.endSelftest i p old =
      let u := s.setChan i ((s.chan i).tested p)
      let c := ((s.chan i).tested p).load img s.sup.overlay
      if p % 16 = 15 then
        if s.votingCount = 0 then u.setChan i { c with st := .voting } else (u.setChan i { c with st := .copy, copyBnd := 0 }).startCopy i
      else u.exclude i causeSelftest := by
  simp [State.endSelftest, Chan.tested, hb, hr, hx, ht]

theorem selftestEnd_of_attempt {s : State} {i : ChId} (p : Nat) (hp : s.pwr.power = .service) (hn : s.mgt.run ≠ .init)
    (hc : (s.chan i).clkFail = false) (hx : (s.chan i).st = .selftest) : selftestEnd s i p = s.endSelftest i p s.ckptIdent := by
  simp [selftestEnd, State.inService_of_service hp, hn, hc, hx]

/-! ## The copy outside RUN (05 R144, R155) -/

theorem copyPassEnd_of_copying {s : State} {i j : ChId} (hp : s.pwr.power = .service) (hx : (s.chan i).st = .copy)
    (hn : s.mgt.run = .setup ∨ s.mgt.run = .halt) (hj : (s.chan i).copySrc = some j) :
    copyPassEnd s i =
      if (s.chan i).copyInit = true ∧ (s.chan j).touched = [] then
        s.setChan i { (s.chan i).takeState (s.chan j) with st := .shadow, shadowHp := 0, copySrc := none }
      else (s.setChan i { s.chan i with copyInit := true, copyLeft := 0 }).setChan j { s.chan j with touched := [] } := by
  simp [copyPassEnd, State.inService_of_service hp, hx, hn, hj]

/-- Settles O36: the three steps of the way back, each with what it does to the channel. -/
theorem channelsReturn : Obligations.ChannelsReturn := by
  unfold Obligations.ChannelsReturn
  intro s i hp hn hc
  refine ⟨fun hx hb hf => ⟨_, rfl, ?attempt⟩, fun hx hr ht hbank p => ⟨_, rfl, ?test⟩,
    fun j hx hrun hj hij => ⟨_, rfl, ?copy⟩⟩
  case attempt =>
    rw [attemptStart_of_excluded hp hn hc hx hb hf]
    refine ⟨?_, ?_, fun j hj => ?_⟩
    · rw [State.beginSelftest_chan_same]
    · rw [State.beginSelftest_chan_same, State.setChan_same, satAdd_eq_min]
    · rw [State.beginSelftest_chan_other _ hj, State.setChan_other _ _ _ _ hj]
  case test =>
    obtain ⟨img, hb⟩ := Option.ne_none_iff_exists'.mp hbank
    rw [selftestEnd_of_attempt p hp hn hc hx, State.endSelftest_of_attempt p _ hb hr hx ht]
    dsimp only
    split
    · split
      · rw [State.setChan_same]
      next hv =>
        obtain ⟨j, hj, hvj⟩ := State.copySource_voting (s := s) (i := i) (by rw [hx]; decide) hv
        rw [State.startCopy_chan_same, State.setChan_same, State.copySource_setChan, State.copySource_setChan]
        exact ⟨rfl, j, hj, hvj⟩
    · rw [State.exclude_chan_same]
      exact ⟨rfl, rfl⟩
  case copy =>
    rw [copyPassEnd_of_copying hp hx hrun hj]
    split
    · rw [State.setChan_same, State.setChan_other _ _ _ _ (Ne.symm hij)]
      exact ⟨rfl, rfl, rfl⟩
    · rw [State.setChan_other _ _ _ _ hij, State.setChan_same, State.setChan_same]
      exact ⟨hx, rfl, rfl, rfl⟩

end Sys2Proof.Machine
end

section
/-!
PROOFS. The opening of a cell (03 R57, R78), and the equal entry indices and checkpoints of the channels (03 R79; 05 R152, R153).
-/
namespace Sys2Proof.Machine

/-! ## The cell has just opened -/

/-- The state at a cell's start tick: time has passed, and the cell counts as opened. -/
theorem begun_only (s : State) (e : Nat) (x : CombEntry) :
    ∃ t l, Claim.begun s e x =
      { s with tim := t, clk := { s.clk with freqJobs := l }, comb := { s.comb with opened := e :: s.comb.opened } } := by
  obtain ⟨t, l, h⟩ := s.advanceTo_only (s.cellStart x s.comb.k)
  exact ⟨t, l, by unfold Claim.begun; rw [h]⟩

@[simp] theorem begun_chn (s : State) (e : Nat) (x : CombEntry) : (Claim.begun s e x).chn = s.chn := by
  obtain ⟨t, l, h⟩ := begun_only s e x; rw [h]
@[simp] theorem begun_sup (s : State) (e : Nat) (x : CombEntry) : (Claim.begun s e x).sup = s.sup := by
  obtain ⟨t, l, h⟩ := begun_only s e x; rw [h]
@[simp] theorem begun_comb (s : State) (e : Nat) (x : CombEntry) :
    (Claim.begun s e x).comb = { s.comb with opened := e :: s.comb.opened } := by
  obtain ⟨t, l, h⟩ := begun_only s e x; rw [h]
@[simp] theorem begun_chan (s : State) (e : Nat) (x : CombEntry) (i : ChId) : (Claim.begun s e x).chan i = s.chan i :=
  State.chan_congr (begun_chn s e x) i

theorem begun_runs (s : State) (e : Nat) (x : CombEntry) (i : Island) : (Claim.begun s e x).runs i = s.runs i := by
  obtain ⟨t, l, h⟩ := begun_only s e x; rw [h]; rfl

/-- A cell that opens runs at its start tick. -/
theorem State.withCell_of_opens {s : State} {e res : Nat} {x : CombEntry} (o : Claim.Opens s e x res) (f : CombEntry → State → State) :
    s.withCell e (fun r => decide (r = res)) none f = f x (Claim.begun s e x) := by
  unfold State.withCell
  rw [s.openCell_opens e x _ o.entry (decide_eq_true o.kind) o.runs o.swap o.hp o.ahead o.once]
  rfl

/-- Without open scans and unfinished activities no end tick does anything. -/
theorem State.endTicks_of_idle {s : State} (t : Nat) (ho : s.comb.open_ = []) (hs : ∀ i, (s.chan i).scan = none) : s.endTicks t = s := by
  have noScan : s.openScan = none := by
    simp only [State.openScan, ChId.all, List.filterMap_cons, hs, List.filterMap_nil, List.head?_nil, Option.map_none]
  simp only [State.endTicks, noScan, ho, List.filter_nil, List.foldl_nil]

theorem begun_endTicks {s : State} {e : Nat} {x : CombEntry} (c : Claim.Clear s) (t : Nat) :
    (Claim.begun s e x).endTicks t = Claim.begun s e x := by
  obtain ⟨ho, hs, -, -⟩ := c
  exact State.endTicks_of_idle t (by rw [begun_comb]; exact ho) (fun i => by rw [begun_chan]; exact hs i)

theorem State.cstate_of_opens {s : State} {e res : Nat} {x : CombEntry} (o : Claim.Opens s e x res) : s.comb.cstate = 2 := by
  have h := o.runs
  simp only [State.cellsRun, Bool.and_eq_true, decide_eq_true_eq] at h
  exact h.1.1

/-! ## What is stamped at another instant -/

@[simp] theorem State.at_chn (s : State) (t : Nat) (f : State → State) :
    (s.at t f).chn = (f { s with tim := { s.tim with dt := t } }).chn := rfl
@[simp] theorem State.at_vot (s : State) (t : Nat) (f : State → State) :
    (s.at t f).vot = (f { s with tim := { s.tim with dt := t } }).vot := rfl

/-- Channels that are not VOTING or carry fewer than three marks are not excluded at the end of a cell (05 R132). -/
theorem State.excludeMarked_of_few {s : State} (h : ∀ i, (s.chan i).st = .voting → (s.chan i).marks.length < 3) :
    s.excludeMarked = s := by
  have none : ChId.all.filter (fun i => decide ((s.chan i).st = .voting) && decide (3 ≤ (s.chan i).marks.length)) = [] :=
    List.filter_eq_nil_iff.mpr fun i _ hi => by
      simp only [Bool.and_eq_true, decide_eq_true_eq] at hi
      exact absurd (h i hi.1) (Nat.not_lt.mpr hi.2)
  unfold State.excludeMarked
  rw [none]
  rfl

/-! ## Equal entry indices (03 R79) -/

theorem Tri.get_const {α : Type} (k : α) (i : ChId) : (⟨k, k, k⟩ : Tri α).get i = k := by cases i <;> rfl

theorem State.shadowIndex_same (s : State) (k : Nat) : s.shadowIndex k ⟨k, k, k⟩ = s :=
  foldl_fix _ s _ fun i _ => by simp [Tri.get_const]

/-- Channels that open the same entry show no difference. -/
theorem State.indexCheck_same (s : State) (b : Bool) (k : Nat) : s.indexCheck b ⟨k, k, k⟩ = (s, false) := by
  unfold State.indexCheck
  split <;> simp only [Tri.get_const, State.shadowIndex_same, if_true]

/-! ## Checkpoints (05 R152, R153) -/

/-- The checkpoint of a channel. -/
def State.ckptOf (s : State) (i : ChId) (img : Image) : Ckpt :=
  ⟨s.hp, s.activeSuper.getD 0, img.digestPfx, 4 * img.logic.retWords, (s.chan i).retWords img.logic.retWords⟩

theorem State.newestCkpt_congr {s t : State} (h : t.chn = s.chn) : t.newestCkpt = s.newestCkpt := by unfold State.newestCkpt; rw [h]

/-- Channels that agree with the lowest VOTING one write its checkpoint. -/
theorem State.checkpoint_of_agreement {s : State} {img : Image} {i : ChId} (hb : s.sup.bank = some img) (hi : s.counted.head? = some i)
    (hc : ∀ j ∈ s.counted, (s.chan j).retCrc img.logic.retWords = (s.chan i).retCrc img.logic.retWords) :
    s.checkpoint = s.writeCkpt i img := by
  have short : s.counted.length ≤ 3 := List.length_filter_le _ ChId.all
  have counted : s.counted = ChId.all.filter (fun i => decide ((s.chan i).st = .voting)) := rfl
  simp only [State.checkpoint, hb, ← counted]
  generalize s.counted = l at *
  match l with
  | [] => cases hi
  | [_] => cases hi; rfl
  | [_, j] =>
    cases hi
    exact if_pos (hc j (by simp)).symm
  | [_, j, k] =>
    cases hi
    exact (if_pos (hc j (by simp)).symm).trans (if_pos ((hc j (by simp)).trans (hc k (by simp)).symm))
  | _ :: _ :: _ :: _ :: _ =>
    simp only [List.length_cons] at short
    omega

/-- A checkpoint later than the newest one becomes the newest (05 R153). -/
theorem State.newestCkpt_writeCkpt {s : State} (i : ChId) (img : Image) (h : ∀ c, s.newestCkpt = some c → c.hp < s.hp) :
    (s.writeCkpt i img).newestCkpt = some (s.ckptOf i img) := by
  have later : ∀ c : Ckpt, s.newestCkpt = some c → c.hp < (s.ckptOf i img).hp := h
  unfold State.writeCkpt
  dsimp only
  change State.newestCkpt (if _ then { s with chn := { s.chn with buf1 := some (s.ckptOf i img) } }
    else { s with chn := { s.chn with buf0 := some (s.ckptOf i img) } }) = _
  generalize s.ckptOf i img = k at *
  unfold State.newestCkpt at later ⊢
  rcases hx : s.chn.buf0 with _ | x <;> rcases hy : s.chn.buf1 with _ | y <;> simp only [hx, hy] at later ⊢
  case none.none => rfl
  case none.some =>
    rw [if_neg Bool.false_ne_true]
    exact if_neg (Int.not_lt.mpr (Int.le_of_lt (later y rfl)))
  case some.none =>
    rw [if_pos trivial]
    exact if_pos (later x rfl)
  case some.some =>
    by_cases hxy : x.hp < y.hp
    · have hk := later y (if_pos hxy)
      rw [if_neg fun e => absurd (of_decide_eq_true e) (Int.not_le.mpr hxy)]
      exact if_neg (Int.not_lt.mpr (Int.le_of_lt hk))
    · have hk := later x (if_neg hxy)
      rw [if_pos (decide_eq_true (Int.not_lt.mp hxy))]
      exact if_pos hk

theorem State.writeCkpt_chan (s : State) (i j : ChId) (img : Image) : (s.writeCkpt i img).chan j = s.chan j := by
  unfold State.writeCkpt
  dsimp only
  exact (apply_ite (fun u : State => u.chan j) _ _ _).trans (ite_self _)

end Sys2Proof.Machine
end

section
/-!
PROOFS. The Vote cell (05 R125 to R132, Table 5-4) and the checkpoint cell (05 R152, R153).
-/
namespace Sys2Proof.Machine

/-! ## Urgent requests change the analogue inputs alone (14 R385) -/

/-- The state with the analogue inputs blanked out. -/
def State.besideAdc (s : State) : State := { s with adc := Adc.reset }

theorem State.eq_of_besideAdc {s t : State} (h : t.besideAdc = s.besideAdc) : t = { s with adc := t.adc } :=
  (congrArg (fun u : State => { u with adc := t.adc }) h :)

@[simp] theorem State.adcNext_besideAdc (s : State) (n c : Nat) : (s.adcNext n c).besideAdc = s.besideAdc := by
  unfold State.adcNext
  split
  · dsimp only
    split
    · split
      · split <;> rfl
      · split <;> rfl
    · split <;> rfl
  · rfl

@[simp] theorem State.adcAbort_besideAdc (s : State) (n j c : Nat) : (s.adcAbort n j c).besideAdc = s.besideAdc := by
  unfold State.adcAbort
  split
  · split <;> rfl
  · rfl

@[simp] theorem State.urgent_besideAdc (s : State) (n j c : Nat) (trip : Bool) : (s.urgent n j c trip).besideAdc = s.besideAdc := by
  unfold State.urgent
  dsimp only
  split
  · rfl
  split
  · rfl
  split
  · rfl
  split
  · exact State.adcNext_besideAdc ..
  split
  · exact State.adcAbort_besideAdc ..
  split <;> rfl

/-- The vote of the request bits changes the voted request words, the count of differences and the analogue inputs (06 R188). -/
theorem State.voteRequests_only (s : State) (fld ana : Bool) (stop : Nat) :
    ∃ h q r a, s.voteRequests fld ana stop =
      { s with vot := { s.vot with hold := h, adcReq := q }, chn := { s.chn with reqdis := r }, adc := a } := by
  unfold State.voteRequests
  dsimp only
  refine ⟨_, _, _, _, (State.eq_of_besideAdc (foldl_keeps State.besideAdc _ (fun u b => ?_) _ _)).trans rfl⟩
  rw [apply_ite State.besideAdc, State.urgent_besideAdc, ite_self]

/-! ## Marks (05 R127) -/

/-- Each mark given is one more on its channel. -/
theorem State.marks_chan (l : List ChId) (s : State) (i : ChId) :
    (l.foldl State.mark s).chan i = { s.chan i with marks := List.replicate (l.count i) 0 ++ (s.chan i).marks } := by
  induction l generalizing s with
  | nil => rfl
  | cons j l ih =>
    rw [List.foldl_cons, ih]
    by_cases h : j = i
    · subst h
      rw [State.mark, State.setChan_same, List.count_cons_self, List.replicate_succ']
      simp
    · rw [State.mark, State.setChan_other _ _ _ _ (Ne.symm h), List.count_cons_of_ne h]

/-! ## The points and their votes (05 Table 5-4) -/

theorem State.mem_pointList {s : State} {n : Nat} {p : Point} : (n, p) ∈ s.pointList ↔ s.points[n]? = some p := by
  unfold State.pointList
  rw [List.mem_map, ← List.mem_zipIdx_iff_getElem? (x := (p, n))]
  exact ⟨fun ⟨a, ha, e⟩ => by cases e; exact ha, fun h => ⟨(p, n), h, rfl⟩⟩

/-- A number names one point. -/
theorem State.pointList_unique {s : State} {n : Nat} {p q : Point} (hp : (n, p) ∈ s.pointList) (hq : (n, q) ∈ s.pointList) : q = p :=
  Option.some.inj ((State.mem_pointList.mp hq).symm.trans (State.mem_pointList.mp hp))

/-- The verdicts of the points whose slices vote. -/
def State.verdicts (s : State) (votes : Slice → Bool) : List (Nat × Point × Verdict) :=
  (s.pointList.filter (fun p => votes p.2.slice)).map (fun p => (p.1, p.2, s.verdict p.1 p.2))

/-- What a Vote cell hands to the Write cells: safe words where an index difference forces the point, the value voted otherwise. -/
def State.votedWords (s : State) (votes : Slice → Bool) : List (Nat × List Word) :=
  (s.pointList.filter (fun p => s.indexForced p.2)).map (fun p => (p.1, p.2.safe)) ++
    ((s.verdicts votes).filter (fun v => !(s.indexForced v.2.1))).filterMap (fun v => v.2.2.value.map (fun w => (v.1, w)))

/-- The entry of a key is the one every entry of that key holds. -/
theorem find_key {α : Type} {l : List (Nat × α)} {n : Nat} {v : Option α} (only : ∀ w, (n, w) ∈ l → v = some w)
    (listed : ∀ w, v = some w → (n, w) ∈ l) : (l.find? (fun u => u.1 = n)).map (fun u => u.2) = v := by
  cases h : l.find? (fun u => u.1 = n) with
  | some u =>
    obtain ⟨m, w⟩ := u
    have hm := List.find?_some h
    obtain rfl : m = n := of_decide_eq_true hm
    exact (only w (List.mem_of_find?_eq_some h)).symm
  | none =>
    cases v with
    | none => rfl
    | some w => exact absurd (decide_eq_true rfl) (List.find?_eq_none.mp h _ (listed w rfl))

/-- A point that no index difference forces takes the value of its verdict. -/
theorem State.find_votedWords {s : State} {votes : Slice → Bool} {n : Nat} {p : Point} (hp : (n, p) ∈ s.pointList)
    (hf : s.indexForced p = false) (hv : votes p.slice = true) :
    ((s.votedWords votes).find? (fun u => u.1 = n)).map (fun u => u.2) = (s.verdict n p).value := by
  refine find_key (fun w hw => ?only) (fun w hw => ?listed)
  case only =>
    rcases List.mem_append.mp hw with h | h
    · obtain ⟨⟨m, q⟩, hq, e⟩ := List.mem_map.mp h
      obtain ⟨hq, forced⟩ := List.mem_filter.mp hq
      cases e
      rw [State.pointList_unique hp hq, hf] at forced
      cases forced
    · obtain ⟨⟨m, q, v⟩, hq, e⟩ := List.mem_filterMap.mp h
      obtain ⟨⟨m', q'⟩, hq', e'⟩ := List.mem_map.mp (List.mem_filter.mp hq).1
      obtain ⟨w', hw', e⟩ := Option.map_eq_some_iff.mp e
      cases e
      cases e'
      rw [← State.pointList_unique hp (List.mem_filter.mp hq').1]
      exact hw'
  case listed =>
    refine List.mem_append_right _ (List.mem_filterMap.mpr ⟨(n, p, s.verdict n p), List.mem_filter.mpr ⟨?_, by simp [hf]⟩, ?_⟩)
    · exact List.mem_map.mpr ⟨(n, p), List.mem_filter.mpr ⟨hp, hv⟩, rfl⟩
    · simp [hw]

/-! ## A Vote cell up to its end tick -/

/-- What the votes of a cell leave of the voter and the channels: the words voted, and at most one mark more on each channel. -/
structure VotesCast (s u : State) (votes : Slice → Bool) : Prop where
  voted : u.vot.voted = s.votedWords votes
  trying : u.chn.trying = s.chn.trying
  chan : ∀ i, ∃ k ≤ 1, u.chan i = { s.chan i with marks := List.replicate k 0 ++ (s.chan i).marks }

theorem VotesCast.raise {s u : State} {votes : Slice → Bool} (h : VotesCast s u votes) (n r : Nat) : VotesCast s (u.raise n r) votes := by
  obtain ⟨x, e⟩ := u.raise_only n r
  rw [e]
  exact ⟨h.voted, h.trying, h.chan⟩

theorem VotesCast.raise_if {s u : State} {votes : Slice → Bool} (h : VotesCast s u votes) (b : Bool) (n r : Nat) :
    VotesCast s (if b = true then u.raise n r else u) votes := by
  cases b
  · exact h
  · exact h.raise n r

/-- Once the words are voted, the vote of the request bits and at most one mark on each channel follow. -/
theorem VotesCast.of_voted {s u : State} {votes : Slice → Bool} (hv : u.vot.voted = s.votedWords votes)
    (ht : u.chn.trying = s.chn.trying) (hc : u.chn.ch = s.chn.ch) (fld ana : Bool) (stop : Nat) {l : List ChId}
    (hl : l.Sublist ChId.all) : VotesCast s (l.foldl State.mark (u.voteRequests fld ana stop)) votes := by
  obtain ⟨h, q, r, a, e⟩ := u.voteRequests_only fld ana stop
  rw [e]
  refine ⟨(foldl_keeps (fun t : State => t.vot.voted) State.mark (fun _ _ => rfl) l _).trans hv,
    (foldl_keeps (fun t : State => t.chn.trying) State.mark (fun _ _ => rfl) l _).trans ht, fun i => ⟨l.count i, ?_, ?_⟩⟩
  · have once : ChId.all.count i = 1 := by cases i <;> decide
    exact once ▸ hl.count_le i
  · have same : u.chan i = s.chan i := congrArg (fun t : Tri Chan => t.get i) hc
    rw [State.marks_chan, ← same]
    rfl

/-- SHADOW channels that disagree with a majority are excluded (05 R131). -/
def State.excludeShadows (s : State) (bad : List ChId) : State := bad.foldl (fun r i => r.excludeFor i causeShadow) s

/-- The end tick of a Vote cell: those exclusions, then the exclusion of channels with a third mark (05 R132). -/
def State.closeVote (s : State) (bad : List ChId) : State := (s.excludeShadows bad).excludeMarked

/-- A Vote cell in which every slice votes: the votes, and its end tick. -/
theorem voteCell_closes {s : State} {e : Nat} {x : CombEntry} {done : List Slice} (o : Claim.Opens s e x 5) (c : Claim.Clear s)
    (live : s.comb.cyc.live = true) (all : ∀ sl, sl ∈ done ∧ s.runs (sliceIsland sl) = true) :
    ∃ u bad stop, voteCell s e done = u.at stop (fun r => r.closeVote bad) ∧
      VotesCast (Claim.begun s e x) u (fun _ => true) ∧ ∀ i ∈ bad, (s.chan i).st = .shadow := by
  have hb : ∀ i, ((Claim.begun s e x).chan i).st = (s.chan i).st := fun i => by rw [begun_chan]
  have hl : (Claim.begun s e x).comb.cyc.live = true := by rw [begun_comb]; exact live
  have votes : ∀ sl, (done.contains sl && (Claim.begun s e x).sliceRuns sl) = true := fun sl => by
    have runs : (Claim.begun s e x).runs (sliceIsland sl) = true := (begun_runs s e x _).trans (all sl).2
    rw [State.sliceRuns, runs, List.contains_iff_mem.mpr (all sl).1]
    rfl
  unfold voteCell
  rw [State.withCell_of_opens o]
  dsimp only
  rw [begun_endTicks c]
  generalize Claim.begun s e x = b at *
  rw [hl, if_neg (by decide), if_pos (List.all_eq_true.mpr fun sl _ => by rw [List.contains_iff_mem.mpr (all sl).1]; rfl)]
  refine ⟨_, _, _, rfl, ?cast, fun i hi => hb i ▸ of_decide_eq_true (List.mem_filter.mp (List.mem_filter.mp hi).1).2⟩
  simp only [votes]
  split
  · refine VotesCast.raise (VotesCast.raise_if (VotesCast.of_voted ?_ ?_ ?_ _ _ _ List.filter_sublist) _ _ _) _ _ <;> rfl
  · refine VotesCast.raise_if (VotesCast.of_voted ?_ ?_ ?_ _ _ _ List.filter_sublist) _ _ _ <;> rfl

/-! ## The end tick of a Vote cell (05 R131, R132) -/

theorem State.excludeFor_of_not_voting {s : State} {i : ChId} (hv : (s.chan i).st ≠ .voting) (ht : s.chn.trying = none) :
    s.excludeFor i causeShadow = s ∨ s.excludeFor i causeShadow = s.exclude i causeShadow := by
  unfold State.excludeFor
  dsimp only
  split
  next => exact .inl (if_neg (by decide))
  next h => exact absurd h hv
  next => exact .inr (if_neg (by rw [ht]; exact nofun))

/-- Exclusions of channels that are not VOTING leave the voter and every VOTING channel as they are, and make none VOTING. -/
theorem State.excludeShadows_keeps (bad : List ChId) (s : State) (hb : ∀ i ∈ bad, (s.chan i).st ≠ .voting)
    (ht : s.chn.trying = none) :
    (s.excludeShadows bad).vot = s.vot ∧
    ∀ i, (s.chan i).st = .voting ∨ ((s.excludeShadows bad).chan i).st = .voting → (s.excludeShadows bad).chan i = s.chan i := by
  induction bad generalizing s with
  | nil => exact ⟨rfl, fun _ _ => rfl⟩
  | cons j bad ih =>
    have hj := hb j List.mem_cons_self
    have hbad : ∀ i ∈ bad, (s.chan i).st ≠ .voting := fun i hi => hb i (List.mem_cons_of_mem _ hi)
    have first : s.excludeShadows (j :: bad) = (s.excludeFor j causeShadow).excludeShadows bad := rfl
    rw [first]
    rcases State.excludeFor_of_not_voting hj ht with e | e
    · rw [e]
      exact ih s hbad ht
    · rw [e]
      have own : ((s.exclude j causeShadow).chan j).st = .excluded := by rw [State.exclude_chan_same]; rfl
      have other : ∀ i, i ≠ j → (s.exclude j causeShadow).chan i = s.chan i := fun i hi => State.exclude_chan_other s _ hi
      obtain ⟨hvot, hchan⟩ := ih (s.exclude j causeShadow) (fun i hi => by
        by_cases h : i = j
        · rw [h, own]; decide
        · rw [other i h]; exact hbad i hi) (by rw [State.exclude_chn]; exact ht)
      refine ⟨hvot.trans (State.exclude_vot ..), fun i hi => ?_⟩
      by_cases h : i = j
      · subst h
        rcases hi with hi | hi
        · exact absurd hi hj
        · rw [hchan i (.inr hi), own] at hi
          cases hi
      · rw [← other i h] at hi ⊢
        exact hchan i hi

/-- Without earlier marks the end tick excludes no VOTING channel. -/
theorem State.closeVote_keeps {s : State} {bad : List ChId} (hb : ∀ i ∈ bad, (s.chan i).st ≠ .voting) (ht : s.chn.trying = none)
    (hm : ∀ i, (s.chan i).marks.length < 3) :
    (s.closeVote bad).vot = s.vot ∧ ∀ i, (s.chan i).st = .voting → (s.closeVote bad).chan i = s.chan i := by
  obtain ⟨hvot, hchan⟩ := State.excludeShadows_keeps bad s hb ht
  unfold State.closeVote
  rw [State.excludeMarked_of_few fun i hi => by rw [hchan i (.inr hi)]; exact hm i]
  exact ⟨hvot, fun i hi => hchan i (.inl hi)⟩

/-! ## The vote of a point (05 Table 5-4) -/

theorem begun_pointList (s : State) (e : Nat) (x : CombEntry) : (Claim.begun s e x).pointList = s.pointList := by
  obtain ⟨t, l, h⟩ := begun_only s e x; rw [h]; rfl
theorem begun_indexForced (s : State) (e : Nat) (x : CombEntry) (p : Point) : (Claim.begun s e x).indexForced p = s.indexForced p := by
  obtain ⟨t, l, h⟩ := begun_only s e x; rw [h]; rfl
theorem begun_verdict (s : State) (e : Nat) (x : CombEntry) (n : Nat) (p : Point) :
    (Claim.begun s e x).verdict n p = s.verdict n p := by
  obtain ⟨t, l, h⟩ := begun_only s e x; rw [h]; rfl

theorem votePoint_three {i j k : ChId} {b : ChId → Option (List Word)} {x y z : List Word} (shadow : Option (List Word))
    (safe : List Word) (hi : b i = some x) (hj : b j = some y) (hk : b k = some z) :
    (votePoint [i, j, k] b shadow safe).value = some (if x = y ∨ x = z then x else if y = z then y else safe) := by
  simp only [votePoint, hi, hj, hk]
  by_cases hxy : x = y
  · rw [if_pos hxy, if_pos (Or.inl hxy)]
    split <;> rfl
  · by_cases hxz : x = z
    · rw [if_neg hxy, if_pos hxz, if_pos (Or.inr hxz)]
      rfl
    · rw [if_neg hxy, if_neg hxz, if_neg (not_or.mpr ⟨hxy, hxz⟩)]
      split <;> rfl

theorem votePoint_two {i j : ChId} {b : ChId → Option (List Word)} {x y : List Word} (shadow : Option (List Word)) (safe : List Word)
    (hi : b i = some x) (hj : b j = some y) : (votePoint [i, j] b shadow safe).value = some (if x = y then x else safe) := by
  simp only [votePoint, hi, hj]
  split <;> rfl

theorem votePoint_half {i j : ChId} {b : ChId → Option (List Word)} {x : List Word} (shadow : Option (List Word)) (safe : List Word)
    (hi : b i = some x) (hj : b j = none) : (votePoint [i, j] b shadow safe).value = some safe := by
  simp only [votePoint, hi, hj, Verdict.fails]

theorem votePoint_one {i : ChId} {b : ChId → Option (List Word)} {x : List Word} (shadow : Option (List Word)) (safe : List Word)
    (hi : b i = some x) : (votePoint [i] b shadow safe).value = some x := by
  simp only [votePoint, hi, Verdict.agreed]

/-- Without ballots the point keeps its driven value, however many channels count. -/
theorem votePoint_silent (cnt : List ChId) {b : ChId → Option (List Word)} (shadow : Option (List Word)) (safe : List Word)
    (h : ∀ i, b i = none) : (votePoint cnt b shadow safe).value = none := by
  match cnt with
  | [] => rfl
  | [_] | [_, _] | [_, _, _] => simp only [votePoint, h, Verdict.keep]
  | _ :: _ :: _ :: _ :: _ => rfl

/-- The value of a verdict does not depend on the mark. -/
theorem State.verdict_value (s : State) (n : Nat) (p : Point) :
    (s.verdict n p).value =
      (votePoint s.counted (fun i => s.ballot i n) ((s.shadows.head?).bind (fun i => s.ballot i n)) p.safe).value := by
  unfold State.verdict State.markable
  split
  · split <;> rfl
  · rfl

/-- A Vote cell in which every slice votes keeps VOTING channels VOTING, and hands over each point's verdict. -/
theorem voteCell_votes {s : State} {e : Nat} {x : CombEntry} {done : List Slice} (o : Claim.Opens s e x 5) (c : Claim.Clear s)
    (hm : ∀ i, (s.chan i).marks = []) (live : s.comb.cyc.live = true) (ht : s.chn.trying = none)
    (all : ∀ sl, sl ∈ done ∧ s.runs (sliceIsland sl) = true) :
    (∀ i, (s.chan i).st = .voting → ((voteCell s e done).chan i).st = .voting) ∧
    ∀ n p, (n, p) ∈ s.pointList → s.indexForced p = false →
      ((voteCell s e done).vot.voted.find? (fun u => u.1 = n)).map (fun u => u.2) = (s.verdict n p).value := by
  obtain ⟨u, bad, stop, eq, cast, hbad⟩ := voteCell_closes o c live all
  have hst : ∀ i, (u.chan i).st = (s.chan i).st ∧ (u.chan i).marks.length < 3 := fun i => by
    obtain ⟨k, hk, hu⟩ := cast.chan i
    rw [hu, begun_chan, hm]
    refine ⟨rfl, ?_⟩
    simp only [List.append_nil, List.length_replicate]
    omega
  obtain ⟨hvot, hchan⟩ := State.closeVote_keeps (s := { u with tim := { u.tim with dt := stop } }) (bad := bad)
    (fun i hi hv => by
      have := (hst i).1.symm.trans hv
      rw [hbad i hi] at this
      cases this)
    (cast.trying.trans (by rw [begun_chn]; exact ht)) (fun i => (hst i).2)
  rw [eq]
  refine ⟨fun i hi => ?_, fun n p hp hf => ?_⟩
  · have hu := (hst i).1.trans hi
    rw [State.chan_congr (State.at_chn ..), hchan i hu]
    exact hu
  · rw [State.at_vot, hvot]
    rw [cast.voted, State.find_votedWords (by rw [begun_pointList]; exact hp) (by rw [begun_indexForced]; exact hf) rfl, begun_verdict]

/-! ## The checkpoint cell (05 R152, R153) -/

/-- A checkpoint cell of channels that agree writes the checkpoint of the lowest VOTING one. -/
theorem ckptCell_of_agreement {s : State} {e : Nat} {x : CombEntry} {img : Image} {i : ChId} (k : Nat) (o : Claim.Opens s e x 6)
    (c : Claim.Clear s) (hm : ∀ i, (s.chan i).marks = []) (hb : s.sup.bank = some img) (hi : s.counted.head? = some i)
    (hc : ∀ j ∈ s.counted, (s.chan j).retCrc img.logic.retWords = (s.chan i).retCrc img.logic.retWords) :
    (ckptCell s e ⟨k, k, k⟩ true).chn = ((Claim.begun s e x).writeCkpt i img).chn := by
  have counted : (Claim.begun s e x).counted = s.counted := by
    obtain ⟨t, l, h⟩ := begun_only s e x; rw [h]; rfl
  unfold ckptCell
  rw [State.withCell_of_opens o]
  dsimp only
  rw [begun_endTicks c, State.indexCheck_same, if_neg Bool.false_ne_true, if_pos rfl,
    State.checkpoint_of_agreement (by rw [begun_sup]; exact hb) (by rw [counted]; exact hi)
      (by rw [counted]; exact fun j hj => by rw [begun_chan, begun_chan]; exact hc j hj),
    State.at_chn, State.excludeMarked_of_few]
  intro j _
  have same : ((Claim.begun s e x).writeCkpt i img).chan j = s.chan j := (State.writeCkpt_chan ..).trans (begun_chan ..)
  change (((Claim.begun s e x).writeCkpt i img).chan j).marks.length < 3
  rw [same, hm]
  decide

/-- A checkpoint later than every other is the newest one, and carries the hyperperiod of the comb. -/
theorem ckptCell_newest {s : State} {e : Nat} {x : CombEntry} {img : Image} {i : ChId} (k : Nat) (o : Claim.Opens s e x 6)
    (c : Claim.Clear s) (hm : ∀ i, (s.chan i).marks = []) (hb : s.sup.bank = some img) (hi : s.counted.head? = some i)
    (hc : ∀ j ∈ s.counted, (s.chan j).retCrc img.logic.retWords = (s.chan i).retCrc img.logic.retWords)
    (later : ∀ c, s.newestCkpt = some c → c.hp < s.comb.k) :
    (ckptCell s e ⟨k, k, k⟩ true).newestCkpt = some ((Claim.begun s e x).ckptOf i img) ∧ (Claim.begun s e x).hp = s.comb.k := by
  have hk : (Claim.begun s e x).hp = s.comb.k := by
    unfold State.hp
    rw [begun_comb]
    exact if_pos (State.cstate_of_opens o)
  refine ⟨?_, hk⟩
  rw [State.newestCkpt_congr (ckptCell_of_agreement k o c hm hb hi hc)]
  refine State.newestCkpt_writeCkpt i img fun c hn => ?_
  rw [hk]
  exact later c (by rwa [State.newestCkpt_congr (begun_chn s e x)] at hn)

/-- Settles O39: the cases of Table 5-4 for the verdict of a point, and the checkpoint the channels agree on. -/
theorem votesAndCheckpoints : Obligations.VotesAndCheckpoints := by
  unfold Obligations.VotesAndCheckpoints
  intro s e x c hm
  refine ⟨fun l n p o live ht all hp hf => ⟨_, rfl, ?vote⟩, fun k img i o hb hi hc later => ?ckpt⟩
  case vote =>
    obtain ⟨voting, voted⟩ := voteCell_votes o c hm live ht all
    refine ⟨voting, ?_⟩
    dsimp only
    rw [voted n p hp hf, State.verdict_value]
    refine ⟨fun _ _ _ _ _ _ hn hi hj hk => ?three, fun _ _ _ _ hn hi hj => ?two, fun _ _ hn hi => ?one,
      fun _ _ _ hn hi hj => ?half, fun silent => votePoint_silent _ _ _ silent⟩
    case three => rw [hn]; exact votePoint_three _ _ hi hj hk
    case two => rw [hn]; exact votePoint_two _ _ hi hj
    case one => rw [hn]; exact votePoint_one _ _ hi
    case half => rw [hn]; exact votePoint_half _ _ hi hj
  case ckpt =>
    obtain ⟨newest, hk⟩ := ckptCell_newest k o c hm hb hi (fun j hj => (hc j hj).1) later
    exact ⟨_, _, rfl, newest, hk, by rw [State.ckptOf, begun_chan], rfl⟩

end Sys2Proof.Machine
end

section
/-!
PROOFS. The program words of the logic engine (06 R177, Tables 6-6 and 6-7): a word is an opcode above 24 bits, and the decoder
of each form finds exactly the operand whose field these bits are.
-/
namespace Sys2Proof.Machine

/-! ## Opcode and low bits -/

theorem opcode_opWord {k low : Nat} (hk : k < 256) (hl : low < 2 ^ 24) : bitsOf (opWord k low) 31 24 = k := by
  unfold bitsOf opWord; omega

theorem low_opWord {k low : Nat} (hl : low < 2 ^ 24) : bitsOf (opWord k low) 23 0 = low := by
  unfold bitsOf opWord; omega

theorem opWord_lt {k low : Nat} (hk : k < 256) (hl : low < 2 ^ 24) : opWord k low < 2 ^ 32 := by
  unfold opWord; omega

/-- A 32-bit word is its opcode and its low 24 bits. -/
theorem opWord_opcode_low {w : Nat} (hw : w < 2 ^ 32) : opWord (bitsOf w 31 24) (bitsOf w 23 0) = w := by
  unfold bitsOf opWord; omega

theorem addrOf_lt (w : Nat) : addrOf w < 2097152 := by
  unfold addrOf bitsOf; omega

/-- The low bits of form M are SP above the 21 bits of ADDR (06 Table 6-6). -/
theorem low_eq_sp_addr (w : Nat) : bitsOf w 23 0 = spOf w * 2 ^ 21 + addrOf w := by
  unfold spOf addrOf bitsOf; omega

theorem spOf_addrOf_of_low {w k a : Nat} (h : bitsOf w 23 0 = k * 2 ^ 21 + a) (ha : a < 2 ^ 21) : spOf w = k ∧ addrOf w = a := by
  have := low_eq_sp_addr w
  have := addrOf_lt w
  constructor <;> omega

/-! ## Operands: what a decoder finds -/

theorem bitOpOf_eq_some {w : Nat} {o : BitOp} : bitOpOf w = some o ↔ bitsOf w 23 0 = o.field ∧ o.fits = true := by
  constructor
  · intro h
    unfold bitOpOf at h
    split at h <;> cases h <;> rename_i hs <;> simp [low_eq_sp_addr, hs, BitOp.field, BitOp.fits, addrOf_lt]
  · rintro ⟨hf, hb⟩
    cases o <;> simp only [BitOp.field, BitOp.fits, decide_eq_true_eq] at hf hb
    case bit a => obtain ⟨hs, ha⟩ := spOf_addrOf_of_low (k := 0) (by simpa using hf) hb; simp [bitOpOf, hs, ha]
    all_goals obtain ⟨hs, ha⟩ := spOf_addrOf_of_low hf hb; simp [bitOpOf, hs, ha]

theorem wordOpOf_eq_some {w : Nat} {o : WordOp} : wordOpOf w = some o ↔ bitsOf w 23 0 = o.field ∧ o.fits = true := by
  constructor
  · intro h
    unfold wordOpOf at h
    split at h <;> cases h <;> rename_i hs <;> simp [low_eq_sp_addr, hs, WordOp.field, WordOp.fits, addrOf_lt, Nat.mod_eq_of_lt (addrOf_lt w)]
  · rintro ⟨hf, hb⟩
    cases o <;> simp only [WordOp.field, WordOp.fits, decide_eq_true_eq] at hf hb
    case word a => obtain ⟨hs, ha⟩ := spOf_addrOf_of_low (k := 1) (by simpa using hf) hb; simp [wordOpOf, hs, ha]
    case imm v => obtain ⟨hs, ha⟩ := spOf_addrOf_of_low hf v.isLt; simp [wordOpOf, hs, ha]
    all_goals obtain ⟨hs, ha⟩ := spOf_addrOf_of_low hf hb; simp [wordOpOf, hs, ha]

theorem idxOpOf_eq_some {w : Nat} {o : IdxOp} : idxOpOf w = some o ↔ bitsOf w 23 0 = o.field ∧ o.fits = true := by
  constructor
  · intro h
    unfold idxOpOf at h
    split at h <;> cases h <;> rename_i hs <;> simp [low_eq_sp_addr, hs, IdxOp.field, IdxOp.fits, addrOf_lt]
  · rintro ⟨hf, hb⟩
    cases o <;> simp only [IdxOp.field, IdxOp.fits, decide_eq_true_eq] at hf hb
    case word a => obtain ⟨hs, ha⟩ := spOf_addrOf_of_low (k := 1) (by simpa using hf) hb; simp [idxOpOf, hs, ha]
    all_goals obtain ⟨hs, ha⟩ := spOf_addrOf_of_low hf hb; simp [idxOpOf, hs, ha]

theorem storeOpOf_eq_some {w : Nat} {o : StoreOp} : storeOpOf w = some o ↔ bitsOf w 23 0 = o.field ∧ o.fits = true := by
  constructor
  · intro h
    unfold storeOpOf at h
    split at h <;> cases h <;> rename_i hs <;> simp [low_eq_sp_addr, hs, StoreOp.field, StoreOp.fits, addrOf_lt]
  · rintro ⟨hf, hb⟩
    cases o <;> simp only [StoreOp.field, StoreOp.fits, decide_eq_true_eq] at hf hb
    case word a => obtain ⟨hs, ha⟩ := spOf_addrOf_of_low (k := 1) (by simpa using hf) hb; simp [storeOpOf, hs, ha]
    all_goals obtain ⟨hs, ha⟩ := spOf_addrOf_of_low hf hb; simp [storeOpOf, hs, ha]

theorem itemOf_eq_some {w : Nat} {f : Nat → Instr} {i : Instr} :
    (if spOf w = 3 then some (f (addrOf w)) else none) = some i ↔
      ∃ a, (bitsOf w 23 0 = 3 * 2 ^ 21 + a ∧ a < 2 ^ 21) ∧ f a = i := by
  constructor
  · intro h
    split at h <;> cases h
    rename_i hs
    exact ⟨addrOf w, ⟨by rw [low_eq_sp_addr, hs], addrOf_lt w⟩, rfl⟩
  · rintro ⟨a, ⟨hf, hb⟩, rfl⟩
    obtain ⟨hs, ha⟩ := spOf_addrOf_of_low hf hb
    rw [if_pos hs, ha]

/-! ## Forms N, J, I and B: a field that must be zero leaves the low bits to the operand -/

theorem formN_eq_some {w : Nat} {i j : Instr} : formN w j = some i ↔ ∃ o, (bitsOf w 23 0 = o ∧ o = 0) ∧ j = i := by
  simp [formN]

theorem formJ_eq_some {w : Nat} {f : Nat → Instr} {i : Instr} :
    formJ w f = some i ↔ ∃ o, (bitsOf w 23 0 = o ∧ 0 < o ∧ o < 2 ^ 24) ∧ f o = i := by
  have hb : bitsOf w 23 0 < 2 ^ 24 := Nat.mod_lt _ (by decide)
  unfold formJ
  split <;> rename_i h
  · simp [h]
  · simp only [Option.some.injEq]
    exact ⟨fun e => ⟨_, ⟨rfl, Nat.pos_of_ne_zero h, hb⟩, e⟩, fun ⟨_, ⟨e, _⟩, hi⟩ => e ▸ hi⟩

theorem formI_eq_some {w : Nat} {f : Nat → Instr} {i : Instr} :
    formI w f = some i ↔ ∃ n, (bitsOf w 23 0 = n ∧ n < 2 ^ 14) ∧ f n = i := by
  have hz : bitsOf w 23 14 = 0 ↔ bitsOf w 23 0 < 2 ^ 14 := by unfold bitsOf; omega
  have hn : bitsOf w 23 0 < 2 ^ 14 → bitsOf w 13 0 = bitsOf w 23 0 := by unfold bitsOf; omega
  simp only [formI, hz]
  split <;> rename_i h
  · rw [hn h]
    constructor
    · rintro ⟨⟩
      exact ⟨_, ⟨rfl, h⟩, rfl⟩
    · rintro ⟨n, ⟨rfl, -⟩, rfl⟩
      rfl
  · constructor
    · rintro ⟨⟩
    · rintro ⟨n, ⟨rfl, hn⟩, -⟩
      exact absurd hn h

theorem formB_eq_some {w : Nat} {f : Fin 32 → Instr} {i : Instr} :
    formB w f = some i ↔ ∃ b : Fin 32, bitsOf w 23 0 = b.val ∧ f b = i := by
  have hz : bitsOf w 23 5 = 0 ↔ bitsOf w 23 0 < 32 := by unfold bitsOf; omega
  have hn : bitsOf w 23 0 < 32 → bitsOf w 4 0 = bitsOf w 23 0 := by unfold bitsOf; omega
  simp only [formB, hz]
  split <;> rename_i h
  · rw [hn h]
    constructor
    · rintro ⟨⟩
      exact ⟨Fin.ofNat 32 (bitsOf w 23 0), (Nat.mod_eq_of_lt h).symm, rfl⟩
    · rintro ⟨b, hb, rfl⟩
      rw [hb, Fin.ofNat_val_eq_self]
  · constructor
    · rintro ⟨⟩
    · rintro ⟨b, hb, -⟩
      omega

/-! ## Every field fits the 24 bits below the opcode -/

theorem BitOp.field_lt {o : BitOp} (h : o.fits = true) : o.field < 2 ^ 24 := by
  cases o <;> simp only [BitOp.field, BitOp.fits, decide_eq_true_eq] at h ⊢ <;> omega

theorem WordOp.field_lt {o : WordOp} (h : o.fits = true) : o.field < 2 ^ 24 := by
  cases o <;> simp only [WordOp.field, WordOp.fits, decide_eq_true_eq] at h ⊢ <;> omega

theorem IdxOp.field_lt {o : IdxOp} (h : o.fits = true) : o.field < 2 ^ 24 := by
  cases o <;> simp only [IdxOp.field, IdxOp.fits, decide_eq_true_eq] at h ⊢ <;> omega

theorem StoreOp.field_lt {o : StoreOp} (h : o.fits = true) : o.field < 2 ^ 24 := by
  cases o <;> simp only [StoreOp.field, StoreOp.fits, decide_eq_true_eq] at h ⊢ <;> omega

/-! ## Words and instructions -/

/-- What the opcode and the low bits decide, the word of the two decodes to. -/
theorem opWord_decodes {k low : Nat} {i : Instr} (hk : k < 256) (hl : low < 2 ^ 24)
    (h : ∀ w, bitsOf w 31 24 = k → bitsOf w 23 0 = low → lgeDecode w = some i) :
    opWord k low < 2 ^ 32 ∧ lgeDecode (opWord k low) = some i :=
  ⟨opWord_lt hk hl, h _ (opcode_opWord hk hl) (low_opWord hl)⟩

/-- The instructions of each form read their field back; nothing else has a word. -/
theorem lgeDecode_lgeEncode : Claim.LogicWordRoundTrip := by
  intro i w hf h
  cases i
  case ld o | ldn o | and o | andn o | or o | orn o | xor o | xorn o | st o | stn o | set o | rst o =>
    cases h
    refine opWord_decodes (by decide) (BitOp.field_lt hf) fun w hk hl => ?_
    unfold lgeDecode; rw [hk]
    exact Option.map_eq_some_iff.mpr ⟨o, bitOpOf_eq_some.mpr ⟨hl, hf⟩, rfl⟩
  case ldw o | add o | sub o | mul o | div o | mod o | min o | max o | andw o | orw o | xorw o | shl o | shr o | asr o | qmul o
      | qdiv o | eq o | ne o | lt o | le o | gt o | ge o =>
    cases h
    refine opWord_decodes (by decide) (WordOp.field_lt hf) fun w hk hl => ?_
    unfold lgeDecode; rw [hk]
    exact Option.map_eq_some_iff.mpr ⟨o, wordOpOf_eq_some.mpr ⟨hl, hf⟩, rfl⟩
  case jmp o | jc o | jnc o =>
    cases h
    obtain ⟨hp, hb⟩ : 0 < o ∧ o < 2 ^ 24 := by simpa [lgeFits] using hf
    refine opWord_decodes (by decide) hb fun w hk hl => ?_
    unfold lgeDecode; rw [hk]
    exact formJ_eq_some.mpr ⟨o, ⟨hl, hp, hb⟩, rfl⟩
  case ton n | tof n | tp n | trst n | ldet n | ctu n | ctd n | crst n | cld n | ldcv n | redge n | fedge n =>
    cases h
    have hb : n < 2 ^ 14 := by simpa [lgeFits] using hf
    refine opWord_decodes (by decide) (Nat.lt_trans hb (by decide)) fun w hk hl => ?_
    unfold lgeDecode; rw [hk]
    exact formI_eq_some.mpr ⟨n, ⟨hl, hb⟩, rfl⟩
  case ldq a | ldage a =>
    cases h
    have hb : a < 2 ^ 21 := by simpa [lgeFits] using hf
    refine opWord_decodes (by decide) (by omega) fun w hk hl => ?_
    unfold lgeDecode; rw [hk]
    exact itemOf_eq_some.mpr ⟨a, ⟨hl, hb⟩, rfl⟩
  case ldwx o =>
    cases h
    refine opWord_decodes (by decide) (IdxOp.field_lt hf) fun w hk hl => ?_
    unfold lgeDecode; rw [hk]
    exact Option.map_eq_some_iff.mpr ⟨o, idxOpOf_eq_some.mpr ⟨hl, hf⟩, rfl⟩
  case stw o | stwx o =>
    cases h
    refine opWord_decodes (by decide) (StoreOp.field_lt hf) fun w hk hl => ?_
    unfold lgeDecode; rw [hk]
    exact Option.map_eq_some_iff.mpr ⟨o, storeOpOf_eq_some.mpr ⟨hl, hf⟩, rfl⟩
  case tbit b | sbit b =>
    cases h
    refine opWord_decodes (by decide) (Nat.lt_trans b.isLt (by decide)) fun w hk hl => ?_
    unfold lgeDecode; rw [hk]
    exact formB_eq_some.mpr ⟨b, hl, rfl⟩
  case nop | endScan | ldix | stix | not | setba | clrba | ldov | lddz | ldif | btow | wtob | itoq | qtoi | neg | abs | notw
      | andOpen | orOpen | xorOpen | addOpen | subOpen | mulOpen | qmulOpen | closeParen =>
    obtain rfl : opWord _ 0 = w := Option.some.inj h
    refine opWord_decodes (by decide) (by decide) fun w hk hl => ?_
    unfold lgeDecode; rw [hk]
    exact formN_eq_some.mpr ⟨0, ⟨hl, rfl⟩, rfl⟩
  all_goals cases h

/-- In each arm of the decoder the operand gives the low bits, and the arm the opcode: together they are the word. -/
theorem lgeEncode_lgeDecode : Claim.LogicWordUnique := by
  intro i w hw h
  have hc := opWord_opcode_low hw
  unfold lgeDecode at h
  split at h <;> rename_i hk
  all_goals
    simp only [formN_eq_some, formJ_eq_some, formI_eq_some, formB_eq_some, itemOf_eq_some, Option.map_eq_some_iff, bitOpOf_eq_some,
      wordOpOf_eq_some, idxOpOf_eq_some, storeOpOf_eq_some, reduceCtorEq, Nat.reducePow, Nat.reduceMul] at h
  all_goals
    obtain ⟨o, hl, rfl⟩ := h
    rw [hk] at hc
    simp only [hl] at hc
    simp [lgeEncode, lgeFits, hl, hc]

/-- Settles O1: encoding and decoding are inverse, form by form. -/
theorem logicWordsAndInstructions : Obligations.LogicWordsAndInstructions := ⟨lgeDecode_lgeEncode, lgeEncode_lgeDecode⟩

end Sys2Proof.Machine
end

section
/-!
PROOFS. The instructions of the logic engine that work on the accumulators: what one of them does to a channel with an open scan
(06 R179), and the arithmetic, unary, bitwise and comparing ones (06 R180, Table 6-7).
-/
namespace Sys2Proof.Machine

open Claim (Scanning OnlyScans after snapCycle clamp outside HalfEven)

/-! ## One instruction, every scanning channel -/

/-- An instruction whose effect in a scanning channel is `f` does it there, and nothing else anywhere. -/
theorem exec_of_lge {c : Instr} {f : Chan → Chan} {s : State} {i : ChId} {x : Scan} {d : Chan} (he : exec c s = .next (s.lge f))
    (h : Scanning s i x) (hd : f (s.chan i) = d) : ∃ t, exec c s = .next t ∧ OnlyScans s t ∧ t.chan i = d :=
  ⟨_, he, s.lge_frame f, (s.lge_open f i x h).trans hd⟩

theorem Chan.retire_eq {c : Chan} {x : Scan} (n : Nat) (h : c.scan = some x) : c.retire n = { c with scan := some (after x n) } := by
  simp [Chan.retire, h, after]

theorem extra_eq_snapCycle (op : WordOp) : op.extra = snapCycle op := by
  cases op <;> rfl

/-! ## Results with their flags (06 R180) -/

theorem satWord_eq_clamp (r : Int) : satWord r = clamp r := by
  rw [satWord, satInt_clamp, clamp]

theorem satOver_eq_outside (r : Int) : satOver r = outside r := by
  simp only [satOver, outside, gt_iff_lt, Bool.or_comm]

theorem Chan.putRes_resSat (c : Chan) (r : Int) : c.putRes (resSat r) = { c with wa := clamp r, ov := c.ov || outside r } := by
  simp [Chan.putRes, resSat, satWord_eq_clamp, satOver_eq_outside]

theorem Chan.putRes_resPlain (c : Chan) (w : Word) : c.putRes (resPlain w) = { c with wa := w } := by
  simp [Chan.putRes, resPlain]

section
variable {c : Chan} {x : Scan} (h : c.scan = some x) (f : Word → Word → Res) (n : Nat) (op : WordOp)
include h

theorem Chan.arith_eq : c.arith f n op = { c.putRes (f c.wa (c.readWord op)) with scan := some (after x (n + snapCycle op)) } := by
  rw [Chan.arith, extra_eq_snapCycle, Chan.retire_eq _ (by exact h)]

/-- A word operation with an exact result saturates it, and sets OV when it does. -/
theorem Chan.arith_resSat {r : Int} (hr : f c.wa (c.readWord op) = resSat r) :
    c.arith f n op = { c with wa := clamp r, ov := c.ov || outside r, scan := some (after x (n + snapCycle op)) } := by
  rw [Chan.arith_eq h, hr, Chan.putRes_resSat]

/-- One that cannot saturate sets no flag. -/
theorem Chan.arith_resPlain {w : Word} (hr : f c.wa (c.readWord op) = resPlain w) :
    c.arith f n op = { c with wa := w, scan := some (after x (n + snapCycle op)) } := by
  rw [Chan.arith_eq h, hr, Chan.putRes_resPlain]

end

/-! ## Sums, products, quotients -/

theorem sumsSaturate : Claim.SumsSaturate := by
  intro p hp op s i x h
  simp only [List.mem_cons, List.not_mem_nil, or_false] at hp
  obtain rfl | rfl | rfl := hp <;> exact exec_of_lge rfl h (Chan.arith_resSat h _ _ op rfl)

/-- Rounding against a negative divisor: both signs are turned, and the remainder's with them. -/
theorem rndDiv_neg_halfEven {n d : Int} (h : d < 0) : HalfEven n d (rndDiv (-n) (-d).toNat) := by
  have hd : ((-d).toNat : Int) = -d := Int.toNat_of_nonneg (by omega)
  obtain ⟨near, tie⟩ := rndDiv_halfEven (-n) (-d).toNat (by omega)
  have he : (-n - rndDiv (-n) (-d).toNat * ((-d).toNat : Int)).natAbs = (n - rndDiv (-n) (-d).toNat * d).natAbs := by
    rw [hd, Int.mul_neg, ← Int.natAbs_neg]; congr 1; omega
  have ha : (-d).toNat = d.natAbs := by omega
  rw [he] at near tie
  exact ⟨by omega, fun e => tie (by omega)⟩

theorem rndDiv_pos_halfEven {n d : Int} (h : 0 < d) : HalfEven n d (rndDiv n d.toNat) := by
  have hd : (d.toNat : Int) = d := Int.toNat_of_nonneg (by omega)
  have ha : d.toNat = d.natAbs := by omega
  have := rndDiv_halfEven n d.toNat (by omega)
  rw [hd] at this
  rw [HalfEven, ← ha]
  exact this

/-- A word is zero exactly when its number is. -/
theorem toInt_ne_zero {b : Word} : b ≠ 0 ↔ b.toInt ≠ 0 :=
  not_congr ⟨fun h => h ▸ rfl, fun h => BitVec.eq_of_toInt_eq h⟩

/-- QDIV by a divisor that is not zero saturates a quotient rounded half to even. -/
theorem qdivR_eq_resSat (a b : Word) (h : b.toInt ≠ 0) : ∃ q, HalfEven (a.toInt * 65536) b.toInt q ∧ qdivR a b = resSat q := by
  have hb := toInt_ne_zero.mpr h
  rcases Int.lt_or_gt_of_ne h with hn | hp
  · exact ⟨_, rndDiv_neg_halfEven hn, by rw [qdivR, if_neg hb, if_pos hn]⟩
  · exact ⟨_, rndDiv_pos_halfEven hp, by rw [qdivR, if_neg hb, if_neg (by omega)]⟩

theorem fixedPointRounds : Claim.FixedPointRounds := by
  intro op s i x h
  refine ⟨?qmul, fun hb => ?qdiv⟩
  case qmul =>
    obtain ⟨t, he, hf, hc⟩ := exec_of_lge (c := .qmul op) rfl h (Chan.arith_resSat h qmulR 4 op rfl)
    exact ⟨t, _, he, hf, rndDiv_halfEven _ 65536 (by decide), hc⟩
  case qdiv =>
    obtain ⟨q, hq, hr⟩ := qdivR_eq_resSat (s.chan i).wa _ hb
    obtain ⟨t, he, hf, hc⟩ := exec_of_lge (c := .qdiv op) rfl h (Chan.arith_resSat h qdivR 20 op hr)
    exact ⟨t, q, he, hf, hq, hc⟩

/-- Settles O3: the exact results through `resSat`, the quotients rounded by `rndDiv`. -/
theorem sumsAndProducts : Obligations.SumsAndProducts := ⟨sumsSaturate, fixedPointRounds⟩

/-! ## Divisions -/

theorem divisionTruncates : Claim.DivisionTruncates := by
  intro op s i x h hb
  exact ⟨exec_of_lge rfl h (Chan.arith_resSat h divR 18 op (if_neg hb)),
    exec_of_lge rfl h (Chan.arith_resPlain h modR 18 op (if_neg hb))⟩

/-- A division by zero sets DZ and leaves OV. -/
theorem Chan.arith_dz {c : Chan} {x : Scan} (h : c.scan = some x) (f : Word → Word → Res) (n : Nat) (op : WordOp) {w : Word}
    (hr : f c.wa (c.readWord op) = ⟨w, false, true⟩) :
    c.arith f n op = { c with wa := w, dz := true, scan := some (after x (n + snapCycle op)) } := by
  rw [Chan.arith_eq h, hr]
  simp [Chan.putRes]

theorem divisionByZero : Claim.DivisionByZero := by
  intro p hp op s i x h hb
  simp only [List.mem_cons, List.not_mem_nil, or_false] at hp
  obtain rfl | rfl | rfl := hp
  · refine exec_of_lge rfl h (Chan.arith_dz h divR 18 op ?_)
    rw [divR, if_pos hb, divZero]; simp
  · refine exec_of_lge rfl h (Chan.arith_dz h qdivR 20 op ?_)
    rw [qdivR, if_pos hb, divZero]; simp
  · refine exec_of_lge rfl h (Chan.arith_dz h modR 18 op ?_)
    rw [modR, if_pos hb]; simp

/-- Settles O2: truncating quotients through `resSat`, and the results of `divZero` and `modR` by zero. -/
theorem divisions : Obligations.Divisions := ⟨divisionTruncates, divisionByZero⟩

/-! ## Unary words, bitwise words, shifts, comparisons -/

section
variable {c : Chan} {x : Scan} (h : c.scan = some x) (f : Word → Res) (n : Nat)
include h

theorem Chan.unary_resSat {r : Int} (hr : f c.wa = resSat r) :
    c.unary f n = { c with wa := clamp r, ov := c.ov || outside r, scan := some (after x n) } := by
  rw [Chan.unary, hr, Chan.putRes_resSat, Chan.retire_eq _ (by exact h)]

theorem Chan.unary_resPlain {w : Word} (hr : f c.wa = resPlain w) : c.unary f n = { c with wa := w, scan := some (after x n) } := by
  rw [Chan.unary, hr, Chan.putRes_resPlain, Chan.retire_eq _ (by exact h)]

end

theorem absR_eq_resSat (a : Word) : absR a = resSat (a.toInt.natAbs : Int) := by
  rw [absR]; congr 1; split <;> omega

theorem unaryWords : Claim.UnaryWords := by
  intro s i x h
  refine ⟨fun p hp => ?exact, ?qtoi, exec_of_lge rfl h (Chan.unary_resPlain h _ 1 rfl)⟩
  case exact =>
    simp only [List.mem_cons, List.not_mem_nil, or_false] at hp
    obtain rfl | rfl | rfl := hp
    · exact exec_of_lge rfl h (Chan.unary_resSat h itoqR 1 rfl)
    · exact exec_of_lge rfl h (Chan.unary_resSat h negR 1 rfl)
    · exact exec_of_lge rfl h (Chan.unary_resSat h absR 1 (absR_eq_resSat _))
  case qtoi =>
    obtain ⟨t, he, hf, hc⟩ := exec_of_lge (c := .qtoi) rfl h (Chan.unary_resPlain h qtoiR 2 rfl)
    exact ⟨t, _, he, hf, rndDiv_halfEven _ 65536 (by decide), hc⟩

theorem wordLogicShifts : Claim.WordLogicShifts := by
  intro p hp op s i x h
  simp only [List.mem_cons, List.not_mem_nil, or_false] at hp
  obtain rfl | rfl | rfl | rfl | rfl | rfl | rfl | rfl := hp <;> exact exec_of_lge rfl h (Chan.arith_resPlain h _ _ op rfl)

theorem Chan.compare_eq {c : Chan} {x : Scan} (h : c.scan = some x) (f : Int → Int → Bool) (op : WordOp) :
    c.compare f op = { c with ba := f c.wa.toInt (c.readWord op).toInt, scan := some (after x (2 + snapCycle op)) } := by
  rw [Chan.compare, extra_eq_snapCycle, Chan.retire_eq _ (by exact h)]

theorem comparisonsSetBa : Claim.ComparisonsSetBa := by
  have hle : (fun a b : Int => decide (a ≤ b)) = fun a b => decide (a < b) || decide (a = b) := by
    funext a b; rw [← Bool.decide_or, decide_eq_decide]; exact Int.le_iff_lt_or_eq
  have hge : (fun a b : Int => decide (a ≥ b)) = fun a b => decide (b < a) || decide (a = b) := by
    funext a b; rw [← Bool.decide_or, decide_eq_decide]; omega
  have hne : (fun a b : Int => decide (a ≠ b)) = fun a b => !decide (a = b) := by
    funext a b; exact decide_not
  intro p hp op s i x h
  simp only [List.mem_cons, List.not_mem_nil, or_false] at hp
  rw [← hle, ← hge, ← hne] at hp
  obtain rfl | rfl | rfl | rfl | rfl | rfl := hp <;> exact exec_of_lge rfl h (Chan.compare_eq h _ op)

/-- Settles O4: the unary operations, the plain word operations and the comparisons, each family by its lemma. -/
theorem wordOperations : Obligations.WordOperations := ⟨unaryWords, wordLogicShifts, comparisonsSetBa⟩

end Sys2Proof.Machine
end

section
/-!
PROOFS. The instructions of the logic engine that load and store (06 Table 6-7), the indexed forms (06 R178), and the reads of
an item's quality and age (06 R168).
-/
namespace Sys2Proof.Machine

open Claim (Scanning OnlyScans after snapCycle SameRegs)

/-! ## What a write leaves readable -/

@[simp] theorem Chan.readBit_retire (c : Chan) (n : Nat) (o : BitOp) : (c.retire n).readBit o = c.readBit o := by cases o <;> rfl
@[simp] theorem Chan.readWord_retire (c : Chan) (n : Nat) (o : WordOp) : (c.retire n).readWord o = c.readWord o := by cases o <;> rfl

theorem Chan.readWord_writeBit (c : Chan) (op : BitOp) (v : Bool) (o : WordOp) : (c.writeBit op v).readWord o = c.readWord o := by
  rw [Chan.writeBit_keeps]; cases o <;> rfl

theorem Chan.readBit_store (c : Chan) (op : StoreOp) (v : Word) (o : BitOp) : (c.store op v).readBit o = c.readBit o := by
  rw [Chan.store_keeps]; cases o <;> rfl

theorem Chan.writeBit_scan (c : Chan) (op : BitOp) (v : Bool) : (c.writeBit op v).scan = c.scan := by
  rw [Chan.writeBit_keeps]

theorem Chan.store_scan (c : Chan) (op : StoreOp) (v : Word) : (c.store op v).scan = c.scan := by
  rw [Chan.store_keeps]

/-- A bit written and the cycles counted change memory and scan alone. -/
theorem Chan.writeBit_sameRegs (c : Chan) (op : BitOp) (v : Bool) (n : Nat) : SameRegs c ((c.writeBit op v).retire n) := by
  rw [SameRegs, Chan.writeBit_keeps]; rfl

theorem Chan.store_sameRegs (c : Chan) (op : StoreOp) (v : Word) (n : Nat) : SameRegs c ((c.store op v).retire n) := by
  rw [SameRegs, Chan.store_keeps]; rfl

/-! ## Bit stores -/

/-- A bit stored in two cycles: registers, words and every other bit stay. -/
structure Chan.BitStored (c d : Chan) (x : Scan) (op : BitOp) (v : Bool) : Prop where
  regs : SameRegs c d
  scan : d.scan = some (after x 2)
  bit : ∀ o, d.readBit o = if o = op then v else c.readBit o
  word : ∀ o, d.readWord o = c.readWord o

theorem Chan.writeBit_stored {c : Chan} {x : Scan} (h : c.scan = some x) (op : BitOp) (v : Bool) :
    c.BitStored ((c.writeBit op v).retire 2) x op v where
  regs := c.writeBit_sameRegs op v 2
  scan := by rw [Chan.retire_eq 2 ((c.writeBit_scan op v).trans h)]
  bit o := by rw [Chan.readBit_retire, Chan.readBit_writeBit]
  word o := by rw [Chan.readWord_retire, Chan.readWord_writeBit]

/-- A store that is not made, of SET and RST while BA is 0, leaves the bit at its value. -/
theorem Chan.retire_stored {c : Chan} {x : Scan} (h : c.scan = some x) (op : BitOp) :
    c.BitStored (c.retire 2) x op (c.readBit op) where
  regs := rfl
  scan := by rw [Chan.retire_eq 2 h]
  bit o := by split <;> simp_all
  word o := c.readWord_retire 2 o

theorem Chan.iSet_stored {c : Chan} {x : Scan} (h : c.scan = some x) (op : BitOp) :
    c.BitStored (c.iSet op) x op (c.ba || c.readBit op) := by
  unfold Chan.iSet
  cases hb : c.ba
  · exact Chan.retire_stored h op
  · exact Chan.writeBit_stored h op true

theorem Chan.iRst_stored {c : Chan} {x : Scan} (h : c.scan = some x) (op : BitOp) :
    c.BitStored (c.iRst op) x op (!c.ba && c.readBit op) := by
  unfold Chan.iRst
  cases hb : c.ba
  · exact Chan.retire_stored h op
  · exact Chan.writeBit_stored h op false

/-- An instruction that stores a bit in every scanning channel. -/
theorem exec_of_bitStored {c : Instr} {f : Chan → Chan} {s : State} {i : ChId} {x : Scan} {op : BitOp} {v : Bool}
    (he : exec c s = .next (s.lge f)) (h : Scanning s i x) (hd : (s.chan i).BitStored (f (s.chan i)) x op v) :
    ∃ t, exec c s = .next t ∧ OnlyScans s t ∧ SameRegs (s.chan i) (t.chan i) ∧ (t.chan i).scan = some (after x 2) ∧
      (t.chan i).readBit op = v ∧ (∀ o, o ≠ op → (t.chan i).readBit o = (s.chan i).readBit o) ∧
      (∀ o, (t.chan i).readWord o = (s.chan i).readWord o) := by
  obtain ⟨t, ht, hf, hc⟩ := exec_of_lge he h rfl
  rw [← hc] at hd
  exact ⟨t, ht, hf, hd.regs, hd.scan, (hd.bit op).trans (if_pos rfl), fun o ho => (hd.bit o).trans (if_neg ho), hd.word⟩

theorem bitStores : Claim.BitStores := by
  intro p hp op s i x h
  simp only [List.mem_cons, List.not_mem_nil, or_false] at hp
  obtain rfl | rfl | rfl | rfl := hp
  · exact exec_of_bitStored rfl h (Chan.writeBit_stored h op _)
  · exact exec_of_bitStored rfl h (Chan.writeBit_stored h op _)
  · exact exec_of_bitStored rfl h (Chan.iSet_stored h op)
  · exact exec_of_bitStored rfl h (Chan.iRst_stored h op)

/-! ## Word loads and stores -/

/-- A word stored in `n` cycles: registers, bits and every other word stay. -/
structure Chan.WordStored (c d : Chan) (x : Scan) (n : Nat) (w : WordOp) : Prop where
  regs : SameRegs c d
  scan : d.scan = some (after x n)
  word : d.readWord w = c.wa
  words : ∀ o, o ≠ w → d.readWord o = c.readWord o
  bits : ∀ o, d.readBit o = c.readBit o

theorem Chan.store_stored {c : Chan} {x : Scan} (h : c.scan = some x) (op : StoreOp) (n : Nat) :
    c.WordStored ((c.store op c.wa).retire n) x n (storeAsWord op) where
  regs := c.store_sameRegs op c.wa n
  scan := by rw [Chan.retire_eq n ((c.store_scan op c.wa).trans h)]
  word := by rw [Chan.readWord_retire, Chan.readWord_store, if_pos rfl]
  words o ho := by rw [Chan.readWord_retire, Chan.readWord_store, if_neg ho]
  bits o := by rw [Chan.readBit_retire, Chan.readBit_store]

/-- An instruction that stores a word in every scanning channel. -/
theorem exec_of_wordStored {c : Instr} {f : Chan → Chan} {s : State} {i : ChId} {x : Scan} {n : Nat} {w : WordOp}
    (he : exec c s = .next (s.lge f)) (h : Scanning s i x) (hd : (s.chan i).WordStored (f (s.chan i)) x n w) :
    ∃ t, exec c s = .next t ∧ OnlyScans s t ∧ SameRegs (s.chan i) (t.chan i) ∧ (t.chan i).scan = some (after x n) ∧
      (t.chan i).readWord w = (s.chan i).wa ∧ (∀ o, o ≠ w → (t.chan i).readWord o = (s.chan i).readWord o) ∧
      (∀ o, (t.chan i).readBit o = (s.chan i).readBit o) := by
  obtain ⟨t, ht, hf, hc⟩ := exec_of_lge he h rfl
  rw [← hc] at hd
  exact ⟨t, ht, hf, hd.regs, hd.scan, hd.word, hd.words, hd.bits⟩

theorem Chan.iLdw_eq {c : Chan} {x : Scan} (h : c.scan = some x) (op : WordOp) :
    c.iLdw op = { c with wa := c.readWord op, scan := some (after x (2 + snapCycle op)) } := by
  rw [Chan.iLdw, extra_eq_snapCycle, Chan.retire_eq _ (by exact h)]

theorem wordLoadStore : Claim.WordLoadStore := by
  refine ⟨fun op s i x h => exec_of_lge rfl h (Chan.iLdw_eq h op), fun op s i x h => ?_⟩
  cases op <;> exact exec_of_wordStored rfl h (Chan.store_stored h _ 2)

/-- Settles O6: a store is a write of the one place and the cycles it takes. -/
theorem loadsAndStores : Obligations.LoadsAndStores := ⟨bitStores, wordLoadStore⟩

/-! ## Indexed forms (06 R178) -/

theorem Chan.iLdwx_eq {c : Chan} {x : Scan} (h : c.scan = some x) (l : Limits) (op : IdxOp) :
    c.iLdwx l op = { c with
      wa := if op.base + c.ix.toNat < op.limit l then c.readWord (op.at (op.base + c.ix.toNat)) else 0
      iff := c.iff || decide (op.limit l ≤ op.base + c.ix.toNat), scan := some (after x (3 + op.extra)) } := by
  unfold Chan.iLdwx
  dsimp only
  by_cases hl : op.base + c.ix.toNat < op.limit l
  · rw [if_pos hl, if_pos hl, decide_eq_false (Nat.not_le.mpr hl), Bool.or_false, Chan.retire_eq _ (by exact h)]
  · rw [if_neg hl, if_neg hl, decide_eq_true (Nat.not_lt.mp hl), Bool.or_true, Chan.retire_eq _ (by exact h)]

theorem Chan.iStwx_inside {c : Chan} {x : Scan} (h : c.scan = some x) (l : Limits) (op : StoreOp)
    (hl : op.base + c.ix.toNat < op.limit l) :
    c.WordStored (c.iStwx l op) x 3 (storeAsWord (op.at (op.base + c.ix.toNat))) := by
  unfold Chan.iStwx
  dsimp only
  rw [if_pos hl]
  exact Chan.store_stored h _ 3

theorem Chan.iStwx_outside {c : Chan} {x : Scan} (h : c.scan = some x) (l : Limits) (op : StoreOp)
    (hl : ¬ op.base + c.ix.toNat < op.limit l) : c.iStwx l op = { c with iff := true, scan := some (after x 3) } := by
  unfold Chan.iStwx
  dsimp only
  rw [if_neg hl, Chan.retire_eq _ (by exact h)]

/-- STWX in a scanning channel, inside the limit of its space and outside. -/
theorem exec_stwx {s : State} {i : ChId} {x : Scan} (h : Scanning s i x) (op : StoreOp) {lim b : Nat} {w : WordOp}
    (hb : op.base = b) (hl : op.limit s.limits = lim) (hw : storeAsWord (op.at (b + (s.chan i).ix.toNat)) = w) :
    ∃ t, exec (.stwx op) s = .next t ∧ OnlyScans s t ∧
      (if b + (s.chan i).ix.toNat < lim then
        SameRegs (s.chan i) (t.chan i) ∧ (t.chan i).scan = some (after x 3) ∧ (t.chan i).readWord w = (s.chan i).wa ∧
        (∀ o, o ≠ w → (t.chan i).readWord o = (s.chan i).readWord o) ∧ (∀ o, (t.chan i).readBit o = (s.chan i).readBit o)
       else t.chan i = { s.chan i with iff := true, scan := some (after x 3) }) := by
  subst hb hl hw
  split <;> rename_i hl
  · exact exec_of_wordStored rfl h (Chan.iStwx_inside h _ op hl)
  · exact exec_of_lge rfl h (Chan.iStwx_outside h _ op hl)

theorem indexedForms : Claim.IndexedForms := by
  refine ⟨fun p a s i x h hp => ?load, fun p a s i x h hp => ?store⟩
  case load =>
    simp only [List.mem_cons, List.not_mem_nil, or_false] at hp
    obtain rfl | rfl | rfl | rfl | rfl := hp <;> exact exec_of_lge rfl h (Chan.iLdwx_eq h _ _)
  case store =>
    simp only [List.mem_cons, List.not_mem_nil, or_false] at hp
    obtain rfl | rfl := hp <;> exact exec_stwx h _ rfl rfl rfl

/-! ## Quality and age of an item (06 R168) -/

theorem Chan.iLdq_eq {c : Chan} {x : Scan} (h : c.scan = some x) (a : Nat) :
    c.iLdq a = { c with wa := BitVec.ofNat 32 (c.itemAt a).q.code, scan := some (after x 4) } := by
  rw [Chan.iLdq, Chan.retire_eq _ (by exact h)]; rfl

theorem Chan.iLdage_eq {c : Chan} {x : Scan} (h : c.scan = some x) (a : Nat) :
    c.iLdage a = { c with wa := c.ageWord x.ts a, scan := some (after x 4) } := by
  rw [Chan.iLdage, Chan.retire_eq _ (by exact h), Chan.scanTs, h]

theorem itemQualityAge : Claim.ItemQualityAge := by
  intro a s i x h
  refine ⟨exec_of_lge rfl h ((Chan.iLdq_eq h a).trans ?quality), exec_of_lge rfl h ((Chan.iLdage_eq h a).trans ?age),
    fun hk => ?reserved⟩
  case quality => cases ((s.chan i).itemAt a).q <;> rfl
  case age =>
    unfold Chan.ageWord
    cases ((s.chan i).itemAt a).acq <;> rfl
  case reserved =>
    rw [Chan.itemAt, hk]
    exact ⟨rfl, rfl⟩

/-- Settles O7: the indexed forms on either side of the limit, then the items. -/
theorem indexedAndItemReads : Obligations.IndexedAndItemReads := ⟨indexedForms, itemQualityAge⟩

end Sys2Proof.Machine
end

section
/-!
PROOFS. Timers, counters and edge memories of the logic engine (06 R181 to R184): an instruction on one of them sets that one, and
no other cell of its memory.
-/
namespace Sys2Proof.Machine

open Claim (Scanning OnlyScans after)

/-! ## A cell set in one of the memories -/

/-- The memory `m`, with the timers, the counters or the edge memories of `k`. -/
def ChMem.withTimers (m k : ChMem) : ChMem := { m with timers := k.timers }
def ChMem.withCounters (m k : ChMem) : ChMem := { m with counters := k.counters }
def ChMem.withEdges (m k : ChMem) : ChMem := { m with edges := k.edges }

/-- `d` is `c` with BA `b` and the value `u` in cell `n` of the memory that `get` reads and `part` names. -/
structure Chan.CellSet {α : Type} (get : Chan → Nat → α) (part : ChMem → ChMem → ChMem) (c d : Chan) (b : Bool) (n : Nat) (u : α) :
    Prop where
  rest : d = { c with ba := b, mem := part c.mem d.mem, touched := d.touched }
  own : get d n = u
  others : ∀ m, m ≠ n → get d m = get c m

theorem Chan.setTimer_cellSet (c : Chan) (b : Bool) (n : Nat) (u : Timer) :
    Chan.CellSet Chan.timer .withTimers c { c.setTimer n u with ba := b } b n u := by
  have hk : c.setTimer n u = { c with mem := { c.mem with timers := SMap.set dTimer c.mem.timers n u }
                                      touched := (c.setTimer n u).touched } := Chan.touch_keeps ..
  rw [hk]
  exact ⟨rfl, SMap.get_set_same .., fun m hm => SMap.get_set_other _ _ _ _ _ hm⟩

theorem Chan.setCounter_cellSet (c : Chan) (b : Bool) (n : Nat) (u : Counter) :
    Chan.CellSet Chan.counter .withCounters c { c.setCounter n u with ba := b } b n u := by
  have hk : c.setCounter n u = { c with mem := { c.mem with counters := SMap.set dCounter c.mem.counters n u }
                                        touched := (c.setCounter n u).touched } := Chan.touch_keeps ..
  rw [hk]
  exact ⟨rfl, SMap.get_set_same .., fun m hm => SMap.get_set_other _ _ _ _ _ hm⟩

theorem Chan.setEdge_cellSet (c : Chan) (b : Bool) (n : Nat) (u : Edge) :
    Chan.CellSet Chan.edge .withEdges c { c.setEdge n u with ba := b } b n u := by
  have hk : c.setEdge n u = { c with mem := { c.mem with edges := SMap.set dEdge c.mem.edges n u }
                                     touched := (c.setEdge n u).touched } := Chan.touch_keeps ..
  rw [hk]
  exact ⟨rfl, SMap.get_set_same .., fun m hm => SMap.get_set_other _ _ _ _ _ hm⟩

theorem Chan.setTimer_ba (c : Chan) (n : Nat) (u : Timer) : { c.setTimer n u with ba := c.ba } = c.setTimer n u := by
  unfold Chan.setTimer; rw [Chan.touch_keeps]

theorem Chan.setCounter_ba (c : Chan) (n : Nat) (u : Counter) : { c.setCounter n u with ba := c.ba } = c.setCounter n u := by
  unfold Chan.setCounter; rw [Chan.touch_keeps]

/-- An instruction that sets a cell in every scanning channel, and takes `k` cycles. -/
theorem exec_of_cellSet {α : Type} {get : Chan → Nat → α} {part : ChMem → ChMem → ChMem} {c : Instr} {f : Chan → Chan} {s : State}
    {i : ChId} {x : Scan} {d : Chan} {b : Bool} {n : Nat} {u : α} (k : Nat) (he : exec c s = .next (s.lge f)) (h : Scanning s i x)
    (hd : f (s.chan i) = d.retire k) (hs : Chan.CellSet get part (s.chan i) d b n u) (hg : ∀ m, get (d.retire k) m = get d m) :
    ∃ t, exec c s = .next t ∧ OnlyScans s t ∧
      t.chan i = { s.chan i with ba := b, mem := part (s.chan i).mem (t.chan i).mem, touched := (t.chan i).touched,
                                 scan := some (after x k) } ∧
      get (t.chan i) n = u ∧ ∀ m, m ≠ n → get (t.chan i) m = get (s.chan i) m := by
  obtain ⟨t, ht, hf, hc⟩ := exec_of_lge he h hd
  refine ⟨t, ht, hf, ?_⟩
  rw [hc, hg]
  refine ⟨?_, hs.own, fun m hm => (hg m).trans (hs.others m hm)⟩
  have hx : d.scan = some x := by rw [hs.rest]; exact h
  rw [Chan.retire_eq k hx]
  exact congrArg (fun e : Chan => { e with scan := some (after x k) }) hs.rest

/-! ## Timers (06 R181, R182) -/

theorem presetUs_eq (w : Word) : presetUs w = (max w.toInt 0).toNat * 1000 := by
  unfold presetUs; omega

theorem Timer.eval_ton (b : Bool) (pt d : Nat) (u : Timer) :
    let et := if b then (if u.tt then min (u.et + d) etMax else 0) else 0
    u.eval .ton b pt d = ⟨et, b, b && decide (pt ≤ et)⟩ := by
  cases b <;> simp [Timer.eval]

theorem Timer.eval_tof (b : Bool) (pt d : Nat) (u : Timer) :
    let et := if b then 0 else if u.tt then 0 else if u.q then min (u.et + d) etMax else u.et
    u.eval .tof b pt d = ⟨et, b, b || (u.q && !decide (pt ≤ et))⟩ := by
  cases b
  · simp [Timer.eval, Bool.if_false_left, Bool.and_comm]
  · simp [Timer.eval]

theorem Timer.eval_tp (b : Bool) (pt d : Nat) (u : Timer) :
    let on := (!u.q && b && !u.tt) || u.q
    let et := if !u.q && b && !u.tt then 0 else if u.q then min (u.et + d) etMax else if b then u.et else 0
    u.eval .tp b pt d = ⟨et, b, on && !decide (pt ≤ et)⟩ := by
  obtain ⟨et, tt, q⟩ := u
  cases b <;> cases tt <;> cases q <;> simp [Timer.eval]

theorem Chan.runTimer_eq {c : Chan} {x : Scan} (h : c.scan = some x) (k : TimerKind) (n : Nat) {et : Nat} {q : Bool}
    (he : (c.timer n).eval k c.ba ((max c.wa.toInt 0).toNat * 1000) x.d = ⟨et, c.ba, q⟩) :
    c.runTimer k n = ({ c.setTimer n ⟨et, c.ba, q⟩ with ba := q }).retire 6 := by
  rw [Chan.runTimer, Chan.scanD, h, presetUs_eq, he]

theorem timersFollowProgram : Claim.TimersFollowProgram := by
  intro n s i x h c u pt run tonEt tofEt tpOn tpEt p hp
  simp only [List.mem_cons, List.not_mem_nil, or_false] at hp
  obtain rfl | rfl | rfl := hp
  · exact exec_of_cellSet 6 rfl h (Chan.runTimer_eq h .ton n (Timer.eval_ton ..)) (Chan.setTimer_cellSet ..) fun _ => rfl
  · exact exec_of_cellSet 6 rfl h (Chan.runTimer_eq h .tof n (Timer.eval_tof ..)) (Chan.setTimer_cellSet ..) fun _ => rfl
  · exact exec_of_cellSet 6 rfl h (Chan.runTimer_eq h .tp n (Timer.eval_tp ..)) (Chan.setTimer_cellSet ..) fun _ => rfl

theorem Chan.iLdet_eq {c : Chan} {x : Scan} (h : c.scan = some x) (n : Nat) :
    c.iLdet n = { c with wa := BitVec.ofNat 32 ((c.timer n).et / 1000), scan := some (after x 3) } := by
  rw [Chan.iLdet, Chan.retire_eq _ (by exact h)]

/-- TRST sets the timer to rest while BA is 1, and to what it is while BA is 0. -/
theorem Chan.trst_cellSet (c : Chan) (n : Nat) :
    Chan.CellSet Chan.timer .withTimers c (if c.ba then c.setTimer n ⟨0, false, false⟩ else c) c.ba n
      (if c.ba then ⟨0, false, false⟩ else c.timer n) := by
  split
  · have := c.setTimer_cellSet c.ba n ⟨0, false, false⟩
    rwa [c.setTimer_ba] at this
  · exact ⟨rfl, rfl, fun _ _ => rfl⟩

theorem timerResetAndLoad : Claim.TimerResetAndLoad := by
  intro n s i x h
  exact ⟨exec_of_cellSet 3 rfl h rfl ((s.chan i).trst_cellSet n) fun _ => rfl, exec_of_lge rfl h (Chan.iLdet_eq h n)⟩

/-- Settles O8: each kind by its program, TRST by whether BA is set. -/
theorem timers : Obligations.Timers := ⟨timersFollowProgram, timerResetAndLoad⟩

/-! ## Counters (06 R183) -/

theorem word_bounds (w : Word) : -2147483648 ≤ w.toInt ∧ w.toInt ≤ 2147483647 := by
  have := w.toInt_lt
  have := w.le_toInt
  omega

theorem satWord_succ (w : Word) : satWord (w.toInt + 1) = BitVec.ofInt 32 (min (w.toInt + 1) 2147483647) := by
  have := word_bounds w
  rw [satWord, satInt_clamp]
  congr 1
  omega

theorem satWord_pred (w : Word) : satWord (w.toInt - 1) = BitVec.ofInt 32 (max (w.toInt - 1) (-2147483648)) := by
  have := word_bounds w
  rw [satWord, satInt_clamp]
  congr 1
  omega

/-- The number a counter with input `b` counts to: one step at a rise after its first evaluation, with saturation. -/
def Counter.next (up b : Bool) (u : Counter) : Int :=
  if u.cinit && b && !u.cl then (if up then min (u.cv.toInt + 1) 2147483647 else max (u.cv.toInt - 1) (-2147483648)) else u.cv.toInt

theorem Counter.next_bounds (up b : Bool) (u : Counter) : -2147483648 ≤ u.next up b ∧ u.next up b ≤ 2147483647 := by
  have := word_bounds u.cv
  unfold Counter.next
  repeat' split
  all_goals omega

/-- The number fits a word, so it reads back. -/
theorem Counter.next_toInt (up b : Bool) (u : Counter) : (BitVec.ofInt 32 (u.next up b) : Word).toInt = u.next up b := by
  obtain ⟨hl, hh⟩ := u.next_bounds up b
  exact BitVec.toInt_ofInt_eq_self (by decide) (by omega) (by omega)

theorem Counter.eval_cv (up b : Bool) (pv : Word) (u : Counter) : (u.eval up b pv).cv = BitVec.ofInt 32 (u.next up b) := by
  unfold Counter.eval Counter.next
  cases u.cinit <;> cases b <;> cases u.cl <;> cases up <;> simp [satWord_succ, satWord_pred]

theorem Counter.eval_eq (up b : Bool) (pv : Word) (u : Counter) :
    u.eval up b pv = ⟨BitVec.ofInt 32 (u.next up b),
      if up then decide (pv.toInt ≤ u.next up b) else decide (u.next up b ≤ pv.toInt), b, true⟩ := by
  have hcv := u.eval_cv up b pv
  have hq : (u.eval up b pv).q =
      if up then decide (pv.toInt ≤ (u.eval up b pv).cv.toInt) else decide ((u.eval up b pv).cv.toInt ≤ pv.toInt) := rfl
  have hi : (u.eval up b pv).cinit = true := by
    obtain ⟨cv, q, cl, cinit⟩ := u
    cases cinit <;> cases b <;> cases cl <;> rfl
  rw [hcv, Counter.next_toInt] at hq
  rw [← hcv, ← hq, ← hi]
  rfl

/-- CRST and CLD set CV while BA is 1, and leave the counter as it is while BA is 0. -/
theorem Chan.setCv_cellSet (c : Chan) (n : Nat) (v : Word) :
    Chan.CellSet Chan.counter .withCounters c (if c.ba then c.setCounter n { c.counter n with cv := v } else c) c.ba n
      { c.counter n with cv := if c.ba then v else (c.counter n).cv } := by
  split
  · have := c.setCounter_cellSet c.ba n { c.counter n with cv := v }
    rwa [c.setCounter_ba] at this
  · exact ⟨rfl, rfl, fun _ _ => rfl⟩

theorem Chan.iLdcv_eq {c : Chan} {x : Scan} (h : c.scan = some x) (n : Nat) :
    c.iLdcv n = { c with wa := (c.counter n).cv, scan := some (after x 3) } := by
  rw [Chan.iLdcv, Chan.retire_eq _ (by exact h)]

theorem Chan.runCounter_eq (c : Chan) (up : Bool) (n : Nat) {u : Counter} (he : (c.counter n).eval up c.ba c.wa = u) :
    c.runCounter up n = ({ c.setCounter n u with ba := u.q }).retire 5 := by
  rw [Chan.runCounter, he]

theorem countersFollowProgram : Claim.CountersFollowProgram := by
  intro n s i x h c u rise up down same
  refine ⟨fun p hp => ?count, fun p hp => ?set, exec_of_lge rfl h (Chan.iLdcv_eq h n)⟩
  case count =>
    simp only [List.mem_cons, List.not_mem_nil, or_false] at hp
    obtain rfl | rfl := hp
    · obtain ⟨t, ht, hf, rest, own, others⟩ := exec_of_cellSet (c := .ctu n) 5 rfl h
        (Chan.runCounter_eq _ true n (Counter.eval_eq ..)) (Chan.setCounter_cellSet ..) fun _ => rfl
      exact ⟨t, ht, hf, ⟨rest, others⟩, own⟩
    · obtain ⟨t, ht, hf, rest, own, others⟩ := exec_of_cellSet (c := .ctd n) 5 rfl h
        (Chan.runCounter_eq _ false n (Counter.eval_eq ..)) (Chan.setCounter_cellSet ..) fun _ => rfl
      exact ⟨t, ht, hf, ⟨rest, others⟩, own⟩
  case set =>
    simp only [List.mem_cons, List.not_mem_nil, or_false] at hp
    obtain rfl | rfl := hp
    · obtain ⟨t, ht, hf, rest, own, others⟩ := exec_of_cellSet (c := .crst n) 3 rfl h rfl (c.setCv_cellSet n 0) fun _ => rfl
      exact ⟨t, ht, hf, ⟨rest, others⟩, own⟩
    · obtain ⟨t, ht, hf, rest, own, others⟩ := exec_of_cellSet (c := .cld n) 3 rfl h rfl (c.setCv_cellSet n c.wa) fun _ => rfl
      exact ⟨t, ht, hf, ⟨rest, others⟩, own⟩

/-! ## Edge memories (06 R184) -/

theorem Edge.eval_rising (b : Bool) (u : Edge) : u.eval true b = (⟨b, true⟩, u.einit && b && !u.m) := by
  obtain ⟨m, einit⟩ := u
  cases einit <;> simp [Edge.eval]

theorem Edge.eval_falling (b : Bool) (u : Edge) : u.eval false b = (⟨b, true⟩, u.einit && u.m && !b) := by
  obtain ⟨m, einit⟩ := u
  cases einit <;> simp [Edge.eval]

theorem Chan.runEdge_eq (c : Chan) (rising : Bool) (n : Nat) {u : Edge} {b : Bool} (he : (c.edge n).eval rising c.ba = (u, b)) :
    c.runEdge rising n = ({ c.setEdge n u with ba := b }).retire 3 := by
  rw [Chan.runEdge, he]

theorem edgesFollowProgram : Claim.EdgesFollowProgram := by
  intro n s i x h c u p hp
  simp only [List.mem_cons, List.not_mem_nil, or_false] at hp
  obtain rfl | rfl := hp
  · exact exec_of_cellSet 3 rfl h (Chan.runEdge_eq _ true n (Edge.eval_rising ..)) (Chan.setEdge_cellSet ..) fun _ => rfl
  · exact exec_of_cellSet 3 rfl h (Chan.runEdge_eq _ false n (Edge.eval_falling ..)) (Chan.setEdge_cellSet ..) fun _ => rfl

/-- Settles O9: counters and edge memories by their programs, CRST and CLD by whether BA is set. -/
theorem countersAndEdges : Obligations.CountersAndEdges := ⟨countersFollowProgram, edgesFollowProgram⟩

end Sys2Proof.Machine
end

section
/-!
PROOFS. The nesting stack of the logic engine, jumps, and how a scan ends (06 R162, R173 to R177).
-/
namespace Sys2Proof.Machine

open Claim (Scanning OnlyScans after clamp outside HalfEven openers)

/-! ## The channels one after another -/

theorem Tri.set_get {α : Type} (t : Tri α) (i : ChId) : t.set i (t.get i) = t := by cases i <;> rfl

theorem State.lgeOne_of_none {s : State} {i : ChId} (f : Chan → Chan) (h : (s.chan i).scan = none) : s.lgeOne f i = s := by
  have he : s.lgeOne f i = { s with chn := { s.chn with ch := s.chn.ch.set i (s.chan i) } } := by simp [State.lgeOne, h]
  rw [he, State.chan, Tri.set_get]

theorem State.lgeOne_of_some {s : State} {i : ChId} {x : Scan} (f : Chan → Chan) (h : (s.chan i).scan = some x) :
    s.lgeOne f i = s.setChan i (f (s.chan i)) := by
  simp [State.lgeOne, State.setChan, h]

/-- What acts in each channel as `f` does where a scan is open, acts in all of them as one instruction. -/
theorem State.forChans_eq_lge {s : State} {F : State → ChId → State} {f : Chan → Chan}
    (h : ∀ t i, t.chan i = s.chan i → F t i = t.lgeOne f i) : s.forChans F = s.lge f := by
  have hb : (s.lgeOne f .a).chan .b = s.chan .b := rfl
  have hc : ((s.lgeOne f .a).lgeOne f .b).chan .c = s.chan .c := rfl
  calc s.forChans F = F (F (F s .a) .b) .c := rfl
    _ = ((s.lgeOne f .a).lgeOne f .b).lgeOne f .c := by rw [h s .a rfl, h _ .b hb, h _ .c hc]
    _ = s.lge f := rfl

/-- What happens at channel `i` in turn happens between two parts that leave to `i` what `R` says. -/
theorem State.forChans_at {R : State → State → Prop} (refl : ∀ s, R s s) (trans : ∀ {s t u}, R s t → R t u → R s u)
    {F : State → ChId → State} (i : ChId) (h : ∀ s j, j ≠ i → R s (F s j)) (s : State) :
    ∃ u, R s u ∧ R (F u i) (s.forChans F) := by
  cases i
  · exact ⟨s, refl s, trans (h (F s .a) .b (by decide)) (h _ .c (by decide))⟩
  · exact ⟨F s .a, h s .a (by decide), h _ .c (by decide)⟩
  · exact ⟨F (F s .a) .b, trans (h s .a (by decide)) (h _ .b (by decide)), refl _⟩

/-! ## Opening and closing (06 R173, R174) -/

/-- An opening instruction in a channel whose stack has room. -/
def Chan.push (op : StackOp) (c : Chan) : Chan := { c with stack := ⟨c.ba, c.wa, op⟩ :: c.stack }.retire 2

/-- ")" in a channel whose stack is not empty. -/
def Chan.pop (c : Chan) : Chan := match c.stack with
  | [] => c
  | e :: rest => (({ c with stack := rest }).combine e).retire 4

theorem Chan.pop_cons {c : Chan} {e : StackEntry} {rest : List StackEntry} (h : c.stack = e :: rest) :
    c.pop = (({ c with stack := rest }).combine e).retire 4 := by
  rw [Chan.pop, h]

theorem State.openOne_eq_lgeOne {s : State} {i : ChId} (op : StackOp) (h : (s.chan i).scan ≠ none → (s.chan i).stack.length < 16) :
    s.openOne op i = s.lgeOne (Chan.push op) i := by
  cases hs : (s.chan i).scan with
  | none => rw [State.openOne, State.lgeOne_of_none _ hs, hs]; rfl
  | some x => rw [State.openOne, State.lgeOne_of_some _ hs, if_neg (by simp [hs]), if_pos (h (by simp [hs]))]; rfl

theorem State.closeOne_eq_lgeOne {s : State} {i : ChId} (h : (s.chan i).scan ≠ none → (s.chan i).stack ≠ []) :
    s.closeOne i = s.lgeOne Chan.pop i := by
  cases hs : (s.chan i).scan with
  | none => rw [State.closeOne, State.lgeOne_of_none _ hs, hs]; rfl
  | some x =>
    cases he : (s.chan i).stack with
    | nil => exact absurd he (h (by simp [hs]))
    | cons e rest => rw [State.lgeOne_of_some _ hs, Chan.pop_cons he, State.closeOne, if_neg (by simp [hs]), he]

theorem exec_opener {p : Instr × StackOp} (hp : p ∈ openers) (s : State) : exec p.1 s = .next (s.forChans (State.openOne p.2)) := by
  simp only [openers, List.mem_cons, List.not_mem_nil, or_false] at hp
  obtain rfl | rfl | rfl | rfl | rfl | rfl | rfl := hp <;> rfl

theorem openingPushes : Claim.OpeningPushes := by
  intro p hp s i x h room
  have he : s.forChans (State.openOne p.2) = s.lge (Chan.push p.2) :=
    State.forChans_eq_lge fun t j ht => State.openOne_eq_lgeOne p.2 (ht ▸ room j)
  refine exec_of_lge ((exec_opener hp s).trans (congrArg _ he)) h ?_
  rw [Chan.push, Chan.retire_eq _ (by exact h)]

theorem closingCombines : Claim.ClosingCombines := by
  intro s i x b w k rest h filled hs
  have he : s.forChans State.closeOne = s.lge Chan.pop :=
    State.forChans_eq_lge fun t j ht => State.closeOne_eq_lgeOne (ht ▸ filled j)
  obtain ⟨t, ht, hf, hc⟩ := exec_of_lge (c := .closeParen) (congrArg _ he) h rfl
  refine ⟨t, ht, hf, ?_⟩
  rw [Chan.pop_cons hs] at hc
  cases k
  case and | or | xor => exact hc.trans (Chan.retire_eq 4 h)
  case add | sub | mul =>
    rw [hc]
    dsimp only [Chan.combine, addR, subR, mulR]
    rw [Chan.putRes_resSat, Chan.retire_eq 4 (by exact h)]
  case qmul =>
    refine ⟨_, rndDiv_halfEven _ 65536 (by decide), ?_⟩
    rw [hc]
    dsimp only [Chan.combine, qmulR]
    rw [Chan.putRes_resSat, Chan.retire_eq 4 (by exact h)]

/-- Settles O10: with room, and with entries, the instruction is one instruction in every scanning channel. -/
theorem nestingStack : Obligations.NestingStack := ⟨openingPushes, closingCombines⟩

/-! ## The end of a scan (06 R162, R175, R176) -/

@[simp] theorem Chan.closeScan_scan (c : Chan) (t flags : Nat) : (c.closeScan t flags).scan = none := by
  rw [Chan.closeScan, Chan.setTask, Chan.touch_keeps]

@[simp] theorem Chan.closeScan_stack (c : Chan) (t flags : Nat) : (c.closeScan t flags).stack = [] := by
  rw [Chan.closeScan, Chan.setTask, Chan.touch_keeps]

@[simp] theorem Chan.closeScan_st (c : Chan) (t flags : Nat) : (c.closeScan t flags).st = c.st := by
  rw [Chan.closeScan, Chan.setTask, Chan.touch_keeps]

@[simp] theorem Chan.readBit_closeScan (c : Chan) (t flags : Nat) (o : BitOp) : (c.closeScan t flags).readBit o = c.readBit o := by
  rw [Chan.closeScan, Chan.setTask, Chan.touch_keeps]; cases o <;> rfl

@[simp] theorem Chan.readWord_closeScan (c : Chan) (t flags : Nat) (o : WordOp) : (c.closeScan t flags).readWord o = c.readWord o := by
  rw [Chan.closeScan, Chan.setTask, Chan.touch_keeps]; cases o <;> rfl

@[simp] theorem Chn.countScan_ch (n : Chn) (t flags cyc : Nat) (k : ScanEnd) : (n.countScan t flags cyc k).ch = n.ch := by
  cases k <;> rfl

@[simp] theorem Chn.countScan_lgeFlags (n : Chn) (t flags cyc : Nat) (k : ScanEnd) :
    (n.countScan t flags cyc k).lgeFlags = SMap.set dNat n.lgeFlags t (SMap.get dNat n.lgeFlags t ||| flags) := by
  cases k <;> rfl

/-- A logic fault marks its task as reported, and raises the event with its record. -/
theorem State.logicFault_only (s : State) (t : Nat) :
    ∃ e x y, s.logicFault t = { s with chn := { s.chn with lgeEv := e }, hst := x, rcd := y } := by
  unfold State.logicFault
  split
  · exact ⟨s.chn.lgeEv, s.hst, s.rcd, rfl⟩
  · obtain ⟨x, y, e⟩ := State.raiseRec_only _ 11 (t + SMap.get dNat s.chn.lgeFlags t * 256) sevFault blkChn
    exact ⟨_, x, y, e⟩

@[simp] theorem State.logicFault_ch (s : State) (t : Nat) : (s.logicFault t).chn.ch = s.chn.ch := by
  obtain ⟨e, x, y, he⟩ := s.logicFault_only t; rw [he]
@[simp] theorem State.logicFault_lgeFlags (s : State) (t : Nat) : (s.logicFault t).chn.lgeFlags = s.chn.lgeFlags := by
  obtain ⟨e, x, y, he⟩ := s.logicFault_only t; rw [he]
@[simp] theorem State.logicFault_comb (s : State) (t : Nat) : (s.logicFault t).comb = s.comb := by
  obtain ⟨e, x, y, he⟩ := s.logicFault_only t; rw [he]

section
variable {s : State} {i : ChId} {x : Scan} (h : (s.chan i).scan = some x) (k : ScanEnd)
include h

theorem State.endScan_ch : (s.endScan k i).chn.ch = s.chn.ch.set i ((s.chan i).closeScan x.task ((s.chan i).endFlags k)) := by
  simp only [State.endScan, h, apply_ite State.chn, apply_ite Chn.ch, State.logicFault_ch, Chn.countScan_ch, ite_self]
  rfl

theorem State.endScan_comb : (s.endScan k i).comb = if k = .completed then s.comb.markDone i x.task else s.comb := by
  simp only [State.endScan, h, apply_ite State.comb, State.logicFault_comb, ite_self]
  rfl

theorem State.endScan_lgeFlags : (s.endScan k i).chn.lgeFlags = if s.lowVoting = some i then
    SMap.set dNat s.chn.lgeFlags x.task (SMap.get dNat s.chn.lgeFlags x.task ||| (s.chan i).endFlags k) else s.chn.lgeFlags := by
  simp only [State.endScan, h, apply_ite State.chn, apply_ite Chn.lgeFlags, State.logicFault_lgeFlags, Chn.countScan_lgeFlags,
    ite_self]
  rfl

/-- The scan of channel `i` is over: the stack is gone, its memory stands, and of the lowest-lettered VOTING channel the task
record shows the faults. -/
theorem State.endScan_same : (s.endScan k i).chan i = (s.chan i).closeScan x.task ((s.chan i).endFlags k) := by
  rw [State.chan, State.endScan_ch h, Tri.get_set_same]

end

/-! ## What the end of a scan in another channel leaves to channel `i` -/

/-- Which channel is the lowest-lettered VOTING one depends on the channels' states alone. -/
theorem State.lowVoting_congr {s t : State} (h : ∀ j, (t.chan j).st = (s.chan j).st) : t.lowVoting = s.lowVoting := by
  simp only [State.lowVoting, h]

/-- `t` has for channel `i` what `s` has: the channel, its completed tasks, and the flags where it is the channel that reports. -/
structure State.SameFor (i : ChId) (s t : State) : Prop where
  chan : t.chan i = s.chan i
  work : t.comb.cyc.work.get i = s.comb.cyc.work.get i
  low : t.lowVoting = s.lowVoting
  flags : s.lowVoting = some i → t.chn.lgeFlags = s.chn.lgeFlags

theorem State.SameFor.refl (i : ChId) (s : State) : s.SameFor i s := ⟨rfl, rfl, rfl, fun _ => rfl⟩

theorem State.SameFor.trans {i : ChId} {s t u : State} (h : s.SameFor i t) (g : t.SameFor i u) : s.SameFor i u :=
  ⟨g.chan.trans h.chan, g.work.trans h.work, g.low.trans h.low, fun e => (g.flags (h.low.trans e)).trans (h.flags e)⟩

theorem State.setChan_lowVoting (s : State) (j : ChId) {c : Chan} (hc : c.st = (s.chan j).st) :
    (s.setChan j c).lowVoting = s.lowVoting :=
  State.lowVoting_congr fun m => by
    by_cases hm : m = j
    · rw [hm, State.setChan_same, hc]
    · rw [State.setChan_other s j m c hm]

theorem State.setChan_sameFor {i j : ChId} (hj : j ≠ i) (s : State) {c : Chan} (hc : c.st = (s.chan j).st) :
    s.SameFor i (s.setChan j c) where
  chan := s.setChan_other j i c hj.symm
  work := rfl
  low := s.setChan_lowVoting j hc
  flags _ := rfl

theorem State.endScan_lowVoting (s : State) (k : ScanEnd) (j : ChId) : (s.endScan k j).lowVoting = s.lowVoting := by
  cases h : (s.chan j).scan with
  | none => rw [State.endScan, h]
  | some x =>
    refine State.lowVoting_congr fun m => ?_
    rw [State.chan, State.endScan_ch h]
    by_cases hm : m = j
    · rw [hm, Tri.get_set_same, Chan.closeScan_st]
    · rw [Tri.get_set_other _ _ _ _ hm, ← State.chan]

theorem State.endScan_sameFor {i j : ChId} (hj : j ≠ i) (s : State) (k : ScanEnd) : s.SameFor i (s.endScan k j) := by
  cases h : (s.chan j).scan with
  | none => rw [State.endScan, h]; exact .refl i s
  | some x =>
    refine ⟨?_, ?_, s.endScan_lowVoting k j, fun hl => ?_⟩
    · rw [State.chan, State.endScan_ch h, Tri.get_set_other _ _ _ _ hj.symm, State.chan]
    · rw [State.endScan_comb h]
      split
      · exact Tri.get_set_other _ _ _ _ hj.symm
      · rfl
    · rw [State.endScan_lgeFlags h, if_neg (by rw [hl]; exact fun e => hj (Option.some.inj e).symm)]

theorem Chan.combine_st (c : Chan) (e : StackEntry) : (c.combine e).st = c.st := by
  unfold Chan.combine; split <;> rfl

theorem State.openOne_sameFor {i j : ChId} (hj : j ≠ i) (op : StackOp) (s : State) : s.SameFor i (s.openOne op j) := by
  unfold State.openOne
  split
  · exact .refl i s
  split
  · exact s.setChan_sameFor hj rfl
  · exact s.endScan_sameFor hj _

theorem State.closeOne_sameFor {i j : ChId} (hj : j ≠ i) (s : State) : s.SameFor i (s.closeOne j) := by
  unfold State.closeOne
  split
  · exact .refl i s
  split
  · exact s.endScan_sameFor hj _
  · exact s.setChan_sameFor hj (Chan.combine_st ..)

theorem State.endOne_sameFor {i j : ChId} (hj : j ≠ i) (s : State) : s.SameFor i (s.endOne j) := by
  unfold State.endOne
  split
  · exact .refl i s
  · exact (s.setChan_sameFor (c := (s.chan j).retire 4) hj rfl).trans (State.endScan_sameFor hj _ _)

/-! ## The fault flags (06 Table 6-16) -/

/-- A flag set in what is added to a task's flags is set in the sum. -/
theorem bitOf_or_right {m n b : Nat} (h : bitOf n b = true) : bitOf (m ||| n) b = true := by
  have e : ∀ k, bitOf k b = k.testBit b := fun k => by rw [bitOf, Nat.testBit_eq_decide_div_mod_eq]
  rw [e] at h ⊢
  rw [Nat.testBit_or, h, Bool.or_true]

theorem Chan.endFlags_underflow (c : Chan) : bitOf (c.endFlags .underflow) 5 = true := by
  cases ho : c.ov <;> cases hd : c.dz <;> cases hi : c.iff <;> simp [Chan.endFlags, bitOf, b2n, ho, hd, hi]

theorem Chan.endFlags_overflow (c : Chan) : bitOf (c.endFlags .overflow) 6 = true := by
  cases ho : c.ov <;> cases hd : c.dz <;> cases hi : c.iff <;> simp [Chan.endFlags, bitOf, b2n, ho, hd, hi]

/-- A completed scan that leaves entries on the stack sets STK_RES (06 R176). -/
theorem Chan.endFlags_residue {c : Chan} (h : c.stack ≠ []) : bitOf (c.endFlags .completed) 4 = true := by
  cases ho : c.ov <;> cases hd : c.dz <;> cases hi : c.iff <;> simp [Chan.endFlags, bitOf, b2n, ho, hd, hi, h]

/-! ## A scan that ends in channel `i`, the others in their turn before and after -/

/-- The scan of channel `i` has ended: the stack is discarded, every bit and word stands as it stood, and where the channel
reports, a flag of the end is among the flags of the task. -/
structure State.Ended (i : ChId) (task : Nat) (k : ScanEnd) (s t : State) : Prop where
  scan : (t.chan i).scan = none
  stack : (t.chan i).stack = []
  bit : ∀ o, (t.chan i).readBit o = (s.chan i).readBit o
  word : ∀ o, (t.chan i).readWord o = (s.chan i).readWord o
  work : (t.comb.cyc.work.get i).done =
    if k = .completed then task :: (s.comb.cyc.work.get i).done else (s.comb.cyc.work.get i).done
  low : t.lowVoting = s.lowVoting
  flag : ∀ b, s.lowVoting = some i → bitOf ((s.chan i).endFlags k) b = true → bitOf (SMap.get dNat t.chn.lgeFlags task) b = true

theorem State.endScan_ended {s : State} {i : ChId} {x : Scan} (h : (s.chan i).scan = some x) (k : ScanEnd) :
    State.Ended i x.task k s (s.endScan k i) where
  scan := by rw [State.endScan_same h, Chan.closeScan_scan]
  stack := by rw [State.endScan_same h, Chan.closeScan_stack]
  bit o := by rw [State.endScan_same h, Chan.readBit_closeScan]
  word o := by rw [State.endScan_same h, Chan.readWord_closeScan]
  work := by
    rw [State.endScan_comb h]
    split
    · exact congrArg CycleWork.done (Tri.get_set_same ..)
    · rfl
  low := s.endScan_lowVoting k i
  flag b hl hb := by
    rw [State.endScan_lgeFlags h, if_pos hl, SMap.get_set_same]
    exact bitOf_or_right hb

/-- The cycles of END count before the scan is over. -/
theorem State.endOne_ended {s : State} {i : ChId} {x : Scan} (h : (s.chan i).scan = some x) :
    State.Ended i x.task .completed s (s.endOne i) := by
  have hr : ((s.setChan i ((s.chan i).retire 4)).chan i).scan = some (after x 4) := by rw [State.setChan_same, Chan.retire_eq 4 h]
  obtain ⟨scan, stack, bit, word, work, low, flag⟩ := State.endScan_ended hr .completed
  have hl : (s.setChan i ((s.chan i).retire 4)).lowVoting = s.lowVoting := s.setChan_lowVoting i rfl
  simp only [State.setChan_same, Chan.readBit_retire, Chan.readWord_retire] at bit word flag
  rw [State.endOne, if_neg (by simp [h])]
  exact ⟨scan, stack, bit, word, work, low.trans hl, fun b e => flag b (hl.trans e)⟩

/-- What the other channels leave to channel `i` does not count for how its scan ends. -/
theorem State.Ended.of_sameFor {i : ChId} {task : Nat} {k : ScanEnd} {s u v t : State} (h : u.Ended i task k v)
    (hs : s.SameFor i u) (ht : v.SameFor i t) : State.Ended i task k s t where
  scan := by rw [ht.chan, h.scan]
  stack := by rw [ht.chan, h.stack]
  bit o := by rw [ht.chan, h.bit, hs.chan]
  word o := by rw [ht.chan, h.word, hs.chan]
  work := by rw [ht.work, h.work, hs.work]
  low := by rw [ht.low, h.low, hs.low]
  flag b hl hb := by
    have hu : u.lowVoting = some i := hs.low.trans hl
    rw [ht.flags (h.low.trans hu)]
    exact h.flag b hu (by rw [hs.chan]; exact hb)

/-- Channel after channel, what ends the scan of channel `i` in its turn ends it. -/
theorem State.forChans_ended {F : State → ChId → State} {i : ChId} (hF : ∀ (s : State) (j : ChId), j ≠ i → s.SameFor i (F s j)) {s : State} {task : Nat}
    {k : ScanEnd} (h : ∀ u : State, u.chan i = s.chan i → State.Ended i task k u (F u i)) : State.Ended i task k s (s.forChans F) := by
  obtain ⟨u, hu, ht⟩ := State.forChans_at (State.SameFor.refl i) State.SameFor.trans i hF s
  exact (h u hu.chan).of_sameFor hu ht

/-! ## Stack faults, END and jumps -/

theorem State.closeOne_of_empty {s : State} {i : ChId} {x : Scan} (h : (s.chan i).scan = some x) (he : (s.chan i).stack = []) :
    s.closeOne i = s.endScan .underflow i := by
  rw [State.closeOne, if_neg (by simp [h]), he]

theorem State.openOne_of_full {s : State} {i : ChId} {x : Scan} (h : (s.chan i).scan = some x) (hf : (s.chan i).stack.length = 16)
    (op : StackOp) : s.openOne op i = s.endScan .overflow i := by
  rw [State.openOne, if_neg (by simp [h]), if_neg (by simp [hf])]

/-- Settles O11: the stack at its bound turns the instruction into the end of the scan. -/
theorem stackFaultsAbandon : Obligations.StackFaultsAbandon := by
  intro s i x h _ p hp hn
  rcases List.mem_cons.mp hp with rfl | hp
  · have he : (s.chan i).stack = [] := List.eq_nil_of_length_eq_zero hn
    obtain ⟨scan, stack, bit, word, work, -, flag⟩ : State.Ended i x.task .underflow s (s.forChans State.closeOne) :=
      State.forChans_ended (fun s j hj => s.closeOne_sameFor hj) fun u hu => by
        have hx : (u.chan i).scan = some x := hu ▸ h
        rw [State.closeOne_of_empty hx (hu ▸ he)]
        exact State.endScan_ended hx _
    exact ⟨_, rfl, scan, stack, bit, word, work, fun hl => flag 5 hl (Chan.endFlags_underflow _)⟩
  · obtain ⟨o, ho, rfl⟩ := List.mem_map.mp hp
    obtain ⟨scan, stack, bit, word, work, -, flag⟩ : State.Ended i x.task .overflow s (s.forChans (State.openOne o.2)) :=
      State.forChans_ended (fun s j hj => s.openOne_sameFor hj o.2) fun u hu => by
        have hx : (u.chan i).scan = some x := hu ▸ h
        rw [State.openOne_of_full hx (hu ▸ hn)]
        exact State.endScan_ended hx _
    exact ⟨_, exec_opener ho s, scan, stack, bit, word, work, fun hl => flag 6 hl (Chan.endFlags_overflow _)⟩

theorem endCompletes : Claim.EndCompletes := by
  intro s i x h
  obtain ⟨scan, stack, bit, word, work, -, flag⟩ : State.Ended i x.task .completed s (s.forChans State.endOne) :=
    State.forChans_ended (fun s j hj => s.endOne_sameFor hj) fun u hu => State.endOne_ended (hu ▸ h)
  exact ⟨_, rfl, scan, stack, work ▸ List.mem_cons_self, bit, word, fun hl he => flag 4 hl (Chan.endFlags_residue he)⟩

theorem Chan.jump_eq {c : Chan} {x : Scan} (h : c.scan = some x) (o : Nat) :
    c.jump o = { c with scan := some { x with pc := x.pc + o, cyc := x.cyc + 2 } } := by
  simp [Chan.jump, h]

theorem jumpsGoForward : Claim.JumpsGoForward := by
  intro o s i x h p hp
  simp only [List.mem_cons, List.not_mem_nil, or_false] at hp
  obtain rfl | rfl | rfl := hp
  · exact exec_of_lge rfl h (Chan.jump_eq h o)
  · refine exec_of_lge rfl h ?_
    cases hb : (s.chan i).ba
    · simp [Chan.iJc, hb, Chan.retire_eq 2 h, after]
    · simp [Chan.iJc, hb, Chan.jump_eq h]
  · refine exec_of_lge rfl h ?_
    cases hb : (s.chan i).ba
    · simp [Chan.iJnc, hb, Chan.jump_eq h]
    · simp [Chan.iJnc, hb, Chan.retire_eq 2 h, after]

/-- Settles O12: jumps by BA, END through the end of a completed scan. -/
theorem jumpsAndEnd : Obligations.JumpsAndEnd := ⟨jumpsGoForward, endCompletes⟩

end Sys2Proof.Machine
end

section
/-!
PROOFS. The solver's cells (08 R215, R234, R241 to R243, R246; 09 R267, R278): what a calculation that commits holds, what
the dispatch sequencer leaves of its publication, how a hydraulic solve ends.
-/
namespace Sys2Proof.Machine

/-! ## Calculations that commit -/

/-- Whenever the calculation ends without NaN, its value meets `P`. -/
def Calc.Yields {α : Type} (f : Calc α) (P : α → Prop) : Prop := ∀ u a v, f.run.run u = (.ok a, v) → P a

theorem Calc.yields_any {α : Type} (f : Calc α) : f.Yields fun _ => True := fun _ _ _ _ => trivial

theorem Calc.yields_pure {α : Type} {a : α} {P : α → Prop} (h : P a) : Calc.Yields (pure a) P := by
  rintro u b v e
  cases e
  exact h

theorem Calc.Yields.bind {α β : Type} {f : Calc α} {g : α → Calc β} {P : α → Prop} {Q : β → Prop} (hf : f.Yields P)
    (hg : ∀ a, P a → (g a).Yields Q) : Calc.Yields (f >>= g) Q := by
  intro u b v e
  rw [ExceptT.run_bind, StateT.run_bind] at e
  cases hr : f.run.run u with
  | mk r w =>
    rw [hr] at e
    cases r with
    | ok a => exact hg a (hf u a w hr) w b v e
    | error c => cases e

/-- What follows a calculation whose value does not matter. -/
theorem Calc.Yields.after {α β : Type} {f : Calc α} {g : α → Calc β} {Q : β → Prop} (hg : ∀ a, (g a).Yields Q) :
    Calc.Yields (f >>= g) Q := f.yields_any.bind fun a _ => hg a

theorem Calc.Yields.repeatM {α : Type} {f : α → Calc α} {P : α → Prop} (h : ∀ a, P a → (f a).Yields P) (n : Nat) {a : α}
    (ha : P a) : (Machine.repeatM f n a).Yields P := by
  induction n generalizing a with
  | zero => exact Calc.yields_pure ha
  | succ n ih => exact (h a ha).bind fun b hb => ih hb

theorem evalUnit_yields {α : Type} {f : Calc α} {P : α → Prop} (h : f.Yields P) (q : Seq) (cost : Nat) {a : α}
    (e : (evalUnit q cost f).1 = .ok a) : P a := by
  unfold evalUnit at e
  dsimp only at e
  split at e
  next hr => cases e; exact h _ _ _ (Prod.ext hr rfl)
  next => cases e

/-- A unit commits only what its calculation yields. -/
theorem runUnit_yields {α : Type} {f : Calc α} {P : α → Prop} (h : f.Yields P) {b cost : Nat} {cond : SolveCond} {q q' : Seq} {a : α}
    (e : runUnit b cost cond q f = (.ok a, q')) : P a := by
  replace e := congrArg Prod.fst e
  unfold runUnit at e
  split at e
  · cases e
  split at e
  · cases e
  split at e
  · cases e
  split at e
  · dsimp only at e
    split at e
    · cases e
    split at e
    · cases e
    split at e
    · cases e
    split at e
    · cases e
    · exact evalUnit_yields h _ _ e
  · exact evalUnit_yields h _ _ e

/-! ## The units of dispatch leave its publication and its window alone -/

/-- The publication of the dispatch problem and the window it is in. -/
def DispSt.published (p : DispSt) : PubBuf × Option Int := (p.pub, p.win)

theorem DispDef.latchAll_published (d : DispDef) (point : Nat × Nat → Word) (hyd : Nat → Word) {p : DispSt}
    {k : PubBuf × Option Int} (h : p.published = k) : (d.latchAll point hyd p).Yields fun r => r.published = k :=
  .after fun _ => .after fun _ => .after fun _ => Calc.yields_pure h

theorem DispDef.shiftWarm_published (d : DispDef) {p : DispSt} {k : PubBuf × Option Int} (h : p.published = k) :
    (d.shiftWarm p).Yields fun r => r.published = k :=
  .after fun _ => .after fun _ => .after fun _ => .after fun _ => .after fun _ => Calc.yields_pure h

theorem DispDef.unitW_published (d : DispDef) (point : Nat × Nat → Word) (hyd : Nat → Word) {p : DispSt}
    {k : PubBuf × Option Int} (h : p.published = k) : (d.unitW point hyd p).Yields fun r => r.published = k :=
  (d.latchAll_published point hyd h).bind fun _ latched =>
    (Calc.Yields.repeatM (fun _ => d.shiftWarm_published) _ latched).bind fun _ shifted =>
      .after fun _ => .after fun _ => Calc.yields_pure shifted

theorem DispDef.unitD_published (d : DispDef) (v : SMap Int) {p : DispSt} {k : PubBuf × Option Int} (h : p.published = k) :
    (d.unitD v p).Yields fun r => r.published = k := by
  unfold DispDef.unitD
  iterate 12 refine .after fun _ => ?_
  refine Calc.yields_pure ?_
  split <;> exact h

/-! ## Ends, checks and factorisations -/

@[simp] theorem DispSt.endSolve_published (p : DispSt) (d : DispDef) (cause : Nat) :
    (p.endSolve d cause).published = p.published := by
  unfold DispSt.endSolve
  dsimp only
  split
  · rfl
  split <;> rfl

@[simp] theorem DispSt.abort_published (p : DispSt) (d : DispDef) (cause : Nat) : (p.abort d cause).published = p.published :=
  p.endSolve_published d cause

@[simp] theorem DispSt.facNan_published (p : DispSt) (d : DispDef) (c : Nat) : (p.facNan d c).published = p.published := by
  unfold DispSt.facNan
  dsimp only
  split
  · rfl
  split
  · exact DispSt.endSolve_published ..
  · rfl

@[simp] theorem DispSt.applyCheck_published (p : DispSt) (d : DispDef) (k : Check) : (p.applyCheck d k).published = p.published := by
  unfold DispSt.applyCheck
  dsimp only
  split
  · rfl
  split
  · exact DispSt.endSolve_published ..
  split
  · exact DispSt.endSolve_published ..
  · rfl

@[simp] theorem DispSt.ensureFactor_published (p : DispSt) : p.ensureFactor.published = p.published := by
  unfold DispSt.ensureFactor
  split <;> rfl

/-! ## The dispatch sequencer (09 R267) -/

/-- The cell with which a turn of the sequencer goes on or ends. -/
def DispFlow.cell : DispFlow → DispCell
  | .go r | .stop r | .ecc r => r

/-- A turn that leaves the publication and the window as `r` has them. -/
def DispCell.Keeps (r : DispCell) (f : DispFlow) : Prop := f.cell.st.published = r.st.published

/-- A unit that does not commit ends the solve at most (09 R269, R278). -/
theorem DispCell.failed_keeps {α : Type} (r : DispCell) (d : DispDef) (u : UnitEnd α) (q : Seq) : r.Keeps (r.failed d u q) := by
  cases u with
  | ok | cut | nofit => exact rfl
  | nan | lane | store => exact DispSt.endSolve_published ..

theorem DispCell.factorUnit_keeps (r : DispCell) (d : DispDef) (b : Nat) (cond : SolveCond) (job : FacJob) (cost : Nat) :
    r.Keeps (r.factorUnit d b cond job cost) := by
  unfold DispCell.factorUnit
  split
  · split
    · exact rfl
    · exact DispSt.facNan_published ..
    · exact r.failed_keeps ..
  · split
    · dsimp only
      split <;> exact rfl
    · exact DispSt.facNan_published ..
    · exact r.failed_keeps ..

theorem DispCell.stage_keeps (r : DispCell) (d : DispDef) (b : Nat) (cond : SolveCond) : r.Keeps (r.stage d b cond) := by
  unfold DispCell.stage
  split
  · exact rfl
  · exact r.failed_keeps ..

theorem DispCell.work_keeps (r : DispCell) (d : DispDef) (b : Nat) (cond : SolveCond) : r.Keeps (r.work d b cond) := by
  unfold DispCell.work
  split
  case h_1 => exact rfl
  case h_2 v _ =>
    split
    · exact rfl
    split
    · exact r.stage_keeps ..
    split
    · split
      · exact rfl
      split
      · exact DispSt.applyCheck_published ..
      · exact r.failed_keeps ..
    · split
      next hu => exact runUnit_yields (d.unitD_published v rfl) hu
      next => exact r.failed_keeps ..

theorem DispCell.turn_keeps (r : DispCell) (d : DispDef) (b : Nat) (cond : SolveCond) : r.Keeps (r.turn d b cond) := by
  unfold DispCell.turn
  split
  · extract_lets allow cost
    split
    · exact r.factorUnit_keeps ..
    · exact r.work_keeps ..
  · exact r.work_keeps ..

theorem DispCell.loop_keeps (d : DispDef) (b : Nat) (cond : SolveCond) (n : Nat) (r : DispCell) :
    r.Keeps (DispCell.loop d b cond n r) := by
  induction n generalizing r with
  | zero => exact rfl
  | succ n ih =>
    have turned := r.turn_keeps d b cond
    unfold DispCell.loop
    generalize r.turn d b cond = f at turned ⊢
    cases f with
    | go r1 => exact (ih r1).trans turned
    | stop r1 | ecc r1 => exact turned

/-- The start of a solve (09 R257, R274). -/
theorem State.startDispSolve_keeps (s : State) (d0 : DispDef) (b : Nat) (cond : SolveCond) (r : DispCell) :
    r.Keeps (s.startDispSolve d0 b cond r) := by
  unfold State.startDispSolve
  dsimp only
  split
  case h_1 st _ hu =>
    have warm : st.published = r.st.published := by
      refine runUnit_yields (DispDef.unitW_published _ _ _ ?_) hu
      rfl
    exact (DispSt.ensureFactor_published _).trans warm
  case h_3 | h_4 => exact DispSt.endSolve_published ..
  case h_2 | h_5 | h_6 => exact rfl

/-! ## A dispatch cell (08 R215, R216; 09 R267) -/

@[simp] theorem State.raiseRec_slv (s : State) (n r v b : Nat) : (s.raiseRec n r v b).slv = s.slv := by
  obtain ⟨x, y, e⟩ := s.raiseRec_only n r v b; rw [e]
@[simp] theorem State.critical_slv (s : State) (src : Nat) : (s.critical src).slv = s.slv := State.raiseRec_slv ..

@[simp] theorem Slv.countEnd_hyd (v : Slv) (cause : Nat) : (v.countEnd cause).hyd = v.hyd := by
  unfold Slv.countEnd; split <;> rfl
@[simp] theorem Slv.countEnd_disp (v : Slv) (cause : Nat) : (v.countEnd cause).disp = v.disp := by
  unfold Slv.countEnd; split <;> rfl

/-- The lane self-test changes neither problem. -/
theorem State.runLaneTest_problems (s : State) (b : Nat) (pass : Bool) :
    (s.runLaneTest b pass).slv.hyd = s.slv.hyd ∧ (s.runLaneTest b pass).slv.disp = s.slv.disp := by
  unfold State.runLaneTest State.laneTestEnd
  dsimp only
  split
  · split
    · exact ⟨rfl, rfl⟩
    · rw [State.critical_slv]; exact ⟨rfl, rfl⟩
  · exact ⟨rfl, rfl⟩

/-- The other problem, the window and the publication are as they were; the publication may go missing (09 R271). -/
structure Slv.DispWorks (v w : Slv) : Prop where
  hyd : w.hyd = v.hyd
  pub : w.disp.pub = { v.disp.pub with missing := w.disp.pub.missing }
  win : w.disp.win = v.disp.win

theorem Slv.DispWorks.of_published {v w : Slv} (hh : w.hyd = v.hyd) (h : w.disp.published = v.disp.published) : v.DispWorks w := by
  obtain ⟨hp, hw⟩ := Prod.mk.inj h
  exact ⟨hh, by rw [hp], hw⟩

/-- A store error drops the structure and marks the publication missing (08 R216, 09 R278). -/
theorem Slv.DispWorks.dispEcc {v : Slv} {s : State} (h : v.DispWorks s.slv) : v.DispWorks s.dispEcc.slv := by
  obtain ⟨hh, hp, hw⟩ := h
  unfold State.dispEcc
  dsimp only
  rw [State.raiseRec_slv]
  exact ⟨hh, by dsimp only; rw [hp], hw⟩

theorem State.takeDispTopo_none {s : State} (h : s.slv.disp.topo = none) : s.takeDispTopo = s := by
  unfold State.takeDispTopo; rw [h]

/-- The turns of a dispatch cell, after the start of a solve when one is due. -/
def State.dispFlow (s : State) (d0 : DispDef) (b : Nat) (cond : SolveCond) : DispFlow :=
  let r : DispCell := ⟨⟨16, 0, 0, 0, s.slv.disp.wsErr⟩, 0, s.slv.disp⟩
  match (if s.slv.disp.startDue then s.startDispSolve d0 b cond r else .go r) with
  | .go r1 => DispCell.loop (r1.st.defn.getD d0) b cond (b / 64 + 8) r1
  | f => f

/-- What the last turn of a dispatch cell leaves, with the end of a solve counted for the lane self-test. -/
def State.putDisp (s : State) (r : DispCell) : State :=
  let v := { s.slv with disp := { r.st with wsErr := r.q.wsErr }, laneMis := satAdd max32 s.slv.laneMis r.q.mis,
                        uflow := satAdd max32 s.slv.uflow r.q.uflow }
  { s with slv := if s.slv.disp.running || s.slv.disp.startDue then
      (if r.st.running || r.st.startDue then v else v.countEnd r.st.cause) else v }

/-- A dispatch cell that neither tests lanes nor rebuilds, and takes no new structure, runs the sequencer. -/
theorem State.dispCell_runs {s : State} {d0 : DispDef} (x : CombEntry) (cond : SolveCond) (ht : ¬ s.slv.laneTest > 0)
    (hr : ¬ s.slv.disp.rebuild > 0) (hn : s.slv.disp.topo = none) (hd : s.slv.disp.defn = some d0) :
    ∃ b, s.dispCell x cond = match s.dispFlow d0 b cond with
      | .go r | .stop r => s.putDisp r
      | .ecc r => (s.putDisp r).dispEcc := by
  unfold State.dispCell
  dsimp only
  rw [if_neg ht, if_neg hr, State.takeDispTopo_none hn, ite_self, hd]
  exact ⟨_, rfl⟩

theorem State.dispFlow_keeps (s : State) (d0 : DispDef) (b : Nat) (cond : SolveCond) :
    (s.dispFlow d0 b cond).cell.st.published = s.slv.disp.published := by
  have started : ∀ r : DispCell, r.Keeps (if s.slv.disp.startDue then s.startDispSolve d0 b cond r else .go r) := fun r => by
    split
    · exact s.startDispSolve_keeps ..
    · exact rfl
  unfold State.dispFlow
  dsimp only
  split
  next r1 hr =>
    have first := hr ▸ started _
    exact (DispCell.loop_keeps _ b cond _ r1).trans first
  next => exact started _

theorem State.putDisp_works {s : State} {r : DispCell} (h : r.st.published = s.slv.disp.published) :
    s.slv.DispWorks (s.putDisp r).slv := by
  unfold State.putDisp
  dsimp only
  split
  · split
    · exact .of_published rfl h
    · exact .of_published (Slv.countEnd_hyd ..) ((congrArg DispSt.published (Slv.countEnd_disp ..)).trans h)
  · exact .of_published rfl h

theorem State.dispCell_works {s : State} (x : CombEntry) (cond : SolveCond) (hn : s.slv.disp.topo = none) :
    s.slv.DispWorks (s.dispCell x cond).slv := by
  by_cases ht : s.slv.laneTest > 0
  · unfold State.dispCell
    dsimp only
    rw [if_pos ht]
    obtain ⟨hyd, disp⟩ := s.runLaneTest_problems _ cond.test
    exact .of_published hyd (congrArg DispSt.published disp)
  by_cases hr : s.slv.disp.rebuild > 0
  · unfold State.dispCell
    dsimp only
    rw [if_neg ht, if_pos hr]
    exact .of_published rfl rfl
  cases hd : s.slv.disp.defn with
  | none =>
    unfold State.dispCell
    dsimp only
    rw [if_neg ht, if_neg hr, State.takeDispTopo_none hn, ite_self, hd]
    exact .of_published rfl rfl
  | some d0 =>
    obtain ⟨b, e⟩ := State.dispCell_runs x cond ht hr hn hd
    have kept := s.dispFlow_keeps d0 b cond
    rw [e]
    cases hf : s.dispFlow d0 b cond with
    | go r | stop r => rw [hf] at kept; exact State.putDisp_works kept
    | ecc r => rw [hf] at kept; exact (State.putDisp_works kept).dispEcc

end Sys2Proof.Machine
end

section
/-!
PROOFS. The hydraulic cell (08 R215, R216, R234, R241 to R243, R246) and the publish cell (01 R19).
-/
namespace Sys2Proof.Machine

/-! ## The state at the start tick -/

@[simp] theorem begun_slv (s : State) (e : Nat) (x : CombEntry) : (Claim.begun s e x).slv = s.slv := by
  obtain ⟨t, l, h⟩ := begun_only s e x; rw [h]

/-- A cell of an island that is clocked runs at its start tick. -/
theorem State.withCell_of_opens_clocked {s : State} {e res : Nat} {x : CombEntry} {i : Island} (o : Claim.Opens s e x res)
    (h : s.runs i = true) (f : CombEntry → State → State) :
    s.withCell e (fun r => decide (r = res)) (some i) f = f x (Claim.begun s e x) := by
  unfold State.withCell
  rw [s.openCell_opens e x _ o.entry (decide_eq_true o.kind) o.runs o.swap o.hp o.ahead o.once]
  exact if_pos ((begun_runs s e x i).trans h)

/-- A hydraulic cell works when its island is clocked, and otherwise counts as missed (08 R246). -/
theorem slvHydCell_of_opens {s : State} {e : Nat} {x : CombEntry} (o : Claim.Opens s e x 9) (c : SolveCond) :
    slvHydCell s e c =
      let b := Claim.begun s e x
      if s.runs .slv then b.hydCell x c (s.cellStart x s.comb.k)
      else { b with slv := { b.slv with hyd := { b.slv.hyd with missed := satAdd 255 b.slv.hyd.missed 1 } } } := by
  unfold slvHydCell
  rw [s.openCell_opens e x _ o.entry (decide_eq_true o.kind) o.runs o.swap o.hp o.ahead o.once, ← begun_runs s e x .slv]
  rfl

/-! ## A cell in which no solve runs (08 R215, R216) -/

theorem State.takeHydTopo_none {s : State} (h : s.slv.hyd.topo = none) : s.takeHydTopo = s := by
  unfold State.takeHydTopo; rw [h]

/-- The lane self-test and a rebuild take the cell: its cause is NOT_RUN, and the last solution is used once more. -/
theorem State.hydCell_notRun {s : State} (x : CombEntry) (c : SolveCond) (t : Nat) (hn : s.slv.hyd.topo = none)
    (h : 0 < s.slv.laneTest ∨ 0 < s.slv.hyd.rebuild) :
    (s.hydCell x c t).slv.hyd.cause = caNotRun ∧ (s.hydCell x c t).slv.hyd.reuse = min (s.slv.hyd.reuse + 1) 255 ∧
      (s.hydCell x c t).slv.hyd.defn = s.slv.hyd.defn := by
  unfold State.hydCell
  rw [State.takeHydTopo_none hn]
  dsimp only
  by_cases lanes : s.slv.laneTest > 0
  · rw [if_pos lanes, (State.runLaneTest_problems ..).1]
    exact ⟨rfl, satAdd_eq_min .., rfl⟩
  · rw [if_neg lanes, if_pos (h.resolve_left lanes)]
    exact ⟨rfl, satAdd_eq_min .., rfl⟩

/-! ## The end of a solve (08 R242, R243) -/

/-- How a solve that began with `v` ends in `w`: the publication before it is kept as the previous one; without a failure
there is a new one, acquired when it was committed, and otherwise the last one is used once more. -/
structure HydSt.Ended (v w : HydSt) : Prop where
  prev : w.prev = v.pub
  published : w.cause = caNone → w.reuse = 0 ∧ w.pub.acq = some w.pub.dt ∧ w.pubs = min (v.pubs + 1) max32
  reused : w.cause ≠ caNone → w.reuse = min (v.reuse + 1) 255 ∧ w.pub.acq = v.pub.acq ∧ w.pubs = v.pubs

theorem HydSt.Ended.of_published {v w : HydSt} (hp : w.prev = v.pub) (hc : w.cause = caNone) (hr : w.reuse = 0)
    (ha : w.pub.acq = some w.pub.dt) (hn : w.pubs = min (v.pubs + 1) max32) : v.Ended w :=
  ⟨hp, fun _ => ⟨hr, ha, hn⟩, fun h => absurd hc h⟩

theorem HydSt.Ended.of_failed {v w : HydSt} (hp : w.prev = v.pub) (hc : w.cause ≠ caNone) (hr : w.reuse = min (v.reuse + 1) 255)
    (ha : w.pub.acq = v.pub.acq) (hn : w.pubs = v.pubs) : v.Ended w :=
  ⟨hp, fun h => absurd h hc, fun _ => ⟨hr, ha, hn⟩⟩

/-- An error in a resident structure: counted, and the structure is built anew from the image (08 R216). -/
theorem State.hydEcc_slv (s : State) :
    let img := s.sup.bank.bind (fun i => i.hyd)
    ∃ n, s.hydEcc.slv = { s.slv with
      eccUnc := min (s.slv.eccUnc + 1) max32
      hyd := { s.slv.hyd with
        defn := img, base := img, factor := none, pend := none, deltas := [], rebuild := n,
        pub := { s.slv.hyd.pub with missing := true } } } := by
  unfold State.hydEcc
  dsimp only
  rw [State.raiseRec_slv, satAdd_eq_min]
  exact ⟨_, rfl⟩

theorem HydSt.Ended.hydEcc {v : HydSt} {s : State} (h : v.Ended s.slv.hyd) : v.Ended s.hydEcc.slv.hyd := by
  obtain ⟨prev, published, reused⟩ := h
  obtain ⟨n, e⟩ := s.hydEcc_slv
  rw [e]
  exact ⟨prev, published, reused⟩

theorem State.endHyd_ended (s : State) (d : HydDef) (t : Nat) (r : HydRun) (cause : Nat) :
    s.slv.hyd.Ended (s.endHyd d t r cause).slv.hyd := by
  unfold State.endHyd
  extract_lets h0 dt h1 words k pub old v s1
  have ended : s.slv.hyd.Ended v.hyd := by
    by_cases hc : cause = caNone
    · have hp : pub.acq = some pub.dt := by unfold pub; rw [if_pos hc]
      exact .of_published rfl hc (if_pos hc) hp ((if_pos hc).trans (satAdd_eq_min ..))
    · have hp : pub.acq = s.slv.hyd.pub.acq := by unfold pub; rw [if_neg hc]; rfl
      exact .of_failed rfl hc ((if_neg hc).trans (satAdd_eq_min ..)) hp (if_neg hc)
  have counted : s.slv.hyd.Ended s1.slv.hyd := (v.countEnd_hyd cause).symm ▸ ended
  split
  · exact counted.hydEcc
  · exact counted

/-- The structure with which a solve starts: `d`, in which every delta is applied (08 R232). -/
def State.startHyd (s : State) (d : HydDef) : State :=
  { s with slv := { s.slv with hyd := { s.slv.hyd with defn := some d, deltas := [] } } }

/-- A cell with a structure that neither tests lanes nor rebuilds solves. -/
theorem State.hydCell_solves {s : State} {d0 : HydDef} (x : CombEntry) (c : SolveCond) (t : Nat) (hn : s.slv.hyd.topo = none)
    (h : ¬ (0 < s.slv.laneTest ∨ 0 < s.slv.hyd.rebuild)) (hd : s.slv.hyd.defn = some d0) :
    ∃ d r cause, s.hydCell x c t = (s.startHyd d).endHyd d t r cause := by
  obtain ⟨lanes, rebuild⟩ := not_or.mp h
  unfold State.hydCell
  rw [State.takeHydTopo_none hn]
  dsimp only
  rw [if_neg lanes, if_neg rebuild, hd]
  exact ⟨_, _, _, rfl⟩

theorem State.hydCell_ended {s : State} {d0 : HydDef} (x : CombEntry) (c : SolveCond) (t : Nat) (hn : s.slv.hyd.topo = none)
    (h : ¬ (0 < s.slv.laneTest ∨ 0 < s.slv.hyd.rebuild)) (hd : s.slv.hyd.defn = some d0) :
    s.slv.hyd.Ended (s.hydCell x c t).slv.hyd := by
  obtain ⟨d, r, cause, e⟩ := State.hydCell_solves x c t hn h hd
  obtain ⟨prev, published, reused⟩ := (s.startHyd d).endHyd_ended d t r cause
  rw [e]
  exact ⟨prev, published, reused⟩

/-- Without a structure the cell does nothing. -/
theorem State.hydCell_undefined {s : State} (x : CombEntry) (c : SolveCond) (t : Nat) (hn : s.slv.hyd.topo = none)
    (h : ¬ (0 < s.slv.laneTest ∨ 0 < s.slv.hyd.rebuild)) (hd : s.slv.hyd.defn = none) : s.hydCell x c t = s := by
  obtain ⟨lanes, rebuild⟩ := not_or.mp h
  unfold State.hydCell
  rw [State.takeHydTopo_none hn]
  dsimp only
  rw [if_neg lanes, if_neg rebuild, hd]

/-! ## The publish cell (01 R19) -/

theorem State.takePub_of_before {t : Nat} {pub : PubBuf} (prev : PubBuf) (old : Option PubBuf) (h : pub.dt < t) :
    State.takePub t pub prev old = some pub := if_pos h

theorem State.takePub_of_late {t : Nat} {pub prev : PubBuf} (old : Option PubBuf) (h : t ≤ pub.dt) (hp : prev.dt < t) :
    State.takePub t pub prev old = some prev := (if_neg (Nat.not_lt.mpr h)).trans (if_pos hp)

/-- The snapshot takes the publication of each problem that has a structure. -/
theorem slvPubCell_snapshot {s : State} {e : Nat} {x : CombEntry} {d : HydDef} {q : DispDef} (o : Claim.Opens s e x 8)
    (hr : s.runs .slv = true) (hd : s.slv.hyd.defn = some d) (hq : s.slv.disp.defn = some q) :
    let st := s.cellStart x s.comb.k
    (slvPubCell s e true).slv.snapHyd = State.takePub st s.slv.hyd.pub s.slv.hyd.prev s.slv.snapHyd ∧
      (slvPubCell s e true).slv.snapDisp = State.takePub st s.slv.disp.pub s.slv.disp.prev s.slv.snapDisp := by
  unfold slvPubCell
  rw [State.withCell_of_opens_clocked o hr]
  dsimp only
  rw [if_pos rfl, begun_slv, hd, hq]
  exact ⟨rfl, rfl⟩

/-- Settles O40: the publish cell by the publications it takes, the hydraulic cell by what it does in its island, a dispatch cell
by what the sequencer leaves. -/
theorem solverCells : Obligations.SolverCells := by
  unfold Obligations.SolverCells
  intro s e x _
  refine ⟨fun o hr d q hd hq => ⟨_, rfl, ?publish⟩, fun c o => ⟨_, rfl, ?hydraulic⟩, fun c o hr hn => ⟨_, rfl, ?dispatch⟩⟩
  case publish =>
    obtain ⟨hyd, disp⟩ := slvPubCell_snapshot o hr hd hq
    exact ⟨fun h => hyd.trans (State.takePub_of_before _ _ h), fun h hp => hyd.trans (State.takePub_of_late _ h hp),
      fun h => disp.trans (State.takePub_of_before _ _ h)⟩
  case hydraulic =>
    rw [slvHydCell_of_opens o]
    have slv := begun_slv s e x
    generalize Claim.begun s e x = b at slv
    dsimp only
    split
    next hr =>
      rw [hr, if_neg Bool.false_ne_true, slv, satAdd_eq_min]
    next hr =>
      rw [if_pos ((Bool.not_eq_false _).mp hr)]
      intro hn
      rw [← slv] at hn ⊢
      split
      next h => exact b.hydCell_notRun x c _ hn h
      next h =>
        split
        next hd =>
          obtain ⟨d, hd⟩ := Option.isSome_iff_exists.mp hd
          obtain ⟨prev, published, reused⟩ := State.hydCell_ended x c (s.cellStart x s.comb.k) hn h hd
          refine ⟨prev, ?_⟩
          split
          next hc => exact published hc
          next hc => exact reused hc
        next hd => rw [State.hydCell_undefined x c _ hn h (Option.not_isSome_iff_eq_none.mp hd)]
  case dispatch =>
    have works := State.dispCell_works (s := Claim.begun s e x) x c (by rw [begun_slv]; exact hn)
    rw [begun_slv] at works
    unfold slvDispCell
    rw [State.withCell_of_opens_clocked o hr]
    obtain ⟨hyd, pub, win⟩ := works
    exact ⟨hyd, pub, win⟩

end Sys2Proof.Machine
end

section
/-!
PROOFS. The solver's events (08 R216, R233, R245; 09 R254, R271): store errors, the ends of builds and of dispatch windows.
-/
namespace Sys2Proof.Machine

/-! ## What the end of a command leaves held -/

@[simp] theorem Mgt.countCpl_held (m : Mgt) (h : Held) (st : Nat) : (m.countCpl h st).held = m.held := by
  unfold Mgt.countCpl; split <;> rfl
@[simp] theorem Mgt.countCpl_solverBuild (m : Mgt) (h : Held) (st : Nat) : (m.countCpl h st).solverBuild = m.solverBuild := by
  unfold Mgt.countCpl; split <;> rfl
@[simp] theorem Mgt.countCpl_activate (m : Mgt) (h : Held) (st : Nat) : (m.countCpl h st).activate = m.activate := by
  unfold Mgt.countCpl; split <;> rfl

/-- Commands end between `m` and `n`: none is held that was not, and the builds under way go on. -/
structure Mgt.Ends (m n : Mgt) : Prop where
  held : n.held ⊆ m.held
  solverBuild : n.solverBuild = m.solverBuild
  activate : n.activate = m.activate

theorem Mgt.Ends.refl (m : Mgt) : m.Ends m := ⟨fun _ h => h, rfl, rfl⟩

theorem Mgt.Ends.trans {m n o : Mgt} (h : m.Ends n) (h' : n.Ends o) : m.Ends o :=
  ⟨fun _ hx => h.held (h'.held hx), h'.solverBuild.trans h.solverBuild, h'.activate.trans h.activate⟩

/-- The command that ends is the one that is no longer held. -/
theorem State.finish_ends (s : State) (q st r0 : Nat) (r1 : Option Nat) (d : List Byte) :
    s.mgt.Ends (s.finish q st r0 r1 d).mgt ∧ ∀ h ∈ (s.finish q st r0 r1 d).mgt.held, h.seq ≠ q := by
  unfold State.finish
  split
  next absent => exact ⟨.refl _, fun h hm => of_decide_eq_false (Bool.eq_false_iff.mpr (List.find?_eq_none.mp absent h hm))⟩
  next c _ =>
    dsimp only
    obtain ⟨x, e⟩ := State.queueCpl_only { s with mgt := { (s.mgt.countCpl c st) with held := s.mgt.held.filter (fun x => x.seq ≠ q) } }
      ⟨c.qp, c.cid, c.opc, st, r0, r1.getD c.acc, s.tim.dt, d, c.fate⟩
    rw [e]
    exact ⟨⟨fun _ hm => (List.mem_filter.mp hm).1, Mgt.countCpl_solverBuild .., Mgt.countCpl_activate ..⟩,
      fun h hm => of_decide_eq_true (List.mem_filter.mp hm).2⟩

/-- Deletions that end then end their own commands (16 R420). -/
theorem State.endDeletes_ends (s : State) : s.mgt.Ends s.endDeletes.mgt := by
  unfold State.endDeletes
  refine List.foldlRecOn (motive := fun t : State => s.mgt.Ends t.mgt) _ _ (.refl _) fun t ht p _ => ?_
  split
  · exact ht
  · have ended := (State.finish_ends { t with hst := { t.hst with deleting := t.hst.deleting.filter (fun x => x.1 ≠ p.1) } }
      p.1 0 0 none []).1
    exact ht.trans ended

/-- A command that completes with SUCCESS is no longer held, and nothing but completions happens (17 R442). -/
theorem State.ok_ends (s : State) (q r0 : Nat) :
    s.mgt.Ends (s.ok q r0).mgt ∧ (∀ h ∈ (s.ok q r0).mgt.held, h.seq ≠ q) ∧ (s.ok q r0).slv = s.slv := by
  obtain ⟨finished, gone⟩ := s.finish_ends q 0 r0 none []
  have deleted := (s.finish q 0 r0 none []).endDeletes_ends
  obtain ⟨x, m, e⟩ := s.complete_host q 0 r0 none []
  have slv : (s.ok q r0).slv = s.slv := by unfold State.ok; rw [e]
  exact ⟨finished.trans deleted, fun h hm => gone h (deleted.held hm), slv⟩

/-! ## Store errors (08 R216) -/

theorem solverStoreEcc_workingSet_hyd {s : State} (h : s.pwr.power = .service) :
    (solverStoreEcc s 1 false).slv =
      { s.slv with eccUnc := min (s.slv.eccUnc + 1) max32, hyd := { s.slv.hyd with wsErr := true } } := by
  simp [solverStoreEcc, State.inService_of_service h, satAdd_eq_min]

theorem solverStoreEcc_workingSet_disp {s : State} (h : s.pwr.power = .service) :
    (solverStoreEcc s 2 false).slv =
      { s.slv with eccUnc := min (s.slv.eccUnc + 1) max32, disp := { s.slv.disp with wsErr := true } } := by
  simp [solverStoreEcc, State.inService_of_service h, satAdd_eq_min]

theorem solverStoreEcc_resident_hyd {s : State} (h : s.pwr.power = .service) : solverStoreEcc s 1 true = s.hydEcc := by
  simp [solverStoreEcc, State.inService_of_service h]

/-! ## Builds (08 R233, R245) -/

/-- A structure that is under build becomes a built one in RUN, and outside RUN takes effect and ends its command. -/
theorem topologyBuilt_hyd {s : State} {q : Nat} {d : HydDef} (h : s.slv.hyd.topo = some (q, d, false)) :
    topologyBuilt s 1 =
      if s.mgt.run = .run then { s with slv := { s.slv with hyd := { s.slv.hyd with topo := some (q, d, true) } } }
      else State.ok { s with slv := { s.slv with hyd := HydSt.adopt { s.slv.hyd with topo := some (q, d, true) } d } } q 0 := by
  unfold topologyBuilt
  rw [if_pos rfl, h]
  rfl

theorem topologyBuilt_hyd_none {s : State} (h : s.slv.hyd.topo = none) : topologyBuilt s 1 = s := by
  unfold topologyBuilt
  rw [if_pos rfl, h]

/-- The solver once its structures are built: outside RUN no rebuild is left (08 R245). -/
def State.builtSlv (s : State) : Slv :=
  if s.mgt.run = .run then s.slv
  else { s.slv with hyd := { s.slv.hyd with rebuild := 0 }, disp := { s.slv.disp with rebuild := 0 } }

theorem State.builtSlv_rebuild {s : State} (h : s.mgt.run ≠ .run) : s.builtSlv.hyd.rebuild = 0 ∧ s.builtSlv.disp.rebuild = 0 := by
  unfold State.builtSlv
  rw [if_neg h]
  exact ⟨rfl, rfl⟩

/-- The end of a build ends the ACTIVATE that waits for it. -/
theorem solverBuilt_ends {s : State} (h : s.runs .slv = true) :
    (solverBuilt s).slv = s.builtSlv ∧ (solverBuilt s).mgt.solverBuild = false ∧ (solverBuilt s).mgt.activate = none ∧
      ∀ a, s.mgt.activate = some a → ∀ c ∈ (solverBuilt s).mgt.held, c.seq ≠ a.1 := by
  unfold solverBuilt
  rw [if_neg (by rw [h]; decide)]
  dsimp only
  cases ha : s.mgt.activate with
  | none => exact ⟨rfl, rfl, rfl, nofun⟩
  | some a =>
    obtain ⟨ends, gone, slv⟩ :=
      State.ok_ends { s with slv := s.builtSlv, mgt := { s.mgt with solverBuild := false, activate := none } } a.1 0
    exact ⟨slv, ends.solverBuild, ends.activate, fun b hb => Option.some.inj hb ▸ gone⟩

/-! ## Dispatch windows (09 R254, R271) -/

/-- The window that starts at hyperperiod `k` is due for a solve, and none runs. -/
theorem Slv.windowEnd_starts (v : Slv) (d : DispDef) (k : Int) (t : Nat) :
    (v.windowEnd d k t).disp.win = some k ∧ (v.windowEnd d k t).disp.startDue = true ∧
      (v.windowEnd d k t).disp.running = false ∧ (v.windowEnd d k t).hyd = v.hyd := ⟨rfl, rfl, rfl, rfl⟩

/-- Without a window due nothing happens. -/
theorem State.windowEnd_none {s : State} (h : s.windowDue = none) : s.windowEnd = s := by
  unfold State.windowEnd; rw [h]

theorem State.windowEnd_some {s : State} {d : DispDef} (h : s.windowDue = some d) :
    s.windowEnd = { s with slv := s.slv.windowEnd d s.comb.k s.tim.dt } := by
  unfold State.windowEnd; rw [h]

/-- Settles O41: each event by what it makes of the solver, a command that ends by `State.ok_ends`. -/
theorem solverEvents : Obligations.SolverEvents := by
  unfold Obligations.SolverEvents
  intro s
  refine ⟨fun hp => ⟨⟨_, rfl, solverStoreEcc_workingSet_hyd hp⟩, ⟨_, rfl, solverStoreEcc_workingSet_disp hp⟩, ⟨_, rfl, ?resident⟩⟩,
    fun q d h => ⟨_, rfl, ?topology⟩, fun h => congrArg Host.Outcome.next (topologyBuilt_hyd_none h), ⟨_, rfl, ?built⟩,
    ⟨_, rfl, ?window⟩⟩
  case resident =>
    rw [solverStoreEcc_resident_hyd hp]
    obtain ⟨n, e⟩ := s.hydEcc_slv
    rw [e]
    exact ⟨rfl, rfl, rfl, rfl, rfl⟩
  case topology =>
    rw [topologyBuilt_hyd h]
    split
    · exact ⟨rfl, rfl⟩
    · obtain ⟨-, gone, slv⟩ :=
        State.ok_ends { s with slv := { s.slv with hyd := HydSt.adopt { s.slv.hyd with topo := some (q, d, true) } d } } q 0
      rw [slv]
      exact ⟨rfl, rfl, gone⟩
  case built =>
    split
    next hr =>
      obtain ⟨slv, build, activate, gone⟩ := solverBuilt_ends hr
      exact ⟨build, activate, gone, fun h => slv ▸ State.builtSlv_rebuild h⟩
    next hr => exact if_pos (by simpa using hr)
  case window =>
    cases hw : s.windowDue with
    | none => exact State.windowEnd_none hw
    | some d =>
      obtain ⟨win, start, run, hyd⟩ := s.slv.windowEnd_starts d s.comb.k s.tim.dt
      rw [State.windowEnd_some hw]
      exact ⟨win, start, run, hyd, rfl⟩

end Sys2Proof.Machine
end

section
/-!
PROOFS. What the events of stations leave of the cells, the messages received and the exchanges (10 R289, R290, R296, R300).
-/
namespace Sys2Proof.Machine

@[simp] theorem State.raise_stn (s : State) (n r : Nat) : (s.raise n r).stn = s.stn := by
  obtain ⟨x, e⟩ := s.raise_only n r
  rw [e]

@[simp] theorem State.raise_adc (s : State) (n r : Nat) : (s.raise n r).adc = s.adc := by
  obtain ⟨x, e⟩ := s.raise_only n r
  rw [e]

@[simp] theorem State.advanceTo_adc (s : State) (t : Nat) : (s.advanceTo t).adc = s.adc := by
  obtain ⟨x, l, e⟩ := s.advanceTo_only t
  rw [e]

/-- No time passes until the present. -/
theorem State.advanceTo_dt (s : State) : s.advanceTo s.tim.dt = s := if_pos (Nat.le_refl _)

/-! ## The state of a station -/

/-- Updating a station changes the states of stations alone. -/
theorem State.updStn_only (s : State) (n : Nat) (f : StnSt → StnSt) :
    ∃ l, s.updStn n f = { s with stn := { s.stn with st := l } } := by
  unfold State.updStn
  split
  · exact ⟨s.stn.st, rfl⟩
  · exact ⟨_, rfl⟩

@[simp] theorem State.updStn_cells (s : State) (n : Nat) (f : StnSt → StnSt) : (s.updStn n f).stn.cells = s.stn.cells := by
  obtain ⟨l, e⟩ := s.updStn_only n f
  rw [e]

@[simp] theorem State.updStn_inbox (s : State) (n : Nat) (f : StnSt → StnSt) : (s.updStn n f).stn.inbox = s.stn.inbox := by
  obtain ⟨l, e⟩ := s.updStn_only n f
  rw [e]

theorem State.updStn_same {s : State} {n : Nat} {x : StnSt} (h : s.stnSt? n = some x) (f : StnSt → StnSt) :
    (s.updStn n f).stnSt? n = some (f x) := by
  unfold State.updStn
  rw [h]
  exact SMap.get_set_same dOpt s.stn.st n (some (f x))

/-! ## The poll of a slot (10 R289) -/

@[simp] theorem State.withhold_stn (s : State) (d : EthPortDef) : (s.withhold d).stn = s.stn := by
  unfold State.withhold
  dsimp only
  split <;> rfl

@[simp] theorem State.usePn_stn (s : State) (d : EthPortDef) : (s.usePn d).stn = s.stn := by
  unfold State.usePn
  dsimp only
  split
  · rfl
  split
  · exact State.raise_stn ..
  · rfl

/-- A frame that starts on a port closes answer windows, and no cell. -/
theorem State.ethPump_cells (s : State) (p : Nat) : (s.ethPump p).stn.cells = s.stn.cells := by
  unfold State.ethPump
  split
  · rfl
  dsimp only
  split
  · exact congrArg Stn.cells (s.withhold_stn _)
  split
  · exact congrArg Stn.cells (s.withhold_stn _)
  split <;> simp [State.closeWindow]

theorem State.armEth_cells (s : State) (p : Nat) (f : EthFrm) : (s.armEth p f).stn.cells = s.stn.cells := State.ethPump_cells ..

theorem State.armCan_stn {s t : State} {c : Nat} {o : CanObj} (h : s.armCan c o = some t) : t.stn = s.stn := by
  unfold State.armCan at h
  dsimp only at h
  split at h
  · exact nomatch h
  · rw [← Option.some.inj h, State.setCan_stn]

theorem State.armGpoll_cells (s : State) (g : GroupDef) (e seq : Nat) : (s.armGpoll g e seq).1.stn.cells = s.stn.cells := by
  unfold State.armGpoll
  split
  · rfl
  split
  · rfl
  dsimp only
  split
  next armed => exact congrArg Stn.cells (State.armCan_stn armed)
  next => rfl

theorem State.armPolls_cells (s : State) (g : GroupDef) (e seq : Nat) : (s.armPolls g e seq).1.stn.cells = s.stn.cells := by
  refine foldl_keeps (fun p : State × Bool => p.1.stn.cells) _ (fun p d => ?_) _ _
  dsimp only
  split
  · rfl
  · exact State.armEth_cells ..

/-- The slot that opens is the slot of its cell, whose next group is the one after it. -/
theorem State.openSlot_cells (s : State) (k : StnCell) (g : GroupDef) :
    ∃ c p, (s.openSlot k g).stn.cells = s.stn.cells.map (fun x =>
      if x.e = k.e then { x with groups := x.groups.drop 1, slot := some (g.group, c, p) } else x) := by
  have poll : ∀ seq, (if linkIsCan g.link then s.armGpoll g k.e seq else s.armPolls g k.e seq).1.stn.cells = s.stn.cells := by
    intro seq
    split
    · exact State.armGpoll_cells ..
    · exact State.armPolls_cells ..
  have advance : ∀ (b : Bool) (u : State) (x : GroupSt), (if b then u.setGroup g.group x else u).stn.cells = u.stn.cells := by
    intro b u x
    split <;> rfl
  unfold State.openSlot
  exact ⟨_, _, congrArg (List.map _) ((advance _ _ _).trans (poll (s.nextSeq g.group)))⟩

theorem stationSlotOpen_first {s : State} {k : StnCell} {g : Nat} {d : GroupDef} (hc : s.stn.cells = [k]) (hr : k.read = true)
    (hg : k.groups.head? = some g) (hd : s.groupDef? g = some d) (run : s.cellsRun = true) (clk : s.runs .field = true)
    (hn : k.slot = none) (ht : s.tim.dt < k.stop) : stationSlotOpen s g = s.openSlot k d := by
  have due : s.slotOver k = s.tim.dt := by unfold State.slotOver; rw [hn]
  have hf : [k].find? (fun x => x.read && decide (x.groups.head? = some g)) = some k := by simp [hr, hg]
  unfold stationSlotOpen
  rw [hc, hf]
  dsimp only
  rw [hd, due]
  dsimp only
  rw [if_neg (by simp [run, clk, ht]), State.advanceTo_dt]

/-! ## Messages received (10 R290, R300) -/

theorem answer_none {s : State} {l : Nat} (h : s.firstMsg l = none) : answer s l = s := by unfold answer; rw [h]

theorem malformedWfp_none {s : State} {l : Nat} (h : s.firstMsg l = none) : malformedWfp s l = s := by unfold malformedWfp; rw [h]

theorem malformedWfp_counted {s : State} {l : Nat} {m : WfpMsg} (h : s.firstMsg l = some m) (clk : s.runs .field = true)
    (hm : m.malformed = true) : malformedWfp s l = (s.takeMsg m).countBadFrm := by
  unfold malformedWfp
  rw [h]
  exact if_pos (by rw [hm, clk]; rfl)

theorem answer_judged {s : State} {l : Nat} {m : WfpMsg} (h : s.firstMsg l = some m) (clk : s.runs .field = true)
    (hm : m.malformed = false) : answer s l = (s.takeMsg m).judgeAnswer m := by
  unfold answer
  rw [h]
  exact if_neg (by rw [hm, clk]; decide)

theorem State.counterAnswer_stn (s : State) (n t : Nat) (data : List Byte) : (s.counterAnswer n t data).stn = s.stn := by
  unfold State.counterAnswer
  split
  · rfl
  split
  · rfl
  · exact State.setMtr_stn ..

/-- Judging one message takes no other out of the inbox. -/
theorem State.judgeAnswer_inbox (s : State) (m : WfpMsg) : (s.judgeAnswer m).stn.inbox = s.stn.inbox := by
  unfold State.judgeAnswer
  split
  · rfl
  split
  · rfl
  split
  · rfl
  dsimp only
  split
  · rfl
  split
  · rfl
  split
  · rfl
  refine (apply_ite (fun u : State => u.stn.inbox) _ _ _).trans ?_
  rw [State.counterAnswer_stn, State.updStn_inbox]
  exact ite_self _

theorem State.judgeAnswer_undeclared {s : State} {m : WfpMsg} (h : s.senderOf m = none) : s.judgeAnswer m = s.countUndecl := by
  unfold State.judgeAnswer
  rw [h]

/-! ## The end of an exchange (10 R295, R296) -/

/-- A station is declared and has no exchange under way. -/
def State.noExchange (s : State) (n : Nat) : Prop := ∃ x, s.stnSt? n = some x ∧ x.exch = none

theorem State.noExchange_congr {s t : State} {n : Nat} (h : t.stn = s.stn) (e : s.noExchange n) : t.noExchange n := by
  unfold State.noExchange State.stnSt?
  rw [h]
  exact e

theorem State.updStn_noExchange {s : State} {n : Nat} {f : StnSt → StnSt} (hf : ∀ x, (f x).exch = x.exch) (h : s.noExchange n) :
    (s.updStn n f).noExchange n := by
  obtain ⟨x, hx, e⟩ := h
  exact ⟨f x, State.updStn_same hx f, (hf x).trans e⟩

theorem State.setLink_noExchange {s : State} {n : Nat} (l : LinkSt) (h : s.noExchange n) : (s.setLink n l).noExchange n := by
  have moved := State.updStn_noExchange (f := fun x => { x with link := l }) (fun _ => rfl) h
  unfold State.setLink
  split
  · exact h
  dsimp only
  split
  · exact State.noExchange_congr (State.raise_stn ..) moved
  split
  · exact State.noExchange_congr (State.raise_stn ..) moved
  · exact moved

theorem State.missStn_noExchange {s : State} (d : StnDef) (h : s.noExchange d.stn) : (s.missStn d).noExchange d.stn := by
  unfold State.missStn
  split
  · exact h
  · exact State.setLink_noExchange _ (State.updStn_noExchange (by intro x; rfl) h)

theorem State.endExchange_noExchange {s : State} {d : StnDef} {x : StnSt} (h : s.stnSt? d.stn = some x) (hx : x.exch.isSome = true) :
    (s.endExchange d).noExchange d.stn := by
  obtain ⟨e, he⟩ := Option.isSome_iff_exists.mp hx
  have ended : (s.updStn d.stn (fun x => { x with exch := none })).noExchange d.stn := ⟨_, State.updStn_same h _, rfl⟩
  unfold State.endExchange
  rw [h]
  dsimp only
  rw [he]
  dsimp only
  split
  · exact State.missStn_noExchange d ended
  split
  · exact State.updStn_noExchange (by intro x; rfl) ended
  · exact ended

theorem exchangeComplete_undeclared {s : State} {n : Nat} (h : s.stnDef? n = none) : exchangeComplete s n = s := by
  unfold exchangeComplete; rw [h]

/-- Outside station cells an exchange whose WRITE is not on the bus ends. -/
theorem exchangeComplete_ends {s : State} {n : Nat} {d : StnDef} {x : StnSt} (hd : s.stnDef? n = some d) (hn : d.stn = n)
    (hs : s.stnSt? n = some x) (hx : x.exch.isSome = true) (hc : s.stn.cells = []) (clk : s.runs .field = true)
    (hw : s.writeInTx n = false) : exchangeComplete s n = s.endExchange d := by
  obtain ⟨e, he⟩ := Option.isSome_iff_exists.mp hx
  unfold exchangeComplete
  rw [hd, hs, Option.bind_some, he]
  dsimp only
  rw [hc, List.find?_nil]
  dsimp only
  rw [if_pos clk]
  unfold State.completeExchange
  rw [hn, hw]
  rfl

end Sys2Proof.Machine
end

section
/-!
PROOFS. Conversions and the reference (14 R377, R382); the statement about stations and converters.
-/
namespace Sys2Proof.Machine

/-! ## What the converters count and the slots hold -/

/-- The count of conversions of each converter, and the slots. -/
def State.results (s : State) : List Nat × SMap (List Slot) := (s.adc.conv.map AdcConv.conv, s.adc.slots)

theorem State.adcConv_conv (s : State) (n : Nat) : (s.adcConv n).conv = s.results.1.getD n 0 := by
  unfold State.adcConv State.results
  rw [List.getD_eq_getElem?_getD, List.getD_eq_getElem?_getD, List.getElem?_map]
  exact (Option.getD_map AdcConv.conv AdcConv.reset s.adc.conv[n]?).symm

theorem State.adcConv_conv_congr {s t : State} (h : t.results = s.results) (n : Nat) : (t.adcConv n).conv = (s.adcConv n).conv := by
  rw [t.adcConv_conv, s.adcConv_conv, h]

theorem State.slotVers_congr {s t : State} (h : t.results = s.results) (i : Nat) : t.slotVers i = s.slotVers i :=
  (congrArg (fun r : List Nat × SMap (List Slot) => SMap.get dSlots r.2 i) h :)

theorem State.convLength_congr {s t : State} (h : t.results = s.results) : t.adc.conv.length = s.adc.conv.length := by
  have counts : t.results.1.length = s.results.1.length := by rw [h]
  simpa [State.results] using counts

theorem State.results_congr {s t : State} (h : t.adc = s.adc) : t.results = s.results := by unfold State.results; rw [h]

/-- A place of a list that is written with a value of the same image keeps the images. -/
theorem map_updAt_of_eq {α β : Type} (f : α → β) (l : List α) (i : Nat) (x d : α) (h : f x = f (l.getD i d)) :
    (updAt l i (fun _ => x)).map f = l.map f := by
  induction l generalizing i with
  | nil => rfl
  | cons y l ih => cases i with
    | zero => exact congrArg (· :: l.map f) h
    | succ i => exact congrArg (f y :: ·) (ih i h)

theorem State.setConv_results {s : State} {n : Nat} {x : AdcConv} (h : x.conv = (s.adcConv n).conv) :
    (s.setConv n x).results = s.results :=
  congrArg (·, s.adc.slots) (map_updAt_of_eq AdcConv.conv s.adc.conv n x AdcConv.reset h)

/-! ## Choosing, aborting and requesting conversions completes none (14 R380, R384, R385) -/

theorem State.adcNext_results (s : State) (n c : Nat) : (s.adcNext n c).results = s.results := by
  unfold State.adcNext
  split
  · dsimp only
    split
    · split
      · split <;> exact State.setConv_results rfl
      · split <;> exact State.setConv_results rfl
    · split <;> exact State.setConv_results rfl
  · rfl

theorem State.adcAbort_results (s : State) (n j c : Nat) : (s.adcAbort n j c).results = s.results := by
  unfold State.adcAbort
  split
  · split
    · exact State.setConv_results rfl
    · rfl
  · rfl

theorem State.urgent_results (s : State) (n j c : Nat) (trip : Bool) : (s.urgent n j c trip).results = s.results := by
  have pended : (s.setConv n { s.adcConv n with pend := (s.adcConv n).pend ++ [j] }).results = s.results := State.setConv_results rfl
  unfold State.urgent
  dsimp only
  split
  · exact State.setConv_results rfl
  split
  · exact pended
  split
  · exact pended
  split
  · exact (State.adcNext_results ..).trans pended
  split
  · exact (State.adcAbort_results ..).trans pended
  split
  · refine (State.setConv_results ?_).trans pended
    rfl
  · exact pended

theorem State.threshold_results (s : State) (i : Nat) (a : AinDef) (w : Word) (comp : Nat) :
    (s.threshold i a w comp).results = s.results := by
  unfold State.threshold
  dsimp only
  split
  · rfl
  have raised : ∀ (b : Bool) (u : State) (l : List Nat) (r : Nat),
      (if b then u else ({ u with adc := { u.adc with evd := l } }).raise 65 r).results = u.results := by
    intro b u l r
    split
    · rfl
    · exact (State.results_congr (State.raise_adc ..)).trans rfl
  split
  · exact (State.urgent_results ..).trans (raised ..)
  · exact raised ..

/-! ## A conversion completes (14 R382, R383) -/

/-- A result counts on its converter and heads the slot of its input, acquired at its hold instant. -/
theorem State.adcResult_results {s : State} {n : Nat} (d : AnalogDef) (i hold : Nat) (raw : Int) (urg : Bool)
    (hn : n < s.adc.conv.length) :
    ((s.adcResult d n i hold raw urg).adcConv n).conv = min ((s.adcConv n).conv + 1) max32 ∧
      ((s.adcResult d n i hold raw urg).slotVers i).head?.map (fun v => v.acq) = some (some (cycNs hold)) := by
  unfold State.adcResult
  dsimp only
  rw [State.adcConv_conv_congr (State.threshold_results ..), State.slotVers_congr (State.threshold_results ..)]
  refine ⟨?count, ?slot⟩
  case count =>
    rw [State.setConv_same _ _ _ (by exact hn)]
    exact satAdd_eq_min ..
  case slot =>
    have filled : ∀ (v : Slot) (x : AdcConv), (((s.setSlot i v).setConv n x).slotVers i) = v :: s.slotVers i :=
      fun v _ => SMap.get_set_same dSlots s.adc.slots i (v :: s.slotVers i)
    rw [filled]
    rfl

/-- The conversion under way gives its result once the converter has chosen the next one. -/
theorem adcDone_result {s : State} {n : Nat} {d : AnalogDef} {r : AdcRun} {c : Conv} (code : Int) (hd : s.analog? = some d)
    (hr : (s.adcConv n).run = some r) (hi : r.inter = false) (hc : r.cur = some c) (run : s.cellsRun = true)
    (clk : s.runs .adc = true) (ht : cycNs (c.hold + 32) < r.stop) :
    ∃ t : State, t.results = s.results ∧ adcDone s n code = t.adcResult d n c.input c.hold code c.urgent.isSome := by
  unfold adcDone
  rw [hd, hr]
  dsimp only
  rw [if_neg (by simp [run, clk]), if_neg (by simp [hi]), hc]
  dsimp only
  rw [if_neg (Nat.not_le.mpr ht)]
  refine ⟨_, (State.adcNext_results ..).trans ((State.setConv_results ?_).trans (State.results_congr (s.advanceTo_adc _))), rfl⟩
  rfl

/-! ## The reference (14 R377) -/

theorem referenceOut_leaves {s : State} (u : Nat) (clk : s.runs .adc = true) (h : s.adc.refBad = none) :
    (referenceOut s u).adc = { s.adc with refBad := some (referenceOut s u).tim.dt } := by
  have out : referenceOut s u =
      ({ s.advanceTo u with adc := { (s.advanceTo u).adc with refBad := some (s.advanceTo u).tim.dt } }).raise 64 0 :=
    if_pos (by rw [clk, h]; rfl)
  rw [out, State.raise_adc, State.raise_tim, State.advanceTo_adc]

theorem referenceIn_returns {s : State} {a : Nat} (u : Nat) (clk : s.runs .adc = true) (h : s.adc.refBad = some a) :
    (referenceIn s u).adc = { s.adc with refBad := none, refSpan := (a, (referenceIn s u).tim.dt) } := by
  unfold referenceIn
  rw [h]
  dsimp only
  rw [if_pos clk, State.advanceTo_adc]

/-- Settles O47: a slot by `stationSlotOpen_first`, a message by its judgement, an exchange by `State.endExchange_noExchange`, a
conversion by its result, the reference by the span it leaves. -/
theorem stationsAndConverters : Obligations.StationsAndConverters := by
  unfold Obligations.StationsAndConverters
  intro s
  refine ⟨?slot, fun l h => ⟨congrArg Host.Outcome.next (answer_none h), congrArg Host.Outcome.next (malformedWfp_none h)⟩,
    fun l m h clk => ⟨fun hm => ⟨_, rfl, ?malformed⟩, fun hm => ⟨_, rfl, ?answered⟩⟩,
    fun n h => congrArg Host.Outcome.next (exchangeComplete_undeclared h), ?exchange, ?conversion,
    fun clk u => ⟨fun h => ⟨_, _, rfl, referenceOut_leaves u clk h, rfl⟩, fun a h => ⟨_, rfl, referenceIn_returns u clk h⟩⟩⟩
  case slot =>
    intro k g d hc hr hg hd hdg run clk hn ht
    obtain ⟨c, p, opened⟩ := s.openSlot_cells k d
    rw [hc, List.map_singleton, if_pos rfl, hdg] at opened
    have polled := (congrArg (fun t : State => t.stn.cells) (stationSlotOpen_first hc hr hg hd run clk hn ht)).trans opened
    exact ⟨_, _, rfl, polled, rfl, rfl, rfl, c, p, rfl⟩
  case malformed =>
    rw [malformedWfp_counted h clk hm, ← satAdd_eq_min]
    rfl
  case answered =>
    rw [answer_judged h clk hm]
    refine ⟨State.judgeAnswer_inbox .., fun undeclared => ?_⟩
    rw [State.judgeAnswer_undeclared (s := s.takeMsg m) undeclared, ← satAdd_eq_min]
    rfl
  case exchange =>
    intro n d x hd hn hs hx hc clk hw
    have ends := exchangeComplete_ends hd hn hs hx hc clk hw
    subst hn
    obtain ⟨y, hy, e⟩ := State.endExchange_noExchange hs hx
    exact ⟨_, y, congrArg Host.Outcome.next ends, hy, e⟩
  case conversion =>
    intro n code d r c hd hr hi hc run clk ht hn _
    obtain ⟨t, same, done⟩ := adcDone_result code hd hr hi hc run clk ht
    obtain ⟨count, slot⟩ := State.adcResult_results d c.input c.hold code c.urgent.isSome
      (Nat.lt_of_lt_of_eq hn (State.convLength_congr same).symm)
    rw [State.adcConv_conv_congr same] at count
    exact ⟨_, congrArg Host.Outcome.next done, count, slot⟩

end Sys2Proof.Machine
end

section
/-!
PROOFS. Metering between block closures (11 R307, R308, R312, R315, R325): pulses, faults of MD inputs, accumulation periods,
interval boundaries.
-/
namespace Sys2Proof.Machine

@[simp] theorem State.advanceTo_mtr (s : State) (t : Nat) : (s.advanceTo t).mtr = s.mtr := by
  obtain ⟨x, l, e⟩ := s.advanceTo_only t
  rw [e]

/-- The metering declared is that of the image in use. -/
theorem State.meter_congr {s t : State} (h : t.sup = s.sup) : t.meter? = s.meter? := by
  unfold State.meter?
  rw [h]

@[simp] theorem State.advanceTo_meter (s : State) (t : Nat) : (s.advanceTo t).meter? = s.meter? := by
  obtain ⟨x, l, e⟩ := s.advanceTo_only t
  rw [e]
  rfl

/-! ## Metering does not run (11 R333) -/

theorem pinPulse_stopped {s : State} (h : s.mtr.running = false) (p t : Nat) : pinPulse s p t = s := by
  simp only [pinPulse, h, Bool.false_and, Bool.false_eq_true, if_false]

theorem mdFault_stopped {s : State} (h : s.mtr.running = false) (m t : Nat) : mdFault s m t = s := by
  simp only [mdFault, h, Bool.false_and, Bool.false_eq_true, if_false]

theorem mdResume_stopped {s : State} (h : s.mtr.running = false) (m t : Nat) : mdResume s m t = s := by
  simp only [mdResume, h, Bool.false_and, Bool.false_eq_true, if_false]

theorem periodEnd_stopped {s : State} (h : s.mtr.running = false) (y : List EmSamples) : periodEnd s y = s := by
  unfold periodEnd
  split
  · rfl
  · simp only [h, Bool.false_and, Bool.false_eq_true, if_false]

theorem intervalBoundary_stopped {s : State} (h : s.mtr.running = false) : intervalBoundary s = s := by
  unfold intervalBoundary
  split
  · simp only [h, Bool.false_and, Bool.false_eq_true, if_false]
  · rfl

/-! ## Interval boundaries (11 R325) -/

/-- The interval that opens on a boundary reaches to the next one, without pulses, and with it a thermal segment. -/
theorem State.turnIntv_opens {s : State} {i : Intv} (hc : s.mtr.cur = some i) (d : MeterDef) (t t' : Nat) (f g : RunFlags) :
    ∃ j, (s.turnIntv d t t' f g).mtr.cur = some j ∧ j.stop = d.gridEnd t' ∧ j.pulses = [] ∧
      (s.turnIntv d t t' f g).mtr.segFrom = some t' := by
  unfold State.turnIntv
  rw [hc]
  exact ⟨_, rfl, rfl, rfl, rfl⟩

/-- Before its end no boundary closes the open interval. -/
theorem State.catchIntv_within {s : State} {i : Intv} {t : Nat} (hc : s.mtr.cur = some i) (h : t < i.stop) (n : Nat) :
    s.catchIntv n t = s := by
  cases n with
  | zero => rfl
  | succ n =>
    unfold State.catchIntv
    split
    next j _ hj =>
      cases hc.symm.trans hj
      rw [decide_eq_false (Nat.not_le.mpr h), Bool.and_false, if_neg Bool.false_ne_true]
    next => rfl

theorem State.intvTo_within {s : State} {i : Intv} {t : Nat} (hc : s.mtr.cur = some i) (h : t < i.stop) : s.intvTo t = s := by
  unfold State.intvTo
  split
  · rw [State.catchIntv_within hc h, ite_self]
  · rfl

/-- Up to the end of the open interval there is one boundary, that end. -/
theorem State.intvTo_boundary {s : State} {i : Intv} {d : MeterDef} (hd : s.meter? = some d) (hc : s.mtr.cur = some i)
    (run : s.mtr.running = true) (hl : 0 < d.lenNs) :
    s.intvTo i.stop = s.turnIntv d i.stop i.stop RunFlags.none RunFlags.none := by
  have one : (i.stop - i.stop) / d.lenNs + 1 = 1 := by rw [Nat.sub_self, Nat.zero_div]
  unfold State.intvTo
  rw [hd, hc]
  dsimp only
  rw [if_neg (Nat.ne_of_gt hl), one]
  unfold State.catchIntv
  rw [hd, hc]
  dsimp only
  rw [run, decide_eq_true (Nat.le_refl i.stop)]
  rfl

theorem State.catchIntv_isOpen {s : State} (h : s.mtr.cur.isSome = true) (n t : Nat) :
    (s.catchIntv n t).mtr.cur.isSome = true := by
  induction n generalizing s with
  | zero => exact h
  | succ n ih =>
    unfold State.catchIntv
    split
    next d i _ hi =>
      split
      · obtain ⟨j, hj, -⟩ := State.turnIntv_opens hi d i.stop i.stop RunFlags.none RunFlags.none
        exact ih (Option.isSome_of_eq_some hj)
      · exact h
    next => exact h

/-- After the boundaries passed an interval is open as before. -/
theorem State.intvTo_isOpen {s : State} (h : s.mtr.cur.isSome = true) (t : Nat) : (s.intvTo t).mtr.cur.isSome = true := by
  unfold State.intvTo
  split
  · split
    · exact h
    · exact State.catchIntv_isOpen h _ t
  · exact h

theorem intervalBoundary_opens {s : State} {i : Intv} {d : MeterDef} (run : s.mtr.running = true) (clk : s.runs .mtr = true)
    (live : s.dtLive = true) (hc : s.mtr.cur = some i) (hd : s.meter? = some d) (hl : 0 < d.lenNs) :
    ∃ j, (intervalBoundary s).mtr.cur = some j ∧ j.stop = d.gridEnd i.stop ∧ j.pulses = [] ∧
      (intervalBoundary s).mtr.segFrom = some i.stop := by
  have hc' : (s.advanceTo i.stop).mtr.cur = some i := (congrArg Mtr.cur (s.advanceTo_mtr i.stop)).trans hc
  have run' : (s.advanceTo i.stop).mtr.running = true := (congrArg Mtr.running (s.advanceTo_mtr i.stop)).trans run
  have turns : intervalBoundary s = (s.advanceTo i.stop).turnIntv d i.stop i.stop RunFlags.none RunFlags.none := by
    unfold intervalBoundary
    rw [hc]
    dsimp only
    rw [run, live, clk]
    exact (if_pos rfl).trans (State.intvTo_boundary ((s.advanceTo_meter i.stop).trans hd) hc' run' hl)
  rw [turns]
  exact State.turnIntv_opens hc' d i.stop i.stop RunFlags.none RunFlags.none

/-! ## Pulses (11 R315) -/

/-- A pulse within the open interval is counted there, for its pin. -/
theorem pinPulse_joins {s : State} {i : Intv} {u : Nat} (p : Nat) (run : s.mtr.running = true) (clk : s.runs .mtr = true)
    (live : s.dtLive = true) (hc : s.mtr.cur = some i) (hw : s.mtr.wait = []) (h : u < i.stop) :
    (pinPulse s p u).mtr =
      { s.mtr with cur := some { i with pulses := SMap.set dNat i.pulses p (SMap.get dNat i.pulses p + 1) } } := by
  have within : (s.advanceTo u).intvTo u = s.advanceTo u :=
    State.intvTo_within ((congrArg Mtr.cur (s.advanceTo_mtr u)).trans hc) h
  simp [pinPulse, run, live, clk, within, Mtr.atInstant, hc, hw]

/-! ## Faults of MD inputs (11 R308) -/

theorem mdFault_open {s : State} {m a : Nat} {l : List (Nat × Option Nat)} (u : Nat) (run : s.mtr.running = true)
    (clk : s.runs .mtr = true) (hm : m < 48) (h : SMap.get dSpans s.mtr.flt m = (a, none) :: l) :
    (mdFault s m u).mtr = s.mtr := by
  simp [mdFault, run, clk, hm, h]

/-- A fault of an input that has none opens a span, and its bit latches. -/
theorem mdFault_opens {s : State} {m : Nat} (u : Nat) (run : s.mtr.running = true) (clk : s.runs .mtr = true) (hm : m < 48)
    (h : ∀ a l, SMap.get dSpans s.mtr.flt m ≠ (a, none) :: l) :
    (mdFault s m u).mtr = { s.mtr with flt := SMap.set dSpans s.mtr.flt m ((u, none) :: SMap.get dSpans s.mtr.flt m),
                                       mdFlt := s.mtr.mdFlt ||| 2 ^ m } := by
  unfold mdFault
  rw [run, clk, decide_eq_true hm, Bool.and_self, Bool.and_self, if_pos rfl]
  dsimp only
  rw [State.advanceTo_mtr]
  split
  next a l e => exact absurd e (h a l)
  next => rfl

theorem mdResume_closes {s : State} {m a : Nat} {l : List (Nat × Option Nat)} (u : Nat) (run : s.mtr.running = true)
    (clk : s.runs .mtr = true) (h : SMap.get dSpans s.mtr.flt m = (a, none) :: l) :
    (mdResume s m u).mtr = { s.mtr with flt := SMap.set dSpans s.mtr.flt m ((a, some u) :: l) } := by
  simp [mdResume, run, clk, h]

/-! ## Accumulation periods (11 R307, R312) -/

@[simp] theorem Mtr.atInstant_blockStart (m : Mtr) (t : Nat) (f : Intv → Intv) : (m.atInstant t f).blockStart = m.blockStart := by
  unfold Mtr.atInstant
  split <;> rfl

@[simp] theorem Mtr.addEm_blockStart (m : Mtr) (e r n : Nat) : (m.addEm e r n).blockStart = m.blockStart := rfl

@[simp] theorem Mtr.addPeriod_blockStart (m : Mtr) (d : EmDef) (a : List (Array Int)) :
    (m.addPeriod d a).blockStart = m.blockStart := by
  simp only [Mtr.addPeriod, apply_ite Mtr.blockStart, Mtr.addEm_blockStart, ite_self]

/-- The next period ends one period later; the block under way goes on. -/
theorem periodEnd_advances {s : State} {d : MeterDef} (y : List EmSamples) (run : s.mtr.running = true)
    (clk : s.runs .mtr = true) (live : s.dtLive = true) (hd : s.meter? = some d) (hp : 0 < s.mtr.perEnd) :
    (periodEnd s y).mtr.perEnd = s.mtr.perEnd + periodNs ∧ (periodEnd s y).mtr.blockStart = s.mtr.blockStart := by
  have due : (s.mtr.running && s.dtLive && s.runs .mtr && decide (0 < s.mtr.perEnd)) = true := by
    rw [run, live, clk, decide_eq_true hp]
    rfl
  unfold periodEnd
  split
  next undeclared => cases undeclared.symm.trans hd
  next e _ =>
  rw [if_pos due]
  refine ⟨rfl, (foldl_keeps Mtr.blockStart _ (fun m x => ?_) e.ems _).trans (congrArg Mtr.blockStart (s.advanceTo_mtr _))⟩
  exact (Mtr.atInstant_blockStart ..).trans (Mtr.addPeriod_blockStart ..)

end Sys2Proof.Machine
end

section
/-!
PROOFS. The block cell (11 R311, R315, R320) and the interval cell (11 R326, R327); the statement about metering.
-/
namespace Sys2Proof.Machine

@[simp] theorem begun_mtr (s : State) (e : Nat) (x : CombEntry) : (Claim.begun s e x).mtr = s.mtr := by
  obtain ⟨t, l, h⟩ := begun_only s e x
  rw [h]

@[simp] theorem begun_meter (s : State) (e : Nat) (x : CombEntry) : (Claim.begun s e x).meter? = s.meter? :=
  State.meter_congr (begun_sup s e x)

/-- Detectors that change raise an event at most. -/
theorem State.detEvent_only (s : State) (k i a b : Nat) : ∃ h, s.detEvent k i a b = { s with hst := h } := by
  unfold State.detEvent
  split
  · exact s.raise_only _ _
  · exact ⟨s.hst, rfl⟩

@[simp] theorem State.detEvent_mtr (s : State) (k i a b : Nat) : (s.detEvent k i a b).mtr = s.mtr := by
  obtain ⟨h, e⟩ := s.detEvent_only k i a b
  rw [e]
@[simp] theorem State.detEvent_comb (s : State) (k i a b : Nat) : (s.detEvent k i a b).comb = s.comb := by
  obtain ⟨h, e⟩ := s.detEvent_only k i a b
  rw [e]

/-! ## Block closures (11 R311) -/

/-- When the block under way began, and the instant of the items published last. -/
def State.blockMarks (s : State) : Nat × Option Nat := (s.mtr.blockStart, s.mtr.pubDt)

@[simp] theorem State.detEvent_blockMarks (s : State) (k i a b : Nat) : (s.detEvent k i a b).blockMarks = s.blockMarks := by
  unfold State.blockMarks
  rw [State.detEvent_mtr]

@[simp] theorem State.pruneSpans_blockMarks (s : State) (t : Nat) : (s.setMtr (s.mtr.pruneSpans t)).blockMarks = s.blockMarks := rfl

/-- What a closure works out for a system moves no block. -/
theorem State.emBlock_blockMarks (s : State) (d : EmDef) (x : EmSamples) (a c : Nat) :
    (s.emBlock d x a c).blockMarks = s.blockMarks := by
  unfold State.emBlock
  generalize List.range 18 = l
  extract_lets _ _ _ _ _ r
  split
  · have kept : r.2.blockMarks = s.blockMarks := by
      refine foldl_keeps (fun r : List Int × State => r.2.blockMarks) _ (fun _ _ => ?_) l ([], s)
      rfl
    clear_value r
    exact kept
  · exact State.detEvent_blockMarks ..

/-- What a closure works out for a point moves no block. -/
theorem State.tmItem_blockMarks (s : State) (d : TmDef) (x : ThermSrc) (ns : Nat) (dv de : Rat) :
    (s.tmItem d x ns dv de).blockMarks = s.blockMarks := by
  unfold State.tmItem
  extract_lets _ _ f _ s1
  have kept : s1.blockMarks = s.blockMarks := (apply_ite State.blockMarks _ f.2 s).trans (ite_self _)
  rw [State.detEvent_blockMarks]
  exact kept

/-- The block that closes at `c` is published for `c`, and the next one begins there. -/
theorem State.closeBlock_blockMarks {s : State} (h : s.mtr.cur.isSome = true) (d : MeterDef) (sys : List EmSamples) (c : Nat) :
    (s.closeBlock d sys c).blockMarks = (c, some c) := by
  obtain ⟨i, hi⟩ := Option.isSome_iff_exists.mp (State.intvTo_isOpen h c)
  unfold State.closeBlock
  extract_lets t
  rw [show t.mtr.cur = some i from hi]
  refine (State.pruneSpans_blockMarks _ _).trans ?_
  exact (foldl_keeps State.blockMarks _ (fun _ _ => State.tmItem_blockMarks ..) _ _).trans
    (foldl_keeps State.blockMarks _ (fun _ _ => State.emBlock_blockMarks ..) _ _)

/-- The items of a block that crossed too late are MISSING, and the cell stays open for them (11 R320). -/
def State.publishBlock (s : State) (e : Nat) (done : Bool) : State :=
  let s1 := s.setMtr { s.mtr with missing := !done }
  if done then s1 else s1.leaveOpen e 0x0C []

theorem State.publishBlock_mtr (s : State) (e : Nat) (done : Bool) :
    (s.publishBlock e done).mtr = { s.mtr with missing := !done } := by
  cases done <;> rfl

/-- While metering runs a block cell closes its block at its start tick. -/
theorem mtrBlockCell_of_opens {s : State} {e : Nat} {x : CombEntry} (o : Claim.Opens s e x 0x0C) (clk : s.runs .mtr = true)
    {d : MeterDef} (hd : s.meter? = some d) (run : s.mtr.running = true) (sys : List EmSamples) (done : Bool) :
    mtrBlockCell s e sys done = ((Claim.begun s e x).closeBlock d sys (s.cellStart x s.comb.k)).publishBlock e done := by
  unfold mtrBlockCell
  rw [State.withCell_of_opens_clocked o clk, begun_meter, hd]
  exact if_pos ((congrArg Mtr.running (begun_mtr s e x)).trans run)

/-! ## Closures of intervals (11 R326) -/

theorem forall_mem_updAt {α : Type} {p : α → Prop} {f : α → α} (hf : ∀ x, p x → p (f x)) {l : List α} (h : ∀ x ∈ l, p x)
    (k : Nat) : ∀ x ∈ updAt l k f, p x := by
  induction l generalizing k with
  | nil => exact h
  | cons y l ih =>
    obtain ⟨hy, hl⟩ := List.forall_mem_cons.mp h
    cases k with
    | zero => exact List.forall_mem_cons.mpr ⟨hf y hy, hl⟩
    | succ k => exact List.forall_mem_cons.mpr ⟨hy, ih hl k⟩

/-- The waiting intervals and the comb: what the writing of a record keeps. -/
def State.waitComb (s : State) : List Intv × CombSt := (s.mtr.wait, s.comb)

theorem State.writeBal_waitComb (s : State) (d : Option MeterDef) (i : Intv) (b : BalRun) :
    (s.writeBal d i b).waitComb = s.waitComb := by
  unfold State.writeBal State.waitComb
  rw [State.detEvent_mtr, State.detEvent_comb]
  rfl

theorem State.writeNext_waitComb (s : State) (i : Intv) : (s.writeNext i).waitComb = s.waitComb := by
  unfold State.writeNext
  extract_lets _ _ g
  split
  · rfl
  split
  · extract_lets s1 _
    have kept : s1.waitComb = s.waitComb := (apply_ite State.waitComb _ g.2 s).trans (ite_self _)
    exact kept
  split
  · exact State.writeBal_waitComb ..
  · rfl

/-- Every waiting interval that a block has closed has begun its closure. -/
def Mtr.Begun (m : Mtr) : Prop := ∀ i ∈ m.wait, i.thermDone = true → i.begun = true

/-- One record more of the waiting interval `k` is written. -/
def Mtr.countWritten (m : Mtr) (k : Nat) : Mtr := { m with wait := updAt m.wait k (fun x => { x with wrote := x.wrote + 1 }) }

theorem Mtr.countWritten_begun {m : Mtr} (h : m.Begun) (k : Nat) : (m.countWritten k).Begun := by
  refine forall_mem_updAt (p := fun i : Intv => i.thermDone = true → i.begun = true) (fun _ hx => ?_) h k
  exact hx

/-- Records written change neither which closures have begun nor the comb. -/
theorem State.writeRecords_keeps (n : Nat) {s : State} (h : s.mtr.Begun) :
    (State.writeRecords n s).mtr.Begun ∧ (State.writeRecords n s).comb = s.comb := by
  induction n generalizing s with
  | zero => exact ⟨h, rfl⟩
  | succ n ih =>
    unfold State.writeRecords
    split
    · exact ⟨h, rfl⟩
    next k i _ =>
      obtain ⟨hw, hc⟩ := Prod.mk.inj (s.writeNext_waitComb i)
      have begun : (s.writeNext i).mtr.Begun := by
        unfold Mtr.Begun
        rw [hw]
        exact h
      obtain ⟨keeps, comb⟩ := ih (s := (s.writeNext i).setMtr ((s.writeNext i).mtr.countWritten k)) (Mtr.countWritten_begun begun k)
      exact ⟨keeps, comb.trans hc⟩

/-- The closures of the intervals that a block has closed begin or resume. -/
def State.beginClosures (s : State) : State :=
  s.setMtr { s.mtr with wait := s.mtr.wait.map (fun i => if i.thermDone then { i with begun := true } else i) }

theorem State.beginClosures_begun (s : State) : s.beginClosures.mtr.Begun := by
  refine List.forall_mem_map.mpr fun i _ => ?_
  split
  · exact fun _ => rfl
  next h => exact fun done => absurd done h

/-- The waiting intervals of which not all records are written, or whose closure has not begun. -/
def Mtr.unfinished (m : Mtr) : List Intv := m.wait.filter (fun i => !(i.begun && decide (i.records ≤ i.wrote)))

theorem Mtr.mem_unfinished {m : Mtr} {i : Intv} (h : i ∈ m.unfinished) : i ∈ m.wait ∧ (i.begun = true → i.wrote < i.records) := by
  obtain ⟨waits, left⟩ := List.mem_filter.mp h
  exact ⟨waits, fun begun => by simpa [begun] using left⟩

/-- A closure that has begun and goes on after the cell is late. -/
def Intv.carried (i : Intv) : Intv := if i.begun then { i with late := true } else i

@[simp] theorem Intv.carried_begun (i : Intv) : i.carried.begun = i.begun := by
  unfold Intv.carried
  split <;> rfl
@[simp] theorem Intv.carried_thermDone (i : Intv) : i.carried.thermDone = i.thermDone := by
  unfold Intv.carried
  split <;> rfl
theorem Intv.carried_of_begun {i : Intv} (h : i.begun = true) : i.carried = { i with late := true } := if_pos h

/-- The end of an interval cell: finished closures leave, those begun and left unfinished keep the cell open. -/
def State.endClosures (s : State) (e : Nat) : State :=
  let s1 := s.setMtr { s.mtr with wait := s.mtr.unfinished.map Intv.carried }
  if s.mtr.unfinished.any (fun i => i.begun) then s1.leaveOpen e 0x0D [] else s1

/-- An interval cell begins what is due, writes records, and carries the rest over. -/
theorem mtrIntvCell_of_opens {s : State} {e : Nat} {x : CombEntry} (o : Claim.Opens s e x 0x0D) (clk : s.runs .mtr = true) (n : Nat) :
    mtrIntvCell s e n = (State.writeRecords n (Claim.begun s e x).beginClosures).endClosures e := by
  unfold mtrIntvCell
  rw [State.withCell_of_opens_clocked o clk]
  rfl

@[simp] theorem State.endClosures_wait (s : State) (e : Nat) : (s.endClosures e).mtr.wait = s.mtr.unfinished.map Intv.carried := by
  unfold State.endClosures
  extract_lets
  split <;> rfl

theorem State.endClosures_begun {s : State} (e : Nat) (h : s.mtr.Begun) : (s.endClosures e).mtr.Begun := by
  unfold Mtr.Begun
  rw [State.endClosures_wait]
  refine List.forall_mem_map.mpr fun i hi => ?_
  rw [Intv.carried_begun, Intv.carried_thermDone]
  exact h i (Mtr.mem_unfinished hi).1

/-- A closure that goes on after the cell is late and has records to write. -/
theorem State.endClosures_late (s : State) (e : Nat) :
    ∀ i ∈ (s.endClosures e).mtr.wait, i.begun = true → i.late = true ∧ i.wrote < i.records := by
  rw [State.endClosures_wait]
  refine List.forall_mem_map.mpr fun i hi begun => ?_
  rw [Intv.carried_begun] at begun
  rw [Intv.carried_of_begun begun]
  exact ⟨rfl, (Mtr.mem_unfinished hi).2 begun⟩

/-- The cell stays open exactly for begun closures that go on. -/
theorem State.endClosures_open {s : State} (e : Nat) (h : s.comb.open_ = []) :
    (s.endClosures e).comb.open_ = [] ↔ ∀ i ∈ (s.endClosures e).mtr.wait, i.begun = false := by
  have none_begun : (∀ i ∈ (s.endClosures e).mtr.wait, i.begun = false) ↔ s.mtr.unfinished.any (fun i => i.begun) = false := by
    simp only [State.endClosures_wait, List.forall_mem_map, Intv.carried_begun, List.any_eq_false, Bool.not_eq_true]
  rw [none_begun]
  unfold State.endClosures
  extract_lets s1
  split
  next some_begun =>
    exact ⟨fun closed => absurd closed (List.cons_ne_nil _ _), fun unbegun => absurd (unbegun.symm.trans some_begun) Bool.false_ne_true⟩
  next unbegun => exact ⟨fun _ => Bool.eq_false_iff.mpr unbegun, fun _ => h⟩

/-- Settles O45: stopped metering keeps everything; a pulse, a fault, a period and a boundary by their own rules; the block cell by
`State.closeBlock_blockMarks`, the interval cell by what `State.endClosures` carries over. -/
theorem meteringFollowsBlocks : Obligations.MeteringFollowsBlocks := by
  unfold Obligations.MeteringFollowsBlocks
  intro s
  refine ⟨fun stopped p u y c hc => ?stopped, fun run clk live => ⟨?pulse, ?fault, ?resume, ?period, ?boundary⟩,
    fun e x clk => ⟨?block, ?interval⟩⟩
  case stopped =>
    simp only [List.mem_cons, List.not_mem_nil, or_false] at hc
    rcases hc with rfl | rfl | rfl | rfl | rfl
    · exact congrArg Host.Outcome.next (pinPulse_stopped stopped p u)
    · exact congrArg Host.Outcome.next (mdFault_stopped stopped p u)
    · exact congrArg Host.Outcome.next (mdResume_stopped stopped p u)
    · exact congrArg Host.Outcome.next (periodEnd_stopped stopped y)
    · exact congrArg Host.Outcome.next (intervalBoundary_stopped stopped)
  case pulse =>
    intro p u i hc hw h
    refine ⟨_, _, rfl, congrArg Mtr.cur (pinPulse_joins p run clk live hc hw h),
      SMap.get_set_same dNat i.pulses p (SMap.get dNat i.pulses p + 1), fun r hr => ?_⟩
    exact SMap.get_set_other dNat i.pulses p r (SMap.get dNat i.pulses p + 1) hr
  case fault =>
    intro m u hm
    refine ⟨_, rfl, ?_⟩
    split
    next a l open_ => exact mdFault_open u run clk hm open_
    next closed =>
      rw [mdFault_opens u run clk hm closed]
      exact ⟨SMap.get_set_same dSpans s.mtr.flt m ((u, none) :: SMap.get dSpans s.mtr.flt m), rfl⟩
  case resume =>
    intro m u a l h
    refine ⟨_, rfl, ?_⟩
    rw [mdResume_closes u run clk h]
    exact ⟨SMap.get_set_same dSpans s.mtr.flt m ((a, some u) :: l), rfl⟩
  case period => exact fun y d hd hp => ⟨_, rfl, periodEnd_advances y run clk live hd hp⟩
  case boundary =>
    intro i d hc hd hl
    obtain ⟨j, opened⟩ := intervalBoundary_opens run clk live hc hd hl
    exact ⟨_, j, rfl, opened⟩
  case block =>
    intro o y done d i hd run hc
    have isOpen : (Claim.begun s e x).mtr.cur.isSome = true := by rw [begun_mtr, hc]; rfl
    obtain ⟨start, published⟩ := Prod.mk.inj (State.closeBlock_blockMarks isOpen d y (s.cellStart x s.comb.k))
    refine ⟨_, congrArg Host.Outcome.next (mtrBlockCell_of_opens o clk hd run y done), ?_⟩
    rw [State.publishBlock_mtr]
    exact ⟨start, published, rfl, fun late => by subst late; exact List.mem_cons_self⟩
  case interval =>
    intro o n
    obtain ⟨begun, comb⟩ := State.writeRecords_keeps n (Claim.begun s e x).beginClosures_begun
    refine ⟨_, congrArg Host.Outcome.next (mtrIntvCell_of_opens o clk n), State.endClosures_begun e begun,
      State.endClosures_late _ e, fun clear => State.endClosures_open e ?_⟩
    rw [comb]
    exact (congrArg CombSt.open_ (begun_comb s e x)).trans clear

end Sys2Proof.Machine
end

section
/-!
PROOFS. What service of the host's rings leaves of the CAN controllers (16 R425): frames received go to their buffers, and
the counts of frames received stay.
-/
namespace Sys2Proof.Machine

/-- Iteration keeps what its function keeps. -/
theorem iter_keeps {α β : Type} (g : α → β) (f : α → Option α) (h : ∀ {x y}, f x = some y → g y = g x) (n : Nat) (x : α) :
    g (iter n f x) = g x := by
  induction n generalizing x with
  | zero => rfl
  | succ n ih =>
    unfold iter
    split
    · rfl
    next y e => rw [ih y, h e]

/-! ## Operations that leave the controllers as they were -/

@[simp] theorem State.advanceTo_can (s : State) (t : Nat) : (s.advanceTo t).can = s.can := by
  obtain ⟨_, _, e⟩ := s.advanceTo_only t; rw [e]
@[simp] theorem State.raise_can (s : State) (n r : Nat) : (s.raise n r).can = s.can := by
  obtain ⟨_, e⟩ := s.raise_only n r; rw [e]
@[simp] theorem State.raiseRec_can (s : State) (n r v b : Nat) : (s.raiseRec n r v b).can = s.can := by
  obtain ⟨_, _, e⟩ := s.raiseRec_only n r v b; rw [e]
@[simp] theorem State.postEvent_can (s : State) (e : Event) : (s.postEvent e).can = s.can := by
  obtain ⟨_, h⟩ := s.postEvent_only e; rw [h]
@[simp] theorem State.postCpl_can (s : State) (c : Cpl) : (s.postCpl c).can = s.can := by
  obtain ⟨_, e⟩ := s.postCpl_only c; rw [e]
@[simp] theorem State.queueCpl_can (s : State) (c : Cpl) : (s.queueCpl c).can = s.can := by
  obtain ⟨_, e⟩ := s.queueCpl_only c; rw [e]
@[simp] theorem State.streamCpl_can (s : State) (q st r0 r1 t : Nat) : (s.streamCpl q st r0 r1 t).can = s.can :=
  State.queueCpl_can ..
@[simp] theorem State.openWindow_can (s : State) (n q p t : Nat) : (s.openWindow n q p t).can = s.can := State.updStn_can ..
@[simp] theorem State.closeWindow_can (s : State) (n t : Nat) : (s.closeWindow n t).can = s.can := State.updStn_can ..

/-- A transfer takes time of the open HST cell. -/
theorem State.hostTime_can {s t : State} {c : Nat} {rd : Bool} (h : s.hostTime c rd = some t) : t.can = s.can := by
  unfold State.hostTime at h
  split at h
  · cases h; rfl
  split at h
  · cases h
  · obtain ⟨-, h⟩ := Option.ite_none_right_eq_some.mp h
    cases h
    rfl

/-! ## Posting (16 R422, R425) -/

theorem State.fitBatch_can {s t : State} {b n : Nat} (h : s.fitBatch b = some (n, t)) : t.can = s.can := by
  induction b with
  | zero => cases h
  | succ b ih =>
    unfold State.fitBatch at h
    split at h
    next u fits => cases h; exact State.hostTime_can fits
    · exact ih h

theorem postCplOnce_can {s t : State} (h : postCplOnce s = some t) : t.can = s.can := by
  unfold postCplOnce at h
  split at h
  · cases h
  split at h
  · cases h; exact State.postCpl_can ..
  split at h
  · split at h <;> cases h
    next fits => exact (State.hostTime_can fits :)
  · split at h <;> cases h
    next fits => exact (foldl_keeps State.can _ State.postCpl_can _ _).trans (State.fitBatch_can fits :)

theorem postEventOnce_can {s t : State} (h : postEventOnce s = some t) : t.can = s.can := by
  unfold postEventOnce at h
  split at h
  · cases h
  dsimp only at h
  split at h <;> cases h
  next fits => exact (foldl_keeps State.can _ State.postEvent_can _ _).trans (State.fitBatch_can fits :)

@[simp] theorem State.postAll_can (s : State) : s.postAll.can = s.can :=
  (iter_keeps State.can _ postEventOnce_can _ _).trans (iter_keeps State.can _ postCplOnce_can _ _)

/-! ## Fetching (16 R425) -/

theorem State.issueBatch_can {s t : State} {q : Nat} (h : s.issueBatch q = some t) : t.can = s.can := by
  unfold State.issueBatch at h
  split at h
  · cases h
  obtain ⟨-, h⟩ := Option.ite_none_left_eq_some.mp h
  split at h <;> cases h
  next fits => exact (State.hostTime_can fits :)

@[simp] theorem State.latchAll_can (s : State) : s.latchAll.can = s.can := rfl

theorem fetchPass_can {s t : State} (h : fetchPass s = some t) : t.can = s.can := by
  unfold fetchPass at h
  obtain ⟨-, h⟩ := Option.ite_none_right_eq_some.mp h
  rw [← Option.some.inj h]
  refine foldl_keeps (fun p : State × Bool => p.1.can) _ (fun p q => ?_) (List.range 64) (s.latchAll, false)
  split
  next issued => exact State.issueBatch_can issued
  · rfl

@[simp] theorem State.fetchPasses_can (s : State) : s.fetchPasses.can = s.can := by
  rw [State.fetchPasses, State.latchAll_can, iter_keeps State.can fetchPass fetchPass_can]

/-! ## Ethernet streams (13 R363; 16 R423) -/

@[simp] theorem State.withhold_can (s : State) (d : EthPortDef) : (s.withhold d).can = s.can := by
  unfold State.withhold
  dsimp only
  split <;> rfl

@[simp] theorem State.usePn_can (s : State) (d : EthPortDef) : (s.usePn d).can = s.can := by
  unfold State.usePn
  split
  · rfl
  dsimp only
  split
  · exact State.raise_can ..
  · rfl

@[simp] theorem State.ethPump_can (s : State) (p : Nat) : (s.ethPump p).can = s.can := by
  unfold State.ethPump
  split
  · rfl
  dsimp only
  split
  · exact s.withhold_can _
  split
  · exact s.withhold_can _
  split <;> simp

@[simp] theorem State.sendHost_can (s : State) (q : Nat) (e : SqEntry) : (s.sendHost q e).can = s.can := by
  unfold State.sendHost
  split
  · exact State.streamCpl_can ..
  · exact State.ethPump_can ..

theorem ethTxOnce_can {s t : State} {q : Nat} (h : ethTxOnce q s = some t) : t.can = s.can := by
  unfold ethTxOnce at h
  split at h
  · cases h
  split at h
  · cases h
  split at h <;> cases h
  next fits => exact (State.sendHost_can ..).trans (State.hostTime_can fits :)

@[simp] theorem State.sendTx_can (s : State) : s.sendTx.can = s.can := by
  refine foldl_keeps State.can _ (fun t q => ?_) _ s
  split
  · exact iter_keeps State.can _ ethTxOnce_can _ t
  · rfl

theorem ethRxOnce_can {s t : State} {q : Nat} (h : ethRxOnce q s = some t) : t.can = s.can := by
  unfold ethRxOnce at h
  split at h
  · cases h
  split at h
  · split at h
    · split at h <;> cases h
      next fits => exact (State.streamCpl_can ..).trans (State.hostTime_can fits :)
    · cases h
  · cases h

/-! ## CAN streams (16 R423; 12 R342) -/

@[simp] theorem State.endCanBuf_can (s : State) (q t : Nat) : (s.endCanBuf q t).can = s.can := by
  unfold State.endCanBuf
  split
  · rfl
  split
  · rfl
  · exact State.streamCpl_can ..

@[simp] theorem State.closeCan_can (s : State) : s.closeCan.can = s.can := by
  unfold State.closeCan
  split
  · split
    · exact foldl_keeps State.can _ (fun t _ => t.endCanBuf_can _ _) _ s
    · rfl
  · rfl

/-- RXOK of every controller. -/
def State.rxoks (s : State) : List Nat := s.can.ch.map CanCh.rxok

theorem State.rxoks_congr {s t : State} (h : t.can = s.can) : t.rxoks = s.rxoks := by unfold State.rxoks; rw [h]

theorem State.canCh_congr {s t : State} (h : t.can = s.can) (c : Nat) : t.canCh c = s.canCh c := by unfold State.canCh; rw [h]

/-- The count of one controller is that of the list of counts. -/
theorem State.canCh_rxok (s : State) (c : Nat) : (s.canCh c).rxok = s.rxoks.getD c CanCh.reset.rxok := by
  rw [State.rxoks, List.getD_eq_getElem?_getD, List.getElem?_map, Option.getD_map, ← List.getD_eq_getElem?_getD, State.canCh]

theorem State.setCan_rxoks {s : State} {c : Nat} {x : CanCh} (h : x.rxok = (s.canCh c).rxok) : (s.setCan c x).rxoks = s.rxoks :=
  map_updAt_of_eq CanCh.rxok s.can.ch c x CanCh.reset h

theorem canRxOnce_rxoks {s t : State} {q : Nat} (h : canRxOnce q s = some t) : t.rxoks = s.rxoks := by
  unfold canRxOnce at h
  split at h
  · cases h
  split at h
  · split at h
    next fits =>
      cases h
      have copied : ∀ (c : Nat) (u : State) (l : List CanObj), (u.setCan c { u.canCh c with rx := l }).rxoks = u.rxoks :=
        fun c u l => State.setCan_rxoks rfl
      have same := State.rxoks_congr (State.hostTime_can fits)
      split
      · exact (State.rxoks_congr (State.endCanBuf_can ..)).trans ((copied ..).trans same)
      · exact (copied ..).trans same
    · cases h
  · cases h

/-- Copying frames received takes them out of their objects, and uncounts none. -/
theorem State.copyRx_rxoks (s : State) : s.copyRx.rxoks = s.rxoks := by
  refine foldl_keeps State.rxoks _ (fun t q => ?_) _ s
  have taken := iter_keeps State.rxoks (canRxOnce q.id) canRxOnce_rxoks 7168 t
  split
  · dsimp only
    split
    · exact (State.rxoks_congr (State.endCanBuf_can ..)).trans taken
    · exact taken
  split
  · exact State.rxoks_congr (iter_keeps State.can _ ethRxOnce_can 8192 t)
  · rfl

theorem State.serve_rxoks (s : State) : s.serve.rxoks = s.rxoks := by
  unfold State.serve
  split
  · calc _ = s.closeCan.copyRx.rxoks := State.rxoks_congr (by simp)
      _ = s.closeCan.rxoks := State.copyRx_rxoks _
      _ = s.rxoks := State.rxoks_congr s.closeCan_can
  · rfl

end Sys2Proof.Machine
end

section
/-!
PROOFS. CAN controllers (12 R344, R347, R350, R351, R353): frames sent and returned, errors and bus-off, recovery, reception,
the wake frame of C00.
-/
namespace Sys2Proof.Machine

/-- No station cell is open, none ends. -/
theorem State.endStnCells_none {s : State} (h : s.stn.cells = []) (t : Nat) : s.endStnCells t = s := by
  unfold State.endStnCells; rw [h]; rfl

/-! ## The controllers as a list -/

theorem updAt_length {α : Type} (l : List α) (i : Nat) (f : α → α) : (updAt l i f).length = l.length := by
  induction l generalizing i with
  | nil => rfl
  | cons y l ih => cases i with
    | zero => rfl
    | succ i => exact congrArg (· + 1) (ih i)

@[simp] theorem State.setCan_length (s : State) (c : Nat) (x : CanCh) : (s.setCan c x).can.ch.length = s.can.ch.length :=
  updAt_length ..

@[simp] theorem State.advanceTo_canCh (s : State) (t c : Nat) : (s.advanceTo t).canCh c = s.canCh c :=
  State.canCh_congr (s.advanceTo_can t) c

@[simp] theorem State.writeDone_can (s : State) (n q : Nat) (late : Bool) : (s.writeDone n q late).can = s.can := by
  unfold State.writeDone
  dsimp only
  split <;> exact State.updStn_can ..

@[simp] theorem State.writeFails_can (s : State) (n : Nat) : (s.writeFails n).can = s.can :=
  State.updStn_can s n _

/-- Leaving error passive changes the error state alone. -/
theorem CanCh.settleOk_only (x : CanCh) : ∃ e, x.settleOk = { x with est := e } := by
  unfold CanCh.settleOk
  split <;> exact ⟨_, rfl⟩

/-! ## Transmission (12 R347) -/

/-- The head of the queue is the frame on the bus, the rest of the queue waits. -/
theorem State.canStart_sends {s : State} {c : Nat} {o : CanObj} {r : List CanObj} (t : Nat) (hc : c < s.can.ch.length)
    (h : (s.canCh c).armed = o :: r) : ((s.canStart c t).canCh c).tx = some o ∧ ((s.canStart c t).canCh c).armed = r := by
  obtain ⟨n, e⟩ : ∃ n, (s.canStart c t).can = ((s.advanceTo t).setCan c { s.canCh c with armed := r, tx := some o, retry := n }).can := by
    unfold State.canStart
    simp only [State.advanceTo_canCh, h]
    split
    · exact ⟨_, foldl_keeps State.can _ (fun u (d : StnDef) => u.closeWindow_can d.stn t) _ _⟩
    · exact ⟨_, rfl⟩
  rw [State.canCh_congr e, State.setCan_same _ _ _ (by simpa using hc)]
  exact ⟨rfl, rfl⟩

/-- A frame completed leaves the bus, is counted and takes one off TEC (12 R346, R350). -/
theorem State.canDone_counts {s : State} {c : Nat} {o : CanObj} (t : Nat) (hc : c < s.can.ch.length) (h : (s.canCh c).tx = some o) :
    ((s.canDone c t).canCh c).tx = none ∧ ((s.canDone c t).canCh c).txok = min ((s.canCh c).txok + 1) max32 ∧
      ((s.canDone c t).canCh c).tec = (s.canCh c).tec - 1 := by
  have done : (s.canDone c t).can = ((s.advanceTo t).setCan c
      ({ s.canCh c with tx := none, txok := satAdd max32 (s.canCh c).txok 1, tec := (s.canCh c).tec - 1, headSince := t,
                        tried := false }).settleOk).can := by
    unfold State.canDone
    simp only [State.advanceTo_canCh, h]
    split
    · exact foldl_keeps State.can _ (fun u (d : StnDef) => u.openWindow_can d.stn _ _ t) _ _
    · exact State.writeDone_can ..
    · rfl
  rw [State.canCh_congr done, State.setCan_same _ _ _ (by simpa using hc)]
  obtain ⟨e, settled⟩ := CanCh.settleOk_only _
  rw [settled, ← satAdd_eq_min]
  exact ⟨rfl, rfl, rfl⟩

/-- The frame on the bus is the head of the queue again; a late WRITE carries LATE from then on (10 R293). -/
theorem State.canBack_returns {s : State} {c : Nat} {o : CanObj} (h : (s.canCh c).tx = some o) :
    ∃ p, p.use = o.use ∧
      (s.canBack c).can = (s.setCan c { s.canCh c with tx := none, tried := true, armed := p :: (s.canCh c).armed }).can := by
  unfold State.canBack
  rw [h]
  dsimp only
  split
  · split
    · exact ⟨{ o with late := true, data := _ }, rfl, State.writeFails_can ..⟩
    · exact ⟨o, rfl, rfl⟩
  · exact ⟨o, rfl, rfl⟩

theorem State.canBack_none {s : State} {c : Nat} (h : (s.canCh c).tx = none) : s.canBack c = s := by
  unfold State.canBack; rw [h]

/-- Whether a frame was on the bus or not, none is afterwards, and the queue and its head's attempt are all that changed. -/
theorem State.canBack_canCh {s : State} {c : Nat} (hc : c < s.can.ch.length) :
    (s.canBack c).can.ch.length = s.can.ch.length ∧
      ∃ a d, (s.canBack c).canCh c = { s.canCh c with tx := none, tried := d, armed := a } := by
  cases h : (s.canCh c).tx with
  | none =>
    rw [State.canBack_none h, ← h]
    exact ⟨rfl, _, _, rfl⟩
  | some o =>
    obtain ⟨p, -, e⟩ := State.canBack_returns h
    rw [State.canCh_congr e, e, State.setCan_same _ _ _ hc]
    exact ⟨State.setCan_length .., _, _, rfl⟩

/-! ## Fault confinement (12 R350) -/

/-- TEC above 255 is bus-off: what was on the bus waits again, and bus-offs are counted. -/
theorem State.canConfine_busOff {s : State} {c : Nat} (t : Nat) (hc : c < s.can.ch.length) (h : 255 < (s.canCh c).tec) :
    ∃ a d, (s.canConfine c t).canCh c = { s.canCh c with
      tx := none, tried := d, armed := a, est := .boffWait, boffAt := t, boffcnt := min ((s.canCh c).boffcnt + 1) 255 } := by
  obtain ⟨len, a, d, back⟩ := State.canBack_canCh hc
  refine ⟨a, d, ?_⟩
  unfold State.canConfine
  dsimp only
  rw [if_pos h, State.canCh_congr (State.raiseRec_can ..), State.setCan_same _ _ _ (len ▸ hc), back, satAdd_eq_min]

/-- Below that only error passive may be entered. -/
theorem State.canConfine_on {s : State} {c : Nat} (t : Nat) (hc : c < s.can.ch.length) (h : (s.canCh c).tec ≤ 255) :
    ∃ e, (s.canConfine c t).canCh c = { s.canCh c with est := e } := by
  unfold State.canConfine
  dsimp only
  rw [if_neg (Nat.not_lt.mpr h)]
  split
  · rw [State.canCh_congr (State.raise_can ..), State.setCan_same _ _ _ hc]
    exact ⟨_, rfl⟩
  · exact ⟨_, rfl⟩

/-- The counters and the last error stay as confinement found them. -/
theorem State.canConfine_keeps {s : State} {c : Nat} (t : Nat) (hc : c < s.can.ch.length) :
    ((s.canConfine c t).canCh c).tec = (s.canCh c).tec ∧ ((s.canConfine c t).canCh c).rxec = (s.canCh c).rxec ∧
      ((s.canConfine c t).canCh c).lec = (s.canCh c).lec ∧
      ((s.canCh c).tx = none → ((s.canConfine c t).canCh c).tx = none) := by
  rcases Nat.lt_or_ge 255 (s.canCh c).tec with h | h
  · obtain ⟨a, d, e⟩ := State.canConfine_busOff t hc h
    rw [e]
    exact ⟨rfl, rfl, rfl, fun _ => rfl⟩
  · obtain ⟨x, e⟩ := State.canConfine_on t hc h
    rw [e]
    exact ⟨rfl, rfl, rfl, id⟩

/-- An error that a controller on the bus meets is counted where the frame was, and confinement follows. -/
theorem State.canFault_met {s : State} {c : Nat} {f : CanFault} (t : Nat) (run : s.canNormal c = true) (hi : f.inc ∈ [0, 1, 8])
    (he : (s.canCh c).est = .active ∨ (s.canCh c).est = .passive) (ht : f.sending = true → (s.canCh c).tx.isSome = true) :
    s.canFault c t f =
      let u := if f.sending then (s.advanceTo t).canBack c else s.advanceTo t
      (u.setCan c (if f.sending then { u.canCh c with tec := (u.canCh c).tec + f.inc, lec := f.lec }
        else { u.canCh c with rxec := satAdd 255 (u.canCh c).rxec f.inc, lec := f.lec })).canConfine c t := by
  have known : [0, 1, 8].contains f.inc = true := List.contains_iff_mem.mpr hi
  have idle : (f.sending && (s.canCh c).tx.isNone) = false := by
    cases hs : f.sending
    · rfl
    · rw [← Option.not_isSome, ht hs]; rfl
  have on : ¬((s.canCh c).est = .boffWait || (s.canCh c).est = .boffRec) = true := by
    rcases he with he | he <;> simp [he]
  unfold State.canFault
  rw [if_neg (by simp only [run, known]; decide), if_neg (by rw [idle]; decide), if_neg on]

/-- An error in a frame received counts in REC, and confinement keeps the count. -/
theorem State.canFault_receiving {s : State} {c : Nat} {f : CanFault} (t : Nat) (hc : c < s.can.ch.length)
    (run : s.canNormal c = true) (hi : f.inc ∈ [0, 1, 8]) (he : (s.canCh c).est = .active ∨ (s.canCh c).est = .passive)
    (hs : f.sending = false) :
    ((s.canFault c t f).canCh c).rxec = min ((s.canCh c).rxec + f.inc) 255 ∧ ((s.canFault c t f).canCh c).lec = f.lec := by
  have met := State.canFault_met t run hi he (by simp [hs])
  simp only [hs, Bool.false_eq_true, if_false, State.advanceTo_canCh] at met
  obtain ⟨u, inside, counted, confined⟩ : ∃ u : State, c < u.can.ch.length ∧
      u.canCh c = { s.canCh c with rxec := satAdd 255 (s.canCh c).rxec f.inc, lec := f.lec } ∧
      s.canFault c t f = u.canConfine c t :=
    ⟨_, by simpa using hc, State.setCan_same _ _ _ (by simpa using hc), met⟩
  obtain ⟨-, rxec, lec, -⟩ := State.canConfine_keeps t inside
  rw [confined, rxec, lec, counted, ← satAdd_eq_min]
  exact ⟨rfl, rfl⟩

/-- An error in the frame sent returns it to the queue and counts in TEC, before confinement. -/
theorem State.canFault_sending_counts {s : State} {c : Nat} {f : CanFault} (t : Nat) (hc : c < s.can.ch.length)
    (run : s.canNormal c = true) (hi : f.inc ∈ [0, 1, 8]) (he : (s.canCh c).est = .active ∨ (s.canCh c).est = .passive)
    (hs : f.sending = true) (ht : (s.canCh c).tx.isSome = true) :
    ∃ (u : State) (a : List CanObj) (d : Bool), c < u.can.ch.length ∧
      u.canCh c = { s.canCh c with tx := none, tried := d, armed := a, tec := (s.canCh c).tec + f.inc, lec := f.lec } ∧
      s.canFault c t f = u.canConfine c t := by
  obtain ⟨len, a, d, back⟩ := State.canBack_canCh (s := s.advanceTo t) (c := c) (by simpa using hc)
  rw [State.advanceTo_canCh] at back
  have inside : c < ((s.advanceTo t).canBack c).can.ch.length := by rw [len]; simpa using hc
  have met := State.canFault_met t run hi he (fun _ => ht)
  simp only [hs, if_true, back] at met
  exact ⟨_, a, d, by simpa using inside, State.setCan_same _ _ _ inside, met⟩

/-- Above 255 of TEC the error in the frame sent is bus-off. -/
theorem State.canFault_sending {s : State} {c : Nat} {f : CanFault} (t : Nat) (hc : c < s.can.ch.length)
    (run : s.canNormal c = true) (hi : f.inc ∈ [0, 1, 8]) (he : (s.canCh c).est = .active ∨ (s.canCh c).est = .passive)
    (hs : f.sending = true) (ht : (s.canCh c).tx.isSome = true) :
    ((s.canFault c t f).canCh c).tx = none ∧ ((s.canFault c t f).canCh c).tec = (s.canCh c).tec + f.inc ∧
      (255 < (s.canCh c).tec + f.inc → ((s.canFault c t f).canCh c).est = .boffWait ∧
        ((s.canFault c t f).canCh c).boffcnt = min ((s.canCh c).boffcnt + 1) 255) := by
  obtain ⟨u, a, d, inside, counted, confined⟩ := State.canFault_sending_counts t hc run hi he hs ht
  obtain ⟨tec, -, -, tx⟩ := State.canConfine_keeps t inside
  rw [confined]
  rw [counted] at tec tx
  refine ⟨tx rfl, tec, fun h => ?_⟩
  obtain ⟨a', d', off⟩ := State.canConfine_busOff t inside (by rw [counted]; exact h)
  rw [off, counted]
  exact ⟨rfl, rfl⟩

/-! ## Recovery (12 R351) -/

/-- Recovery starts at an instant of its own, RECOV_MS after bus-off. -/
theorem State.boffStart_starts {s : State} {c : Nat} {d : CanChDef} (up : s.canUp c = true) (hd : s.canDef? c = some d)
    (he : (s.canCh c).est = .boffWait) :
    ∃ t, s.boffStart c = (s.advanceTo t).setCan c { s.canCh c with est := .boffRec, recAt := (s.advanceTo t).tim.dt } := by
  refine ⟨(s.canCh c).boffAt + d.recovMs * 1000000, ?_⟩
  unfold State.boffStart
  simp only [hd, up, he, decide_true, Bool.and_self, if_true, State.advanceTo_canCh]

/-- Recovery starts, and notes when. -/
theorem State.boffStart_recovers {s : State} {c : Nat} {d : CanChDef} (hc : c < s.can.ch.length) (up : s.canUp c = true)
    (hd : s.canDef? c = some d) (he : (s.canCh c).est = .boffWait) :
    ((s.boffStart c).canCh c).est = .boffRec ∧ ((s.boffStart c).canCh c).recAt = (s.boffStart c).tim.dt := by
  obtain ⟨t, e⟩ := State.boffStart_starts up hd he
  rw [e, State.setCan_same _ _ _ (by simpa using hc), State.setCan_tim]
  exact ⟨rfl, rfl⟩

/-- Recovery that has lasted its least duration ends with both counters cleared. -/
theorem State.boffEnd_recovered {s : State} {c t : Nat} {d : CanChDef} (hc : c < s.can.ch.length) (up : s.canUp c = true)
    (hd : s.canDef? c = some d) (he : (s.canCh c).est = .boffRec) (ht : (s.canCh c).recAt + d.recovery ≤ t) :
    (s.boffEnd c t).canCh c = { s.canCh c with est := .active, tec := 0, rxec := 0 } := by
  unfold State.boffEnd
  simp only [hd, up, he, ht, decide_true, Bool.and_self, if_true, State.advanceTo_canCh]
  rw [State.canCh_congr (State.raise_can ..), State.setCan_same _ _ _ (by simpa using hc)]

theorem State.boffEnd_early {s : State} {c t : Nat} {d : CanChDef} (hd : s.canDef? c = some d)
    (ht : ¬(s.canCh c).recAt + d.recovery ≤ t) : s.boffEnd c t = s := by
  unfold State.boffEnd
  simp only [hd, ht, decide_false, Bool.and_false, Bool.false_eq_true, if_false]

/-! ## Reception (12 R344) -/

/-- A frame received without error moves REC, and counts nothing yet. -/
theorem State.recOk_rxoks (s : State) (c : Nat) : (s.recOk c).rxoks = s.rxoks := by
  have settled : ∀ (x : CanCh), x.settleOk.rxok = x.rxok := fun x => by
    obtain ⟨e, h⟩ := x.settleOk_only; rw [h]
  unfold State.recOk
  dsimp only
  split
  · refine (State.setCan_rxoks (s := s.freshNat.2) ?_).trans rfl
    exact settled _
  · refine State.setCan_rxoks ?_
    exact settled _

theorem State.canDrop_rxoks (s : State) (c : Nat) : (s.canDrop c).rxoks = s.rxoks := State.setCan_rxoks rfl

/-- A frame received is counted, whether the station engine, the host or nobody takes it. -/
theorem State.canReceive_rxoks {s : State} {c : Nat} {d : CanChDef} (t : Nat) (f : CanFrame) (up : s.canUp c = true)
    (hd : s.canDef? c = some d) (he : (s.canCh c).est = .active ∨ (s.canCh c).est = .passive) :
    ∃ u : State, u.rxoks = s.rxoks ∧
      (s.canReceive c t f).rxoks = (u.setCan c { u.canCh c with rxok := satAdd max32 (u.canCh c).rxok 1 }).rxoks := by
  have on : ¬(!s.canUp c || (s.canCh c).est = .boffWait || (s.canCh c).est = .boffRec) = true := by
    rcases he with he | he <;> simp [he, up]
  unfold State.canReceive
  rw [hd]
  dsimp -zeta only
  rw [if_neg on]
  extract_lets s0 s1 found s2
  refine ⟨s1, ?before, ?taken⟩
  case before =>
    have moved := State.rxoks_congr (s.advanceTo_can t)
    unfold s1
    split
    · exact moved
    · exact (State.recOk_rxoks ..).trans moved
  case taken =>
    change _ = s2.rxoks
    generalize (if d.monitor then none else s2.wfpForm c f) = form
    clear_value s2
    rcases form with _ | ⟨ty, ad⟩ <;> dsimp only
    · split
      · exact State.setCan_rxoks rfl
      split
      · exact State.setCan_rxoks rfl
      · exact State.canDrop_rxoks ..
    · split
      · exact State.canDrop_rxoks ..
      · rfl

/-- RXOK counts a frame received, and service of the rings after it leaves the count. -/
theorem State.canReceive_serve_rxok {s : State} {c : Nat} {d : CanChDef} (t : Nat) (f : CanFrame) (hc : c < s.can.ch.length)
    (up : s.canUp c = true) (hd : s.canDef? c = some d) (he : (s.canCh c).est = .active ∨ (s.canCh c).est = .passive) :
    ((s.canReceive c t f).serve.canCh c).rxok = min ((s.canCh c).rxok + 1) max32 := by
  obtain ⟨u, same, counted⟩ := State.canReceive_rxoks t f up hd he
  have len : u.can.ch.length = s.can.ch.length := by simpa [State.rxoks] using congrArg List.length same
  rw [State.canCh_rxok, State.serve_rxoks, counted, ← State.canCh_rxok, State.setCan_same _ _ _ (len ▸ hc), ← satAdd_eq_min,
    u.canCh_rxok, same, ← s.canCh_rxok]

/-! ## A start (19 R498 to R500) and the wake frame (12 R353) -/

theorem Mgt.start_run (m : Mgt) (cold : Bool) : (m.start cold).run = .init := by
  unfold Mgt.start
  dsimp only
  split <;> rfl

/-- A start is one of power, kind and run state. -/
theorem started_congr {s t : State} {k : Nat} (hp : t.pwr = s.pwr) (hm : t.mgt = s.mgt) (h : Claim.Started s k) :
    Claim.Started t k := by
  unfold Claim.Started at *
  rwa [hp, hm]

/-- The event and the record that go with a start leave it a start. -/
theorem started_announced {s : State} {k : Nat} (h : Claim.Started s k) (off armed : Prop) [Decidable off] [Decidable armed]
    (n r v b : Nat) :
    Claim.Started (if armed then (if off then s.raise n r else s).unitRec v b else if off then s.raise n r else s) k := by
  have raised : Claim.Started (if off then s.raise n r else s) k := by
    split
    · obtain ⟨x, e⟩ := s.raise_only n r
      exact started_congr (by rw [e]) (by rw [e]) h
    · exact h
  generalize (if off then s.raise n r else s) = u at raised
  split
  · obtain ⟨x, y, e⟩ := u.unitRec_only v b
    exact started_congr (by rw [e]) (by rw [e]) raised
  · exact raised

/-- Every kind of start powers the islands and leaves the device in INIT. -/
theorem State.startUp_started (s : State) (k : Nat) : Claim.Started (s.startUp k) k := by
  unfold State.startUp
  exact started_announced ⟨rfl, rfl, Mgt.start_run ..⟩ ..

/-- A wake source in orderly DORMANT starts the device, or waits for VIN. -/
theorem State.wakeBy_dormant {s : State} (w : WakeSrc) (h : s.pwr.power = .dormantOrderly) :
    if s.pwr.vin then Claim.Started (s.wakeBy w) 4 else (s.wakeBy w).pwr.wakePending = some (s.pwr.wakePending.getD w) := by
  unfold State.wakeBy
  rw [if_neg (not_not_intro h)]
  dsimp only
  split
  · exact State.startUp_started ..
  · rfl

theorem State.wakeBy_awake {s : State} (w : WakeSrc) (h : s.pwr.power ≠ .dormantOrderly) : s.wakeBy w = s := if_pos h

@[simp] theorem State.advanceTo_pwr (s : State) (t : Nat) : (s.advanceTo t).pwr = s.pwr := by
  obtain ⟨_, _, e⟩ := s.advanceTo_only t; rw [e]

/-- The listener of C00 heeds a frame. -/
def State.heedsWake (s : State) (f : CanFrame) : Prop :=
  s.pwr.power ≠ .off ∧ s.pwr.power ≠ .service ∧ s.canWake .c00 = true ∧ s.wakeMatch f = true

theorem wakeFrame_heeded {s : State} {f : CanFrame} (t : Nat) (h : s.heedsWake f) :
    wakeFrame s t f = (s.advanceTo t).wakeBy .c00 := by
  obtain ⟨off, service, wake, hit⟩ := h
  exact if_pos (by simp [State.inService, off, service, wake, hit])

theorem wakeFrame_unheeded {s : State} {f : CanFrame} (t : Nat) (h : ¬s.heedsWake f) : wakeFrame s t f = s :=
  if_neg (by simpa [State.heedsWake, State.inService] using h)

/-- A wake frame acts as a wake in orderly DORMANT, passes time in DORMANT without orderly entry, and nothing else. -/
theorem wakeFrame_acts (s : State) (u : Nat) (f : CanFrame) :
    if s.pwr.power = .dormantOrderly ∧ s.canWake .c00 = true ∧ s.wakeMatch f = true then
      (if s.pwr.vin then Claim.Started (wakeFrame s u f) 4
        else (wakeFrame s u f).pwr.wakePending = some (s.pwr.wakePending.getD .c00))
    else if s.pwr.power = .service ∨ s.pwr.power = .off ∨ s.canWake .c00 = false ∨ s.wakeMatch f = false then wakeFrame s u f = s
    else (wakeFrame s u f).pwr = s.pwr := by
  split
  next h =>
    obtain ⟨power, wake, hit⟩ := h
    rw [wakeFrame_heeded u ⟨by simp [power], by simp [power], wake, hit⟩]
    have acts := State.wakeBy_dormant (s := s.advanceTo u) .c00 (by simpa using power)
    simpa only [State.advanceTo_pwr] using acts
  next dormant =>
    split
    next h =>
      refine wakeFrame_unheeded u ?_
      rintro ⟨off, service, wake, hit⟩
      rcases h with h | h | h | h
      · exact service h
      · exact off h
      · exact nomatch wake.symm.trans h
      · exact nomatch hit.symm.trans h
    next h =>
      simp only [not_or, Bool.not_eq_false] at h
      obtain ⟨service, off, wake, hit⟩ := h
      have power : s.pwr.power ≠ .dormantOrderly := fun e => dormant ⟨e, wake, hit⟩
      rw [wakeFrame_heeded u ⟨off, service, wake, hit⟩, State.wakeBy_awake .c00 (by simpa using power), State.advanceTo_pwr]

/-- Settles O48: no station cell ends, and each event is its rule's lemma; a frame starts and returns by the queue, an error by
confinement, a frame received by the counts that service keeps, a wake frame by the start it begins. -/
theorem canControllers : Obligations.CanControllers := by
  unfold Obligations.CanControllers
  intro s c u quiet hc
  have still := State.endStnCells_none quiet u
  refine ⟨fun o r may armed => ⟨_, rfl, ?start⟩, fun may => congrArg Host.Outcome.next ?held,
    fun o run tx => ⟨⟨_, rfl, ?complete⟩, ?lost⟩,
    fun f run hi he => ⟨fun hs => ⟨_, rfl, ?receiving⟩, fun hs tx => ⟨_, rfl, ?sending⟩⟩,
    fun d up hd => ⟨fun he => ⟨_, rfl, State.boffStart_recovers hc up hd he⟩, fun he => ⟨_, rfl, ?recovered⟩,
      fun he f => ⟨_, rfl, ?received⟩⟩,
    fun f => ⟨_, rfl, wakeFrame_acts s u f⟩⟩
  case start =>
    have sends : canTransmitStart s c u = s.canStart c u := by simp only [canTransmitStart, still, may, if_true]
    rw [sends]
    exact State.canStart_sends u hc armed
  case held => simp only [canTransmitStart, still, may, Bool.false_eq_true, if_false]
  case complete =>
    have done : canTransmitComplete s c u = s.canDone c u := by simp only [canTransmitComplete, still, run, if_true]
    rw [done]
    exact State.canDone_counts u hc tx
  case lost =>
    have back : canArbitrationLost s c u = (s.advanceTo u).canBack c := by simp only [canArbitrationLost, still, run, if_true]
    obtain ⟨p, use, e⟩ := State.canBack_returns (s := s.advanceTo u) ((congrArg CanCh.tx (s.advanceTo_canCh u c)).trans tx)
    refine ⟨_, p, congrArg Host.Outcome.next back, ?_⟩
    rw [State.canCh_congr e, State.setCan_same _ _ _ (by simpa using hc), State.advanceTo_canCh]
    exact ⟨rfl, rfl, use, rfl⟩
  case receiving =>
    rw [canError, still]
    exact State.canFault_receiving u hc run hi he hs
  case sending =>
    rw [canError, still]
    exact State.canFault_sending u hc run hi he hs tx
  case recovered =>
    rw [busOffRecoveryEnd, still]
    split
    next h =>
      rw [State.boffEnd_recovered hc up hd he h]
      exact ⟨rfl, rfl, rfl⟩
    next h => exact State.boffEnd_early hd h
  case received =>
    rw [canFrameReceive, still]
    exact State.canReceive_serve_rxok u f hc up hd he

end Sys2Proof.Machine
end

section
/-!
PROOFS. What service of the host's rings leaves of the Ethernet ports (16 R425): posting and fetching change the host interface
alone, frames come to a port's queues and leave its buffer, and its link and its counts of frames stay.
-/
namespace Sys2Proof.Machine

/-! ## Everything beside the host interface -/

/-- The state with the host interface blanked out: two states equal in it differ in that one alone. -/
def State.besideHost (s : State) : State := { s with hst := Hst.reset }

theorem State.besideHost_eth {s t : State} (h : t.besideHost = s.besideHost) : t.eth = s.eth :=
  (congrArg State.eth h :)

@[simp] theorem State.postEvent_besideHost (s : State) (e : Event) : (s.postEvent e).besideHost = s.besideHost := by
  obtain ⟨_, h⟩ := s.postEvent_only e; rw [h]; rfl
@[simp] theorem State.postCpl_besideHost (s : State) (c : Cpl) : (s.postCpl c).besideHost = s.besideHost := by
  obtain ⟨_, h⟩ := s.postCpl_only c; rw [h]; rfl
@[simp] theorem State.streamCpl_besideHost (s : State) (q st r0 r1 t : Nat) :
    (s.streamCpl q st r0 r1 t).besideHost = s.besideHost := by
  obtain ⟨_, h⟩ := s.queueCpl_only ⟨q, 0, 0, st, r0, r1, t, [],
    if (s.qp? q).isSome then 0 else if s.hst.deleting.any (fun p => decide (p.2 = q)) then 2 else 1⟩
  rw [State.streamCpl, h]; rfl

/-- A transfer takes time of the open HST cell. -/
theorem State.hostTime_besideHost {s t : State} {c : Nat} {rd : Bool} (h : s.hostTime c rd = some t) :
    t.besideHost = s.besideHost := by
  unfold State.hostTime at h
  split at h
  · cases h; rfl
  split at h
  · cases h
  · obtain ⟨-, h⟩ := Option.ite_none_right_eq_some.mp h
    cases h
    rfl

theorem State.fitBatch_besideHost {s t : State} {b n : Nat} (h : s.fitBatch b = some (n, t)) : t.besideHost = s.besideHost := by
  induction b with
  | zero => cases h
  | succ b ih =>
    unfold State.fitBatch at h
    split at h
    next fits => cases h; exact State.hostTime_besideHost fits
    · exact ih h

theorem postCplOnce_besideHost {s t : State} (h : postCplOnce s = some t) : t.besideHost = s.besideHost := by
  unfold postCplOnce at h
  split at h
  · cases h
  split at h
  · cases h; exact State.postCpl_besideHost ..
  split at h
  · split at h <;> cases h
    next fits => exact (State.hostTime_besideHost fits :)
  · split at h <;> cases h
    next fits => exact (foldl_keeps State.besideHost _ State.postCpl_besideHost _ _).trans (State.fitBatch_besideHost fits :)

theorem postEventOnce_besideHost {s t : State} (h : postEventOnce s = some t) : t.besideHost = s.besideHost := by
  unfold postEventOnce at h
  split at h
  · cases h
  dsimp only at h
  split at h <;> cases h
  next fits => exact (foldl_keeps State.besideHost _ State.postEvent_besideHost _ _).trans (State.fitBatch_besideHost fits :)

/-- Posting what waits changes the host interface alone. -/
@[simp] theorem State.postAll_besideHost (s : State) : s.postAll.besideHost = s.besideHost :=
  (iter_keeps State.besideHost _ postEventOnce_besideHost _ _).trans (iter_keeps State.besideHost _ postCplOnce_besideHost _ _)

theorem State.issueBatch_besideHost {s t : State} {q : Nat} (h : s.issueBatch q = some t) : t.besideHost = s.besideHost := by
  unfold State.issueBatch at h
  split at h
  · cases h
  obtain ⟨-, h⟩ := Option.ite_none_left_eq_some.mp h
  split at h <;> cases h
  next fits => exact (State.hostTime_besideHost fits :)

theorem State.latchAll_besideHost (s : State) : s.latchAll.besideHost = s.besideHost := rfl

theorem fetchPass_besideHost {s t : State} (h : fetchPass s = some t) : t.besideHost = s.besideHost := by
  unfold fetchPass at h
  obtain ⟨-, h⟩ := Option.ite_none_right_eq_some.mp h
  rw [← Option.some.inj h]
  refine foldl_keeps (fun p : State × Bool => p.1.besideHost) _ (fun p q => ?_) (List.range 64) (s.latchAll, false)
  split
  next issued => exact State.issueBatch_besideHost issued
  · rfl

/-- Fetching entries changes the host interface alone. -/
@[simp] theorem State.fetchPasses_besideHost (s : State) : s.fetchPasses.besideHost = s.besideHost :=
  (State.latchAll_besideHost _).trans (iter_keeps State.besideHost fetchPass fetchPass_besideHost _ s)

@[simp] theorem State.endCanBuf_besideHost (s : State) (q t : Nat) : (s.endCanBuf q t).besideHost = s.besideHost := by
  unfold State.endCanBuf
  split
  · rfl
  split
  · rfl
  · exact State.streamCpl_besideHost ..

@[simp] theorem State.closeCan_besideHost (s : State) : s.closeCan.besideHost = s.besideHost := by
  unfold State.closeCan
  split
  · split
    · exact foldl_keeps State.besideHost _ (fun t _ => t.endCanBuf_besideHost _ _) _ s
    · rfl
  · rfl

/-! ## The link and the counts of a port -/

/-- A port with everything blanked out but its link and its counts of frames sent, received and damaged. -/
def EthPort.tally (x : EthPort) : EthPort :=
  { EthPort.reset with link := x.link, txok := x.txok, rxok := x.rxok, rxerr := x.rxerr }

/-- The links and counts of all ports. -/
def State.tallies (s : State) : List EthPort := s.eth.ports.map EthPort.tally

theorem State.tallies_congr {s t : State} (h : t.eth = s.eth) : t.tallies = s.tallies := by unfold State.tallies; rw [h]

theorem State.tallies_beside {s t : State} (h : t.besideHost = s.besideHost) : t.tallies = s.tallies :=
  State.tallies_congr (State.besideHost_eth h)

theorem State.port_congr {s t : State} (h : t.eth = s.eth) (p : Nat) : t.port p = s.port p := by unfold State.port; rw [h]

/-- The tally of one port is that of the list of tallies. -/
theorem State.port_tally (s : State) (p : Nat) : (s.port p).tally = s.tallies.getD p EthPort.reset.tally := by
  rw [State.tallies, List.getD_eq_getElem?_getD, List.getElem?_map, Option.getD_map, ← List.getD_eq_getElem?_getD, State.port]

theorem State.port_tally_congr {s t : State} (h : t.tallies = s.tallies) (p : Nat) : (t.port p).tally = (s.port p).tally := by
  rw [t.port_tally, h, ← s.port_tally]

theorem State.ports_length_congr {s t : State} (h : t.tallies = s.tallies) : t.eth.ports.length = s.eth.ports.length := by
  simpa [State.tallies] using congrArg List.length h

/-- A write of a port that keeps its link and its counts. -/
theorem State.setPort_tallies {s : State} {p : Nat} {x : EthPort} (h : x.tally = (s.port p).tally) :
    (s.setPort p x).tallies = s.tallies :=
  map_updAt_of_eq EthPort.tally s.eth.ports p x EthPort.reset h

/-! ## Transmission (13 R363, R370) -/

@[simp] theorem State.raise_eth (s : State) (n r : Nat) : (s.raise n r).eth = s.eth := by
  obtain ⟨_, e⟩ := s.raise_only n r; rw [e]

theorem State.withhold_tallies (s : State) (d : EthPortDef) : (s.withhold d).tallies = s.tallies := by
  unfold State.withhold
  dsimp only
  split
  · exact State.setPort_tallies rfl
  · rfl

theorem State.usePn_tallies (s : State) (d : EthPortDef) : (s.usePn d).tallies = s.tallies := by
  unfold State.usePn
  split
  · rfl
  dsimp only
  split
  · refine (State.tallies_congr (State.raise_eth ..)).trans (State.setPort_tallies ?_)
    split <;> rfl
  · refine State.setPort_tallies ?_
    split <;> rfl

/-- A port that starts its next frame keeps its link and has counted nothing yet. -/
theorem State.ethPump_tallies (s : State) (p : Nat) : (s.ethPump p).tallies = s.tallies := by
  unfold State.ethPump
  split
  · rfl
  next d _ =>
    have withheld := s.withhold_tallies d
    dsimp only
    split
    · exact withheld
    split
    · exact withheld
    · have started : ∀ {x : EthPort}, x.tally = ((s.withhold d).port d.lead).tally →
          ∀ o, ((((s.withhold d).setPort d.lead x).usePn d).emit o).tallies = s.tallies :=
        fun same _ => (State.usePn_tallies ..).trans ((State.setPort_tallies same).trans withheld)
      split
      · exact (State.tallies_congr (State.updStn_eth ..)).trans (started (by rfl) _)
      · exact started (by rfl) _

theorem State.sendHost_tallies (s : State) (q : Nat) (e : SqEntry) : (s.sendHost q e).tallies = s.tallies := by
  unfold State.sendHost
  split
  · exact State.tallies_beside (State.streamCpl_besideHost ..)
  · exact (State.ethPump_tallies ..).trans (State.setPort_tallies rfl)

theorem ethTxOnce_tallies {s t : State} {q : Nat} (h : ethTxOnce q s = some t) : t.tallies = s.tallies := by
  unfold ethTxOnce at h
  split at h
  · cases h
  split at h
  · cases h
  split at h <;> cases h
  next fits => exact (State.sendHost_tallies ..).trans (State.tallies_beside (State.hostTime_besideHost fits) :)

theorem State.sendTx_tallies (s : State) : s.sendTx.tallies = s.tallies := by
  refine foldl_keeps State.tallies _ (fun t q => ?_) _ s
  split
  · exact iter_keeps State.tallies _ ethTxOnce_tallies _ t
  · rfl

/-! ## Reception (13 R362; 16 R423) -/

theorem canRxOnce_eth {s t : State} {q : Nat} (h : canRxOnce q s = some t) : t.eth = s.eth := by
  unfold canRxOnce at h
  split at h
  · cases h
  split at h
  · split at h
    next fits =>
      cases h
      have same := State.besideHost_eth (State.hostTime_besideHost fits)
      split
      · exact (State.besideHost_eth (State.endCanBuf_besideHost ..)).trans same
      · exact same
    · cases h
  · cases h

/-- A frame copied to the host leaves the buffer of its port. -/
theorem ethRxOnce_tallies {s t : State} {q : Nat} (h : ethRxOnce q s = some t) : t.tallies = s.tallies := by
  unfold ethRxOnce at h
  split at h
  · cases h
  split at h
  · split at h
    · split at h <;> cases h
      next u fits =>
        have taken : ∀ (p : Nat) (l : List (List Byte × Nat × Bool)), (u.setPort p { u.port p with rx := l }).tallies = u.tallies :=
          fun _ _ => State.setPort_tallies rfl
        exact (State.tallies_beside (State.streamCpl_besideHost ..)).trans
          ((taken ..).trans (State.tallies_beside (State.hostTime_besideHost fits) :))
    · cases h
  · cases h

theorem State.copyRx_tallies (s : State) : s.copyRx.tallies = s.tallies := by
  refine foldl_keeps State.tallies _ (fun t q => ?_) _ s
  split
  · have taken := State.tallies_congr (iter_keeps State.eth (canRxOnce q.id) canRxOnce_eth 7168 t)
    dsimp only
    split
    · exact (State.tallies_beside (State.endCanBuf_besideHost ..)).trans taken
    · exact taken
  split
  · exact iter_keeps State.tallies _ ethRxOnce_tallies 8192 t
  · rfl

/-- Service of the rings keeps the link and the counts of every port. -/
theorem State.serve_tallies (s : State) : s.serve.tallies = s.tallies := by
  have posted : ∀ t : State, t.postAll.tallies = t.tallies := fun t => State.tallies_beside t.postAll_besideHost
  unfold State.serve
  split
  · rw [posted, State.tallies_beside (State.fetchPasses_besideHost _), State.sendTx_tallies, posted,
      State.copyRx_tallies, State.tallies_beside s.closeCan_besideHost]
  · rfl

end Sys2Proof.Machine
end

section
/-!
PROOFS. Ethernet ports (13 R360, R365, R366, R371, R374): frames received and sent, supervision, the duplicate table, the link,
the answers of a dormant device and the start that a wake request begins.
-/
namespace Sys2Proof.Machine

@[simp] theorem State.advanceTo_eth (s : State) (t : Nat) : (s.advanceTo t).eth = s.eth := by
  obtain ⟨_, _, e⟩ := s.advanceTo_only t; rw [e]
@[simp] theorem State.advanceTo_sup (s : State) (t : Nat) : (s.advanceTo t).sup = s.sup := by
  obtain ⟨_, _, e⟩ := s.advanceTo_only t; rw [e]
@[simp] theorem State.advanceTo_port (s : State) (t p : Nat) : (s.advanceTo t).port p = s.port p :=
  State.port_congr (s.advanceTo_eth t) p
@[simp] theorem State.advanceTo_ethDef (s : State) (t p : Nat) : (s.advanceTo t).ethDef? p = s.ethDef? p := by
  unfold State.ethDef?; rw [State.advanceTo_sup]

/-- A port written in a state of the same tallies. -/
theorem State.setPort_port {s u : State} {p : Nat} (hp : p < s.eth.ports.length) (same : u.tallies = s.tallies) (x : EthPort) :
    (u.setPort p x).port p = x :=
  State.setPort_same _ _ _ (State.ports_length_congr same ▸ hp)

/-! ## Reception (13 R360, R362) -/

/-- A frame too long or with a bad check sequence is counted in RXERR alone. -/
theorem State.ethReceive_damaged {s : State} {p : Nat} {d : EthPortDef} {f : EthRx} (t : Nat) (hp : p < s.eth.ports.length)
    (up : s.portUp p = true) (hd : s.ethDef? p = some d) (link : (s.port p).link = true) (bad : 1560 < f.len ∨ f.fcsOk = false) :
    ((s.ethReceive p t f).port p).tally = { (s.port p).tally with rxerr := min ((s.port p).rxerr + 1) max16 } := by
  have damaged : (decide (f.len > 1560) || !f.fcsOk) = true := by simpa using bad
  have counted : s.ethReceive p t f = (s.advanceTo t).setPort p { s.port p with rxerr := satAdd max16 (s.port p).rxerr 1 } := by
    simp [State.ethReceive, hd, up, link, damaged]
  rw [counted, State.setPort_port hp (State.tallies_congr (s.advanceTo_eth t)), ← satAdd_eq_min]
  rfl

theorem State.toHost_tallies (s : State) (p t : Nat) (d : EthPortDef) (f : EthRx) : (s.toHost p t d f).tallies = s.tallies := by
  unfold State.toHost
  dsimp only
  split <;> exact State.setPort_tallies rfl

/-- Wherever an accepted frame goes, the link and the counts stay. -/
theorem State.classify_tallies (s : State) (p t : Nat) (d : EthPortDef) (f : EthRx) : (s.classify p t d f).tallies = s.tallies := by
  unfold State.classify
  split
  case h_1 => rfl
  case h_2 =>
    split
    · rfl
    · exact State.toHost_tallies ..
  case h_3 =>
    split
    · exact State.toHost_tallies ..
    split
    · rfl
    · exact State.toHost_tallies ..
  case h_4 => exact State.toHost_tallies ..

/-- An undamaged frame of a port without MACsec and redundancy is accepted: it is counted in RXOK alone, and classified. -/
theorem State.ethReceive_accepted {s : State} {p : Nat} {d : EthPortDef} {f : EthRx} (t : Nat) (hp : p < s.eth.ports.length)
    (up : s.portUp p = true) (hd : s.ethDef? p = some d) (link : (s.port p).link = true) (good : ¬(1560 < f.len ∨ f.fcsOk = false))
    (hm : d.macsec = false) (hr : d.red = 0) :
    ((s.ethReceive p t f).port p).tally = { (s.port p).tally with rxok := min ((s.port p).rxok + 1) max32 } := by
  have sound : (decide (f.len > 1560) || !f.fcsOk) = false := by simpa using good
  obtain ⟨u, same, here, accepted⟩ : ∃ u : State, u.tallies = s.tallies ∧ u.port p = s.port p ∧
      s.ethReceive p t f = (u.setPort p { u.port p with rxok := satAdd max32 (u.port p).rxok 1 }).classify p t d f := by
    have moved := State.tallies_congr (s.advanceTo_eth t)
    refine ⟨(s.advanceTo t).setPort p (s.port p), ?_, State.setPort_port hp moved _, ?_⟩
    · exact (State.setPort_tallies (by rw [State.advanceTo_port])).trans moved
    · simp [State.ethReceive, State.redundancy, hd, up, link, sound, hm, hr]
  rw [accepted, State.port_tally_congr (State.classify_tallies ..), State.setPort_port hp same, here, ← satAdd_eq_min]
  rfl

/-! ## Transmission (13 R363) -/

@[simp] theorem State.openWindow_eth (s : State) (n q pd t : Nat) : (s.openWindow n q pd t).eth = s.eth := State.updStn_eth ..
@[simp] theorem State.writeDone_eth (s : State) (n q : Nat) (late : Bool) : (s.writeDone n q late).eth = s.eth := by
  unfold State.writeDone
  dsimp only
  split <;> exact State.updStn_eth ..
@[simp] theorem State.endDeletes_eth (s : State) : s.endDeletes.eth = s.eth := by
  obtain ⟨_, _, e⟩ := s.endDeletes_only; rw [e]

@[simp] theorem State.setPort_length (s : State) (p : Nat) (x : EthPort) :
    (s.setPort p x).eth.ports.length = s.eth.ports.length := updAt_length ..

/-- A frame that has left a port outside pairs, its link up, is counted, whatever the frame was for. -/
theorem State.ethDone_counts {s : State} {p t b : Nat} {f : EthFrm} {d : EthPortDef} (hp : p < s.eth.ports.length)
    (hd : s.ethDef? p = some d) (alone : d.members = [p]) (link : (s.port p).link = true) (busy : (s.port p).busy = some (f, b))
    (due : b ≤ t) : ((s.ethDone p t).1.port p).txok = min ((s.port p).txok + 1) max32 := by
  obtain ⟨u, here, freed, sent⟩ : ∃ u : State, p < u.eth.ports.length ∧ u.port p = { s.port p with busy := none, freeAt := t } ∧
      (s.ethDone p t).1.eth = (u.setPort p { u.port p with txok := satAdd max32 (u.port p).txok 1 }).eth := by
    have freed := (s.advanceTo t).setPort_same p { s.port p with busy := none, freeAt := t } (by simpa using hp)
    refine ⟨_, by simpa using hp, freed, ?_⟩
    unfold State.ethDone
    simp only [busy, if_neg (Nat.not_lt.mpr due), State.advanceTo_ethDef, State.advanceTo_port, hd, alone, List.foldl_cons,
      List.foldl_nil]
    rw [if_pos ((congrArg EthPort.link freed).trans link)]
    split
    · exact State.openWindow_eth ..
    · exact State.writeDone_eth ..
    · rfl
  rw [State.port_congr sent, State.setPort_same _ _ _ here, freed, ← satAdd_eq_min]

/-- The count stays while the completion goes out, the next frame starts and deletions end. -/
theorem ethTransmitComplete_counts {s : State} {p t b : Nat} {f : EthFrm} {d : EthPortDef} (quiet : s.stn.cells = [])
    (hp : p < s.eth.ports.length) (hd : s.ethDef? p = some d) (alone : d.members = [p]) (link : (s.port p).link = true)
    (busy : (s.port p).busy = some (f, b)) (due : b ≤ t) :
    ((ethTransmitComplete s p t).port p).txok = min ((s.port p).txok + 1) max32 := by
  have kept : (ethTransmitComplete s p t).tallies = (s.ethDone p t).1.tallies := by
    unfold ethTransmitComplete
    rw [State.endStnCells_none quiet, State.tallies_congr (State.endDeletes_eth _), State.ethPump_tallies]
    split
    · exact State.tallies_beside (State.streamCpl_besideHost ..)
    · rfl
  exact (congrArg EthPort.txok (State.port_tally_congr kept p) :).trans (State.ethDone_counts hp hd alone link busy due)

/-! ## Supervision (13 R365) -/

/-- One member's supervision frame leaves while its link is up. -/
def State.superviseOn (s : State) (q : Nat) : State :=
  if (s.port q).link then (s.setPort q { s.port q with txok := satAdd max32 (s.port q).txok 1 }).emit (.ethTx q []) else s

/-- A pair that runs sends on its members in turn; a port without redundancy sends none. -/
theorem supervision_eq {s : State} {p : Nat} {d : EthPortDef} (up : s.portUp p = true) (hd : s.ethDef? p = some d) :
    supervision s p = if d.red = 0 then s else d.members.foldl State.superviseOn s := by
  unfold supervision
  simp only [hd, up, Bool.true_and, decide_eq_true_eq, ite_not]
  rfl

/-- Sending on one member leaves the links of all. -/
theorem State.superviseOn_link (s : State) (a q : Nat) : ((s.superviseOn a).port q).link = (s.port q).link := by
  have kept : (s.superviseOn a).eth.ports.map EthPort.link = s.eth.ports.map EthPort.link := by
    unfold State.superviseOn
    split
    · exact map_updAt_of_eq EthPort.link s.eth.ports a _ EthPort.reset rfl
    · rfl
  have place : ∀ t : State, (t.port q).link = (t.eth.ports.map EthPort.link).getD q false := fun t => by
    rw [List.getD_eq_getElem?_getD, List.getElem?_map, State.port, List.getD_eq_getElem?_getD]
    cases t.eth.ports[q]? <;> rfl
  rw [place, kept, ← place]

/-- What left the block stays among what left it. -/
theorem State.superviseOn_out {s : State} (a : Nat) {o : Out} (h : o ∈ s.hst.out) : o ∈ (s.superviseOn a).hst.out := by
  unfold State.superviseOn
  split
  · exact List.mem_cons_of_mem _ h
  · exact h

/-- Every member with its link up has sent. -/
theorem State.superviseOn_all (l : List Nat) (s : State) :
    (∀ o ∈ s.hst.out, o ∈ (l.foldl State.superviseOn s).hst.out) ∧
      ∀ q ∈ l, (s.port q).link = true → Out.ethTx q [] ∈ (l.foldl State.superviseOn s).hst.out := by
  induction l generalizing s with
  | nil => exact ⟨fun _ h => h, nofun⟩
  | cons a l ih =>
    obtain ⟨stays, sends⟩ := ih (s.superviseOn a)
    refine ⟨fun o h => stays o (State.superviseOn_out a h), fun q hq link => ?_⟩
    rcases List.mem_cons.mp hq with rfl | hq
    · refine stays _ ?_
      rw [State.superviseOn, if_pos link]
      exact List.mem_cons_self
    · exact sends q hq ((s.superviseOn_link a q).trans link)

/-! ## The duplicate table and the link (13 R366, R374) -/

/-- An aged source leaves the table, and a source that is not in it leaves it as it is. -/
theorem dupAgeOut_dup {s : State} {p : Nat} (m : Nat) (hp : p < s.eth.ports.length) (up : s.portUp p = true) :
    ((dupAgeOut s p m).port p).dup = (s.port p).dup.filter (fun x => x.mac ≠ m) := by
  unfold dupAgeOut
  split
  next absent =>
    refine (List.filter_eq_self.mpr fun x hx => ?_).symm
    simpa using List.find?_eq_none.mp absent x hx
  next e _ =>
    rw [if_pos up, State.setPort_port hp (State.tallies_congr (s.advanceTo_eth _)), State.advanceTo_port]

/-- The link follows the wire, also when the port starts its next frame at once. -/
theorem portLink_link {s : State} {p : Nat} (b : Bool) (hp : p < s.eth.ports.length) :
    if s.portUp p then ((portLink s p b).port p).link = b else portLink s p b = s := by
  unfold portLink
  split
  · have pumped := State.port_tally_congr ((s.setPort p { s.port p with link := b }).ethPump_tallies p) p
    rw [State.setPort_port hp rfl] at pumped
    exact (congrArg EthPort.link pumped :)
  · rfl

/-! ## What left the block stays known over a start (19 R498 to R500) -/

/-- No event can be posted: the host island has no power, or no pair exists. -/
def State.Mute (s : State) : Prop := s.inService = false ∨ s.hst.qps = []

theorem State.raise_out_of_mute {s : State} (h : s.Mute) (n r : Nat) : (s.raise n r).hst.out = s.hst.out := by
  unfold State.raise
  dsimp only
  split
  · rfl
  next awake =>
    have unpaired : ∀ q, s.qp? q = none := fun q => by
      rcases h with asleep | empty
      · exact absurd (by simpa using asleep) awake
      · rw [State.qp?, empty]; rfl
    split
    · rfl
    · rw [unpaired]

/-- A refused record would raise an event, which is not posted either. -/
theorem State.record_out_of_mute {s : State} (h : s.Mute) (v b c : Nat) (l : List Byte) :
    (s.record v b c l).hst.out = s.hst.out := by
  unfold State.record
  split
  · dsimp only
    split
    · rfl
    split
    · rfl
    · refine (State.raise_out_of_mute ?_ ..).trans rfl
      exact h
  · rfl

theorem State.raiseRec_out_asleep {s : State} (h : s.inService = false) (n r v b : Nat) :
    (s.raiseRec n r v b).hst.out = s.hst.out := by
  have asleep : s.raise n r = s := if_pos (by rw [h]; rfl)
  rw [State.raiseRec, asleep]
  exact State.record_out_of_mute (Or.inl h) ..

/-- The fast discharge of the panel raises its event and its record where nothing can be posted. -/
theorem State.panelStart_out {s : State} (asleep : s.inService = false) (a b : Bool) :
    (s.panelStart a b).hst.out = s.hst.out := by
  change s.panelStop.hst.out = _
  unfold State.panelStop
  split
  · refine (State.raiseRec_out_asleep ?_ ..).trans rfl
    exact asleep
  · rfl

/-- A start forgets every pair and keeps what left the block. -/
theorem Hst.start_keeps (h : Hst) (cold : Bool) : (h.start cold).qps = [] ∧ (h.start cold).out = h.out := by
  unfold Hst.start
  dsimp only
  split <;> exact ⟨rfl, rfl⟩

theorem State.unitRec_out_of_mute {s : State} (h : s.Mute) (v b : Nat) : (s.unitRec v b).hst.out = s.hst.out := by
  refine (State.record_out_of_mute ?_ ..).trans rfl
  exact h

/-- A start out of DORMANT forms the host interface from what the panel's start left of it, and may add a record. -/
theorem State.startUp_forms {s : State} (asleep : s.inService = false) {k : Nat} (hk : k ≠ 0) :
    ∃ n : State, n.hst = (s.panelStart (decide (k = 0)) (decide (k ≤ 2))).hst.start (decide (k ≤ 2)) ∧
      (s.startUp k = n.unitRec sevNotice blkMgt ∨ s.startUp k = n) := by
  have still : ¬s.dtLive = true := by simp [State.dtLive, State.runs, asleep]
  unfold State.startUp
  simp only [if_neg hk, if_neg still]
  split
  · exact ⟨_, rfl, .inl rfl⟩
  · exact ⟨_, rfl, .inr rfl⟩

/-- Such a start sends nothing and takes nothing back. -/
theorem State.startUp_out {s : State} (asleep : s.inService = false) {k : Nat} (hk : k ≠ 0) :
    (s.startUp k).hst.out = s.hst.out := by
  obtain ⟨n, formed, e⟩ := State.startUp_forms asleep hk
  obtain ⟨empty, kept⟩ := Hst.start_keeps (s.panelStart (decide (k = 0)) (decide (k ≤ 2))).hst (decide (k ≤ 2))
  rw [← formed] at empty kept
  have out := kept.trans (State.panelStart_out asleep ..)
  rcases e with e | e
  · rw [e, State.unitRec_out_of_mute (Or.inr empty), out]
  · rw [e, out]

/-- A wake takes nothing back of what left the block. -/
theorem State.wakeBy_out {s : State} (asleep : s.inService = false) (w : WakeSrc) : (s.wakeBy w).hst.out = s.hst.out := by
  unfold State.wakeBy
  split
  · rfl
  dsimp only
  split
  · refine (State.startUp_out ?_ (by decide)).trans rfl
    exact asleep
  · rfl

/-! ## Dormant requests (13 R371, Table 13-3) -/

/-- E4 has sent an answer of an operation code, status zero and the sequence number of the request. -/
def State.Answered (s : State) (code seq : Nat) : Prop :=
  ∃ l, Out.ethTx 4 ([BitVec.ofNat 8 code, 0] ++ leBytes 2 seq ++ l) ∈ s.hst.out

theorem State.dormAnswer_answered (s : State) (t op seq : Nat) (l : List Byte) :
    (s.dormAnswer t op 0 seq l).Answered (op + 128) seq := ⟨l, List.mem_cons_self⟩

theorem State.dormAnswer_pwr (s : State) (t op st seq : Nat) (l : List Byte) : (s.dormAnswer t op st seq l).pwr = s.pwr :=
  State.advanceTo_pwr ..

/-- Only a device out of service answers dormant requests. -/
theorem State.asleep_of_dormAnswers {s : State} {t : Nat} (h : s.dormAnswers t = true) : s.inService = false := by
  simp only [State.dormAnswers, Bool.and_eq_true, Bool.not_eq_true'] at h
  obtain ⟨⟨⟨-, asleep⟩, -⟩, -⟩ := h
  exact asleep

/-- WAKE is answered, and then the device starts from orderly DORMANT with VIN present. -/
theorem dormantWake_answered {s : State} {t : Nat} (seq : Nat) (h : s.dormAnswers t = true) :
    (dormantWake s t seq).Answered 132 seq ∧
      (s.pwr.power = .dormantOrderly → s.pwr.vin = true → Claim.Started (dormantWake s t seq) 4) := by
  have pwr := s.dormAnswer_pwr t 4 0 seq []
  rw [dormantWake, if_pos h]
  constructor
  · have kept := State.wakeBy_out (s := s.dormAnswer t 4 0 seq []) (by
      rw [State.inService, pwr]; exact State.asleep_of_dormAnswers h) .e4
    rw [State.Answered, kept]
    exact s.dormAnswer_answered t 4 seq []
  · intro orderly vin
    have woken := State.wakeBy_dormant (s := s.dormAnswer t 4 0 seq []) .e4 (by rw [pwr]; exact orderly)
    rwa [pwr, if_pos vin] at woken

/-- The four requests answer with their operation codes, and a request not to be answered changes nothing. -/
theorem dormantRequest_answered (s : State) (u n f k : Nat) :
    ∀ x ∈ [((Instr.dormantStatus u n, 129) : Instr × Nat), (.dormantTime u n, 130), (.dormantRecRead u n f k, 131),
        (.dormantWake u n, 132)],
      ∃ t, exec x.1 s = .next t ∧
        if s.dormAnswers u then
          t.Answered x.2 n ∧ (x.2 = 132 → s.pwr.power = .dormantOrderly → s.pwr.vin = true → Claim.Started t 4)
        else t = s := by
  intro x hx
  simp only [List.mem_cons, List.not_mem_nil, or_false] at hx
  cases answers : s.dormAnswers u
  · rcases hx with rfl | rfl | rfl | rfl <;> exact ⟨_, rfl, if_neg (by simp [answers])⟩
  · simp only [if_true]
    rcases hx with rfl | rfl | rfl | rfl
    · refine ⟨_, rfl, ?_, nofun⟩
      rw [dormantStatus, if_pos answers]
      exact s.dormAnswer_answered ..
    · refine ⟨_, rfl, ?_, nofun⟩
      rw [dormantTime, if_pos answers]
      exact State.dormAnswer_answered ..
    · refine ⟨_, rfl, ?_, nofun⟩
      rw [dormantRecRead, if_pos answers]
      exact s.dormAnswer_answered ..
    · obtain ⟨sent, starts⟩ := dormantWake_answered n answers
      exact ⟨_, rfl, sent, fun _ => starts⟩

/-- Settles O49: each event is its rule's lemma; service of the rings after a frame received, and the next frame after one sent,
keep the counts, and a start keeps the answer to the wake request that began it. -/
theorem ethernetPorts : Obligations.EthernetPorts := by
  unfold Obligations.EthernetPorts
  intro s p u quiet hp
  refine ⟨fun f d up hd link => ⟨_, rfl, ?received⟩,
    fun f b d hd alone link busy due => ⟨_, rfl, ethTransmitComplete_counts quiet hp hd alone link busy due⟩,
    fun d up hd => ⟨_, rfl, ?supervision⟩, fun m up => ⟨_, rfl, dupAgeOut_dup m hp up⟩, fun b => ⟨_, rfl, portLink_link b hp⟩,
    fun n f k => dormantRequest_answered s u n f k⟩
  case received =>
    rw [ethFrameReceive, State.endStnCells_none quiet]
    have served := State.port_tally_congr (s.ethReceive p u f).serve_tallies p
    split
    next bad =>
      have counted := served.trans (State.ethReceive_damaged u hp up hd link bad)
      exact ⟨(congrArg EthPort.rxerr counted :), (congrArg EthPort.rxok counted :)⟩
    next good =>
      intro hm hr
      have counted := served.trans (State.ethReceive_accepted u hp up hd link good hm hr)
      exact ⟨(congrArg EthPort.rxok counted :), (congrArg EthPort.rxerr counted :)⟩
  case supervision =>
    rw [supervision_eq up hd]
    split
    · rfl
    · exact (State.superviseOn_all d.members s).2

end Sys2Proof.Machine
end

section
/-!
PROOFS. What leaves the stored register fields and the bytes of the supers alone: one lemma for each operation of the model that
does, unit by unit, each from the lemmas of the operations it is made of.
-/
namespace Sys2Proof.Machine

/-- The stored register fields and the bytes of both supers: what the canonical form speaks of. -/
def State.stored (s : State) : SMap Word × SMap Byte × SMap Byte := (s.regs, s.sup.s0.bytes, s.sup.s1.bytes)

/-! ## States as the model builds them

The two lemmas about a state's fields are not for `dsimp`: a comparison by unfolding would open the operations inside. -/

@[simp] theorem State.stored_mk (pwr : Pwr) (clk : Clk) (tim : Tim) (comb : CombSt) (sup : Sup) (chn : Chn) (vot : Voter) (hst : Hst)
    (mgt : Mgt) (rtc : Rtc) (rcd : Rec) (pnl : Pnl) (slv : Slv) (stn : Stn) (can : Can) (eth : Eth) (dist : Dist) (mtr : Mtr)
    (adc : Adc) (axs : Axs) (key : Key) (regs : SMap Word) (fresh : Nat) (pending : List Instr) :
    (State.mk pwr clk tim comb sup chn vot hst mgt rtc rcd pnl slv stn can eth dist mtr adc axs key regs fresh pending).stored =
      (regs, sup.s0.bytes, sup.s1.bytes) := (rfl)

@[simp] theorem State.stored_eta (s : State) : (s.regs, s.sup.s0.bytes, s.sup.s1.bytes) = s.stored := (rfl)

@[simp] theorem State.stored_ite (c : Prop) [Decidable c] (s t : State) :
    (if c then s else t).stored = if c then s.stored else t.stored := apply_ite State.stored ..

@[simp] theorem State.stored_foldl {α : Type} (f : State → α → State) (h : ∀ s a, (f s a).stored = s.stored) (l : List α)
    (s : State) : (l.foldl f s).stored = s.stored := foldl_keeps State.stored f h l s

theorem iter_stored (f : State → Option State) (h : ∀ s t, f s = some t → t.stored = s.stored) (n : Nat) (s : State) :
    (iter n f s).stored = s.stored := by
  induction n generalizing s with
  | zero => rfl
  | succ n ih =>
    unfold iter
    split
    · rfl
    · rename_i t e
      rw [ih, h s t e]

/-! ## Shared operations -/

@[simp] theorem State.freshNat_stored (s : State) : s.freshNat.2.stored = s.stored := rfl
@[simp] theorem State.spend_stored (s : State) (n : Nat) : (s.spend n).stored = s.stored := by simp [State.spend]
@[simp] theorem State.random_stored (s : State) (n : Nat) : (s.random n).2.stored = s.stored := rfl
@[simp] theorem State.touchFreq_stored (s : State) (a b : Rat) : (s.touchFreq a b).stored = s.stored := by simp [State.touchFreq]
@[simp] theorem State.passLive_stored (s0 : State) (d : Rat) : (s0.passLive d).stored = s0.stored := by simp [State.passLive]
@[simp] theorem State.passShadow_stored (s : State) (t : Nat) : (s.passShadow t).stored = s.stored := by simp [State.passShadow]
@[simp] theorem State.advanceTo_stored (s : State) (t : Nat) : (s.advanceTo t).stored = s.stored := by simp [State.advanceTo]
@[simp] theorem State.setQp_stored (s : State) (q : Qp) : (s.setQp q).stored = s.stored := by simp [State.setQp]
@[simp] theorem State.emit_stored (s : State) (o : Out) : (s.emit o).stored = s.stored := by simp [State.emit]
@[simp] theorem State.signal_stored (s : State) (q : Qp) : (s.signal q).stored = s.stored := by simp [State.signal]

@[simp] theorem State.afterPost_stored (s : State) (id : Nat) :
    (s.afterPost id).stored = s.stored := by
  unfold State.afterPost
  split <;> simp

@[simp] theorem State.postEvent_stored (s : State) (e : Event) :
    (s.postEvent e).stored = s.stored := by
  unfold State.postEvent
  repeat' split
  all_goals simp

@[simp] theorem State.flushEvents_stored (s : State) : s.flushEvents.stored = s.stored := by simp [State.flushEvents]

@[simp] theorem State.raise_stored (s : State) (n res0 : Nat) :
    (s.raise n res0).stored = s.stored := by
  unfold State.raise
  repeat' split
  all_goals simp

@[simp] theorem State.record_stored (s : State) (sev src code : Nat) (body : List Byte) :
    (s.record sev src code body).stored = s.stored := by simp [State.record]
@[simp] theorem State.raiseRec_stored (s : State) (n res0 sev src : Nat) :
    (s.raiseRec n res0 sev src).stored = s.stored := by simp [State.raiseRec]

@[simp] theorem State.unitRec_stored (s : State) (sev src : Nat) :
    (s.unitRec sev src).stored = s.stored := by
  unfold State.unitRec
  exact (State.record_stored ..).trans s.freshNat_stored

@[simp] theorem State.critical_stored (s : State) (src : Nat) : (s.critical src).stored = s.stored := by simp [State.critical]

@[simp] theorem State.postCpl_stored (s : State) (c : Cpl) :
    (s.postCpl c).stored = s.stored := by
  unfold State.postCpl
  repeat' split
  all_goals simp

@[simp] theorem State.flushCpls_stored (s : State) : s.flushCpls.stored = s.stored := by simp [State.flushCpls]
@[simp] theorem State.queueCpl_stored (s : State) (c : Cpl) : (s.queueCpl c).stored = s.stored := by simp [State.queueCpl]

@[simp] theorem State.finish_stored (s : State) (seq status res0 : Nat) (res1 : Option Nat) (data : List Byte) :
    (s.finish seq status res0 res1 data).stored = s.stored := by
  unfold State.finish
  split <;> simp

@[simp] theorem State.dropQp_stored (s : State) (id : Nat) : (s.dropQp id).stored = s.stored := by simp [State.dropQp]
@[simp] theorem State.endDeletes_stored (s : State) : s.endDeletes.stored = s.stored := by simp [State.endDeletes]
@[simp] theorem State.complete_stored (s : State) (seq status res0 : Nat) (res1 : Option Nat) (data : List Byte) :
    (s.complete seq status res0 res1 data).stored = s.stored := by simp [State.complete]
@[simp] theorem State.ok_stored (s : State) (seq res0 : Nat) : (s.ok seq res0).stored = s.stored := by simp [State.ok]
@[simp] theorem State.fail_stored (s : State) (seq status : Nat) : (s.fail seq status).stored = s.stored := by simp [State.fail]
@[simp] theorem State.accept_stored (s : State) (seq : Nat) : (s.accept seq).stored = s.stored := by simp [State.accept]

/-! ## Single axes and interpolated moves (15 R394 to R403) -/

@[simp] theorem State.setAx_stored (s : State) (a : Nat) (x : Ax) : (s.setAx a x).stored = s.stored := by simp [State.setAx]
@[simp] theorem State.setInter_stored (s : State) (g : Nat) (x : Option Inter) :
    (s.setInter g x).stored = s.stored := by simp [State.setInter]
@[simp] theorem State.axEvent_stored (s : State) (a : Nat) : (s.axEvent a).stored = s.stored := by simp [State.axEvent]
@[simp] theorem State.begin_stored (s : State) (a : Nat) (d : AxisDef) (job : AxJob) (up : Bool) (target : Int) (vmax : Nat) :
    (s.begin a d job up target vmax).stored = s.stored := by simp [State.begin]

@[simp] theorem State.axDone_stored (s : State) (a status : Nat) :
    (s.axDone a status).stored = s.stored := by
  unfold State.axDone
  split <;> simp

@[simp] theorem State.releaseEn_stored (s : State) (a : Nat) (d : AxisDef) :
    (s.releaseEn a d).stored = s.stored := by simp [State.releaseEn]
@[simp] theorem State.stand_stored (s : State) (a : Nat) : (s.stand a).stored = s.stored := by simp [State.stand]
@[simp] theorem State.goTo_stored (s : State) (a : Nat) (d : AxisDef) (target : Int) (vmax : Nat) :
    (s.goTo a d target vmax).stored = s.stored := by simp [State.goTo]
@[simp] theorem State.goHome_stored (s : State) (a : Nat) (d : AxisDef) (p : Int) :
    (s.goHome a d p).stored = s.stored := by simp [State.goHome]

@[simp] theorem State.beginInter_stored (s : State) (g : Nat) (ms : List (Nat × Int × Nat)) :
    (s.beginInter g ms).stored = s.stored := by
  unfold State.beginInter
  dsimp only
  generalize List.foldl _ (List.headD _ _) _ = lead
  split
  · exact State.stored_foldl _ (by simp) ms s
  · rw [State.setInter_stored]
    refine (State.stored_foldl _ (by simp) ms _).trans (State.stored_foldl _ (fun u m => ?_) ms s)
    split
    · split <;> simp
    · rfl

@[simp] theorem State.follow_stored (s : State) (g : Nat) :
    (s.follow g).stored = s.stored := by
  unfold State.follow
  split <;> simp

@[simp] theorem State.clearFlags_stored (s : State) (a : Nat) : (s.clearFlags a).stored = s.stored := by simp [State.clearFlags]
@[simp] theorem State.stopThen_stored (s : State) (a : Nat) (n : AxNext) :
    (s.stopThen a n).stored = s.stored := by simp [State.stopThen]

@[simp] theorem State.leaveInter_stored (s : State) (a : Nat) :
    (s.leaveInter a).stored = s.stored := by
  unfold State.leaveInter
  split <;> simp

@[simp] theorem State.axMove_stored (s : State) (a : Nat) (d : AxisDef) (target : Int) (vmax : Nat) :
    (s.axMove a d target vmax).stored = s.stored := by simp [State.axMove]
@[simp] theorem State.axHome_stored (s : State) (a : Nat) (d : AxisDef) (p : Int) :
    (s.axHome a d p).stored = s.stored := by simp [State.axHome]
@[simp] theorem State.axStop_stored (s : State) (a : Nat) (d : AxisDef) (disable : Bool) :
    (s.axStop a d disable).stored = s.stored := by simp [State.axStop]
@[simp] theorem State.axReject_stored (s : State) (a : Nat) : (s.axReject a).stored = s.stored := by simp [State.axReject]
@[simp] theorem State.axDo_stored (s : State) (a : Nat) (d : AxisDef) (c : Nat × Int × Nat) :
    (s.axDo a d c).stored = s.stored := by simp [State.axDo]

@[simp] theorem State.interTake_stored (s : State) (g : Nat) (ms : List (Nat × List Word)) :
    (s.interTake g ms).stored = s.stored := by
  unfold State.interTake
  dsimp only
  generalize List.map _ ms = js
  split
  · exact State.stored_foldl _ (by simp) ms s
  · generalize List.filterMap _ js = l
    have take : (l.foldl (fun s m => (s.clearFlags m.1).setAx m.1 ((s.clearFlags m.1).ax m.1).endHome) s).stored = s.stored :=
      State.stored_foldl _ (by simp) l s
    split
    · rw [State.beginInter_stored, take]
    · refine (State.stored_foldl _ (fun u m => ?join) _ _).trans ?start
      case join => split <;> simp
      case start => split <;> simp [take]

@[simp] theorem State.axTake_stored (s : State) (l : List (Nat × List Word)) :
    (s.axTake l).stored = s.stored := by
  unfold State.axTake
  split
  · rfl
  · refine (State.stored_foldl _ (fun u g => ?group) _ _).trans ?singles
    case group =>
      dsimp only
      split <;> simp
    case singles =>
      refine (State.stored_foldl _ (fun u m => ?single) _ _).trans (State.stored_foldl _ (by simp) _ _)
      split
      · split <;> simp
      · rfl

@[simp] theorem State.abruptStop_stored (s : State) (a : Nat) : (s.abruptStop a).stored = s.stored := by simp [State.abruptStop]
@[simp] theorem State.homeFails_stored (s : State) (a : Nat) : (s.homeFails a).stored = s.stored := by simp [State.homeFails]

@[simp] theorem State.limitStop_stored (s : State) (a : Nat) :
    (s.limitStop a).stored = s.stored := by
  unfold State.limitStop
  dsimp only
  repeat' split
  all_goals simp

@[simp] theorem State.limitAll_stored (s : State) (a : Nat) :
    (s.limitAll a).stored = s.stored := by
  unfold State.limitAll
  split <;> simp

@[simp] theorem State.unref_stored (s : State) (a : Nat) : (s.unref a).stored = s.stored := by simp [State.unref]

@[simp] theorem State.axesStop_stored (s : State) :
    s.axesStop.stored = s.stored := by
  unfold State.axesStop
  refine State.stored_foldl _ (fun u a => ?_) _ _
  split
  · simp
  · rfl

/-! ## Scans of the logic engine (06 R173 to R176) -/

@[simp] theorem State.setChan_stored (s : State) (i : ChId) (c : Chan) :
    (s.setChan i c).stored = s.stored := by simp [State.setChan]
@[simp] theorem State.lge_stored (s : State) (f : Chan → Chan) : (s.lge f).stored = s.stored := by simp [State.lge]
@[simp] theorem State.lgeOne_stored (s : State) (f : Chan → Chan) (i : ChId) :
    (s.lgeOne f i).stored = s.stored := by simp [State.lgeOne]
@[simp] theorem State.logicFault_stored (s : State) (t : Nat) : (s.logicFault t).stored = s.stored := by simp [State.logicFault]

@[simp] theorem State.endScan_stored (s : State) (k : ScanEnd) (i : ChId) :
    (s.endScan k i).stored = s.stored := by
  unfold State.endScan
  split <;> simp

@[simp] theorem State.forChans_stored (s : State) (f : State → ChId → State) (hf : ∀ s i, (f s i).stored = s.stored) :
    (s.forChans f).stored = s.stored := by simp [State.forChans, hf]
@[simp] theorem State.openOne_stored (op : StackOp) (s : State) (i : ChId) :
    (State.openOne op s i).stored = s.stored := by simp [State.openOne]
@[simp] theorem State.openAll_stored (s : State) (op : StackOp) : (s.openAll op).stored = s.stored := by simp [State.openAll]

@[simp] theorem State.closeOne_stored (s : State) (i : ChId) :
    (s.closeOne i).stored = s.stored := by
  unfold State.closeOne
  repeat' split
  all_goals simp

@[simp] theorem State.endOne_stored (s : State) (i : ChId) : (s.endOne i).stored = s.stored := by simp [State.endOne]

/-! ## Device time and PTP (02) -/

@[simp] theorem State.settleTime_stored (s : State) : s.settleTime.stored = s.stored := by simp [State.settleTime]
@[simp] theorem State.setActive_stored (s : State) (d : Dom) : (s.setActive d).stored = s.stored := by simp [State.setActive]

@[simp] theorem State.ptpDomain_stored (s : State) (m : PtpMsg) (d : Dom) :
    (s.ptpDomain m d).stored = s.stored := by
  unfold State.ptpDomain
  split <;> simp

@[simp] theorem ptpReceive_stored (s : State) (m : PtpMsg) :
    (ptpReceive s m).stored = s.stored := by
  unfold ptpReceive
  repeat' split
  all_goals simp

@[simp] theorem State.onLock_stored (s : State) (d : Dom) : (s.onLock d).stored = s.stored := by simp [State.onLock]
@[simp] theorem State.onUnlock_stored (s : State) (d : Dom) : (s.onUnlock d).stored = s.stored := by simp [State.onUnlock]

@[simp] theorem syncEnd_stored (s : State) (d : Dom) :
    (syncEnd s d).stored = s.stored := by
  unfold syncEnd
  dsimp only
  repeat' split
  all_goals simp

@[simp] theorem State.stepTo_stored (s : State) (d : Dom) : (s.stepTo d).stored = s.stored := by simp [State.stepTo]
@[simp] theorem bleedEnd_stored (s : State) : (bleedEnd s).stored = s.stored := by simp [bleedEnd]
@[simp] theorem dtWrap_stored (s : State) : (dtWrap s).stored = s.stored := by simp [dtWrap]
@[simp] theorem masterSync_stored (s : State) (p : Nat) : (masterSync s p).stored = s.stored := by simp [masterSync]
@[simp] theorem timDtloRead_stored (s : State) : (timDtloRead s).stored = s.stored := by simp [timDtloRead]
@[simp] theorem State.handShadow_stored (s : State) : s.handShadow.stored = s.stored := by simp [State.handShadow]
@[simp] theorem State.reloadDt_stored (s : State) : s.reloadDt.stored = s.stored := by simp [State.reloadDt]

/-! ## Cells of the comb (03) -/

theorem State.openCell_stored {s t : State} {e : Nat} {res : Nat → Bool} {x : CombEntry} (h : s.openCell e res = some (x, t)) :
    t.stored = s.stored := by
  unfold State.openCell at h
  split at h
  · cases h
  · dsimp only at h
    split at h
    · cases h; simp
    · cases h

@[simp] theorem State.withCell_stored (s : State) (e : Nat) (res : Nat → Bool) (isl : Option Island)
    (f : CombEntry → State → State) (hf : ∀ x s, (f x s).stored = s.stored) : (s.withCell e res isl f).stored = s.stored := by
  unfold State.withCell
  split
  · rfl
  · rename_i x t h
    split
    · rw [hf, State.openCell_stored h]
    · split
      · rw [hf, State.openCell_stored h]
      · rfl

@[simp] theorem State.countOverrun_stored (s : State) (e res : Nat) :
    (s.countOverrun e res).stored = s.stored := by simp [State.countOverrun]
@[simp] theorem State.leaveOpen_stored (s : State) (e res : Nat) (rest : List Nat) :
    (s.leaveOpen e res rest).stored = s.stored := by simp [State.leaveOpen]
@[simp] theorem cmbHploRead_stored (s : State) : (cmbHploRead s).stored = s.stored := by simp [cmbHploRead]

/-! ## Forcing and outputs (01 R13, R14) -/

@[simp] theorem State.deliver_stored (s : State) (p : Point) (ws : List Word) :
    (s.deliver p ws).stored = s.stored := by simp [State.deliver]
@[simp] theorem State.drive_stored (s : State) (i : Nat) (p : Point) (ws : List Word) :
    (s.drive i p ws).stored = s.stored := by simp [State.drive]
@[simp] theorem State.driveForced_stored (s : State) (i : Nat) (p : Point) :
    (s.driveForced i p).stored = s.stored := by simp [State.driveForced]
@[simp] theorem State.deliverNow_stored (s : State) (p : Point) (ws : List Word) :
    (s.deliverNow p ws).stored = s.stored := by simp [State.deliverNow]

@[simp] theorem State.setForce_stored (s : State) (f : List ForceCause) :
    (s.setForce f).stored = s.stored := by
  unfold State.setForce
  simp only [State.stored_ite, State.unitRec_stored, State.raise_stored, ite_self]
  refine (State.stored_foldl _ (fun u x => ?_) _ _).trans (State.stored_foldl _ (fun u x => u.driveForced_stored _ _) _ _)
  split <;> simp

@[simp] theorem State.addForce_stored (s : State) (c : ForceCause) : (s.addForce c).stored = s.stored := by simp [State.addForce]
@[simp] theorem State.endForce_stored (s : State) (c : ForceCause) : (s.endForce c).stored = s.stored := by simp [State.endForce]

@[simp] theorem State.takeFeeds_stored (s : State) :
    s.takeFeeds.stored = s.stored := by
  unfold State.takeFeeds
  split
  · rfl
  · refine State.stored_foldl _ (fun u x => ?_) _ _
    split
    · rfl
    · split <;> simp

/-! ## Stations: windows and exchanges (10) -/

@[simp] theorem State.countAuthFail_stored (s : State) : s.countAuthFail.stored = s.stored := by simp [State.countAuthFail]
@[simp] theorem State.countBadFrm_stored (s : State) : s.countBadFrm.stored = s.stored := by simp [State.countBadFrm]
@[simp] theorem State.countBadSeq_stored (s : State) : s.countBadSeq.stored = s.stored := by simp [State.countBadSeq]
@[simp] theorem State.countUndecl_stored (s : State) : s.countUndecl.stored = s.stored := by simp [State.countUndecl]

@[simp] theorem State.updStn_stored (s : State) (n : Nat) (f : StnSt → StnSt) :
    (s.updStn n f).stored = s.stored := by
  unfold State.updStn
  split <;> simp

@[simp] theorem State.setLink_stored (s : State) (n : Nat) (l : LinkSt) :
    (s.setLink n l).stored = s.stored := by
  unfold State.setLink
  split <;> simp

@[simp] theorem State.missStn_stored (s : State) (d : StnDef) :
    (s.missStn d).stored = s.stored := by
  unfold State.missStn
  split <;> simp

@[simp] theorem State.endExchange_stored (s : State) (d : StnDef) :
    (s.endExchange d).stored = s.stored := by
  unfold State.endExchange
  repeat' split
  all_goals simp

@[simp] theorem State.stnCounts_stored (s : State) : s.stnCounts.stored = s.stored := by simp [State.stnCounts]

@[simp] theorem State.snapStn_stored (s : State) (instant : Nat) (wc : Option (Nat × Nat)) (d : StnDef) :
    (s.snapStn instant wc d).stored = s.stored := by
  unfold State.snapStn
  dsimp only
  repeat' split
  all_goals simp

@[simp] theorem State.applySims_stored (s : State) (readStart : Nat) :
    (s.applySims readStart).stored = s.stored := by simp [State.applySims]

@[simp] theorem State.snapStations_stored (s0 : State) (instant readStart : Nat) :
    (s0.snapStations instant readStart).stored = s0.stored := by
  have step : ∀ (u : State) (h : Nat × Nat), ((u.chain h.1).foldl (fun s g =>
      let wc := s.writeCellOf g.link h.1
      (s.members g.group).foldl (fun s d => (s.endExchange d).snapStn instant wc d) s) u).stored = u.stored :=
    fun u h => State.stored_foldl _ (fun u g => State.stored_foldl _ (by simp) _ _) _ _
  unfold State.snapStations
  simp [State.stored_foldl _ step]

@[simp] theorem State.openWindow_stored (s : State) (n seq pollDt t : Nat) :
    (s.openWindow n seq pollDt t).stored = s.stored := by simp [State.openWindow]
@[simp] theorem State.closeWindow_stored (s : State) (n t : Nat) :
    (s.closeWindow n t).stored = s.stored := by simp [State.closeWindow]
@[simp] theorem State.setGroup_stored (s : State) (g : Nat) (x : GroupSt) :
    (s.setGroup g x).stored = s.stored := by simp [State.setGroup]
@[simp] theorem State.writeDone_stored (s : State) (n seq : Nat) (late : Bool) :
    (s.writeDone n seq late).stored = s.stored := by simp [State.writeDone]
@[simp] theorem State.writeFails_stored (s : State) (n : Nat) : (s.writeFails n).stored = s.stored := by simp [State.writeFails]

/-! ## CAN controllers (12) -/

@[simp] theorem State.setCan_stored (s : State) (c : Nat) (x : CanCh) : (s.setCan c x).stored = s.stored := by simp [State.setCan]

theorem State.armCan_stored {s t : State} {c : Nat} {o : CanObj} (h : s.armCan c o = some t) : t.stored = s.stored := by
  unfold State.armCan at h
  dsimp only at h
  split at h
  · cases h
  · cases h; simp

@[simp] theorem State.countNoobj_stored (s : State) (c : Nat) : (s.countNoobj c).stored = s.stored := by simp [State.countNoobj]

@[simp] theorem State.canStart_stored (s : State) (c t : Nat) :
    (s.canStart c t).stored = s.stored := by
  unfold State.canStart
  dsimp only
  repeat' split
  all_goals simp

@[simp] theorem State.noteOver_stored (s : State) (link e t : Nat) :
    (s.noteOver link e t).stored = s.stored := by simp [State.noteOver]

@[simp] theorem State.canDone_stored (s : State) (c t : Nat) :
    (s.canDone c t).stored = s.stored := by
  unfold State.canDone
  repeat' split
  all_goals simp

@[simp] theorem State.canBack_stored (s : State) (c : Nat) :
    (s.canBack c).stored = s.stored := by
  unfold State.canBack
  repeat' split
  all_goals simp

@[simp] theorem State.canConfine_stored (s : State) (c t : Nat) :
    (s.canConfine c t).stored = s.stored := by simp [State.canConfine]
@[simp] theorem State.canFault_stored (s : State) (c t : Nat) (f : CanFault) :
    (s.canFault c t f).stored = s.stored := by simp [State.canFault]

@[simp] theorem State.boffStart_stored (s : State) (c : Nat) :
    (s.boffStart c).stored = s.stored := by
  unfold State.boffStart
  split <;> simp

@[simp] theorem State.boffEnd_stored (s : State) (c t : Nat) :
    (s.boffEnd c t).stored = s.stored := by
  unfold State.boffEnd
  split <;> simp

@[simp] theorem State.recOk_stored (s : State) (c : Nat) :
    (s.recOk c).stored = s.stored := by
  unfold State.recOk
  dsimp only
  split
  · exact (State.setCan_stored ..).trans s.freshNat_stored
  · exact State.setCan_stored ..

@[simp] theorem State.canDrop_stored (s : State) (c : Nat) : (s.canDrop c).stored = s.stored := by simp [State.canDrop]

@[simp] theorem State.canReceive_stored (s : State) (c t : Nat) (f : CanFrame) :
    (s.canReceive c t f).stored = s.stored := by
  unfold State.canReceive
  dsimp only
  repeat' split
  all_goals simp

@[simp] theorem State.allCan_stored (s : State) (f : State → Nat → State) (hf : ∀ s n, (f s n).stored = s.stored) :
    (s.allCan f).stored = s.stored := by simp [State.allCan, hf]
@[simp] theorem State.canStop_stored (s : State) : s.canStop.stored = s.stored := by simp [State.canStop]
@[simp] theorem State.canDormant_stored (s : State) : s.canDormant.stored = s.stored := by simp [State.canDormant]
@[simp] theorem State.canInit_stored (s : State) : s.canInit.stored = s.stored := by simp [State.canInit]

/-! ## Ethernet ports (13) -/

@[simp] theorem State.setPort_stored (s : State) (p : Nat) (x : EthPort) :
    (s.setPort p x).stored = s.stored := by simp [State.setPort]
@[simp] theorem State.withhold_stored (s : State) (d : EthPortDef) : (s.withhold d).stored = s.stored := by simp [State.withhold]
@[simp] theorem State.usePn_stored (s : State) (d : EthPortDef) : (s.usePn d).stored = s.stored := by simp [State.usePn]

@[simp] theorem State.ethPump_stored (s : State) (p : Nat) :
    (s.ethPump p).stored = s.stored := by
  unfold State.ethPump
  dsimp only
  repeat' split
  all_goals simp

@[simp] theorem State.armEth_stored (s : State) (p : Nat) (f : EthFrm) :
    (s.armEth p f).stored = s.stored := by simp [State.armEth]

@[simp] theorem State.ethDone_stored (s : State) (p t : Nat) : (s.ethDone p t).1.stored = s.stored := by
  unfold State.ethDone
  split
  · rfl
  split
  · rfl
  dsimp only
  split <;> simp

@[simp] theorem State.toHost_stored (s : State) (p t : Nat) (d : EthPortDef) (f : EthRx) :
    (s.toHost p t d f).stored = s.stored := by simp [State.toHost]

@[simp] theorem State.classify_stored (s : State) (p t : Nat) (d : EthPortDef) (f : EthRx) :
    (s.classify p t d f).stored = s.stored := by
  unfold State.classify
  repeat' split
  all_goals simp

@[simp] theorem State.redundancy_stored (s : State) (p t : Nat) (d : EthPortDef) (f : EthRx) :
    (s.redundancy p t d f).1.stored = s.stored := by
  unfold State.redundancy
  split
  · rfl
  split
  · simp
  cases f.red with
  | none => simp
  | some n => simp [apply_ite Prod.fst]

@[simp] theorem State.ethReceive_stored (s : State) (p t : Nat) (f : EthRx) :
    (s.ethReceive p t f).stored = s.stored := by
  unfold State.ethReceive
  split
  · rfl
  split
  · rfl
  dsimp only
  split
  · simp
  split
  · simp
  split <;> simp

@[simp] theorem supervision_stored (s : State) (p : Nat) :
    (supervision s p).stored = s.stored := by
  unfold supervision
  split <;> simp

@[simp] theorem dupAgeOut_stored (s : State) (p mac : Nat) :
    (dupAgeOut s p mac).stored = s.stored := by
  unfold dupAgeOut
  split <;> simp

@[simp] theorem portLink_stored (s : State) (p : Nat) (up : Bool) : (portLink s p up).stored = s.stored := by simp [portLink]
@[simp] theorem State.allPorts_stored (s : State) (f : State → Nat → State) (hf : ∀ s n, (f s n).stored = s.stored) :
    (s.allPorts f).stored = s.stored := by simp [State.allPorts, hf]

@[simp] theorem State.linksDown_stored (s : State) :
    s.linksDown.stored = s.stored := by
  refine State.allPorts_stored _ _ fun u p => ?_
  dsimp only
  split
  · simp
  · simp

@[simp] theorem State.portsDormant_stored (s : State) : s.portsDormant.stored = s.stored := by simp [State.portsDormant]

/-! ## Metering (11) -/

@[simp] theorem State.setMtr_stored (s : State) (m : Mtr) : (s.setMtr m).stored = s.stored := by simp [State.setMtr]

@[simp] theorem State.turnIntv_stored (s : State) (d : MeterDef) (t t' : Nat) (fl fl' : RunFlags) :
    (s.turnIntv d t t' fl fl').stored = s.stored := by
  unfold State.turnIntv
  split <;> simp

@[simp] theorem State.catchIntv_stored (n : Nat) (s : State) (t : Nat) : (State.catchIntv n s t).stored = s.stored := by
  induction n generalizing s with
  | zero => rfl
  | succ n ih =>
    unfold State.catchIntv
    split
    · split
      · rw [ih, State.turnIntv_stored]
      · rfl
    · rfl

@[simp] theorem State.intvTo_stored (s : State) (t : Nat) :
    (s.intvTo t).stored = s.stored := by
  unfold State.intvTo
  split <;> simp

@[simp] theorem intervalBoundary_stored (s : State) :
    (intervalBoundary s).stored = s.stored := by
  unfold intervalBoundary
  split <;> simp

@[simp] theorem mdFault_stored (s : State) (m t : Nat) :
    (mdFault s m t).stored = s.stored := by
  unfold mdFault
  dsimp only
  repeat' split
  all_goals simp

@[simp] theorem mdResume_stored (s : State) (m t : Nat) :
    (mdResume s m t).stored = s.stored := by
  unfold mdResume
  dsimp only
  repeat' split
  all_goals simp

@[simp] theorem periodEnd_stored (s : State) (sys : List EmSamples) :
    (periodEnd s sys).stored = s.stored := by
  unfold periodEnd
  split <;> simp

@[simp] theorem pinPulse_stored (s : State) (pin t : Nat) : (pinPulse s pin t).stored = s.stored := by simp [pinPulse]
@[simp] theorem State.partEnergy_stored (s : State) (d : TmDef) (x : ThermSrc) (dv : Rat) :
    (s.partEnergy d x dv).2.stored = s.stored := rfl

@[simp] theorem State.thermPart_stored (s : State) (d : TmDef) (x : ThermSrc) (r : TmRun) (pulses ns : Nat) :
    (s.thermPart d x r pulses ns).1.stored = s.stored := by
  unfold State.thermPart
  dsimp only
  split <;> simp

@[simp] theorem State.thermOne_stored (s : State) (d : TmDef) (is : List Intv) : (s.thermOne d is).1.stored = s.stored := by
  refine foldl_keeps (fun a : State × List Intv × Rat × Rat => a.1.stored) _ (fun a i => ?_) is (s, [], 0, 0)
  dsimp only
  split
  · rfl
  · split
    · rfl
    · exact State.thermPart_stored ..

@[simp] theorem State.thermAll_stored (s : State) (d : MeterDef) (is : List Intv) : (s.thermAll d is).1.stored = s.stored :=
  foldl_keeps (fun a : State × List Intv × List (Nat × Rat × Rat) => a.1.stored) _
    (fun a i => foldl_keeps (fun b : State × Intv × List (Nat × Rat × Rat) => b.1.stored) _
      (fun b t => b.1.thermOne_stored t [b.2.1]) d.tms (a.1, i, [])) is (s, [], [])

@[simp] theorem State.detEvent_stored (s : State) (kind index old new : Nat) :
    (s.detEvent kind index old new).stored = s.stored := by simp [State.detEvent]

@[simp] theorem State.emBlock_stored (s : State) (d : EmDef) (x : EmSamples) (a c : Nat) :
    (s.emBlock d x a c).stored = s.stored := by
  have drawn : ∀ l : List Nat, (l.foldl (fun (r : List Int × State) (_ : Nat) =>
      let f := r.2.freshNat
      (r.1 ++ [(f.1 : Int)], f.2)) ([], s)).2.stored = s.stored := by
    intro l
    refine foldl_keeps (fun r : List Int × State => r.2.stored) _ (fun r _ => ?_) l ([], s)
    exact r.2.freshNat_stored
  unfold State.emBlock
  dsimp only
  split
  · rw [State.setMtr_stored, drawn]
  · simp

@[simp] theorem State.tmItem_stored (s : State) (d : TmDef) (x : ThermSrc) (ns : Nat) (dv de : Rat) :
    (s.tmItem d x ns dv de).stored = s.stored := by
  unfold State.tmItem
  simp only [State.detEvent_stored, State.setMtr_stored, State.stored_ite, State.freshNat_stored, ite_self]

@[simp] theorem State.closeBlock_stored (s0 : State) (d : MeterDef) (sys : List EmSamples) (c : Nat) :
    (s0.closeBlock d sys c).stored = s0.stored := by
  unfold State.closeBlock
  dsimp only
  split
  · simp
  · rw [State.setMtr_stored, State.stored_foldl _ (fun u t => u.tmItem_stored _ _ _ _ _),
      State.stored_foldl _ (fun u e => u.emBlock_stored _ _ _ _), State.setMtr_stored, State.thermAll_stored, State.intvTo_stored]

@[simp] theorem mtrBlockCell_stored (s : State) (e : Nat) (sys : List EmSamples) (done : Bool) :
    (mtrBlockCell s e sys done).stored = s.stored := by
  refine State.withCell_stored _ _ _ _ _ fun x u => ?_
  split
  · rfl
  · split <;> simp

@[simp] theorem State.writeBal_stored (s : State) (d : Option MeterDef) (i : Intv) (b : BalRun) :
    (s.writeBal d i b).stored = s.stored := by simp [State.writeBal]

@[simp] theorem State.writeNext_stored (s : State) (i : Intv) :
    (s.writeNext i).stored = s.stored := by
  unfold State.writeNext
  dsimp only
  split
  · simp
  split
  · rw [State.setMtr_stored, State.stored_ite, State.freshNat_stored, State.freshNat_stored, ite_self]
  split <;> simp

@[simp] theorem State.writeRecords_stored (n : Nat) (s : State) : (State.writeRecords n s).stored = s.stored := by
  induction n generalizing s with
  | zero => rfl
  | succ n ih =>
    unfold State.writeRecords
    split
    · rfl
    · rw [ih, State.setMtr_stored, State.writeNext_stored]

@[simp] theorem mtrIntvCell_stored (s : State) (e records : Nat) :
    (mtrIntvCell s e records).stored = s.stored := by
  refine State.withCell_stored _ _ _ _ _ fun x u => ?_
  simp

@[simp] theorem State.counterAnswer_stored (s : State) (n t : Nat) (data : List Byte) :
    (s.counterAnswer n t data).stored = s.stored := by
  unfold State.counterAnswer
  repeat' split
  all_goals simp

@[simp] theorem State.mtrResume_stored (s : State) : s.mtrResume.stored = s.stored := by
  unfold State.mtrResume
  split <;> simp

@[simp] theorem State.mtrStop_stored (s0 : State) :
    s0.mtrStop.stored = s0.stored := by
  unfold State.mtrStop
  dsimp only
  repeat' split
  all_goals simp

@[simp] theorem State.mtrStepTime_stored (s : State) (t t' : Nat) :
    (s.mtrStepTime t t').stored = s.stored := by
  unfold State.mtrStepTime
  split <;> simp

@[simp] theorem State.mtrSwap_stored (s0 : State) (a : Option MeterDef) (s' : State) :
    (State.mtrSwap s0 a s').stored = s'.stored := by
  unfold State.mtrSwap
  dsimp only
  split
  · simp
  · simp
  · split <;> simp
  · split <;> simp

@[simp] theorem legacyRead_stored (s : State) (off : Nat) :
    (legacyRead s off).stored = s.stored := by
  unfold legacyRead
  repeat' split
  all_goals simp

@[simp] theorem mtrIntvloRead_stored (s : State) : (mtrIntvloRead s).stored = s.stored := by simp [mtrIntvloRead]

/-! ## Stations: cells, polls and answers (10) -/

@[simp] theorem State.endCanCell_stored (s : State) (c e : Nat) :
    (s.endCanCell c e).stored = s.stored := by simp [State.endCanCell]
@[simp] theorem State.endEthCell_stored (s : State) (p e t : Nat) :
    (s.endEthCell p e t).stored = s.stored := by simp [State.endEthCell]
@[simp] theorem State.completeExchange_stored (s : State) (d : StnDef) :
    (s.completeExchange d).stored = s.stored := by simp [State.completeExchange]
@[simp] theorem State.endStnCell_stored (s : State) (k : StnCell) :
    (s.endStnCell k).stored = s.stored := by simp [State.endStnCell]
@[simp] theorem State.endStnCells_stored (s : State) (t : Nat) :
    (s.endStnCells t).stored = s.stored := by simp [State.endStnCells]
@[simp] theorem State.endStnCellsTo_stored (s : State) (t : Nat) :
    (s.endStnCellsTo t).stored = s.stored := by simp [State.endStnCellsTo]

@[simp] theorem State.judgeAnswer_stored (s : State) (m : WfpMsg) :
    (s.judgeAnswer m).stored = s.stored := by
  unfold State.judgeAnswer
  repeat' split
  all_goals simp

@[simp] theorem State.takeMsg_stored (s : State) (m : WfpMsg) : (s.takeMsg m).stored = s.stored := by simp [State.takeMsg]
@[simp] theorem State.judgeMsg_stored (s : State) (m : WfpMsg) : (s.judgeMsg m).stored = s.stored := by simp [State.judgeMsg]
@[simp] theorem State.drainInbox_stored (s : State) : s.drainInbox.stored = s.stored := by simp [State.drainInbox]

@[simp] theorem answer_stored (s : State) (link : Nat) : (answer s link).stored = s.stored := by
  unfold answer
  split <;> simp

@[simp] theorem malformedWfp_stored (s : State) (link : Nat) :
    (malformedWfp s link).stored = s.stored := by
  unfold malformedWfp
  split <;> simp

@[simp] theorem State.openRead_stored (s : State) (e : Nat) (x : CombEntry) (link : Nat) :
    (s.openRead e x link).stored = s.stored := by simp [State.openRead]

@[simp] theorem stationReadCell_stored (s : State) (e : Nat) :
    (stationReadCell s e).stored = s.stored := by
  refine State.withCell_stored _ _ _ _ _ fun x u => ?_
  split
  · split <;> simp
  · rfl

@[simp] theorem State.armGpoll_stored (s : State) (g : GroupDef) (e seq : Nat) : (s.armGpoll g e seq).1.stored = s.stored := by
  unfold State.armGpoll
  split
  · rfl
  split
  · simp
  dsimp only
  split
  · exact State.armCan_stored ‹_›
  · simp

@[simp] theorem State.armPolls_stored (s : State) (g : GroupDef) (e seq : Nat) : (s.armPolls g e seq).1.stored = s.stored := by
  refine foldl_keeps (fun p : State × Bool => p.1.stored) _ (fun p d => ?_) _ (s, false)
  split <;> simp

@[simp] theorem State.openSlot_stored (s : State) (k : StnCell) (g : GroupDef) :
    (s.openSlot k g).stored = s.stored := by
  unfold State.openSlot
  simp only [State.stored_mk, State.stored_eta, State.stored_ite, State.setGroup_stored]
  split <;> split <;> simp

@[simp] theorem stationSlotOpen_stored (s : State) (g : Nat) :
    (stationSlotOpen s g).stored = s.stored := by
  unfold stationSlotOpen
  repeat' split
  all_goals simp

@[simp] theorem State.armWrite_stored (s : State) (g : GroupDef) (d : StnDef) (e : Nat) (ws : List Word) :
    (s.armWrite g d e ws).1.stored = s.stored := by
  unfold State.armWrite
  split
  · simp
  dsimp only
  split
  · split
    · rfl
    split
    · exact State.armCan_stored ‹_›
    · simp
  · simp

@[simp] theorem State.setWr_stored (s : State) (n : Nat) (w : WrSt) : (s.setWr n w).stored = s.stored := by simp [State.setWr]

@[simp] theorem State.writeStn_stored (s : State) (g : GroupDef) (e : Nat) (d : StnDef) :
    (s.writeStn g e d).stored = s.stored := by
  unfold State.writeStn
  split
  · rfl
  split
  · rfl
  dsimp only
  split
  · simp
  split
  · simp
  split
  · simp
  split <;> simp

@[simp] theorem State.openWrite_stored (s : State) (e : Nat) (x : CombEntry) (link : Nat) :
    (s.openWrite e x link).stored = s.stored := by simp [State.openWrite]

@[simp] theorem stationWriteCell_stored (s : State) (e : Nat) :
    (stationWriteCell s e).stored = s.stored := by
  refine State.withCell_stored _ _ _ _ _ fun x u => ?_
  split
  · split <;> simp
  · rfl

@[simp] theorem exchangeComplete_stored (s : State) (n : Nat) :
    (exchangeComplete s n).stored = s.stored := by
  unfold exchangeComplete
  repeat' split
  all_goals simp

@[simp] theorem canTransmitStart_stored (s : State) (c t : Nat) :
    (canTransmitStart s c t).stored = s.stored := by simp [canTransmitStart]
@[simp] theorem canTransmitComplete_stored (s : State) (c t : Nat) :
    (canTransmitComplete s c t).stored = s.stored := by simp [canTransmitComplete]
@[simp] theorem canArbitrationLost_stored (s : State) (c t : Nat) :
    (canArbitrationLost s c t).stored = s.stored := by simp [canArbitrationLost]
@[simp] theorem canError_stored (s : State) (c t : Nat) (f : CanFault) :
    (canError s c t f).stored = s.stored := by simp [canError]
@[simp] theorem busOffRecoveryStart_stored (s : State) (c : Nat) :
    (busOffRecoveryStart s c).stored = s.stored := by simp [busOffRecoveryStart]
@[simp] theorem busOffRecoveryEnd_stored (s : State) (c t : Nat) :
    (busOffRecoveryEnd s c t).stored = s.stored := by simp [busOffRecoveryEnd]
@[simp] theorem State.stnRun_stored (s : State) : s.stnRun.stored = s.stored := by simp [State.stnRun]

/-! ## Rings of the host interface (16) -/

theorem State.hostTime_stored {s t : State} {c : Nat} {rd : Bool} (h : s.hostTime c rd = some t) : t.stored = s.stored := by
  unfold State.hostTime at h
  split at h
  · cases h; rfl
  split at h
  · cases h
  dsimp only at h
  generalize (if rd then s.tRd else 0) = c at h
  split at h
  · cases h; rfl
  · cases h

@[simp] theorem State.latchAll_stored (s : State) : s.latchAll.stored = s.stored := by simp [State.latchAll]

@[simp] theorem State.cellSignal_stored (s : State) (id : Nat) :
    (s.cellSignal id).stored = s.stored := by
  unfold State.cellSignal
  split
  · split
    · split
      · split
        · rename_i h; simp [State.hostTime_stored h]
        · rfl
      · simp
    · rfl
  · rfl

theorem State.fitBatch_stored {s t : State} {n b : Nat} (h : s.fitBatch n = some (b, t)) : t.stored = s.stored := by
  induction n with
  | zero => cases h
  | succ n ih =>
    unfold State.fitBatch at h
    split at h
    · rename_i e; cases h; exact State.hostTime_stored e
    · exact ih h

theorem postCplOnce_stored (s t : State) (h : postCplOnce s = some t) : t.stored = s.stored := by
  unfold postCplOnce at h
  split at h
  · cases h
  split at h
  · cases h; simp
  split at h
  · split at h
    · cases h
    · rename_i e; cases h; simp [State.hostTime_stored e]
  · split at h
    · cases h
    · rename_i e; cases h; simp [State.fitBatch_stored e]

theorem postEventOnce_stored (s t : State) (h : postEventOnce s = some t) : t.stored = s.stored := by
  unfold postEventOnce at h
  split at h
  · cases h
  dsimp only at h
  split at h
  · cases h
  · rename_i e; cases h; simp [State.fitBatch_stored e]

@[simp] theorem State.postAll_stored (s : State) :
    s.postAll.stored = s.stored := by
  unfold State.postAll
  exact (iter_stored _ postEventOnce_stored _ _).trans (iter_stored _ postCplOnce_stored _ _)

@[simp] theorem State.streamCpl_stored (s : State) (qp status res0 res1 dt : Nat) :
    (s.streamCpl qp status res0 res1 dt).stored = s.stored := by simp [State.streamCpl]

@[simp] theorem State.endCanBuf_stored (s : State) (id dt : Nat) :
    (s.endCanBuf id dt).stored = s.stored := by
  unfold State.endCanBuf
  split <;> simp

theorem canRxOnce_stored (id : Nat) (s t : State) (h : canRxOnce id s = some t) : t.stored = s.stored := by
  unfold canRxOnce at h
  split at h
  · cases h
  split at h
  · split at h
    · rename_i e; cases h; simp [State.hostTime_stored e]
    · cases h
  · cases h

theorem ethRxOnce_stored (id : Nat) (s t : State) (h : ethRxOnce id s = some t) : t.stored = s.stored := by
  unfold ethRxOnce at h
  split at h
  · cases h
  split at h
  · split at h
    · split at h
      · rename_i e; cases h; simp [State.hostTime_stored e]
      · cases h
    · cases h
  · cases h

@[simp] theorem State.copyRx_stored (s : State) :
    s.copyRx.stored = s.stored := by
  unfold State.copyRx
  refine State.stored_foldl _ (fun u q => ?_) _ _
  simp only [State.stored_ite, State.endCanBuf_stored, iter_stored _ (canRxOnce_stored q.id), iter_stored _ (ethRxOnce_stored q.id),
    ite_self]

@[simp] theorem State.closeCan_stored (s : State) : s.closeCan.stored = s.stored := by
  unfold State.closeCan
  split <;> simp

@[simp] theorem State.sendHost_stored (s : State) (id : Nat) (e : SqEntry) :
    (s.sendHost id e).stored = s.stored := by
  unfold State.sendHost
  split <;> simp

theorem ethTxOnce_stored (id : Nat) (s t : State) (h : ethTxOnce id s = some t) : t.stored = s.stored := by
  unfold ethTxOnce at h
  split at h
  · cases h
  split at h
  · cases h
  split at h
  · rename_i e; cases h; simp [State.hostTime_stored e]
  · cases h

@[simp] theorem State.sendTx_stored (s : State) :
    s.sendTx.stored = s.stored := by
  unfold State.sendTx
  refine State.stored_foldl _ (fun u q => ?_) _ _
  simp only [State.stored_ite, iter_stored _ (ethTxOnce_stored q.id), ite_self]

theorem State.issueBatch_stored {s t : State} {id : Nat} (h : s.issueBatch id = some t) : t.stored = s.stored := by
  unfold State.issueBatch at h
  split at h
  · cases h
  rename_i q _
  dsimp only at h
  generalize (if q.kind = 1 then _ else _ : Nat) = d at h
  split at h
  · cases h
  split at h
  · cases h
  · rename_i e; cases h; simp [State.hostTime_stored e]

theorem fetchPass_stored (s t : State) (h : fetchPass s = some t) : t.stored = s.stored := by
  unfold fetchPass at h
  dsimp only at h
  generalize hr : List.foldl _ (s.latchAll, false) _ = r at h
  have same : r.1.stored = s.stored := by
    rw [← hr]
    refine (foldl_keeps (fun p : State × Bool => p.1.stored) _ (fun p id => ?_) _ _).trans s.latchAll_stored
    split
    · exact State.issueBatch_stored ‹_›
    · rfl
  split at h
  · cases h; exact same
  · cases h

@[simp] theorem State.fetchPasses_stored (s : State) :
    s.fetchPasses.stored = s.stored := by
  unfold State.fetchPasses
  rw [State.latchAll_stored, iter_stored _ fetchPass_stored]

@[simp] theorem State.fetched_stored (s : State) (r : HostRead) :
    (s.fetched r).stored = s.stored := by
  unfold State.fetched
  dsimp only
  split <;> simp

@[simp] theorem State.serve_stored (s : State) : s.serve.stored = s.stored := by simp [State.serve]
@[simp] theorem State.signalRest_stored (s : State) : s.signalRest.stored = s.stored := by simp [State.signalRest]

@[simp] theorem State.cellServe_stored (s : State) : s.cellServe.stored = s.stored := by
  unfold State.cellServe
  split <;> simp

@[simp] theorem State.hostServe_stored (s : State) : s.hostServe.stored = s.stored := by simp [State.hostServe]

@[simp] theorem sqTail_stored (s : State) (id v : Nat) (entries : List SqEntry) :
    (sqTail s id v entries).stored = s.stored := by
  unfold sqTail
  split <;> simp

@[simp] theorem cqHead_stored (s : State) (id v : Nat) : (cqHead s id v).stored = s.stored := by
  unfold cqHead
  split <;> simp

@[simp] theorem State.lateReads_stored (s : State) : s.lateReads.stored = s.stored := by simp [State.lateReads]
@[simp] theorem hstCell_stored (s : State) (e : Nat) : (hstCell s e).stored = s.stored := by simp [hstCell]

@[simp] theorem msiHoldoffEnd_stored (s : State) (id : Nat) :
    (msiHoldoffEnd s id).stored = s.stored := by
  unfold msiHoldoffEnd
  split <;> simp

@[simp] theorem hostReadArrival_stored (s : State) (late : Bool) :
    (hostReadArrival s late).stored = s.stored := by
  unfold hostReadArrival
  split <;> simp

@[simp] theorem State.dropAllQps_stored (s : State) : s.dropAllQps.stored = s.stored := by simp [State.dropAllQps]
@[simp] theorem pcieLinkUp_stored (s : State) : (pcieLinkUp s).stored = s.stored := by simp [pcieLinkUp]
@[simp] theorem State.addQp_stored (s : State) (q : Qp) : (s.addQp q).stored = s.stored := by simp [State.addQp]
@[simp] theorem State.deleteQp_stored (s : State) (id : Nat) : (s.deleteQp id).stored = s.stored := by simp [State.deleteQp]
@[simp] theorem canFrameReceive_stored (s : State) (c t : Nat) (f : CanFrame) :
    (canFrameReceive s c t f).stored = s.stored := by simp [canFrameReceive]
@[simp] theorem ethFrameReceive_stored (s : State) (p t : Nat) (f : EthRx) :
    (ethFrameReceive s p t f).stored = s.stored := by simp [ethFrameReceive]

@[simp] theorem ethTransmitComplete_stored (s : State) (p t : Nat) :
    (ethTransmitComplete s p t).stored = s.stored := by
  unfold ethTransmitComplete
  simp only [State.endDeletes_stored, State.ethPump_stored]
  split <;> simp

/-! ## Converters (14) -/

@[simp] theorem State.setConv_stored (s : State) (n : Nat) (x : AdcConv) :
    (s.setConv n x).stored = s.stored := by simp [State.setConv]
@[simp] theorem State.setPair_stored (s : State) (q : Nat) (x : AdcPair) :
    (s.setPair q x).stored = s.stored := by simp [State.setPair]
@[simp] theorem State.setSlot_stored (s : State) (i : Nat) (v : Slot) :
    (s.setSlot i v).stored = s.stored := by simp [State.setSlot]
@[simp] theorem State.pruneSlots_stored (s : State) (t : Nat) : (s.pruneSlots t).stored = s.stored := by simp [State.pruneSlots]
@[simp] theorem State.markMissing_stored (s : State) (i stop : Nat) :
    (s.markMissing i stop).stored = s.stored := by simp [State.markMissing]

@[simp] theorem State.adcNext_stored (s : State) (n c : Nat) :
    (s.adcNext n c).stored = s.stored := by
  unfold State.adcNext
  dsimp only
  repeat' split
  all_goals simp

@[simp] theorem State.adcAbort_stored (s : State) (n j c : Nat) :
    (s.adcAbort n j c).stored = s.stored := by
  unfold State.adcAbort
  repeat' split
  all_goals simp

@[simp] theorem State.urgent_stored (s : State) (n j c : Nat) (trip : Bool) :
    (s.urgent n j c trip).stored = s.stored := by
  unfold State.urgent
  dsimp only
  repeat' split
  all_goals simp

@[simp] theorem State.threshold_stored (s : State) (i : Nat) (a : AinDef) (w : Word) (comp : Nat) :
    (s.threshold i a w comp).stored = s.stored := by
  unfold State.threshold
  split <;> simp

@[simp] theorem State.adcResult_stored (s : State) (d : AnalogDef) (n i hold : Nat) (raw : Int) (urg : Bool) :
    (s.adcResult d n i hold raw urg).stored = s.stored := by simp [State.adcResult]

@[simp] theorem State.endAdc_stored (s : State) (n : Nat) :
    (s.endAdc n).stored = s.stored := by
  unfold State.endAdc
  dsimp only
  repeat' split
  all_goals simp

@[simp] theorem State.endAdcs_stored (s : State) (t : Nat) :
    (s.endAdcs t).stored = s.stored := by
  unfold State.endAdcs
  refine State.stored_foldl _ (fun u n => ?_) _ _
  split
  · split <;> simp
  · rfl

@[simp] theorem State.calibratePair_stored (s : State) (q : Nat) (c : CalSums) :
    (s.calibratePair q c).stored = s.stored := by
  unfold State.calibratePair
  split <;> simp

@[simp] theorem State.openAdc_stored (s : State) (e : Nat) (x : CombEntry) (cal : CalSums) :
    (s.openAdc e x cal).stored = s.stored := by
  unfold State.openAdc
  dsimp only
  repeat' split
  all_goals simp

@[simp] theorem adcCell_stored (s : State) (e : Nat) (cal : CalSums) : (adcCell s e cal).stored = s.stored := by simp [adcCell]

@[simp] theorem State.interDone_stored (s : State) (n : Nat) (r : AdcRun) (d : AnalogDef) (code : Int) :
    (s.interDone n r d code).stored = s.stored := by
  unfold State.interDone
  split <;> simp

@[simp] theorem adcDone_stored (s : State) (n : Nat) (code : Int) :
    (adcDone s n code).stored = s.stored := by
  unfold adcDone
  repeat' split
  all_goals simp

@[simp] theorem referenceOut_stored (s : State) (t : Nat) : (referenceOut s t).stored = s.stored := by simp [referenceOut]

@[simp] theorem referenceIn_stored (s : State) (t : Nat) :
    (referenceIn s t).stored = s.stored := by
  unfold referenceIn
  split <;> simp

@[simp] theorem State.adcStop_stored (s : State) :
    s.adcStop.stored = s.stored := by
  unfold State.adcStop
  refine State.stored_foldl _ (fun u n => ?_) _ _
  dsimp only
  split <;> simp

@[simp] theorem State.adcDormant_stored (s : State) : s.adcDormant.stored = s.stored := by simp [State.adcDormant]
@[simp] theorem State.adcRun_stored (s : State) : s.adcRun.stored = s.stored := by simp [State.adcRun]
@[simp] theorem State.adcSwap_stored (s : State) : s.adcSwap.stored = s.stored := by simp [State.adcSwap]

/-! ## Valve axes: events and cells (15) -/

@[simp] theorem axisUpdate_stored (s : State) (a : Nat) :
    (axisUpdate s a).stored = s.stored := by
  unfold axisUpdate
  repeat' split
  all_goals simp

@[simp] theorem axisLeadEnd_stored (s : State) (a : Nat) :
    (axisLeadEnd s a).stored = s.stored := by
  unfold axisLeadEnd
  split <;> simp

@[simp] theorem State.interNext_stored (s : State) (g : Nat) :
    (s.interNext g).stored = s.stored := by
  unfold State.interNext
  split <;> simp

@[simp] theorem State.standAll_stored (s : State) (a : Nat) :
    (s.standAll a).stored = s.stored := by
  unfold State.standAll
  split <;> simp

@[simp] theorem State.axNext_stored (s : State) (a : Nat) (d : AxisDef) :
    (s.axNext a d).stored = s.stored := by
  unfold State.axNext
  split <;> simp

@[simp] theorem axisStandstill_stored (s : State) (a : Nat) :
    (axisStandstill s a).stored = s.stored := by
  unfold axisStandstill
  dsimp only
  repeat' split
  all_goals simp

@[simp] theorem autoDisable_stored (s : State) (a : Nat) :
    (autoDisable s a).stored = s.stored := by
  unfold autoDisable
  split <;> simp

@[simp] theorem State.switchAct_stored (s : State) (a sw : Nat) (active : Bool) :
    (s.switchAct a sw active).stored = s.stored := by
  unfold State.switchAct
  dsimp only
  repeat' split
  all_goals simp

@[simp] theorem switchEdge_stored (s : State) (a sw : Nat) (active : Bool) (t : Nat) :
    (switchEdge s a sw active t).stored = s.stored := by
  unfold switchEdge
  split <;> simp

@[simp] theorem pwmPeriod_stored (s : State) (n : Nat) :
    (pwmPeriod s n).stored = s.stored := by
  unfold pwmPeriod
  split <;> simp

@[simp] theorem axsLatch_stored (s : State) (e : Nat) (done : Bool) : (axsLatch s e done).stored = s.stored := by simp [axsLatch]

@[simp] theorem State.takeVoted_stored (s : State) (i : Nat) : (s.takeVoted i).1.stored = s.stored := by
  unfold State.takeVoted
  split <;> rfl

@[simp] theorem State.axWords_stored (s : State) (mask : Nat) : (s.axWords mask).1.stored = s.stored := by
  refine foldl_keeps (fun p : State × List (Nat × List Word) => p.1.stored) _ (fun p x => ?_) _ (s, [])
  dsimp only
  split
  · simp
  · split <;> simp

@[simp] theorem axsCmd_stored (s : State) (e : Nat) (done : Bool) :
    (axsCmd s e done).stored = s.stored := by
  refine State.withCell_stored _ _ _ _ _ fun x u => ?_
  simp

@[simp] theorem outCell_stored (s : State) (e : Nat) (done : Bool) :
    (outCell s e done).stored = s.stored := by
  refine State.withCell_stored _ _ _ _ _ fun x u => ?_
  simp only [State.stored_ite, State.leaveOpen_stored, ite_self]
  refine (State.stored_foldl _ (fun v p => ?_) _ _).trans u.takeFeeds_stored
  split
  · split <;> simp
  · simp

@[simp] theorem State.axesRun_stored (s : State) :
    s.axesRun.stored = s.stored := by
  unfold State.axesRun
  refine State.stored_foldl _ (fun u a => ?_) _ _
  split
  · simp
  · rfl

@[simp] theorem State.axesReset_stored (s : State) : s.axesReset.stored = s.stored := by simp [State.axesReset]

@[simp] theorem State.axesSwap_stored (s : State) (old : Option AxesDef) :
    (s.axesSwap old).stored = s.stored := by
  unfold State.axesSwap
  refine State.stored_foldl _ (fun u a => ?_) _ _
  dsimp only
  split
  · split <;> simp
  · simp

/-! ## The hydraulic solver (08) -/

@[simp] theorem State.hydNotRun_stored (s : State) (t : Nat) : (s.hydNotRun t).stored = s.stored := by simp [State.hydNotRun]
@[simp] theorem State.laneTestEnd_stored (s : State) (pass : Bool) :
    (s.laneTestEnd pass).stored = s.stored := by simp [State.laneTestEnd]
@[simp] theorem State.runLaneTest_stored (s : State) (b : Nat) (pass : Bool) :
    (s.runLaneTest b pass).stored = s.stored := by simp [State.runLaneTest]
@[simp] theorem State.hydEcc_stored (s : State) : s.hydEcc.stored = s.stored := by simp [State.hydEcc]
@[simp] theorem State.endHyd_stored (s : State) (d : HydDef) (t : Nat) (r : HydRun) (cause : Nat) :
    (s.endHyd d t r cause).stored = s.stored := by simp [State.endHyd]

@[simp] theorem State.takeHydTopo_stored (s : State) :
    s.takeHydTopo.stored = s.stored := by
  unfold State.takeHydTopo
  split <;> simp

@[simp] theorem State.hydCell_stored (s0 : State) (x : CombEntry) (cond : SolveCond) (t : Nat) :
    (s0.hydCell x cond t).stored = s0.stored := by
  unfold State.hydCell
  dsimp only
  repeat' split
  all_goals simp

@[simp] theorem slvHydCell_stored (s : State) (e : Nat) (cond : SolveCond) :
    (slvHydCell s e cond).stored = s.stored := by
  unfold slvHydCell
  split
  · rfl
  · rename_i h
    split <;> simp [State.openCell_stored h]

@[simp] theorem slvPubCell_stored (s : State) (e : Nat) (done : Bool) :
    (slvPubCell s e done).stored = s.stored := by simp [slvPubCell]

/-! ## The dispatch problem (09) -/

@[simp] theorem State.takeDispTopo_stored (s : State) :
    s.takeDispTopo.stored = s.stored := by
  unfold State.takeDispTopo
  split <;> simp

@[simp] theorem State.dispEcc_stored (s : State) : s.dispEcc.stored = s.stored := by simp [State.dispEcc]

@[simp] theorem State.dispCell_stored (s0 : State) (x : CombEntry) (cond : SolveCond) :
    (s0.dispCell x cond).stored = s0.stored := by
  unfold State.dispCell
  dsimp only
  repeat' split
  all_goals simp

@[simp] theorem slvDispCell_stored (s : State) (e : Nat) (cond : SolveCond) :
    (slvDispCell s e cond).stored = s.stored := by simp [slvDispCell]

@[simp] theorem State.windowEnd_stored (s : State) : s.windowEnd.stored = s.stored := by
  unfold State.windowEnd
  split <;> simp

@[simp] theorem State.dispCatchUp_stored (s : State) :
    s.dispCatchUp.stored = s.stored := by
  unfold State.dispCatchUp
  split <;> simp

@[simp] theorem State.dispInterrupt_stored (s : State) : s.dispInterrupt.stored = s.stored := by simp [State.dispInterrupt]
@[simp] theorem slvDwinloRead_stored (s : State) : (slvDwinloRead s).stored = s.stored := by simp [slvDwinloRead]
@[simp] theorem solverStoreEcc_stored (s : State) (prob : Nat) (resident : Bool) :
    (solverStoreEcc s prob resident).stored = s.stored := by simp [solverStoreEcc]

@[simp] theorem topologyBuilt_stored (s : State) (prob : Nat) :
    (topologyBuilt s prob).stored = s.stored := by
  unfold topologyBuilt
  repeat' split
  all_goals simp

/-! ## Key slots and key work (18) -/

@[simp] theorem State.setSlotKey_stored (s : State) (n : Nat) (x : KeySlot) :
    (s.setSlotKey n x).stored = s.stored := by simp [State.setSlotKey]

@[simp] theorem State.keyFor_stored (s : State) (eng n : Nat) : (s.keyFor eng n).1.stored = s.stored := by
  unfold State.keyFor
  dsimp only
  split
  · rfl
  split <;> simp

@[simp] theorem State.applyOp_stored (s : State) (m : List Byte) (i : Nat) (o : UpdOp) :
    (s.applyOp m i o).stored = s.stored := by
  unfold State.applyOp
  dsimp only
  simp only [State.stored_ite, State.setSlotKey_stored, ite_self]
  exact ite_self _

@[simp] theorem State.commitUpdate_stored (s : State) (m : List Byte) :
    (s.commitUpdate m).stored = s.stored := by simp [State.commitUpdate]
@[simp] theorem State.refuseUpdate_stored (s : State) (m : List Byte) (st : Nat) :
    (s.refuseUpdate m st).stored = s.stored := by simp [State.refuseUpdate]
@[simp] theorem State.addJob_stored (s : State) (j : KeyJob) : (s.addJob j).stored = s.stored := by simp [State.addJob]

theorem State.takeJob_stored {s t : State} {j : KeyJob} (h : s.takeJob = some (j, t)) : t.stored = s.stored := by
  unfold State.takeJob at h
  split at h
  · cases h
  split at h
  · cases h
  split at h
  · cases h; rfl
  split at h
  · cases h
  dsimp only at h
  split at h
  · cases h; simp
  · cases h

@[simp] theorem State.suspendJob_stored (s : State) :
    s.suspendJob.stored = s.stored := by
  unfold State.suspendJob
  repeat' split
  all_goals simp

@[simp] theorem rngFail_stored (s : State) : (rngFail s).stored = s.stored := by simp [rngFail]

@[simp] theorem State.fillField_stored (s : State) (n : Nat) :
    (s.fillField n).stored = s.stored := by
  unfold State.fillField
  exact s.keyFor_stored engField n

@[simp] theorem State.fillMac_stored (s : State) (d : EthPortDef) (an : Nat) :
    (s.fillMac d an).stored = s.stored := by
  unfold State.fillMac
  dsimp only
  rw [State.setPort_stored, State.keyFor_stored]

@[simp] theorem State.fillCaches_stored (s : State) (want : Nat → Bool) :
    (s.fillCaches want).stored = s.stored := by simp [State.fillCaches]
@[simp] theorem State.fillAll_stored (s : State) : s.fillAll.stored = s.stored := by simp [State.fillAll]
@[simp] theorem State.fillChanged_stored (s : State) : s.fillChanged.stored = s.stored := by simp [State.fillChanged]

/-! ## The recorder (21) -/

@[simp] theorem State.stamped_stored (s : State) (t : Nat) (f : State → State) (hf : ∀ s, (f s).stored = s.stored) :
    (s.stamped t f).stored = s.stored := by simp [State.stamped, hf]

@[simp] theorem State.store_stored (s : State) (r : StoredRec) :
    (s.store r).stored = s.stored := by
  unfold State.store
  repeat' split
  all_goals simp

@[simp] theorem State.startSign_stored (s : State) :
    s.startSign.stored = s.stored := by
  unfold State.startSign
  dsimp only
  split <;> exact s.keyFor_stored engRecorder 9

@[simp] theorem State.commitOne_stored (s : State) :
    s.commitOne.stored = s.stored := by
  unfold State.commitOne
  split
  · rfl
  · simp only [State.stored_ite, State.startSign_stored, State.stored_mk, State.stored_eta, State.store_stored, State.raise_stored,
      State.keyFor_stored, ite_self]

@[simp] theorem State.signRecord_stored (s : State) (cover code : Nat) (half : List Byte) :
    (s.signRecord cover code half).stored = s.stored := by simp [State.signRecord]

@[simp] theorem State.commitSign_stored (s : State) :
    s.commitSign.stored = s.stored := by
  unfold State.commitSign
  split <;> simp

theorem recOnce_stored (now : Nat) (s t : State) (h : recOnce now s = some t) : t.stored = s.stored := by
  unfold recOnce at h
  split at h
  · cases h
  dsimp only at h
  split at h
  · cases h
  split at h
  · split at h
    · split at h
      · cases h; simp
      · cases h
    · split at h
      · cases h; rfl
      · cases h
  · split at h
    · cases h; simp
    · cases h

@[simp] theorem State.recFlush_stored (s : State) :
    s.recFlush.stored = s.stored := by
  unfold State.recFlush
  exact iter_stored _ (recOnce_stored s.tim.dt) _ _

@[simp] theorem recCell_stored (s : State) (e : Nat) :
    (recCell s e).stored = s.stored := by
  unfold recCell
  refine (State.withCell_stored _ _ _ _ _ fun x u => ?_).trans s.recFlush_stored
  simp

@[simp] theorem recordCommitEnd_stored (s : State) : (recordCommitEnd s).stored = s.stored := by simp [recordCommitEnd]
@[simp] theorem recordRaise_stored (s : State) (sev src code : Nat) (body : List Byte) :
    (recordRaise s sev src code body).stored = s.stored := by simp [recordRaise]
@[simp] theorem State.freezeAt_stored (s : State) (qp : Nat) : (s.freezeAt qp).stored = s.stored := by simp [State.freezeAt]
@[simp] theorem State.thaw_stored (s : State) (expired : Bool) : (s.thaw expired).stored = s.stored := by simp [State.thaw]

@[simp] theorem freezeExpiry_stored (s : State) : (freezeExpiry s).stored = s.stored := by
  unfold freezeExpiry
  split <;> simp

@[simp] theorem State.checkSeal_stored (s : State) (r : StoredRec) :
    (s.checkSeal r).stored = s.stored := by
  unfold State.checkSeal
  repeat' split
  all_goals simp

@[simp] theorem State.stagingLost_stored (s : State) : s.stagingLost.stored = s.stored := by simp [State.stagingLost]

/-! ## The status panel (22) -/

@[simp] theorem State.setPreg_stored (s : State) (r : Nat) (x : PnlRegSt) :
    (s.setPreg r x).stored = s.stored := by simp [State.setPreg]
@[simp] theorem State.railsUp_stored (s : State) (d : PanelDef) : (s.railsUp d).stored = s.stored := by simp [State.railsUp]
@[simp] theorem State.railsDown_stored (s : State) : s.railsDown.stored = s.stored := by simp [State.railsDown]
@[simp] theorem State.panelSettle_stored (s : State) : s.panelSettle.stored = s.stored := by simp [State.panelSettle]
@[simp] theorem State.takeTemp_stored (s : State) (d : PanelDef) : (s.takeTemp d).stored = s.stored := by simp [State.takeTemp]
@[simp] theorem State.checkRect_stored (s : State) (r : Nat) : (s.checkRect r).stored = s.stored := by simp [State.checkRect]
@[simp] theorem State.startRegion_stored (s : State) (d : PanelDef) (r wrote : Nat) :
    (s.startRegion d r wrote).stored = s.stored := by simp [State.startRegion]

@[simp] theorem State.panelPump_stored (s : State) : s.panelPump.stored = s.stored := by
  unfold State.panelPump
  split <;> simp

@[simp] theorem State.cellStarts_stored (s : State) (d : PanelDef) (len : Nat) :
    (s.cellStarts d len).stored = s.stored := by
  unfold State.cellStarts
  dsimp only
  refine foldl_keeps (fun p : State × Nat × Nat => p.1.stored) _ (fun p r => ?_) _ (s, 0, 0)
  split
  · split <;> simp
  · rfl

@[simp] theorem pnlCell_stored (s : State) (e : Nat) :
    (pnlCell s e).stored = s.stored := by
  refine State.withCell_stored _ _ _ _ _ fun x u => ?_
  split <;> simp

@[simp] theorem State.completeRegion_stored (s : State) (r : Nat) :
    (s.completeRegion r).stored = s.stored := by
  unfold State.completeRegion
  dsimp only
  repeat' split
  all_goals simp

@[simp] theorem panelUpdateComplete_stored (s : State) (r : Nat) :
    (panelUpdateComplete s r).stored = s.stored := by simp [panelUpdateComplete]

@[simp] theorem State.measureCrack_stored (s : State) (ohm : Nat) :
    (s.measureCrack ohm).stored = s.stored := by
  unfold State.measureCrack
  dsimp only
  rw [State.stored_ite]
  refine (ite_congr rfl (fun _ => ?_) (fun _ => ?_)).trans (ite_self s.stored)
  · simp
  · refine (State.stored_foldl _ (fun u r => ?_) _ _).trans (by simp)
    split <;> simp

@[simp] theorem State.drivePhases_stored (s : State) :
    s.drivePhases.stored = s.stored := by
  unfold State.drivePhases
  refine State.stored_foldl _ (fun u a => ?_) _ _
  repeat' split
  all_goals simp

@[simp] theorem panelFrameStart_stored (s : State) (ohm : Nat) :
    (panelFrameStart s ohm).stored = s.stored := by simp [panelFrameStart]
@[simp] theorem railsUpComplete_stored (s : State) (ohm : Nat) :
    (railsUpComplete s ohm).stored = s.stored := by simp [railsUpComplete]

@[simp] theorem railIdleExpiry_stored (s : State) :
    (railIdleExpiry s).stored = s.stored := by
  unfold railIdleExpiry
  split <;> simp

@[simp] theorem dischargeEnd_stored (s : State) :
    (dischargeEnd s).stored = s.stored := by
  unfold dischargeEnd
  dsimp only
  repeat' split
  all_goals simp

@[simp] theorem State.cutShort_stored (s : State) :
    s.cutShort.stored = s.stored := by
  unfold State.cutShort
  simp only [State.stored_ite, State.railsDown_stored, ite_self]
  refine State.stored_foldl _ (fun u r => ?_) _ _
  split <;> simp

@[simp] theorem State.fastDischarge_stored (s : State) : s.fastDischarge.stored = s.stored := by simp [State.fastDischarge]

@[simp] theorem State.panelVinLoss_stored (s : State) :
    s.panelVinLoss.stored = s.stored := by
  unfold State.panelVinLoss
  split <;> simp

@[simp] theorem vhuBelow_stored (s : State) (mv : Nat) :
    (vhuBelow s mv).stored = s.stored := by
  unfold vhuBelow
  split <;> simp

@[simp] theorem vhuRestored_stored (s : State) (mv : Nat) : (vhuRestored s mv).stored = s.stored := by simp [vhuRestored]
@[simp] theorem State.panelStop_stored (s : State) : s.panelStop.stored = s.stored := by simp [State.panelStop]
@[simp] theorem State.panelRedraw_stored (s : State) : s.panelRedraw.stored = s.stored := by simp [State.panelRedraw]
@[simp] theorem State.panelResume_stored (s : State) : s.panelResume.stored = s.stored := by simp [State.panelResume]
@[simp] theorem State.panelStart_stored (s : State) (fromOff counters : Bool) :
    (s.panelStart fromOff counters).stored = s.stored := by simp [State.panelStart]
@[simp] theorem State.panelDormant_stored (s : State) : s.panelDormant.stored = s.stored := by simp [State.panelDormant]

@[simp] theorem State.panelSwap_stored (s : State) (old : Option PanelDef) :
    (s.panelSwap old).stored = s.stored := by
  unfold State.panelSwap
  refine State.stored_foldl _ (fun u a => ?_) _ _
  repeat' split
  all_goals simp

@[simp] theorem State.panelBoundary_stored (s : State) : s.panelBoundary.stored = s.stored := by simp [State.panelBoundary]

@[simp] theorem State.placeFrame_stored (s : State) (seq r frameId : Nat) (data : List Byte) :
    (s.placeFrame seq r frameId data).stored = s.stored := by
  unfold State.placeFrame
  dsimp only
  split <;> simp

@[simp] theorem State.mapWrite_stored (s : State) (m : Nat) (data : List Byte) :
    (s.mapWrite m data).stored = s.stored := by simp [State.mapWrite]

/-! ## Key work queued (18 R471) -/

@[simp] theorem State.pushWork_stored (s : State) (w : KeyWork) : (s.pushWork w).stored = s.stored := by simp [State.pushWork]

@[simp] theorem State.restartJobs_stored (s : State) :
    s.restartJobs.stored = s.stored := by
  unfold State.restartJobs
  refine (State.stored_foldl _ (fun u j => ?_) _ _).trans ?_ <;> simp

/-! ## Channels (05) -/

@[simp] theorem State.mark_stored (s : State) (i : ChId) : (s.mark i).stored = s.stored := by simp [State.mark]
@[simp] theorem State.writeCkpt_stored (s : State) (i : ChId) (img : Image) :
    (s.writeCkpt i img).stored = s.stored := by simp [State.writeCkpt]
@[simp] theorem State.voidCkpt_stored (s : State) : s.voidCkpt.stored = s.stored := by simp [State.voidCkpt]

@[simp] theorem State.checkpoint_stored (s : State) :
    s.checkpoint.stored = s.stored := by
  unfold State.checkpoint
  repeat' split
  all_goals simp

@[simp] theorem State.unstage_stored (s : State) (i : ChId) : (s.unstage i).stored = s.stored := by simp [State.unstage]
@[simp] theorem State.exclude_stored (s : State) (i : ChId) (cause : Nat) :
    (s.exclude i cause).stored = s.stored := by simp [State.exclude]
@[simp] theorem State.startCopy_stored (s : State) (i : ChId) : (s.startCopy i).stored = s.stored := by simp [State.startCopy]

@[simp] theorem State.fixCopies_stored (s : State) :
    s.fixCopies.stored = s.stored := by
  refine State.forChans_stored _ _ fun u i => ?_
  split
  · split
    · split <;> simp
    · simp
  · rfl

@[simp] theorem State.restartInPlace_stored (s : State) (i : ChId) :
    (s.restartInPlace i).stored = s.stored := by simp [State.restartInPlace]
@[simp] theorem State.beginSelftest_stored (s : State) (i : ChId) :
    (s.beginSelftest i).stored = s.stored := by simp [State.beginSelftest]

@[simp] theorem State.tryNext_stored (s : State) (l : List ChId) : (s.tryNext l).stored = s.stored := by
  induction l with
  | nil => rfl
  | cons j l ih =>
    unfold State.tryNext
    split
    · exact ih
    · simp

@[simp] theorem State.excludeTried_stored (s : State) (i : ChId) (cause : Nat) :
    (s.excludeTried i cause).stored = s.stored := by
  unfold State.excludeTried
  simp

@[simp] theorem State.amendCause_stored (s : State) (i : ChId) :
    (s.amendCause i).stored = s.stored := by
  unfold State.amendCause
  dsimp only
  split <;> simp

@[simp] theorem State.excludeFor_stored (s : State) (i : ChId) (cause : Nat) :
    (s.excludeFor i cause).stored = s.stored := by
  unfold State.excludeFor
  dsimp only
  split <;> simp

@[simp] theorem State.excludeAll_stored (s : State) (l : List (ChId × Nat)) :
    (s.excludeAll l).stored = s.stored := by
  unfold State.excludeAll
  refine State.stored_foldl _ (fun u i => ?_) _ _
  split <;> simp

@[simp] theorem State.excludeMarked_stored (s : State) : s.excludeMarked.stored = s.stored := by simp [State.excludeMarked]
@[simp] theorem State.duplexDiff_stored (s : State) (inCycle : Bool) :
    (s.duplexDiff inCycle).stored = s.stored := by simp [State.duplexDiff]
@[simp] theorem State.shadowIndex_stored (s : State) (maj : Nat) (idx : Tri Nat) :
    (s.shadowIndex maj idx).stored = s.stored := by simp [State.shadowIndex]

@[simp] theorem State.indexCheck_stored (s : State) (b : Bool) (idx : Tri Nat) : (s.indexCheck b idx).1.stored = s.stored := by
  unfold State.indexCheck
  split
  · dsimp only
    split
    · simp
    split
    · simp
    split <;> simp
  · split <;> simp
  · simp
  · rfl

@[simp] theorem channelEcc_stored (s : State) (i : ChId) : (channelEcc s i).stored = s.stored := by simp [channelEcc]
@[simp] theorem attemptStart_stored (s : State) (i : ChId) : (attemptStart s i).stored = s.stored := by simp [attemptStart]

@[simp] theorem State.endSelftest_stored (s : State) (i : ChId) (passed : Nat) (old : List IdentEntry) :
    (s.endSelftest i passed old).stored = s.stored := by
  unfold State.endSelftest
  dsimp only
  split
  · split
    · split
      · split <;> simp
      · simp
    · simp
  split
  · split <;> simp
  split
  · split
    · split
      · split <;> simp
      · simp
    · split
      · split <;> simp
      · simp
  · simp

@[simp] theorem State.runCopy_stored (s : State) (i : ChId) (b : Nat) :
    (s.runCopy i b).stored = s.stored := by
  unfold State.runCopy
  dsimp only
  split <;> simp

@[simp] theorem copyPassEnd_stored (s : State) (i : ChId) :
    (copyPassEnd s i).stored = s.stored := by
  unfold copyPassEnd
  dsimp only
  repeat' split
  all_goals simp

/-! ## Control loops (07) -/

@[simp] theorem State.loopsOne_stored (s : State) (i : ChId) (img : Image) (skip : Bool) (units : List (List (Nat × LoopDef)))
    (tl : Nat) : (s.loopsOne i img skip units tl).stored = s.stored := by simp [State.loopsOne]

/-! ## The snapshot (01 R19) -/

@[simp] theorem State.sampleDin_stored (s : State) (instant din : Nat) :
    (s.sampleDin instant din).stored = s.stored := by simp [State.sampleDin]
@[simp] theorem State.deliverSnap_stored (s : State) (d : Dist) :
    (s.deliverSnap d).stored = s.stored := by simp [State.deliverSnap]

/-! ## Cells of the control cycle (05, 06) -/

@[simp] theorem State.at_stored (s : State) (t : Nat) (f : State → State) (hf : ∀ s, (f s).stored = s.stored) :
    (s.at t f).stored = s.stored := by simp [State.at, hf]

@[simp] theorem State.skipLoops_stored (s : State) (o : OpenCell) :
    (s.skipLoops o).stored = s.stored := by
  unfold State.skipLoops
  split <;> simp

@[simp] theorem State.endOpen_stored (s : State) (o : OpenCell) : (s.endOpen o).stored = s.stored := by simp [State.endOpen]

@[simp] theorem State.endScans_stored (s : State) : s.endScans.stored = s.stored := by
  unfold State.endScans
  split <;> simp

@[simp] theorem State.endTicks_stored (s : State) (t : Nat) :
    (s.endTicks t).stored = s.stored := by
  unfold State.endTicks
  split <;> simp

@[simp] theorem cellEndOverrun_stored (s : State) (e : Nat) :
    (cellEndOverrun s e).stored = s.stored := by
  unfold cellEndOverrun
  dsimp only
  split
  · refine (State.stored_foldl _ (fun u n => ?_) _ _).trans (by simp)
    split
    · split <;> simp
    · rfl
  · rfl

@[simp] theorem State.newCycle_stored (s : State) (x : CombEntry) (live : Bool) :
    (s.newCycle x live).stored = s.stored := by simp [State.newCycle]

@[simp] theorem agreeCell_stored (s : State) (e : Nat) (idx : Tri Nat) (done : Bool) (din : Nat) :
    (agreeCell s e idx done din).stored = s.stored := by
  refine State.withCell_stored _ _ _ _ _ fun x u => ?_
  simp

@[simp] theorem State.startScan_stored (s : State) (e t : Nat) (td : TaskDef) (i : ChId) :
    (s.startScan e t td i).stored = s.stored := by simp [State.startScan]

@[simp] theorem lgeCell_stored (s : State) (e : Nat) (idx : Tri Nat) :
    (lgeCell s e idx).stored = s.stored := by
  refine State.withCell_stored _ _ _ _ _ fun x u => ?_
  dsimp only
  split
  · split
    · simp
    · rw [State.forChans_stored _ _ (by simp)]; simp
  · simp

@[simp] theorem lpeCell_stored (s : State) (e : Nat) (idx done : Tri Nat) :
    (lpeCell s e idx done).stored = s.stored := by
  refine State.withCell_stored _ _ _ _ _ fun x u => ?_
  dsimp only
  split
  · simp
  · simp only [State.stored_ite, State.leaveOpen_stored, ite_self]
    rw [State.forChans_stored _ _ (by simp)]; simp

@[simp] theorem waggleCell_stored (s : State) (e : Nat) (idx bursts : Tri Nat) :
    (waggleCell s e idx bursts).stored = s.stored := by
  refine State.withCell_stored _ _ _ _ _ fun x u => ?_
  simp only [State.stored_ite, State.leaveOpen_stored, ite_self]
  rw [State.forChans_stored _ _ (by simp)]; simp

@[simp] theorem State.voteRequests_stored (s : State) (fld ana : Bool) (stop : Nat) :
    (s.voteRequests fld ana stop).stored = s.stored := by simp [State.voteRequests]

@[simp] theorem voteCell_stored (s : State) (e : Nat) (done : List Slice) :
    (voteCell s e done).stored = s.stored := by
  refine State.withCell_stored _ _ _ _ _ fun x u => ?_
  dsimp only
  split
  · simp
  simp only [State.stored_ite, State.leaveOpen_stored, ite_self]
  rw [State.at_stored _ _ _ (by simp)]
  split <;> simp

@[simp] theorem ckptCell_stored (s : State) (e : Nat) (idx : Tri Nat) (done : Bool) :
    (ckptCell s e idx done).stored = s.stored := by
  refine State.withCell_stored _ _ _ _ _ fun x u => ?_
  simp

/-! ## Clocks and islands (19) -/

@[simp] theorem State.setMon_stored (s : State) (i : Nat) (m : SrcMon) :
    (s.setMon i m).stored = s.stored := by simp [State.setMon]

@[simp] theorem State.channelClock_stored (s : State) (i : ChId) :
    (s.channelClock i).stored = s.stored := by
  unfold State.channelClock
  dsimp only
  split <;> simp

@[simp] theorem State.stopIsland_stored (s : State) (i : Island) :
    (s.stopIsland i).stored = s.stored := by
  unfold State.stopIsland
  split <;> simp

@[simp] theorem State.gate_stored (s : State) (l : List Island) : (s.gate l).stored = s.stored := by simp [State.gate]
@[simp] theorem State.keyClock_stored (s : State) : s.keyClock.stored = s.stored := by simp [State.keyClock]
@[simp] theorem State.aonClock_stored (s : State) : s.aonClock.stored = s.stored := by simp [State.aonClock]
@[simp] theorem State.setPllref_stored (s : State) (v : Bool) : (s.setPllref v).stored = s.stored := by simp [State.setPllref]

@[simp] theorem State.lose_stored (s : State) (c : ClkSrc) :
    (s.lose c).stored = s.stored := by
  unfold State.lose
  split <;> simp

@[simp] theorem State.sourceFailed_stored (s : State) (c : ClkSrc) :
    (s.sourceFailed c).stored = s.stored := by simp [State.sourceFailed]
@[simp] theorem State.slvResume_stored (s : State) : s.slvResume.stored = s.stored := by simp [State.slvResume]
@[simp] theorem State.mtrClock_stored (s : State) : s.mtrClock.stored = s.stored := by simp [State.mtrClock]

@[simp] theorem State.resumed_stored (s : State) (i : Island) :
    (s.resumed i).stored = s.stored := by
  unfold State.resumed
  split <;> simp

@[simp] theorem State.channelBack_stored (s : State) (i : ChId) :
    (s.channelBack i).stored = s.stored := by simp [State.channelBack]

@[simp] theorem State.startRamp_stored (s : State) (i : Island) (gone : Bool) :
    (s.startRamp i gone).stored = s.stored := by
  unfold State.startRamp
  repeat' split
  all_goals simp

@[simp] theorem State.netBack_stored (s : State) : s.netBack.stored = s.stored := by simp [State.netBack]

@[simp] theorem State.islandBack_stored (s : State) (i : Island) :
    (s.islandBack i).stored = s.stored := by
  unfold State.islandBack
  repeat' split
  all_goals simp

@[simp] theorem State.boundaryRamps_stored (s : State) : s.boundaryRamps.stored = s.stored := by simp [State.boundaryRamps]

@[simp] theorem State.gain_stored (s : State) (c : ClkSrc) :
    (s.gain c).stored = s.stored := by
  unfold State.gain
  split <;> simp

@[simp] theorem State.sourceQualified_stored (s : State) (c : ClkSrc) :
    (s.sourceQualified c).stored = s.stored := by simp [State.sourceQualified]

@[simp] theorem monitorWindow_stored (s : State) (c : ClkSrc) (count : Nat) :
    (monitorWindow s c count).stored = s.stored := by
  unfold monitorWindow
  split <;> simp

@[simp] theorem stopDetection_stored (s : State) (c : ClkSrc) : (stopDetection s c).stored = s.stored := by simp [stopDetection]

@[simp] theorem oscillatorReturn_stored (s : State) (c : ClkSrc) :
    (oscillatorReturn s c).stored = s.stored := by
  unfold oscillatorReturn
  repeat' split
  all_goals simp

@[simp] theorem islandResumption_stored (s : State) (i : Island) :
    (islandResumption s i).stored = s.stored := by simp [islandResumption]
@[simp] theorem soscCalibration_stored (s : State) (mhz : Nat) :
    (soscCalibration s mhz).stored = s.stored := by simp [soscCalibration]

@[simp] theorem freqWindowEnd_stored (s : State) (count : Nat) :
    (freqWindowEnd s count).stored = s.stored := by
  unfold freqWindowEnd
  split
  · rfl
  · simp

@[simp] theorem handshakeTimeout_stored (s : State) (i : Island) :
    (handshakeTimeout s i).stored = s.stored := by
  unfold handshakeTimeout
  repeat' split
  all_goals simp

@[simp] theorem selftestEnd_stored (s : State) (i : ChId) (passed : Nat) :
    (selftestEnd s i passed).stored = s.stored := by simp [selftestEnd]

/-! ## Supers, swaps and run states (04, 17) -/

@[simp] theorem State.setSuper_stored (s : State) (x : Nat) {u : Super} (h : u.bytes = (s.super x).bytes) :
    (s.setSuper x u).stored = s.stored := by
  unfold State.setSuper
  unfold State.super at h
  split at h
  · rw [if_pos ‹_›, State.stored_mk, h]; rfl
  · rw [if_neg ‹_›, State.stored_mk, h]; rfl

@[simp] theorem State.superTo_stored (s : State) (x : Nat) (st : SuperSt) :
    (s.superTo x st).stored = s.stored := by simp [State.superTo]
@[simp] theorem State.invalidate_stored (s : State) (x status : Nat) :
    (s.invalidate x status).stored = s.stored := by simp [State.invalidate]
@[simp] theorem State.armSwap_stored (s : State) (x : Nat) (k : Int) (seq : Nat) :
    (s.armSwap x k seq).stored = s.stored := by simp [State.armSwap]

@[simp] theorem State.dropSwap_stored (s : State) (st : SuperSt) (status : Nat) :
    (s.dropSwap st status).stored = s.stored := by
  unfold State.dropSwap
  repeat' split
  all_goals simp

@[simp] theorem State.cancelSwap_stored (s : State) : s.cancelSwap.stored = s.stored := by simp [State.cancelSwap]

@[simp] theorem stagingComplete_stored (s : State) (okay : Bool) :
    (stagingComplete s okay).stored = s.stored := by
  unfold stagingComplete
  repeat' split
  all_goals simp

@[simp] theorem State.applyItem_stored (s : State) (p : ValueEntry × Word) :
    (s.applyItem p).stored = s.stored := by simp [State.applyItem]
@[simp] theorem State.applyEdits_stored (s : State) : s.applyEdits.stored = s.stored := by simp [State.applyEdits]
@[simp] theorem State.voidEdits_stored (s : State) (status : Nat) :
    (s.voidEdits status).stored = s.stored := by simp [State.voidEdits]
@[simp] theorem State.doRead_stored (s : State) (r : PendRead) : (s.doRead r).stored = s.stored := by simp [State.doRead]
@[simp] theorem State.applyReads_stored (s : State) : s.applyReads.stored = s.stored := by simp [State.applyReads]

@[simp] theorem State.listRecords_stored (s : State) (n : Nat) (l : List (Nat × Nat)) : (s.listRecords n l).stored = s.stored := by
  induction n generalizing s l with
  | zero => rfl
  | succ n ih =>
    cases l with
    | nil => rfl
    | cons x xs =>
      unfold State.listRecords
      rw [ih, State.record_stored]

@[simp] theorem State.reportSwap_stored (s : State) (x : Nat) (a b : Image) :
    (s.reportSwap x a b).stored = s.stored := by
  unfold State.reportSwap
  simp

@[simp] theorem State.swapSolver_stored (s : State) (b : Image) (k : Int) :
    (s.swapSolver b k).stored = s.stored := by simp [State.swapSolver]
@[simp] theorem State.swapStations_stored (s : State) (old : List StnDef) :
    (s.swapStations old).stored = s.stored := by simp [State.swapStations]
@[simp] theorem State.swapCan_stored (s : State) (a : Option Image) (b : Image) :
    (s.swapCan a b).stored = s.stored := by simp [State.swapCan]
@[simp] theorem State.swapEth_stored (s : State) (a : Option Image) (b : Image) :
    (s.swapEth a b).stored = s.stored := by simp [State.swapEth]

@[simp] theorem State.swapChannels_stored (s : State) (a b : Image) :
    (s.swapChannels a b).stored = s.stored := by
  refine State.forChans_stored _ _ fun u i => ?_
  dsimp only
  split <;> simp

@[simp] theorem State.raiseEpoch_stored (s : State) (i : Image) : (s.raiseEpoch i).stored = s.stored := by simp [State.raiseEpoch]
@[simp] theorem State.changeUnits_stored (s old : State) (a : Option Image) (b : Image) :
    (s.changeUnits old a b).stored = s.stored := by simp [State.changeUnits]

@[simp] theorem State.takeImage_stored (s : State) (x : Nat) (a b : Image) :
    (s.takeImage x a b).stored = s.stored := by
  unfold State.takeImage
  dsimp only
  split <;> simp

@[simp] theorem State.makeSwap_stored (s : State) : s.makeSwap.stored = s.stored := by
  unfold State.makeSwap
  split <;> simp

@[simp] theorem superSwap_stored (s : State) : (superSwap s).stored = s.stored := by simp [superSwap]

@[simp] theorem State.runRefused_stored (s : State) (status : Nat) :
    (s.runRefused status).stored = s.stored := by
  unfold State.runRefused
  split <;> simp

@[simp] theorem State.axesAbort_stored (s : State) :
    s.axesAbort.stored = s.stored := by
  unfold State.axesAbort
  refine State.stored_foldl _ (fun u a => ?_) _ _
  split
  · split <;> simp
  · rfl

@[simp] theorem State.startProgram_stored (s : State) (i : Image) :
    (s.startProgram i).stored = s.stored := by
  have loaded : (s.forChans (fun s c =>
      let x := s.chan c
      match x.st with
      | .voting | .shadow => s.setChan c ((x.load i s.sup.overlay).restore s.newestCkpt s.ckptIdent i.ident)
      | _ => s)).stored = s.stored := by
    refine State.forChans_stored _ _ fun u c => ?_
    dsimp only
    split <;> simp
  unfold State.startProgram
  simp only [State.adcRun_stored, State.stnRun_stored, State.axesRun_stored, State.stored_mk, State.stored_eta]
  rw [State.forChans_stored _ _ (by simp)]
  exact loaded

@[simp] theorem State.enterRun_stored (s : State) : s.enterRun.stored = s.stored := by
  unfold State.enterRun
  split <;> simp

@[simp] theorem State.outputsSafe_stored (s : State) : s.outputsSafe.stored = s.stored := by simp [State.outputsSafe]
@[simp] theorem State.haltCkpt_stored (s : State) (late : Bool) : (s.haltCkpt late).stored = s.stored := by simp [State.haltCkpt]
@[simp] theorem State.haltBoundary_stored (s : State) (late : Bool) :
    (s.haltBoundary late).stored = s.stored := by simp [State.haltBoundary]

@[simp] theorem State.enterHalt_stored (s : State) (m : Nat) : (s.enterHalt m).1.stored = s.stored := by
  unfold State.enterHalt
  simp

@[simp] theorem State.loadImage_stored (s : State) (i : Image) : (s.loadImage i).stored = s.stored := by simp [State.loadImage]

@[simp] theorem State.activate_stored (s0 : State) (x seq : Nat) :
    (s0.activate x seq).stored = s0.stored := by
  unfold State.activate
  dsimp only
  split <;> simp

@[simp] theorem solverBuilt_stored (s : State) :
    (solverBuilt s).stored = s.stored := by
  unfold solverBuilt
  repeat' split
  all_goals simp

/-! ## The calendar (20) -/

@[simp] theorem State.setAlarm_stored (s : State) (n : Nat) (a : Alarm) :
    (s.setAlarm n a).stored = s.stored := by simp [State.setAlarm]
@[simp] theorem State.pushAdj_stored (s : State) (seq : Nat) (a : Adj) :
    (s.pushAdj seq a).stored = s.stored := by simp [State.pushAdj]

/-! ## Host commands of administration and images (17) -/

@[simp] theorem State.identify_stored (s : State) (q : Nat) : (s.identify q).stored = s.stored := by simp [State.identify]
@[simp] theorem State.qpCreate_stored (s : State) (q : Nat) (p : QpParam) :
    (s.qpCreate q p).stored = s.stored := by simp [State.qpCreate]
@[simp] theorem State.qpDelete_stored (s : State) (q id : Nat) : (s.qpDelete q id).stored = s.stored := by simp [State.qpDelete]

@[simp] theorem State.ringStatus_stored (s : State) (q id : Nat) :
    (s.ringStatus q id).stored = s.stored := by
  unfold State.ringStatus
  split
  · simp
  · dsimp only
    rw [State.complete_stored, State.freshNat_stored, State.freshNat_stored]

@[simp] theorem State.echo_stored (s : State) (q lo hi : Nat) : (s.echo q lo hi).stored = s.stored := by simp [State.echo]

@[simp] theorem State.history_stored (s : State) (q c : Nat) :
    (s.history q c).stored = s.stored := by
  unfold State.history
  split <;> simp

@[simp] theorem State.runCmd_stored (s0 : State) (q : Nat) (trusted : Bool) :
    (s0.runCmd q trusted).stored = s0.stored := by simp [State.runCmd]

@[simp] theorem State.issueChallenge_stored (s : State) (q : Nat) :
    (s.issueChallenge q).stored = s.stored := by
  unfold State.issueChallenge
  dsimp only
  rw [State.complete_stored]
  exact s.random_stored 16

@[simp] theorem State.challengeCmd_stored (s : State) (q : Nat) :
    (s.challengeCmd q).stored = s.stored := by simp [State.challengeCmd]
@[simp] theorem State.verifyImage_stored (s : State) (q x : Nat) :
    (s.verifyImage q x).stored = s.stored := by simp [State.verifyImage]
@[simp] theorem State.statusCmd_stored (s : State) (q : Nat) : (s.statusCmd q).stored = s.stored := by simp [State.statusCmd]
@[simp] theorem State.armCmd_stored (s : State) (q x hp : Nat) : (s.armCmd q x hp).stored = s.stored := by simp [State.armCmd]

@[simp] theorem State.disarmCmd_stored (s : State) (q : Nat) :
    (s.disarmCmd q).stored = s.stored := by
  unfold State.disarmCmd
  split <;> simp

@[simp] theorem State.swapReportCmd_stored (s : State) (q first bufLen : Nat) :
    (s.swapReportCmd q first bufLen).stored = s.stored := by simp [State.swapReportCmd]
@[simp] theorem State.editCmd_stored (s : State) (q : Nat) (l : List (Nat × Word)) :
    (s.editCmd q l).stored = s.stored := by simp [State.editCmd]
@[simp] theorem State.readCmd_stored (s : State) (q : Nat) (pids : List Nat) :
    (s.readCmd q pids).stored = s.stored := by simp [State.readCmd]

/-! ## Host commands of the units (17) -/

@[simp] theorem State.simulateCmd_stored (s : State) (q n mode : Nat) (buf : List Byte) :
    (s.simulateCmd q n mode buf).stored = s.stored := by simp [State.simulateCmd]
@[simp] theorem State.queryCmd_stored (s : State) (q first count : Nat) :
    (s.queryCmd q first count).stored = s.stored := by simp [State.queryCmd]
@[simp] theorem State.deltaCmd_stored (s : State) (q : Nat) (recs : List Byte) :
    (s.deltaCmd q recs).stored = s.stored := by simp [State.deltaCmd]

@[simp] theorem State.hydTopology_stored (s : State) (q : Nat) (v : View) :
    (s.hydTopology q v).stored = s.stored := by
  unfold State.hydTopology
  split <;> simp

@[simp] theorem State.dispTopology_stored (s : State) (q : Nat) (v : View) :
    (s.dispTopology q v).stored = s.stored := by
  unfold State.dispTopology
  split <;> simp

@[simp] theorem State.topologyCmd_stored (s : State) (q prob : Nat) (sec : List Byte) :
    (s.topologyCmd q prob sec).stored = s.stored := by simp [State.topologyCmd]
@[simp] theorem State.solutionCmd_stored (s : State) (q prob : Nat) :
    (s.solutionCmd q prob).stored = s.stored := by simp [State.solutionCmd]
@[simp] theorem State.regReadCmd_stored (s : State) (q kind i : Nat) :
    (s.regReadCmd q kind i).stored = s.stored := by simp [State.regReadCmd]
@[simp] theorem State.archiveReadCmd_stored (s : State) (q first count : Nat) :
    (s.archiveReadCmd q first count).stored = s.stored := by simp [State.archiveReadCmd]

@[simp] theorem State.panelUpdateCmd_stored (s : State) (q r frameId : Nat) (data : List Byte) :
    (s.panelUpdateCmd q r frameId data).stored = s.stored := by
  unfold State.panelUpdateCmd
  split <;> simp

@[simp] theorem State.mapWriteCmd_stored (s : State) (q m : Nat) (data : List Byte) :
    (s.mapWriteCmd q m data).stored = s.stored := by simp [State.mapWriteCmd]
@[simp] theorem State.panelStatusCmd_stored (s : State) (q : Nat) :
    (s.panelStatusCmd q).stored = s.stored := by simp [State.panelStatusCmd]
@[simp] theorem State.setPositionCmd_stored (s : State) (q a : Nat) (p : Int) :
    (s.setPositionCmd q a p).stored = s.stored := by simp [State.setPositionCmd]
@[simp] theorem State.axisCmd_stored (s : State) (q a : Nat) : (s.axisCmd q a).stored = s.stored := by simp [State.axisCmd]

@[simp] theorem State.moveCmd_stored (s : State) (q a : Nat) (target : Int) (vmax : Nat) :
    (s.moveCmd q a target vmax).stored = s.stored := by
  unfold State.moveCmd
  split <;> simp

@[simp] theorem State.homeCmd_stored (s : State) (q a : Nat) (p : Int) :
    (s.homeCmd q a p).stored = s.stored := by
  unfold State.homeCmd
  split <;> simp

@[simp] theorem State.stopCmd_stored (s : State) (q a : Nat) (disable : Bool) :
    (s.stopCmd q a disable).stored = s.stored := by
  unfold State.stopCmd
  split <;> simp

@[simp] theorem State.calibrateCmd_stored (s : State) (q pair : Nat) (c : CalSums) :
    (s.calibrateCmd q pair c).stored = s.stored := by simp [State.calibrateCmd]
@[simp] theorem State.captureReadCmd_stored (s : State) (q pair : Nat) :
    (s.captureReadCmd q pair).stored = s.stored := by simp [State.captureReadCmd]

@[simp] theorem State.txAnCmd_stored (s : State) (q port an : Nat) :
    (s.txAnCmd q port an).stored = s.stored := by
  unfold State.txAnCmd
  split <;> simp

@[simp] theorem State.applyTxAn_stored (s : State) : s.applyTxAn.stored = s.stored := by simp [State.applyTxAn]
@[simp] theorem State.domainSelectCmd_stored (s : State) (q : Nat) (d : Dom) :
    (s.domainSelectCmd q d).stored = s.stored := by simp [State.domainSelectCmd]
@[simp] theorem State.freqMeasureCmd_stored (s : State) (q src : Nat) :
    (s.freqMeasureCmd q src).stored = s.stored := by simp [State.freqMeasureCmd]
@[simp] theorem State.rtcSetCmd_stored (s : State) (q : Nat) (c : Civil) :
    (s.rtcSetCmd q c).stored = s.stored := by simp [State.rtcSetCmd]
@[simp] theorem State.rtcReadCmd_stored (s : State) (q : Nat) : (s.rtcReadCmd q).stored = s.stored := by simp [State.rtcReadCmd]
@[simp] theorem State.alarmSetCmd_stored (s : State) (q n mask policy en : Nat) (c : Civil) :
    (s.alarmSetCmd q n mask policy en c).stored = s.stored := by simp [State.alarmSetCmd]
@[simp] theorem State.rtcFromPtpCmd_stored (s : State) (q : Nat) :
    (s.rtcFromPtpCmd q).stored = s.stored := by simp [State.rtcFromPtpCmd]
@[simp] theorem State.rtcTrimCmd_stored (s : State) (q : Nat) (t : Int) :
    (s.rtcTrimCmd q t).stored = s.stored := by simp [State.rtcTrimCmd]
@[simp] theorem State.recReadCmd_stored (s : State) (q first count : Nat) :
    (s.recReadCmd q first count).stored = s.stored := by simp [State.recReadCmd]
@[simp] theorem State.freezeCmd_stored (s : State) (q : Nat) : (s.freezeCmd q).stored = s.stored := by simp [State.freezeCmd]
@[simp] theorem State.thawCmd_stored (s : State) (q : Nat) : (s.thawCmd q).stored = s.stored := by simp [State.thawCmd]
@[simp] theorem State.recCountsCmd_stored (s : State) (q : Nat) :
    (s.recCountsCmd q).stored = s.stored := by simp [State.recCountsCmd]

@[simp] theorem State.request_stored (s : State) (eng : Nat) (l : List Nat) :
    (s.request eng l).stored = s.stored := by
  exact State.stored_foldl _ (by simp) l s

@[simp] theorem State.updateCmd_stored (s : State) (q : Nat) (m : List Byte) :
    (s.updateCmd q m).stored = s.stored := by simp [State.updateCmd]
@[simp] theorem State.slotQueryCmd_stored (s : State) (q n : Nat) :
    (s.slotQueryCmd q n).stored = s.stored := by simp [State.slotQueryCmd]
@[simp] theorem State.attestCmd_stored (s : State) (q n : Nat) (nonce : List Byte) :
    (s.attestCmd q n nonce).stored = s.stored := by simp [State.attestCmd]
@[simp] theorem State.legacyExportCmd_stored (s : State) (q n w : Nat) :
    (s.legacyExportCmd q n w).stored = s.stored := by simp [State.legacyExportCmd]
@[simp] theorem State.identityCmd_stored (s : State) (q : Nat) :
    (s.identityCmd q).stored = s.stored := by simp [State.identityCmd]

/-! ## Taking commands; key work that ends (17) -/

@[simp] theorem State.authRecord_stored (s : State) (sev opc status : Nat) :
    (s.authRecord sev opc status).stored = s.stored := by simp [State.authRecord]
@[simp] theorem State.refuseAuth_stored (s : State) (q opc status : Nat) :
    (s.refuseAuth q opc status).stored = s.stored := by simp [State.refuseAuth]

@[simp] theorem State.haltDo_stored (s : State) (q hmode : Nat) :
    (s.haltDo q hmode).stored = s.stored := by
  unfold State.haltDo
  simp

@[simp] theorem State.setupDo_stored (s : State) (q : Nat) : (s.setupDo q).stored = s.stored := by simp [State.setupDo]
@[simp] theorem State.trimDo_stored (s : State) (q e r g d : Nat) :
    (s.trimDo q e r g d).stored = s.stored := by simp [State.trimDo]
@[simp] theorem State.dormantDo_stored (s : State) (q : Nat) : (s.dormantDo q).stored = s.stored := by simp [State.dormantDo]

@[simp] theorem State.outputForceDo_stored (s : State) (q n mode : Nat) (ws : List Word) :
    (s.outputForceDo q n mode ws).stored = s.stored := by
  unfold State.outputForceDo
  split <;> simp

@[simp] theorem State.authDo_stored (s : State) (q : Nat) (c : Instr) : (s.authDo q c).stored = s.stored := by
  unfold State.authDo
  split <;> simp

@[simp] theorem State.authEnd_stored (s : State) :
    s.authEnd.stored = s.stored := by
  unfold State.authEnd
  split
  · rfl
  · simp

@[simp] theorem State.takeAuth_stored (s0 : State) (q : Nat) (c : Instr) :
    (s0.takeAuth q c).stored = s0.stored := by simp [State.takeAuth]
@[simp] theorem State.verifyEnd_stored (s : State) (q x : Nat) : (s.verifyEnd q x).stored = s.stored := by simp [State.verifyEnd]
@[simp] theorem State.updateEnd_stored (s : State) (q : Nat) (m : List Byte) :
    (s.updateEnd q m).stored = s.stored := by simp [State.updateEnd]

@[simp] theorem State.wrapEnd_stored (s : State) (q n w : Nat) :
    (s.wrapEnd q n w).stored = s.stored := by
  unfold State.wrapEnd
  dsimp only
  split
  · simp
  · simp

@[simp] theorem State.finishWork_stored (s : State) (w : KeyWork) : (s.finishWork w).stored = s.stored := by
  unfold State.finishWork
  split <;> simp

@[simp] theorem State.refreshHead_stored (s : State) :
    s.refreshHead.stored = s.stored := by
  unfold State.refreshHead
  split <;> simp

theorem State.endWork_stored {s t : State} (h : s.endWork = some t) : t.stored = s.stored := by
  unfold State.endWork at h
  split at h
  · cases h
  · rename_i e; cases h; simp [State.takeJob_stored e]

theorem keyOnce_stored (s t : State) (h : keyOnce s = some t) : t.stored = s.stored := by
  unfold keyOnce at h
  split at h
  · cases h
  split at h
  · split at h
    · cases h; rw [State.stamped_stored _ _ _ (by simp)]; rfl
    · cases h
  · cases h

@[simp] theorem State.keyFlush_stored (s : State) :
    s.keyFlush.stored = s.stored := by
  unfold State.keyFlush
  have done : (iter s.key.jobs.length keyOnce s).stored = s.stored := iter_stored _ keyOnce_stored _ _
  dsimp only
  split
  · split <;> simp [done]
  · exact done

@[simp] theorem keyCell_stored (s : State) (e : Nat) : (keyCell s e).stored = s.stored := by simp [keyCell]

@[simp] theorem challengeExpiry_stored (s : State) :
    (challengeExpiry s).stored = s.stored := by
  unfold challengeExpiry
  split
  · rfl
  · simp

/-! ## Hyperperiod boundaries (03) -/

@[simp] theorem State.shiftInstants_stored (s : State) (a b : Nat) :
    (s.shiftInstants a b).stored = s.stored := by simp [State.shiftInstants]

@[simp] theorem State.doStep_stored (s : State) : s.doStep.stored = s.stored := by
  unfold State.doStep
  split <;> simp

@[simp] theorem firstLockStep_stored (s : State) : (firstLockStep s).stored = s.stored := by simp [firstLockStep]
@[simp] theorem State.flushTo_stored (s : State) (t : Nat) : (s.flushTo t).stored = s.stored := by simp [State.flushTo]
@[simp] theorem State.newHpFlags_stored (s : State) : s.newHpFlags.stored = s.stored := by simp [State.newHpFlags]
@[simp] theorem State.ageChannels_stored (s : State) (voted : Bool) :
    (s.ageChannels voted).stored = s.stored := by simp [State.ageChannels]

@[simp] theorem State.resumeRestart_stored (s : State) :
    s.resumeRestart.stored = s.stored := by
  unfold State.resumeRestart
  split
  · rw [State.endForce_stored]
    refine State.forChans_stored _ _ fun u i => ?_
    dsimp only
    split
    · simp
    · split <;> simp
  · rfl

@[simp] theorem State.channelBoundary_stored (s : State) :
    s.channelBoundary.stored = s.stored := by
  refine State.forChans_stored _ _ fun u i => ?_
  dsimp only
  split
  · split <;> simp
  · split
    · split
      · simp
      · split
        · simp
        · split <;> simp
    · rfl
  · rfl

@[simp] theorem State.afterGap_stored (s : State) (step : Bool) :
    (s.afterGap step).stored = s.stored := by
  unfold State.afterGap
  split <;> simp

@[simp] theorem State.tryAutorun_stored (s : State) : s.tryAutorun.stored = s.stored := by simp [State.tryAutorun]
@[simp] theorem State.commitSwap_stored (s : State) : s.commitSwap.stored = s.stored := by simp [State.commitSwap]

/-! ## Instructions of the logic engine (06) -/

@[simp] theorem lgeInstr_stored (i : Instr) (ch : ChId) (s : State) :
    (lgeInstr i ch s).stored = s.stored := by
  unfold lgeInstr
  split <;> simp

/-! ## Power and start-up (19) -/

@[simp] theorem State.powerDown_stored (s : State) (p : Power) : (s.powerDown p).stored = s.stored := by simp [State.powerDown]
@[simp] theorem State.loseVin_stored (s : State) : s.loseVin.stored = s.stored := by simp [State.loseVin]

@[simp] theorem vinLossEv_stored (s : State) :
    (vinLossEv s).stored = s.stored := by
  unfold vinLossEv
  repeat' split
  all_goals simp

@[simp] theorem vauxLossEv_stored (s : State) :
    (vauxLossEv s).stored = s.stored := by
  unfold vauxLossEv
  repeat' split
  all_goals simp

@[simp] theorem State.setVio_stored (s : State) (b : Nat) (v : Bool) : (s.setVio b v).stored = s.stored := by simp [State.setVio]
@[simp] theorem vioLossEv_stored (s : State) (b : Nat) : (vioLossEv s b).stored = s.stored := by simp [vioLossEv]
@[simp] theorem State.redriveBalls_stored (s : State) : s.redriveBalls.stored = s.stored := by simp [State.redriveBalls]
@[simp] theorem vioRestoreEv_stored (s : State) (b : Nat) : (vioRestoreEv s b).stored = s.stored := by simp [vioRestoreEv]
@[simp] theorem trst_stored (s : State) : (trst s).stored = s.stored := by simp [trst]
@[simp] theorem dormantEntryEnd_stored (s : State) : (dormantEntryEnd s).stored = s.stored := by simp [dormantEntryEnd]
@[simp] theorem operatingSecond_stored (s : State) : (operatingSecond s).stored = s.stored := by simp [operatingSecond]
@[simp] theorem State.startClocks_stored (s : State) (unqual : List ClkSrc) :
    (s.startClocks unqual).stored = s.stored := by simp [State.startClocks]
@[simp] theorem State.startSlots_stored (s : State) (l : List Nat) :
    (s.startSlots l).stored = s.stored := by simp [State.startSlots]

@[simp] theorem State.chooseSuper_stored (s : State) :
    s.chooseSuper.stored = s.stored := by
  unfold State.chooseSuper
  repeat' split
  all_goals simp

@[simp] theorem State.startVerify_stored (s : State) :
    s.startVerify.stored = s.stored := by
  unfold State.startVerify
  split <;> simp

@[simp] theorem State.startChannel_stored (s : State) (i : ChId) (passed : Nat) :
    (s.startChannel i passed).stored = s.stored := by simp [State.startChannel]

@[simp] theorem State.startUnits_stored (s : State) (res : StartResult) :
    (s.startUnits res).stored = s.stored := by
  unfold State.startUnits
  refine (State.stored_foldl _ (fun u q => ?_) _ _).trans ?_
  · split <;> simp
  · simp only [State.stored_ite, State.unitRec_stored, ite_self]
    rw [State.forChans_stored _ _ (by simp)]
    split
    · simp
    · rfl

@[simp] theorem State.startHoney_stored (s : State) : s.startHoney.stored = s.stored := by simp [State.startHoney]
@[simp] theorem State.startEnd_stored (s : State) : s.startEnd.stored = s.stored := by simp [State.startEnd]
@[simp] theorem startUpComplete_stored (s : State) (res : StartResult) :
    (startUpComplete s res).stored = s.stored := by simp [startUpComplete]

/-! ## Calendar, alarms and DORMANT requests (20) -/

@[simp] theorem State.alarmAt_stored (s : State) (n : Nat) (span : Option Nat) (v : Nat) :
    (s.alarmAt n span v).stored = s.stored := by simp [State.alarmAt]
@[simp] theorem State.rollover_stored (s : State) : s.rollover.stored = s.stored := by simp [State.rollover]
@[simp] theorem rtcCal0Read_stored (s : State) : (rtcCal0Read s).stored = s.stored := by simp [rtcCal0Read]
@[simp] theorem pwrOpsloRead_stored (s : State) : (pwrOpsloRead s).stored = s.stored := by simp [pwrOpsloRead]
@[simp] theorem State.dormAnswer_stored (s : State) (t op status seq : Nat) (data : List Byte) :
    (s.dormAnswer t op status seq data).stored = s.stored := by simp [State.dormAnswer]
@[simp] theorem dormantStatus_stored (s : State) (t seq : Nat) :
    (dormantStatus s t seq).stored = s.stored := by simp [dormantStatus]
@[simp] theorem dormantTime_stored (s : State) (t seq : Nat) : (dormantTime s t seq).stored = s.stored := by simp [dormantTime]
@[simp] theorem dormantRecRead_stored (s : State) (t seq first count : Nat) :
    (dormantRecRead s t seq first count).stored = s.stored := by simp [dormantRecRead]

/-! ## Register writes (16 R417) -/

@[simp] theorem State.countLock_stored (s : State) (off : Nat) : (s.countLock off).stored = s.stored := by simp [State.countLock]

@[simp] theorem State.clearW1c_stored (s : State) (off v : Nat) :
    (s.clearW1c off v).stored = s.stored := by
  unfold State.clearW1c
  repeat' split
  all_goals simp

@[simp] theorem State.requalify_stored (s : State) : s.requalify.stored = s.stored := by simp [State.requalify]

/-! ## The tick -/

@[simp] theorem State.runNext_stored (s : State) (i : ChId) :
    (s.runNext i).stored = s.stored := by
  unfold State.runNext
  split <;> simp

@[simp] theorem State.countDt_stored (s : State) : s.countDt.stored = s.stored := by simp [State.countDt]
end Sys2Proof.Machine
end

section
/-!
PROOFS. The canonical form of the stored register fields and of the bytes of the supers: the few operations that write them keep
it, and so does every step (16 R417, 04 R94).
-/
namespace Sys2Proof.Machine

open Sys2Proof.Claim

/-! ## The canonical form -/

/-- What leaves the stored fields and the bytes of the supers alone keeps the canonical form. -/
theorem canonical_of_stored {s t : State} (h : t.stored = s.stored) (c : Canonical s) : Canonical t := by
  simp only [State.stored, Prod.mk.injEq] at h
  obtain ⟨hr, h0, h1⟩ := h
  unfold Claim.Canonical
  rw [hr, h0, h1]
  exact c

/-! ## Register writes (16 R417, R418) -/

theorem State.setReg_canonical {s : State} (c : Canonical s) (o : Nat) (v : Word) : Canonical (s.setReg o v) := by
  obtain ⟨hr, hb⟩ := c
  exact ⟨SMap.wf_set regReset s.regs o v hr, hb⟩

theorem State.setFld_canonical {s : State} (c : Canonical s) (o hi lo v : Nat) : Canonical (s.setFld o hi lo v) :=
  State.setReg_canonical c ..

theorem State.storeFields_canonical {s : State} (c : Canonical s) (o v : Nat) : Canonical (s.storeFields o v) :=
  State.setReg_canonical c ..

theorem panelTest_canonical {s : State} (c : Canonical s) (on : Bool) : Canonical (panelTest s on) := by
  unfold panelTest
  split
  · exact State.setFld_canonical c ..
  · exact c

theorem aqctlSet_canonical {s : State} (c : Canonical s) : Canonical (aqctlSet s) := by
  unfold aqctlSet
  split
  · exact c
  · exact canonical_of_stored (by simp) (State.setReg_canonical c 0x34 1)

theorem aqctlClear_canonical {s : State} (c : Canonical s) : Canonical (aqctlClear s) := by
  unfold aqctlClear
  split
  · exact c
  · exact canonical_of_stored (by simp) (State.setReg_canonical c 0x34 0)

theorem State.afterWrite_canonical {s : State} (c : Canonical s) (o v : Nat) : Canonical (s.afterWrite o v) := by
  unfold State.afterWrite
  split
  · split
    · exact aqctlSet_canonical c
    · exact aqctlClear_canonical c
  split
  · exact canonical_of_stored (by split <;> simp) c
  split
  · exact canonical_of_stored (by simp) c
  split
  · exact canonical_of_stored (by simp) c
  split
  · exact panelTest_canonical c _
  · exact c

theorem execRegisterWrite_canonical {s t : State} (c : Canonical s) {o : Nat} {v : Word}
    (h : execRegisterWrite o v s = .next t) : Canonical t := by
  unfold execRegisterWrite at h
  dsimp only at h
  split at h
  · cases h; exact c
  split at h
  · cases h; exact State.afterWrite_canonical c ..
  split at h
  · cases h
    refine State.afterWrite_canonical (canonical_of_stored (State.clearW1c_stored ..) (State.storeFields_canonical ?_ ..)) ..
    exact canonical_of_stored (by simp) c
  · cases h

theorem execXin1FrequencyWrite_canonical {s t : State} (c : Canonical s) {k : Nat} (h : execXin1FrequencyWrite k s = .next t) :
    Canonical t := by
  unfold execXin1FrequencyWrite at h
  split at h
  · cases h; exact c
  split at h
  · cases h; exact canonical_of_stored (by simp) c
  split at h
  · cases h; exact canonical_of_stored (by simp) (State.setFld_canonical c 0x1000 15 0 k)
  · cases h

/-! ## Registers at a link-down and a watchdog expiry (16 R415, 19 R502) -/

theorem pcieLinkDown_canonical {s : State} (c : Canonical s) : Canonical (pcieLinkDown s) := by
  unfold pcieLinkDown State.linkDown
  split
  · refine canonical_of_stored (State.unitRec_stored ..) (State.setReg_canonical (canonical_of_stored ?_ c) 0x34 0)
    simp
  · exact c

theorem watchdogExpiry_canonical {s : State} (c : Canonical s) : Canonical (watchdogExpiry s) := by
  unfold watchdogExpiry
  split
  · exact c
  · refine canonical_of_stored (State.raiseRec_stored ..) (State.setReg_canonical (canonical_of_stored ?_ c) 0x34 0)
    simp only [State.stored_mk, State.stored_eta, State.dropAllQps_stored]
    split
    · split <;> simp
    · rfl

/-! ## Registers and supers at a start (19 R499, 04 R97) -/

/-- Entries left out of a memory leave it canonical. -/
theorem wfFrom_filter {α : Type} [DecidableEq α] (d : Nat → α) (m : SMap α) (f : Nat × α → Bool) (lo : Option Nat)
    (h : SMap.wfFrom d lo m = true) : SMap.wfFrom d lo (m.filter f) = true := by
  induction m generalizing lo with
  | nil => rfl
  | cons p m ih =>
    obtain ⟨a, v⟩ := p
    simp only [SMap.wfFrom, Bool.and_eq_true] at h
    obtain ⟨⟨hlo, hv⟩, hm⟩ := h
    rw [List.filter_cons]
    split
    · simp only [SMap.wfFrom, Bool.and_eq_true]
      exact ⟨⟨hlo, hv⟩, ih (some a) hm⟩
    · refine SMap.wfFrom_lower d _ lo (some a) (fun b hb => ?_) (ih (some a) hm)
      subst hb
      exact ⟨a, rfl, Nat.le_of_lt (of_decide_eq_true hlo)⟩

theorem State.aonPower_canonical {s : State} (c : Canonical s) : Canonical s.aonPower := by
  obtain ⟨-, h0, h1⟩ := c
  unfold State.aonPower
  refine canonical_of_stored ((State.aonClock_stored _).trans (State.stagingLost_stored _)) ?_
  exact ⟨rfl, h0, h1⟩

/-- A start changes the state of a super, never its bytes (04 R97). -/
theorem Sup.start_bytes (u : Sup) : u.start.s0.bytes = u.s0.bytes ∧ u.start.s1.bytes = u.s1.bytes := by
  constructor <;> (dsimp only [Sup.start]; split <;> rfl)

theorem State.startUp_canonical {s : State} (c : Canonical s) (k : Nat) : Canonical (s.startUp k) := by
  have powered : Canonical (if k = 0 then s.aonPower else s) := by
    split
    · exact State.aonPower_canonical c
    · exact c
  unfold State.startUp
  dsimp only
  generalize (if k = 0 then s.aonPower else s) = s0 at powered
  obtain ⟨s2, e⟩ : ∃ s2, s2 = (if s0.dtLive then s0.recFlush.mtrStop.handShadow else s0).panelStart (decide (k = 0)) (decide (k ≤ 2)) :=
    ⟨_, rfl⟩
  rw [← e]
  obtain ⟨hr, h0, h1⟩ : Canonical s2 := canonical_of_stored (by rw [e]; simp) powered
  refine canonical_of_stored (s := { s2 with sup := s2.sup.start, regs := s2.regs.filter (fun p => retainedRegs.contains p.1) }) ?_
    ⟨wfFrom_filter _ _ _ none hr, by rw [s2.sup.start_bytes.1]; exact h0, by rw [s2.sup.start_bytes.2]; exact h1⟩
  simp only [State.stored_ite, State.unitRec_stored, State.raise_stored, State.stored_mk, ite_self]

theorem vinPresent_canonical {s : State} (c : Canonical s) : Canonical (vinPresent s) := by
  have present : Canonical { s with pwr := { s.pwr with vin := true } } := c
  unfold vinPresent
  split
  · exact c
  dsimp only
  split
  · exact State.startUp_canonical present 0
  · exact State.startUp_canonical present 2
  · split
    · exact State.startUp_canonical present 4
    · exact present
  · exact present

theorem vauxPresent_canonical {s : State} (c : Canonical s) : Canonical (vauxPresent s) := by
  unfold vauxPresent
  dsimp only
  split
  · exact State.aonPower_canonical c
  · exact c

theorem porst_canonical {s : State} (c : Canonical s) : Canonical (porst s) := by
  unfold porst
  split
  · exact c
  · exact State.startUp_canonical c 1

theorem warm_canonical {s : State} (c : Canonical s) : Canonical (warm s) := by
  unfold warm
  split
  · exact State.startUp_canonical c 3
  · exact c

theorem State.wakeBy_canonical {s : State} (c : Canonical s) (w : WakeSrc) : Canonical (s.wakeBy w) := by
  have pending : Canonical { s with pwr := { s.pwr with wakePending := some (s.pwr.wakePending.getD w) } } := c
  unfold State.wakeBy
  split
  · exact c
  dsimp only
  split
  · exact State.startUp_canonical pending 4
  · exact pending

theorem wakeEv_canonical {s : State} (c : Canonical s) (w : WakeSrc) : Canonical (wakeEv s w) := by
  unfold wakeEv
  split
  · exact State.wakeBy_canonical c w
  · exact c

theorem wakeFrame_canonical {s : State} (c : Canonical s) (t : Nat) (f : CanFrame) : Canonical (wakeFrame s t f) := by
  unfold wakeFrame
  split
  · exact State.wakeBy_canonical (canonical_of_stored (s.advanceTo_stored t) c) _
  · exact c

theorem dormantWake_canonical {s : State} (c : Canonical s) (t seq : Nat) : Canonical (dormantWake s t seq) := by
  unfold dormantWake
  split
  · exact State.wakeBy_canonical (canonical_of_stored (s.dormAnswer_stored ..) c) _
  · exact c

/-! ## A second of the calendar, whose alarms wake the device (20 R509, R520; 19 R497) -/

theorem State.alarmWake_canonical {s : State} (c : Canonical s) (old : State) : Canonical (s.alarmWake old) := by
  unfold State.alarmWake
  dsimp only
  generalize hu : (if _ && s.canWake .al0 then s.wakeBy .al0 else s : State) = u
  have first : Canonical u := by
    rw [← hu]
    split
    · exact State.wakeBy_canonical c _
    · exact c
  split
  · exact State.wakeBy_canonical first _
  · exact first

theorem State.beginSecond_canonical {s : State} (c : Canonical s) (t : Nat) : Canonical (s.beginSecond t) := by
  unfold State.beginSecond
  refine State.alarmWake_canonical (canonical_of_stored ?_ c) _
  rw [State.stored_foldl _ (by simp)]
  simp

theorem rtcSecondBoundary_canonical {s : State} (c : Canonical s) : Canonical (rtcSecondBoundary s) := by
  unfold rtcSecondBoundary
  split
  · exact c
  dsimp only
  split <;> exact State.beginSecond_canonical c _

theorem ptpSettingApply_canonical {s : State} (c : Canonical s) : Canonical (ptpSettingApply s) := by
  unfold ptpSettingApply
  split
  · exact c
  split
  · exact c
  refine State.beginSecond_canonical ?_ _
  split
  · exact State.beginSecond_canonical c _
  · exact c

/-! ## Commands of the host, and what waits behind a FENCE (17 R443) -/

/-- Above a bound below its first address a canonical memory is canonical still. -/
theorem wfFrom_raise {α : Type} [DecidableEq α] (d : Nat → α) {m : SMap α} {lo hi : Option Nat} (h : SMap.wfFrom d lo m = true)
    (above : ∀ p ∈ m, SMap.above hi p.1 = true) : SMap.wfFrom d hi m = true := by
  cases m with
  | nil => rfl
  | cons p m =>
    simp only [SMap.wfFrom, Bool.and_eq_true] at h ⊢
    exact ⟨⟨above p List.mem_cons_self, h.1.2⟩, h.2⟩

/-- A canonical memory followed by one canonical above all its addresses is canonical. -/
theorem wfFrom_append {α : Type} [DecidableEq α] (d : Nat → α) {m n : SMap α} {lo hi : Option Nat} (hm : SMap.wfFrom d lo m = true)
    (hn : SMap.wfFrom d hi n = true) (first : ∀ p ∈ n, SMap.above lo p.1 = true) (rest : ∀ q ∈ m, ∀ p ∈ n, q.1 < p.1) :
    SMap.wfFrom d lo (m ++ n) = true := by
  induction m generalizing lo with
  | nil => exact wfFrom_raise d hn first
  | cons q m ih =>
    simp only [List.cons_append, SMap.wfFrom, Bool.and_eq_true] at hm ⊢
    exact ⟨hm.1, ih hm.2 (fun p hp => decide_eq_true (rest q List.mem_cons_self p hp))
      fun r hr => rest r (List.mem_cons_of_mem _ hr)⟩

/-- Where a listed byte of a WRITE stands. -/
theorem listedBytes_range {ofs : Nat} {data : List Byte} {k : Nat} {p : Nat × Byte} (h : p ∈ listedBytes ofs data k) :
    ofs + k ≤ p.1 ∧ p.1 < ofs + k + data.length := by
  by_contra out
  exact listedBytes_lacks (a := p.1) (by omega) p h rfl

theorem listedBytes_wf (ofs : Nat) (data : List Byte) (k : Nat) : SMap.wfFrom dByte none (listedBytes ofs data k) = true := by
  induction data generalizing k with
  | nil => rfl
  | cons x data ih =>
    rw [listedBytes_cons]
    split
    · exact ih (k + 1)
    · rename_i hx
      refine wfFrom_append dByte (hi := none) ?_ (ih (k + 1)) (fun _ _ => rfl) fun q hq p hp => ?_
      · have : decide (x = dByte (ofs + k)) = false := decide_eq_false hx
        rw [SMap.wfFrom, this]
        rfl
      · rw [List.mem_singleton.mp hq]
        have := (listedBytes_range hp).1
        dsimp only
        omega

/-- The bytes of a WRITE between those below and those above them are in canonical form. -/
theorem putBytes_wf {m : SMap Byte} (h : SMap.wf dByte m = true) (ofs : Nat) (data : List Byte) :
    SMap.wf dByte (putBytes m ofs data) = true := by
  have below : ∀ q ∈ m.filter (fun p => decide (p.1 < ofs)), q.1 < ofs := fun q hq => of_decide_eq_true (List.mem_filter.mp hq).2
  have aboveAll : ∀ q ∈ m.filter (fun p => decide (ofs + data.length ≤ p.1)), ofs + data.length ≤ q.1 :=
    fun q hq => of_decide_eq_true (List.mem_filter.mp hq).2
  rw [putBytes_eq]
  refine wfFrom_append dByte (hi := none) (wfFrom_append dByte (wfFrom_filter dByte m _ none h) (listedBytes_wf ofs data 0)
    (fun _ _ => rfl) fun q hq p hp => ?_) (wfFrom_filter dByte m _ none h) (fun _ _ => rfl) fun q hq p hp => ?_
  · have := below q hq
    have := (listedBytes_range hp).1
    omega
  · have := aboveAll p hp
    rcases List.mem_append.mp hq with hq | hq
    · have := below q hq
      omega
    · have := (listedBytes_range hq).2
      omega

theorem State.writeImage_canonical {s : State} (c : Canonical s) (q x ofs : Nat) (data : List Byte) :
    Canonical (s.writeImage q x ofs data) := by
  have refused : ∀ st, Canonical (s.fail q st) := fun st => canonical_of_stored (s.fail_stored q st) c
  unfold State.writeImage
  dsimp only
  split
  · exact refused _
  split
  · exact refused _
  split
  · exact refused _
  split
  · exact refused _
  refine canonical_of_stored (State.ok_stored ..) ?_
  obtain ⟨hr, h0, h1⟩ := c
  unfold State.setSuper State.super
  split
  · exact ⟨hr, putBytes_wf h0 .., h1⟩
  · exact ⟨hr, h0, putBytes_wf h1 ..⟩

/-- Of the commands that act when they are taken, WRITE alone reaches the bytes of a super (04 R94). -/
theorem State.hostDo_canonical {s : State} (c : Canonical s) (q : Nat) (i : Instr) : Canonical (s.hostDo q i) := by
  unfold State.hostDo
  split
  case h_7 => exact State.writeImage_canonical c ..
  all_goals exact canonical_of_stored (by simp) c

theorem State.takeCmd_canonical {s : State} (c : Canonical s) (i : Instr) (h : Hdr) (f : Nat) : Canonical (s.takeCmd i h f) := by
  have held : Canonical { s with mgt := { s.mgt with
      seq := s.mgt.seq + 1, held := s.mgt.held ++ [⟨s.mgt.seq, h.qp, h.cid, hostOpc i, s.tim.dt, f⟩] } } := c
  unfold State.takeCmd
  dsimp only
  split
  · exact canonical_of_stored (State.takeAuth_stored ..) held
  split
  · exact State.hostDo_canonical held ..
  · exact canonical_of_stored (State.fail_stored ..) held

theorem fenceOnce_canonical {s t : State} (c : Canonical s) (h : fenceOnce s = some t) : Canonical t := by
  unfold fenceOnce at h
  split at h
  · cases h
  split at h
  · cases h
  rename_i i tag cmd _
  have waits : Canonical { s with mgt := { s.mgt with fenceWait := s.mgt.fenceWait.eraseIdx i } } := c
  dsimp only at h
  split at h
  · cases h; exact State.takeCmd_canonical waits ..
  · cases h; exact waits

theorem iter_canonical {f : State → Option State} (hf : ∀ s t, Canonical s → f s = some t → Canonical t) (n : Nat) {s : State}
    (c : Canonical s) : Canonical (iter n f s) := by
  induction n generalizing s with
  | zero => exact c
  | succ n ih =>
    unfold iter
    split
    · exact c
    · exact ih (hf _ _ c ‹_›)

theorem State.pumpFence_canonical {s : State} (c : Canonical s) : Canonical s.pumpFence :=
  iter_canonical (fun _ _ => fenceOnce_canonical) _ c

theorem State.handOver_canonical {s : State} (c : Canonical s) (i : Instr) (h : Hdr) : Canonical (s.handOver i h) := by
  unfold State.handOver
  generalize hu : s.pumpFence = u
  have handed : Canonical { u with hst := { u.hst with handover := u.hst.handover.drop 1 } } := by
    rw [← hu]; exact State.pumpFence_canonical c
  dsimp only
  split
  · exact State.pumpFence_canonical (State.takeCmd_canonical handed ..)
  split
  · exact canonical_of_stored (State.endDeletes_stored _) handed
  · exact handed

theorem State.hostCommand_canonical {s t : State} (c : Canonical s) {i : Instr} {h : Hdr} (e : s.hostCommand i h = .next t) :
    Canonical t := by
  unfold State.hostCommand at e
  split at e
  · cases e; exact c
  split at e
  · cases e
  · cases e
    have handed : Canonical (s.handOver i h) := State.handOver_canonical c i h
    dsimp only
    split
    · exact canonical_of_stored (State.hostServe_stored _) handed
    · exact handed

/-! ## Events after which commands behind a FENCE are taken -/

/-- What ends key work serves what waits behind a FENCE (17 R443, 18 R471). -/
theorem keyWorkEnd_canonical {s : State} (c : Canonical s) : Canonical (keyWorkEnd s) := by
  unfold keyWorkEnd
  split
  · exact c
  split
  · exact canonical_of_stored (State.hostServe_stored _) (State.pumpFence_canonical (canonical_of_stored (State.endWork_stored ‹_›) c))
  · exact c

theorem authVerificationEnd_canonical {s : State} (c : Canonical s) : Canonical (authVerificationEnd s) := by
  unfold authVerificationEnd
  split
  · split
    · exact canonical_of_stored (State.hostServe_stored _) (State.pumpFence_canonical (canonical_of_stored (State.endWork_stored ‹_›) c))
    · exact c
  · exact c

theorem rngTestsPass_canonical {s : State} (c : Canonical s) : Canonical (rngTestsPass s) := by
  unfold rngTestsPass
  split
  · refine State.pumpFence_canonical (canonical_of_stored ?_ c)
    rw [State.stored_foldl _ (by simp)]
    simp
  · exact c

theorem State.everyBoundary_canonical {s : State} (c : Canonical s) : Canonical s.everyBoundary := by
  unfold State.everyBoundary
  refine canonical_of_stored (State.handShadow_stored _) (State.pumpFence_canonical (canonical_of_stored ?_ c))
  simp

theorem State.combBoundary_canonical {s : State} (c : Canonical s) : Canonical s.combBoundary := by
  unfold State.combBoundary
  generalize hu : s.flushTo (hpStart s.hNs s.pNs (s.comb.k + 1)) = u
  have flushed : Canonical u := by rw [← hu]; exact canonical_of_stored (State.flushTo_stored ..) c
  dsimp only
  generalize hv : State.ageChannels _ _ = v
  have aged : Canonical v := by rw [← hv]; refine canonical_of_stored ?_ flushed; simp
  split
  · exact State.everyBoundary_canonical (canonical_of_stored (State.channelBoundary_stored v) aged)
  · refine canonical_of_stored (State.doStep_stored _) (State.everyBoundary_canonical (canonical_of_stored ?_ aged))
    simp

theorem State.plainBoundary_canonical {s : State} (c : Canonical s) : Canonical s.plainBoundary := by
  unfold State.plainBoundary
  dsimp only
  split
  · exact State.combBoundary_canonical (canonical_of_stored (by simp) c)
  · exact State.everyBoundary_canonical (canonical_of_stored (by simp) c)

theorem hyperperiodBoundary_canonical {s : State} (c : Canonical s) : Canonical (hyperperiodBoundary s) := by
  unfold hyperperiodBoundary
  split
  · exact c
  split
  · exact State.plainBoundary_canonical c
  · exact State.combBoundary_canonical c

theorem tick_canonical {s : State} (c : Canonical s) : Canonical (tick s) := by
  unfold tick
  refine canonical_of_stored (State.hostServe_stored _) (State.pumpFence_canonical (canonical_of_stored ?_ c))
  rw [State.forChans_stored _ _ (by simp), State.countDt_stored]

/-! ## Every command -/

/-- The commands that can reach a stored field or a byte of a super: those of the host, register writes and resets, starts,
seconds of the calendar, whose alarms wake, and what pumps commands that wait behind a FENCE. -/
def reachesStored : Instr → Bool
  | .registerWrite .. | .xin1FrequencyWrite _ | .panelTestWrite _ | .aqctlEnSet | .aqctlEnClear | .pcieLinkDown
  | .managementWatchdogExpiry | .vinPresent | .vauxPresent | .porstN | .warmN | .wake _ | .wakeFrame .. | .dormantWake ..
  | .rtcSecondBoundary | .ptpSettingApply | .keyWorkEnd | .authVerificationEnd | .rngTestsPass | .hyperperiodBoundary => true
  | c => (hostEntry c).isSome

theorem execSqTailDoorbell_stored {s t : State} {q v : Nat} {l : List SqEntry} (h : execSqTailDoorbell q v l s = .next t) :
    t.stored = s.stored := by
  unfold execSqTailDoorbell at h
  split at h
  · cases h; simp
  · cases h

theorem execCqHeadDoorbell_stored {s t : State} {q v : Nat} (h : execCqHeadDoorbell q v s = .next t) : t.stored = s.stored := by
  unfold execCqHeadDoorbell at h
  split at h
  · cases h; simp
  · cases h

theorem exec_stored {c : Instr} {s t : State} (r : reachesStored c = false) (h : exec c s = .next t) : t.stored = s.stored := by
  cases c
  case sqTailDoorbell => exact execSqTailDoorbell_stored h
  case cqHeadDoorbell => exact execCqHeadDoorbell_stored h
  all_goals cases r <;> cases h <;> simp

theorem exec_canonical {c : Instr} {s t : State} (k : Canonical s) (h : exec c s = .next t) : Canonical t := by
  cases r : reachesStored c with
  | false => exact canonical_of_stored (exec_stored r h) k
  | true =>
    unfold reachesStored at r
    split at r
    · exact execRegisterWrite_canonical k h
    · exact execXin1FrequencyWrite_canonical k h
    · cases h; exact panelTest_canonical k _
    · cases h; exact aqctlSet_canonical k
    · cases h; exact aqctlClear_canonical k
    · cases h; exact pcieLinkDown_canonical k
    · cases h; exact watchdogExpiry_canonical k
    · cases h; exact vinPresent_canonical k
    · cases h; exact vauxPresent_canonical k
    · cases h; exact porst_canonical k
    · cases h; exact warm_canonical k
    · cases h; exact wakeEv_canonical k _
    · cases h; exact wakeFrame_canonical k ..
    · cases h; exact dormantWake_canonical k ..
    · cases h; exact rtcSecondBoundary_canonical k
    · cases h; exact ptpSettingApply_canonical k
    · cases h; exact keyWorkEnd_canonical k
    · cases h; exact authVerificationEnd_canonical k
    · cases h; exact rngTestsPass_canonical k
    · cases h; exact hyperperiodBoundary_canonical k
    · obtain ⟨⟨o, hdr⟩, e⟩ := Option.isSome_iff_exists.mp r
      rw [exec_of_hostEntry c o hdr s e] at h
      exact State.hostCommand_canonical k h

/-- Settles O58: a tick and every command keep the canonical form. -/
theorem canonicalKept : Obligations.CanonicalKept := by
  unfold Obligations.CanonicalKept
  intro s t k h
  unfold step at h
  split at h
  · cases h; exact tick_canonical k
  · rename_i i rest _
    exact exec_canonical (s := { s with pending := rest }) k h

end Sys2Proof.Machine
end

section
/-! PROOFS. The step takes the front of the queue. -/
namespace Sys2Proof.Machine

/-- Settles O55: `step` is one match on the queue. -/
theorem stepRunsFront : Obligations.StepRunsFront := by
  unfold Obligations.StepRunsFront
  refine ⟨fun s c rest h => ?_, fun s h => ⟨tick s, ?_⟩⟩
  · unfold step; rw [h]
  · unfold step; rw [h]

end Sys2Proof.Machine
end

section
/-!
PROOFS. The bit instructions of the logic engine, and the moves between its registers (06 Table 6-7).
-/
namespace Sys2Proof.Machine

open Claim (Scanning OnlyScans after snapCycle)

/-- A bit operation changes BA alone, in two cycles. -/
theorem Chan.logic_eq {c : Chan} {x : Scan} (h : c.scan = some x) (f : Bool → Bool → Bool) (op : BitOp) :
    c.logic f op = { c with ba := f c.ba (c.readBit op), scan := some (after x 2) } :=
  Chan.retire_eq 2 (by exact h)

theorem bitLogicSetsBa : Claim.BitLogicSetsBa := by
  have hxorn : (fun a b : Bool => a ^^ !b) = fun a b => a == b := by funext a b; cases a <;> cases b <;> rfl
  intro p hp op s i x h
  simp only [List.mem_cons, List.not_mem_nil, or_false] at hp
  rw [← hxorn] at hp
  obtain rfl | rfl | rfl | rfl | rfl | rfl | rfl | rfl := hp <;> exact exec_of_lge rfl h (Chan.logic_eq h _ op)

/-- An instruction that is a change `f` of registers, leaving the open scan, and one cycle. -/
theorem exec_of_move {c : Instr} {f : Chan → Chan} {s : State} {i : ChId} {x : Scan} {d : Chan}
    (he : exec c s = .next (s.lge fun k => (f k).retire 1)) (h : Scanning s i x) (hs : (f (s.chan i)).scan = (s.chan i).scan)
    (hd : { f (s.chan i) with scan := some (after x 1) } = d) : ∃ t, exec c s = .next t ∧ OnlyScans s t ∧ t.chan i = d :=
  exec_of_lge he h ((Chan.retire_eq 1 (hs.trans h)).trans hd)

/-- WTOB tests WA for a nonzero value (06 Table 6-7). -/
theorem decide_ne_zero (w : Word) : decide (w ≠ 0) = (w != 0) := by
  rw [bne, beq_eq_decide, decide_not]

/-- The index register takes the low 21 bits of WA. -/
theorem setWidth_eq_extract (w : Word) : w.setWidth 21 = w.extractLsb' 0 21 := BitVec.setWidth_eq_extractLsb' (by decide)

theorem accumulatorMoves : Claim.AccumulatorMoves := by
  intro s i x h c p hp
  simp only [List.mem_cons, List.not_mem_nil, or_false] at hp
  obtain rfl | rfl | rfl | rfl | rfl | rfl | rfl | rfl | rfl | rfl | rfl := hp
  case inr.inr.inr.inr.inr.inr.inr.inr.inl => 
    refine exec_of_move rfl h rfl ?_
    rw [decide_ne_zero]
  case inr.inr.inr.inr.inr.inr.inr.inr.inr.inl =>
    refine exec_of_move rfl h rfl ?_
    rw [setWidth_eq_extract]
  all_goals exact exec_of_move rfl h rfl rfl

/-- Setting or clearing bit `n` by a mask moves no other bit. -/
theorem getLsbD_putBit (w : Word) (b : Bool) (n : Fin 32) (m : Nat) (hm : m < 32) :
    (if b then w ||| 1#32 <<< n.val else w &&& ~~~(1#32 <<< n.val)).getLsbD m = if m = n.val then b else w.getLsbD m := by
  have hbit : (1#32 <<< n.val).getLsbD m = decide (m = n.val) := by
    simp only [BitVec.getLsbD_shiftLeft, hm, BitVec.getLsbD_one]
    grind
  have hclear : (~~~(1#32 <<< n.val)).getLsbD m = !decide (m = n.val) := by
    rw [BitVec.getLsbD_not, hbit, decide_eq_true hm, Bool.true_and]
  cases b
  · rw [if_neg Bool.false_ne_true, BitVec.getLsbD_and, hclear]
    by_cases e : m = n.val <;> simp [e]
  · rw [if_pos rfl, BitVec.getLsbD_or, hbit]
    by_cases e : m = n.val <;> simp [e]

theorem bitOfWord : Claim.BitOfWord := by
  intro n s i x h
  obtain ⟨t, he, hf, hc⟩ := exec_of_move (c := .sbit n) rfl h rfl rfl
  exact ⟨exec_of_move rfl h rfl rfl, t, _, he, hf, getLsbD_putBit (s.chan i).wa (s.chan i).ba n, hc⟩

/-- Settles O5: the operations on BA by `Chan.logic_eq`, the moves and the single bits by `exec_of_move`. -/
theorem bitOperations : Obligations.BitOperations := ⟨bitLogicSetsBa, accumulatorMoves, bitOfWord⟩

end Sys2Proof.Machine
end

section
/-!
PROOFS. An entry handed over to an idle block, whatever becomes of it: refused by its run state, held, put under verification, or
completed (17 R441 to R450); what the other pairs are left as.
-/
namespace Sys2Proof.Machine

/-! ## The other pairs while one is served (16 R425, R429) -/

@[simp] theorem State.qp?_setQp_other (s : State) (p : Qp) (id : Nat) (h : id ≠ p.id) : (s.setQp p).qp? id = s.qp? id := by
  unfold State.setQp State.qp?
  dsimp only
  rw [List.find?_map]
  have hk : ((fun q : Qp => decide (q.id = id)) ∘ fun x => if x.id = p.id then p else x) = fun q => decide (q.id = id) := by
    funext x
    by_cases hx : x.id = p.id
    · simp [hx, Ne.symm h]
    · simp [hx]
  rw [hk]
  cases e : s.hst.qps.find? (fun q => decide (q.id = id)) with
  | none => rfl
  | some x =>
    have hx : x.id = id := by simpa using List.find?_some e
    simp [hx, h]

theorem State.qp?_id {s : State} {id : Nat} {p : Qp} (h : s.qp? id = some p) : p.id = id := by
  simpa [State.qp?] using List.find?_some h

@[simp] theorem State.qp?_emit (s : State) (o : Out) (id : Nat) : (s.emit o).qp? id = s.qp? id := rfl

@[simp] theorem State.qp?_signal (s : State) (p : Qp) (id : Nat) : (s.signal p).qp? id = s.qp? id := by
  unfold State.qp?; rw [State.signal_qps]

theorem State.qp?_afterPost_other (s : State) (id n : Nat) (h : n ≠ id) : (s.afterPost id).qp? n = s.qp? n := by
  unfold State.afterPost
  split
  · rfl
  · rename_i p hp
    have hn : n ≠ p.id := by rw [State.qp?_id hp]; exact h
    split
    · split
      · exact State.qp?_setQp_other s _ n hn
      · rw [State.qp?_signal]; exact State.qp?_setQp_other s _ n hn
    · exact State.qp?_setQp_other s _ n hn

theorem State.qp?_postCpl_other (s : State) (c : Cpl) (n : Nat) (h : n ≠ c.qp) : (s.postCpl c).qp? n = s.qp? n := by
  unfold State.postCpl
  split
  · rfl
  · split
    · rfl
    · rename_i p hp
      have hn : n ≠ p.id := by rw [State.qp?_id hp]; exact h
      dsimp only
      rw [State.qp?_afterPost_other _ _ _ h, State.qp?_setQp_other _ _ n (by exact hn)]
      split <;> rfl

@[simp] theorem State.setQp_deleting (s : State) (p : Qp) : (s.setQp p).hst.deleting = s.hst.deleting := rfl

@[simp] theorem State.signal_deleting (s : State) (p : Qp) : (s.signal p).hst.deleting = s.hst.deleting := by
  unfold State.signal
  split
  · split <;> rfl
  · rfl

@[simp] theorem State.afterPost_deleting (s : State) (id : Nat) : (s.afterPost id).hst.deleting = s.hst.deleting := by
  unfold State.afterPost
  split
  · rfl
  · split
    · split
      · rfl
      · exact State.signal_deleting ..
    · rfl

@[simp] theorem State.postCpl_deleting (s : State) (c : Cpl) : (s.postCpl c).hst.deleting = s.hst.deleting := by
  unfold State.postCpl
  split
  · rfl
  · split
    · rfl
    · dsimp only
      rw [State.afterPost_deleting, State.setQp_deleting]
      split <;> rfl

/-- With no completion waiting, one that is queued touches the ring of its own pair alone. -/
theorem State.queueCpl_other (s : State) (c : Cpl) (n : Nat) (hc : s.hst.cpls = []) (h : n ≠ c.qp) :
    (s.queueCpl c).qp? n = s.qp? n ∧ (s.queueCpl c).hst.deleting = s.hst.deleting := by
  unfold State.queueCpl
  split
  · exact ⟨rfl, rfl⟩
  · split
    · exact ⟨rfl, rfl⟩
    · split
      · unfold State.flushCpls
        rw [hc]
        exact ⟨State.qp?_postCpl_other _ c n h, State.postCpl_deleting ..⟩
      · exact ⟨rfl, rfl⟩

/-- With no completion waiting and no deletion pending, a completion touches the ring of its own pair alone. -/
theorem State.qp?_complete_other (s : State) (x : Held) (st r0 : Nat) (r1 : Option Nat) (d : List Byte) (n : Nat)
    (hh : s.mgt.held = [x]) (hd : s.hst.deleting = []) (hc : s.hst.cpls = []) (h : n ≠ x.qp) :
    (s.complete x.seq st r0 r1 d).qp? n = s.qp? n := by
  have e : s.held? x.seq = some x := by simp [State.held?, hh]
  unfold State.complete State.finish
  rw [e]
  dsimp only
  obtain ⟨hq, hn⟩ := State.queueCpl_other
    { s with mgt := { (s.mgt.countCpl x st) with held := s.mgt.held.filter (fun y => y.seq ≠ x.seq) } }
    ⟨x.qp, x.cid, x.opc, st, r0, r1.getD x.acc, s.tim.dt, d, x.fate⟩ n hc h
  rw [State.endDeletes_none _ (hn.trans hd), hq]
  rfl

/-! ## Pairs with nothing to fetch or serve -/

/-- Every latched entry of the pair has been fetched and served; of an EVENT pair the island itself moves the positions (16 R418). -/
def Qp.Still (p : Qp) : Prop :=
  p.latched = p.fetched ∧ (p.kind = 2 ∨ p.tailDb = p.fetched % p.size) ∧ p.bufs = [] ∧ p.gathered = []

theorem Qp.Idle.still {p : Qp} (h : p.Idle) : p.Still := by
  obtain ⟨hl, ht, hb, hg⟩ := h
  exact ⟨hl, .inr ht, hb, hg⟩

/-- Latching a pair with nothing new moves its consumed position alone. -/
theorem Qp.latch_still {p : Qp} (h : p.Still) : p.latch = { p with released := p.latch.released } := by
  obtain ⟨hl, ht, hb, hg⟩ := h
  by_cases hk : p.kind = 2
  · unfold Qp.latch
    rw [if_pos hk]
  · exact p.latch_idle ⟨hl, ht.resolve_left hk, hb, hg⟩

/-- Every pair of the block is still. -/
def State.PairsStill (s : State) : Prop := ∀ p ∈ s.hst.qps, p.Still

theorem State.setQp_still {s : State} {p : Qp} (hs : s.PairsStill) (hp : p.Still) : (s.setQp p).PairsStill := by
  intro x hx
  obtain ⟨r, hr, rfl⟩ := List.mem_map.mp hx
  split
  · exact hp
  · exact hs r hr

theorem State.signal_still {s : State} (hs : s.PairsStill) (p : Qp) : (s.signal p).PairsStill := by
  unfold State.PairsStill; rw [State.signal_qps]; exact hs

theorem State.afterPost_still {s : State} (hs : s.PairsStill) (id : Nat) : (s.afterPost id).PairsStill := by
  unfold State.afterPost
  split
  · exact hs
  · rename_i p hp
    have hi : p.Still := hs p (s.qp?_mem id p hp)
    split
    · split
      · exact State.setQp_still hs hi
      · exact State.signal_still (State.setQp_still (p := { p with sig := false, holdoff := true }) hs hi) p
    · exact State.setQp_still hs hi

theorem State.postCpl_still {s : State} (hs : s.PairsStill) (c : Cpl) : (s.postCpl c).PairsStill := by
  unfold State.postCpl
  split
  · exact hs
  · split
    · exact hs
    · rename_i p hp
      have hi : p.Still := hs p (s.qp?_mem c.qp p hp)
      dsimp only
      refine State.afterPost_still (State.setQp_still (p := { p with posted := p.posted + 1 }) ?_ hi) c.qp
      split <;> exact hs

/-- With no completion waiting and no deletion pending, completing keeps the pairs still. -/
theorem State.complete_still {s : State} (hs : s.PairsStill) (n st r0 : Nat) (r1 : Option Nat) (d : List Byte)
    (hd : s.hst.deleting = []) (hc : s.hst.cpls = []) : (s.complete n st r0 r1 d).PairsStill := by
  have queued : ∀ (u : State) (c : Cpl), u.hst = s.hst → (u.queueCpl c).PairsStill ∧ (u.queueCpl c).hst.deleting = [] := by
    intro u c hu
    have hus : u.PairsStill := by unfold State.PairsStill; rw [hu]; exact hs
    refine ⟨?_, (State.queueCpl_other u c (c.qp + 1) (by rw [hu]; exact hc) (Nat.succ_ne_self _)).2.trans (by rw [hu]; exact hd)⟩
    unfold State.queueCpl
    split
    · exact hus
    · split
      · exact hus
      · split
        · unfold State.flushCpls
          rw [hu, hc]
          exact State.postCpl_still (s := { u with hst := { s.hst with cpls := [] } }) hs c
        · exact hus
  have ended : ∀ u : State, u.PairsStill ∧ u.hst.deleting = [] → u.endDeletes.PairsStill := fun u ⟨h, hn⟩ => by
    rw [u.endDeletes_none hn]; exact h
  unfold State.complete State.finish
  split
  · exact ended s ⟨hs, hd⟩
  · exact ended _ (queued _ _ rfl)

theorem State.latchAll_still {s : State} (hs : s.PairsStill) : s.latchAll.PairsStill := by
  intro p hp
  obtain ⟨r, hr, rfl⟩ := List.mem_map.mp hp
  rw [Qp.latch_still (hs r hr)]
  exact hs r hr

/-- Nothing is fetched for pairs that are still. -/
theorem State.issueBatch_still {s : State} (hs : s.PairsStill) (id : Nat) : s.issueBatch id = none := by
  unfold State.issueBatch
  split
  · rfl
  · rename_i p hp
    have e : p.latched - (p.fetched + s.outstanding id) = 0 := by rw [(hs p (s.qp?_mem id p hp)).1]; omega
    simp only [e, Nat.zero_min, Nat.min_zero, ite_self, decide_true, Bool.true_or, if_true]

theorem fetchPass_still {s : State} (hs : s.PairsStill) : fetchPass s = none := by
  unfold fetchPass
  dsimp only
  rw [foldl_fix _ (s.latchAll, false) _ (fun id _ => by simp only [State.issueBatch_still (State.latchAll_still hs) id])]
  rfl

/-- Nothing is received into pairs without buffers. -/
theorem State.copyRx_still {s : State} (hs : s.PairsStill) : s.copyRx = s := by
  have bufs : ∀ id p, s.qp? id = some p → p.bufs = [] := fun id p hp => (hs p (s.qp?_mem id p hp)).2.2.1
  have can : ∀ id, canRxOnce id s = none := by
    intro id; unfold canRxOnce; split
    · rfl
    · rename_i p hp; rw [bufs id p hp]
  have eth : ∀ id, ethRxOnce id s = none := by
    intro id; unfold ethRxOnce; split
    · rfl
    · rename_i p hp; rw [bufs id p hp]
  have gathered : ∀ id dt, s.endCanBuf id dt = s := by
    intro id dt; unfold State.endCanBuf; split
    · rfl
    · rename_i p hp; rw [(hs p (s.qp?_mem id p hp)).2.2.2]; rfl
  refine foldl_fix _ s _ fun p _ => ?_
  simp only [iter_none _ _ _ (can p.id), iter_none _ _ _ (eth p.id), gathered]
  split
  · split <;> rfl
  · split <;> rfl

theorem State.sendTx_still {s : State} (hs : s.PairsStill) : s.sendTx = s := by
  refine foldl_fix _ s _ fun p hp => ?_
  rw [(hs p hp).2.2.1]
  split <;> rfl

/-- In continuous service, with nothing waiting, service latches the rings' positions and does nothing else. -/
theorem State.hostServe_latches {s : State} (hs : s.PairsStill) (hk : s.continuous = true) (hc : s.hst.cpls = [])
    (he : s.hst.events = []) (hw : s.hst.cell = none) : s.hostServe = s.latchAll := by
  have e0 : s.closeCan = s := by unfold State.closeCan; rw [hw]
  unfold State.hostServe State.serve State.fetchPasses
  simp only [hk, if_true, e0, State.copyRx_still hs, s.postAll_idle hc he, State.sendTx_still hs, iter_none _ _ _ (fetchPass_still hs)]
  exact State.postAll_idle _ hc he

/-- Service of an idle block moves the rings' positions at most. -/
theorem State.hostServe_still {s : State} (hs : s.PairsStill) (hc : s.continuous = true → s.hst.cpls = [])
    (he : s.continuous = true → s.hst.events = []) (hw : s.hst.cell = none) :
    ∃ l, s.hostServe = { s with hst := { s.hst with qps := l } } := by
  by_cases hk : s.continuous = true
  · exact ⟨_, State.hostServe_latches hs hk (hc hk) (he hk) hw⟩
  · exact ⟨s.hst.qps, State.hostServe_waits (Bool.eq_false_iff.mpr hk) hw⟩

@[simp] theorem Qp.latch_id (p : Qp) : p.latch.id = p.id := by
  unfold Qp.latch; split <;> rfl

theorem State.qp?_latchAll (s : State) (n : Nat) : s.latchAll.qp? n = (s.qp? n).map Qp.latch := by
  unfold State.latchAll State.qp?
  dsimp only
  rw [List.find?_map]
  congr 2
  funext p
  exact congrArg (fun k => decide (k = n)) p.latch_id

/-! ## An entry offered to an idle block -/

/-- An idle block is handed an entry whose fields are in range. -/
structure Offered (s : State) (h : Hdr) (q : Qp) (c : Instr) : Prop where
  quiet : Claim.Quiet s h q
  entry : hostEntry c = some (hostOpc c, h)
  fits : s.paramsOk c = true

/-- What the effect of the command taken has left is still an idle block that holds that command, in its run state, with its
counts. -/
structure StillIdle (s u : State) (c : Instr) (h : Hdr) (q : Qp) : Prop where
  held : u.mgt.held = [s.newHeld c h]
  fences : u.mgt.fenceWait = []
  counts : u.mgt.cmdOk = s.mgt.cmdOk ∧ u.mgt.cmdFail = s.mgt.cmdFail
  handover : u.hst.handover = []
  still : u.PairsStill
  cpls : u.hst.cpls = []
  events : u.continuous = true → u.hst.events = []
  deleting : u.hst.deleting = []
  cell : u.hst.cell = none
  pair : u.qp? h.qp = some q
  power : u.pwr.power = .service
  clocks : u.clk.wait = []
  dt : u.tim.dt = s.tim.dt

/-- A state of the effect that leaves host interface and management island as the taking did. -/
theorem stillIdle_of_quiet {s u : State} {h : Hdr} {q : Qp} (hq : Claim.Quiet s h q) (c : Instr)
    (hh : u.hst = (s.atTaking c h).hst) (hm : u.mgt = (s.atTaking c h).mgt) (ht : u.tim.dt = s.tim.dt) (hp : u.pwr = s.pwr)
    (hc : u.clk = s.clk) : StillIdle s u c h q where
  held := by rw [hm]; rfl
  fences := by rw [hm]; exact hq.fences
  counts := by rw [hm]; exact ⟨rfl, rfl⟩
  handover := by rw [hh]; rfl
  still := by unfold State.PairsStill; rw [hh]; exact fun p hp => Qp.Idle.still (hq.idle p hp)
  cpls := by rw [hh]; exact hq.cpls
  events := fun _ => by rw [hh]; exact hq.events
  deleting := by rw [hh]; exact hq.deleting
  cell := by rw [hh]; exact hq.cell
  pair := by unfold State.qp?; rw [hh]; exact hq.pair
  power := by rw [hp]; exact hq.power
  clocks := by rw [hc]; exact hq.clocks
  dt := ht

section
variable {s u : State} {h : Hdr} {q : Qp} {c : Instr}

/-- The entry taken acts at once; then what it leaves is served. -/
theorem Offered.exec_served (a : Offered s h q c)
    (ht : ({ s with hst := { s.hst with handover := [] } } : State).takeCmd c h 0 = u) (hf : u.mgt.fenceWait = [])
    (hn : u.hst.handover = []) : exec c s = .next u.hostServe := by
  have hq := a.quiet
  rw [exec_of_hostEntry c _ h s a.entry,
    s.hostCommand_taken c h (State.runs_of_service hq.power hq.clocks .mgt) hq.next hq.small hq.good a.fits hq.free hq.fences, ht,
    u.pumpFence_none hf]
  dsimp only
  rw [hn]
  rfl

/-- A command that leaves the block idle is held: beyond its effect only ring positions move. -/
theorem Offered.exec_held (a : Offered s h q c)
    (ht : ({ s with hst := { s.hst with handover := [] } } : State).takeCmd c h 0 = u) (i : StillIdle s u c h q) :
    ∃ l, exec c s = .next { u with hst := { u.hst with qps := l } } := by
  obtain ⟨l, e⟩ := State.hostServe_still i.still (fun _ => i.cpls) i.events i.cell
  exact ⟨l, by rw [a.exec_served ht i.fences i.handover, e]⟩

/-- A command that leaves the block idle and then completes: beyond its effect only its completion has changed host interface and
management island, and the other pairs are latched at most. -/
theorem Offered.exec_completes (a : Offered s h q c) {st r0 : Nat} {r1 : Option Nat} {d : List Byte}
    (ht : ({ s with hst := { s.hst with handover := [] } } : State).takeCmd c h 0 = u.complete s.mgt.seq st r0 r1 d)
    (i : StillIdle s u c h q) :
    ∃ x t, t = { u with hst := x, mgt := { (u.mgt.countCpl (s.newHeld c h) st) with held := [] } } ∧ exec c s = .next t ∧
      Claim.Done s t h q st r0 (r1.getD s.tim.dt) ∧
      ∀ n, n ≠ h.qp → t.qp? n = u.qp? n ∨ t.qp? n = (u.qp? n).map Qp.latch := by
  have hcont : u.continuous = true ↔ u.mgt.run ≠ .run := State.continuous_iff i.power i.clocks
  obtain ⟨l, p, o, cs, e, now, later⟩ := u.complete_only (s.newHeld c h) q st r0 r1 d i.held rfl i.deleting i.cpls i.pair
  rw [i.dt] at now later
  have other := fun n => u.qp?_complete_other (s.newHeld c h) st r0 r1 d n i.held i.deleting i.cpls
  replace e : u.complete s.mgt.seq st r0 r1 d = _ := e
  replace other : ∀ n, n ≠ h.qp → (u.complete s.mgt.seq st r0 r1 d).qp? n = u.qp? n := other
  have served := a.exec_served ht (by rw [e]; dsimp only; rw [Mgt.countCpl_fenceWait]; exact i.fences) (by rw [e]; exact i.handover)
  have still := State.complete_still i.still s.mgt.seq st r0 r1 d i.deleting i.cpls
  have run : (u.complete s.mgt.seq st r0 r1 d).continuous = u.continuous := by
    rw [e]; unfold State.continuous; dsimp only; rw [Mgt.countCpl_run]; rfl
  have cell : (u.complete s.mgt.seq st r0 r1 d).hst.cell = none := by rw [e]; exact i.cell
  have counts := u.mgt.countCpl_counts (s.newHeld c h) st
  rw [i.counts.1, i.counts.2] at counts
  by_cases k : u.continuous = true
  · obtain ⟨hcs, hout⟩ := now k
    rw [State.hostServe_latches still (run.trans k) (by rw [e]; exact hcs) (by rw [e]; exact i.events k) cell] at served
    refine ⟨(u.complete s.mgt.seq st r0 r1 d).latchAll.hst, _, ?_, served, ⟨?_, ?_, ?_⟩, fun n hn => .inr ?_⟩
    · rw [e]; rfl
    · rw [e]; intro x hx; cases hx
    · rw [e]; exact counts
    · rw [if_neg (by rw [e]; change ¬ (u.mgt.countCpl _ st).run = _; rw [Mgt.countCpl_run]; exact hcont.mp k), e]; exact hout
    · rw [State.qp?_latchAll, other n hn]
  · obtain ⟨-, -, hcs⟩ := later (Bool.eq_false_iff.mpr k)
    have hrun : u.mgt.run = .run := by by_contra hr; exact k (hcont.mpr hr)
    rw [State.hostServe_waits (run.trans (Bool.eq_false_iff.mpr k)) cell] at served
    refine ⟨(u.complete s.mgt.seq st r0 r1 d).hst, _, ?_, served, ⟨?_, ?_, ?_⟩, fun n hn => .inl (other n hn)⟩
    · rw [e]
    · rw [e]; intro x hx; cases hx
    · rw [e]; exact counts
    · rw [if_pos (by rw [e]; change (u.mgt.countCpl _ st).run = _; rw [Mgt.countCpl_run]; exact hrun), e]
      exact ⟨_, by dsimp only; rw [hcs]; exact List.mem_singleton_self _, rfl, rfl, rfl, rfl, rfl, rfl⟩

end

end Sys2Proof.Machine
end

section
/-!
PROOFS. Which entries the management island takes, and what it refuses (17 R443, R447, R449, R450, 16 R433).
-/
namespace Sys2Proof.Machine

theorem hostOpc_eq {c : Instr} {o : Nat} {h : Hdr} (he : hostEntry c = some (o, h)) : hostOpc c = o := by
  unfold hostOpc; rw [he]

theorem offered_of_quiet {s : State} {h : Hdr} {q : Qp} {c : Instr} {o : Nat} (hq : Claim.Quiet s h q)
    (he : hostEntry c = some (o, h)) (hp : s.paramsOk c = true) : Offered s h q c :=
  ⟨hq, by rw [hostOpc_eq he]; exact he, hp⟩

/-- An idle block takes the entry it is handed as the only command held. -/
theorem takeCmd_quiet {s : State} {h : Hdr} {q : Qp} (hq : Claim.Quiet s h q) (c : Instr) :
    ({ s with hst := { s.hst with handover := [] } } : State).takeCmd c h 0 =
      if authorised (hostOpc c) then (s.atTaking c h).takeAuth s.mgt.seq c
      else if (opcStates (hostOpc c)).contains s.mgt.run then (s.atTaking c h).hostDo s.mgt.seq c
      else (s.atTaking c h).fail s.mgt.seq stRunState := by
  unfold State.takeCmd
  simp only [hq.held, List.nil_append]
  rfl

theorem takeCmd_refused {s : State} {h : Hdr} {q : Qp} (hq : Claim.Quiet s h q) {c : Instr}
    (ha : authorised (hostOpc c) = false) (hr : s.mgt.run ∉ opcStates (hostOpc c)) :
    ({ s with hst := { s.hst with handover := [] } } : State).takeCmd c h 0 = (s.atTaking c h).fail s.mgt.seq stRunState := by
  rw [takeCmd_quiet hq, ha, if_neg Bool.false_ne_true, if_neg (by rwa [List.contains_iff_mem])]

theorem takeCmd_plain {s : State} {h : Hdr} {q : Qp} (hq : Claim.Quiet s h q) {c : Instr}
    (ha : authorised (hostOpc c) = false) (hr : s.mgt.run ∈ opcStates (hostOpc c)) :
    ({ s with hst := { s.hst with handover := [] } } : State).takeCmd c h 0 = (s.atTaking c h).hostDo s.mgt.seq c := by
  rw [takeCmd_quiet hq, ha, if_neg Bool.false_ne_true, if_pos (by rwa [List.contains_iff_mem])]

theorem takeCmd_authorised {s : State} {h : Hdr} {q : Qp} (hq : Claim.Quiet s h q) {c : Instr}
    (ha : authorised (hostOpc c) = true) :
    ({ s with hst := { s.hst with handover := [] } } : State).takeCmd c h 0 = (s.atTaking c h).takeAuth s.mgt.seq c := by
  rw [takeCmd_quiet hq, if_pos ha]

/-- A command taken and completed leaves a management island that held none with its counts moved alone. -/
theorem onlyCounted_of_quiet {s t : State} {h : Hdr} {q : Qp} (hq : Claim.Quiet s h q) {c : Instr} {st : Nat}
    (hm : t.mgt = { ((s.atTaking c h).mgt.countCpl (s.newHeld c h) st) with held := [] }) : Claim.OnlyCounted s t := by
  have he : s.mgt = { s.mgt with held := [] } := by rw [← hq.held]
  unfold Claim.OnlyCounted
  rw [hm, he]
  unfold Mgt.countCpl
  split <;> rfl

theorem wrongRunStateRefused : Claim.WrongRunStateRefused := by
  intro s h q o c hq he hp ha hr
  have ho := hostOpc_eq he
  obtain ⟨x, t, rfl, hx, hd, -⟩ := (offered_of_quiet hq he hp).exec_completes (u := s.atTaking c h)
    (takeCmd_refused hq (by rw [ho]; exact ha) (by rw [ho]; exact hr)) (stillIdle_of_quiet hq c rfl rfl rfl rfl rfl)
  exact ⟨_, hx, hd, onlyCounted_of_quiet hq rfl, rfl⟩

/-- A host command stops the block exactly at an entry it could take that is malformed or has a field out of range. -/
theorem State.hostCommand_fault_iff (s : State) (c : Instr) (h : Hdr) (f : Fault) :
    s.hostCommand c h = .fault f ↔ f = .hostError ∧ s.takeable h = true ∧ (h.bad = true ∨ s.paramsOk c = false) := by
  unfold State.hostCommand
  split
  · rename_i ht
    refine ⟨nofun, fun ⟨_, hy, _⟩ => ?_⟩
    rw [hy] at ht; cases ht
  · rename_i ht
    have hy : s.takeable h = true := by simpa using ht
    split
    · rename_i hb
      refine ⟨fun e => ⟨by injection e with e; exact e.symm, hy, by simpa using hb⟩, fun ⟨e, _, _⟩ => by rw [e]⟩
    · rename_i hb
      exact ⟨nofun, fun ⟨_, _, hc⟩ => absurd (by simpa using hc) hb⟩

theorem hostErrorsStop : Claim.HostErrorsStop := by
  intro s h o c he
  have hx := exec_of_hostEntry c o h s he
  refine ⟨fun hb => ?_, fun f hf => ?_, fun r => exec_ne_refused c s r⟩
  · rw [hx]; exact (s.hostCommand_fault_iff c h _).mpr ⟨rfl, hb⟩
  · exact (s.hostCommand_fault_iff c h f).mp (hx ▸ hf)

/-- Settles O14: a refusal is the completion of a command that did nothing, and a host error is the only fault of the hand-over. -/
theorem admission : Obligations.Admission := ⟨wrongRunStateRefused, hostErrorsStop⟩

/-! ## An entry with FENCE -/

/-- Settles O15: with no fenced entry ready the hand-over pumps nothing, and this one joins those that wait. -/
theorem fenceHoldsBack : Obligations.FenceHoldsBack := by
  unfold Obligations.FenceHoldsBack
  intro s h o c he ht hb hp hs hh hr hw hl
  have hpump : s.pumpFence = s := iter_none _ _ _ (by unfold fenceOnce; rw [hr]; split <;> rfl)
  obtain ⟨tags, hho⟩ : ∃ tags, s.hst.handover = h.qp :: tags := by
    cases e : s.hst.handover with
    | nil => rw [e] at hh; cases hh
    | cons a l => rw [e] at hh; cases hh; exact ⟨l, rfl⟩
  have hwaits : (s.mgt.fenceWait.any (fun x => decide (x.1 = h.qp)) || (h.fence && s.queueBusy h.qp 0)) = true := by
    obtain ⟨hf, x, hx, hxq, hxf⟩ | ⟨w, hwm, hwq⟩ := hw
    · have : s.queueBusy h.qp 0 = true := List.any_eq_true.mpr ⟨x, hx, by simp [hxq, hxf]⟩
      rw [hf, this]; simp
    · rw [List.any_eq_true.mpr ⟨w, hwm, by simp [hwq]⟩]; rfl
  have htags : tags ≠ [] := fun e => hl (by rw [hho, e]; rfl)
  have hand : s.handOver c h = { s with hst := { s.hst with handover := tags },
                                        mgt := { s.mgt with fenceWait := s.mgt.fenceWait ++ [(h.qp, c)] } } := by
    unfold State.handOver
    rw [hpump]
    dsimp only
    rw [hho]
    dsimp only [List.headD_cons, List.drop_one, List.tail_cons]
    simp only [State.queueBusy] at hwaits ⊢
    simp only [Nat.mod_eq_of_lt hs, Nat.div_eq_of_lt hs]
    exact (if_neg fun e => by
      rw [Bool.not_eq_true'] at e; exact Bool.false_ne_true (e.symm.trans hwaits)).trans (if_neg (by omega))
  rw [exec_of_hostEntry c o h s he, State.hostCommand, hand, ht, hb, hp, hho]
  dsimp only
  rw [if_neg (by decide), if_neg (by decide), if_neg (by simpa using htags)]
  rfl

end Sys2Proof.Machine
end

section
/-!
PROOFS. Queue pairs created and deleted, and authorised commands taken (16 R419, R420, 17 R447, R449).
-/
namespace Sys2Proof.Machine

/-! ## A pair joins the others (16 R419) -/

theorem find?_id_filter (l : List Qp) (p : Qp → Bool) (k : Nat) (hp : ∀ x : Qp, x.id = k → p x = true) :
    (l.filter p).find? (fun x => decide (x.id = k)) = l.find? (fun x => decide (x.id = k)) := by
  rw [List.find?_filter]
  congr 1
  funext x
  by_cases hx : x.id = k
  · simp [hx, hp x hx]
  · simp [hx]

theorem find?_id_filter_none (l : List Qp) (p : Qp → Bool) (k : Nat) (hp : ∀ x : Qp, x.id = k → p x = false) :
    (l.filter p).find? (fun x => decide (x.id = k)) = none := by
  rw [List.find?_eq_none]
  intro x hx
  have := (List.mem_filter.mp hx).2
  by_cases e : x.id = k
  · rw [hp x e] at this; cases this
  · simpa using e

theorem State.qp?_addQp_same (s : State) (p : Qp) : (s.addQp p).qp? p.id = some p := by
  unfold State.addQp State.qp?
  dsimp only
  rw [List.append_assoc, List.find?_append, find?_id_filter_none _ _ _ fun x hx => by simp [hx]]
  simp

theorem State.qp?_addQp_other (s : State) (p : Qp) (k : Nat) (h : k ≠ p.id) : (s.addQp p).qp? k = s.qp? k := by
  unfold State.addQp State.qp?
  dsimp only
  rw [List.append_assoc, List.find?_append, List.find?_append]
  have hone : [p].find? (fun x => decide (x.id = k)) = none := by simp [Ne.symm h]
  rw [hone, Option.none_or]
  rcases Nat.lt_or_gt_of_ne h with hl | hg
  · rw [find?_id_filter _ _ _ fun x hx => by simp [hx, hl], find?_id_filter_none _ _ _ fun x hx => by simp [hx]; omega, Option.or_none]
  · rw [find?_id_filter_none _ _ _ fun x hx => by simp [hx]; omega, find?_id_filter _ _ _ fun x hx => by simp [hx]; omega, Option.none_or]

theorem State.addQp_still {s : State} {p : Qp} (hs : s.PairsStill) (hp : p.Still) : (s.addQp p).PairsStill := by
  intro x hx
  simp only [State.addQp, List.mem_append, List.mem_filter, List.mem_singleton] at hx
  obtain (⟨hx, -⟩ | rfl) | ⟨hx, -⟩ := hx
  · exact hs x hx
  · exact hp
  · exact hs x hx

theorem newQp_still (id kind sizeLog vector : Nat) (ien : Bool) (sq cq mask : Nat) : (newQp id kind sizeLog vector ien sq cq mask).Still :=
  ⟨rfl, .inr (Nat.zero_mod _).symm, rfl, rfl⟩

/-- A new pair has nothing to latch. -/
theorem latch_newQp (id kind sizeLog vector : Nat) (ien : Bool) (sq cq mask : Nat) :
    (newQp id kind sizeLog vector ien sq cq mask).latch = newQp id kind sizeLog vector ien sq cq mask := by
  unfold Qp.latch newQp
  split <;> simp

/-- A command refused once taken completes with its status and changes nothing but the host interface and the counts. -/
theorem Offered.exec_fails {s : State} {h : Hdr} {q : Qp} {c : Instr} (a : Offered s h q c) {st : Nat}
    (ht : ({ s with hst := { s.hst with handover := [] } } : State).takeCmd c h 0 = (s.atTaking c h).fail s.mgt.seq st) :
    ∃ t, exec c s = .next t ∧ Claim.Done s t h q st 0 s.tim.dt ∧ Claim.OnlyCounted s t ∧ t = { s with hst := t.hst, mgt := t.mgt } := by
  obtain ⟨x, t, rfl, hx, hd, -⟩ := a.exec_completes ht (stillIdle_of_quiet a.quiet c rfl rfl rfl rfl rfl)
  exact ⟨_, hx, hd, onlyCounted_of_quiet a.quiet rfl, rfl⟩

/-- QP_CREATE of an idle block, its conditions as rules (16 R419). -/
theorem qpCreate_atTaking {s : State} {h : Hdr} {q : Qp} (hq : Claim.Quiet s h q) (p : QpParam) (n : Nat) (c : Instr) :
    (s.atTaking c h).qpCreate n p =
      if (s.qp? p.qpid).isSome then (s.atTaking c h).fail n 0x08
      else if p.qpid = 0 ∨ (p.qpid = 1 ∧ p.kind ≠ 2) then (s.atTaking c h).fail n 0x09
      else if ∃ x ∈ s.hst.qps, x.kind = p.kind ∧ x.mask &&& p.mask ≠ 0 then (s.atTaking c h).fail n 0x0A
      else ((s.atTaking c h).addQp (newQp p.qpid p.kind p.sizeLog p.vector p.ien p.sqBase p.cqBase p.mask)).ok n 0 := by
  have hdel : (s.atTaking c h).hst.deleting = [] := hq.deleting
  unfold State.qpCreate
  rw [hdel, List.any_nil, Bool.or_false]
  refine if_congr Iff.rfl rfl (if_congr (by simp) rfl (if_congr ?_ rfl rfl))
  simp [State.streamBusy, State.atTaking]

theorem qpCreate_completes {s : State} {h : Hdr} {q : Qp} (hq : Claim.Quiet s h q) (p : QpParam)
    (hp : s.paramsOk (.qpCreate h p) = true) :
    ∃ t, exec (.qpCreate h p) s = .next t ∧
      if (s.qp? p.qpid).isSome then Claim.Done s t h q 0x08 0 s.tim.dt
      else if p.qpid = 0 ∨ (p.qpid = 1 ∧ p.kind ≠ 2) then Claim.Done s t h q 0x09 0 s.tim.dt
      else if ∃ x ∈ s.hst.qps, x.kind = p.kind ∧ x.mask &&& p.mask ≠ 0 then Claim.Done s t h q 0x0A 0 s.tim.dt
      else Claim.Done s t h q 0 0 s.tim.dt ∧
        t.qp? p.qpid = some (newQp p.qpid p.kind p.sizeLog p.vector p.ien p.sqBase p.cqBase p.mask) := by
  have a : Offered s h q (.qpCreate h p) := offered_of_quiet hq rfl hp
  have taken := takeCmd_plain hq (c := .qpCreate h p) rfl (by change _ ∈ opcStates 0x01; cases s.mgt.run <;> decide)
  have hdo : (s.atTaking (.qpCreate h p) h).hostDo s.mgt.seq (.qpCreate h p) = (s.atTaking (.qpCreate h p) h).qpCreate s.mgt.seq p := rfl
  rw [hdo, qpCreate_atTaking hq] at taken
  have refused : ∀ st, _ = (s.atTaking (.qpCreate h p) h).fail s.mgt.seq st →
      ∃ t, exec (.qpCreate h p) s = .next t ∧ Claim.Done s t h q st 0 s.tim.dt := fun st e => by
    obtain ⟨t, hx, hd, -⟩ := a.exec_fails (taken.trans e)
    exact ⟨t, hx, hd⟩
  by_cases hexists : (s.qp? p.qpid).isSome = true
  · simp only [if_pos hexists] at refused ⊢
    exact refused _ rfl
  by_cases hfixed : p.qpid = 0 ∨ (p.qpid = 1 ∧ p.kind ≠ 2)
  · simp only [if_neg hexists, if_pos hfixed] at refused ⊢
    exact refused _ rfl
  by_cases hbusy : ∃ x ∈ s.hst.qps, x.kind = p.kind ∧ x.mask &&& p.mask ≠ 0
  · simp only [if_neg hexists, if_neg hfixed, if_pos hbusy] at refused ⊢
    exact refused _ rfl
  rw [if_neg hexists, if_neg hfixed, if_neg hbusy] at taken
  simp only [if_neg hexists, if_neg hfixed, if_neg hbusy]
  have hnew : s.qp? p.qpid = none := by simpa using hexists
  have hother : h.qp ≠ p.qpid := by
    intro e; rw [← e, hq.pair] at hnew; cases hnew
  have i := stillIdle_of_quiet hq (.qpCreate h p) (u := s.atTaking (.qpCreate h p) h) rfl rfl rfl rfl rfl
  obtain ⟨x, t, -, hx, hd, hpairs⟩ := a.exec_completes taken
    { i with still := State.addQp_still i.still (newQp_still ..), pair := by rw [State.qp?_addQp_other _ _ _ hother]; exact i.pair }
  have hsame := (s.atTaking (.qpCreate h p) h).qp?_addQp_same (newQp p.qpid p.kind p.sizeLog p.vector p.ien p.sqBase p.cqBase p.mask)
  refine ⟨t, hx, hd, ?_⟩
  obtain e | e := hpairs p.qpid hother.symm
  · exact e.trans hsame
  · exact (e.trans (congrArg (Option.map Qp.latch) hsame)).trans (congrArg some (latch_newQp ..))

/-! ## A pair leaves the others (16 R420) -/

/-- With no deletion pending and no completion waiting, ending a command is completing it. -/
theorem State.complete_eq_finish (s : State) (n st r0 : Nat) (r1 : Option Nat) (d : List Byte) (hd : s.hst.deleting = [])
    (hc : s.hst.cpls = []) : s.complete n st r0 r1 d = s.finish n st r0 r1 d := by
  refine State.endDeletes_none _ ?_
  unfold State.finish
  split
  · exact hd
  · rename_i x _
    obtain ⟨k, hk⟩ : ∃ k, k ≠ x.qp := ⟨x.qp + 1, Nat.succ_ne_self _⟩
    dsimp only
    exact (State.queueCpl_other
      { s with mgt := { (s.mgt.countCpl x st) with held := s.mgt.held.filter (fun y => y.seq ≠ n) } } ⟨x.qp, x.cid, x.opc, st, r0, r1.getD x.acc, s.tim.dt, d, x.fate⟩ k hc hk).2.trans hd

/-- The state of a QP_DELETE once the pair is gone. -/
def State.withoutQp (s : State) (n : Nat) : State :=
  { s with hst := { s.hst with qps := s.hst.qps.filter (fun x => x.id ≠ n) } }

theorem State.qp?_withoutQp_same (s : State) (n : Nat) : (s.withoutQp n).qp? n = none :=
  find?_id_filter_none s.hst.qps _ n fun x hx => by simp [hx]

theorem State.qp?_withoutQp_other (s : State) (n k : Nat) (h : k ≠ n) : (s.withoutQp n).qp? k = s.qp? k :=
  find?_id_filter s.hst.qps _ k fun x hx => by simp [hx, h]

/-- An idle block that is not sending for the pair deletes it, and the command completes at once. -/
theorem qpDelete_atTaking {s : State} {h : Hdr} {q : Qp} (hq : Claim.Quiet s h q) (h0 : q.id = 0) {n : Nat} (hn : n ≠ 0)
    (hs : s.sending n = false) (c : Instr) :
    (s.atTaking c h).qpDelete s.mgt.seq n = ((s.atTaking c h).withoutQp n).complete s.mgt.seq 0 0 none [] := by
  have hqp : h.qp = 0 := (State.qp?_id hq.pair).symm.trans h0
  have hdel : ({ (s.atTaking c h) with
      mgt := { (s.atTaking c h).mgt with held := (s.atTaking c h).mgt.held.map (fun x => if x.seq = s.mgt.seq then { x with qp := 0, fate := 0 } else x) },
      hst := { (s.atTaking c h).hst with deleting := (s.atTaking c h).hst.deleting ++ [(s.mgt.seq, n)] } } : State).deleteQp n =
      { ((s.atTaking c h).withoutQp n) with
        hst := { ((s.atTaking c h).withoutQp n).hst with deleting := [(s.mgt.seq, n)] } } := by
    simp [State.deleteQp, State.dropQp, State.withoutQp, State.atTaking, State.newHeld, hq.reads, hq.cpls, hq.fences, hq.deleting, hqp,
      Ne.symm hn]
  have hend : ({ ((s.atTaking c h).withoutQp n) with
      hst := { ((s.atTaking c h).withoutQp n).hst with deleting := [(s.mgt.seq, n)] } } : State).endDeletes =
      ((s.atTaking c h).withoutQp n).complete s.mgt.seq 0 0 none [] := by
    rw [State.complete_eq_finish _ _ _ _ _ _ (by exact hq.deleting) (by exact hq.cpls)]
    unfold State.endDeletes
    dsimp only [List.foldl_cons, List.foldl_nil]
    rw [if_neg]
    · simp [State.withoutQp, State.atTaking, hq.deleting]
    · change ¬ (([s.newHeld c h].any (fun x => decide (x.qp = n) && decide (x.seq ≠ s.mgt.seq)) || ([] : List Nat).contains (n + 128) ||
        s.sending n) = true)
      rw [hs]; simp [State.newHeld]
  have hbufs : ∀ x, (s.atTaking c h).qp? n = some x → x.bufs = [] := fun x hx => (hq.idle x (s.qp?_mem n x hx)).2.2.1
  unfold State.qpDelete
  rw [if_neg hn]
  dsimp only
  rw [hdel]
  cases e : (s.atTaking c h).qp? n with
  | none => exact hend
  | some x => dsimp only; rw [hbufs x e, ite_self]; exact hend

/-- QP_DELETE of an idle block. -/
theorem qpDelete_completes {s : State} {h : Hdr} {q : Qp} (hq : Claim.Quiet s h q) (n : Nat) (h0 : q.id = 0) (hn : n ≤ 63)
    (hs : s.sending n = false) : ∃ t, exec (.qpDelete h n) s = .next t ∧
      if n = 0 then Claim.Done s t h q 0x09 0 s.tim.dt else Claim.Done s t h q 0 0 s.tim.dt ∧ t.qp? n = none := by
  have a : Offered s h q (.qpDelete h n) := offered_of_quiet hq rfl (decide_eq_true hn)
  have taken := takeCmd_plain hq (c := .qpDelete h n) rfl (by change _ ∈ opcStates 0x02; cases s.mgt.run <;> decide)
  have hdo : (s.atTaking (.qpDelete h n) h).hostDo s.mgt.seq (.qpDelete h n) = (s.atTaking (.qpDelete h n) h).qpDelete s.mgt.seq n := rfl
  rw [hdo] at taken
  by_cases hz : n = 0
  · simp only [if_pos hz]
    obtain ⟨t, hx, hd, -⟩ := a.exec_fails (taken.trans (if_pos hz))
    exact ⟨t, hx, hd⟩
  · simp only [if_neg hz]
    have hother : h.qp ≠ n := fun e => hz (by rw [← e, ← State.qp?_id hq.pair, h0])
    have i := stillIdle_of_quiet hq (.qpDelete h n) (u := s.atTaking (.qpDelete h n) h) rfl rfl rfl rfl rfl
    obtain ⟨x, t, -, hx, hd, hpairs⟩ := a.exec_completes (taken.trans (qpDelete_atTaking hq h0 hz hs _))
      { i with still := fun p hp => i.still p (List.mem_filter.mp hp).1, pair := by rw [State.qp?_withoutQp_other _ _ _ hother]; exact i.pair }
    refine ⟨t, hx, hd, ?_⟩
    obtain e | e := hpairs n hother.symm
    · rw [e, State.qp?_withoutQp_same]
    · rw [e, State.qp?_withoutQp_same]; rfl

/-- Settles O16: QP_CREATE by its conditions, QP_DELETE by the deletion that ends at once. -/
theorem pairsComeAndGo : Obligations.PairsComeAndGo := by
  unfold Obligations.PairsComeAndGo
  exact fun s h q hq => ⟨qpCreate_completes hq, qpDelete_completes hq⟩

end Sys2Proof.Machine
end

section
/-!
PROOFS. Authorised commands taken: verified by the key island before they act (17 R447, R449).
-/
namespace Sys2Proof.Machine

/-- A piece of work joins the key island's queue; beyond it only that island and the free values move. -/
theorem State.pushWork_only (s : State) (w : KeyWork) : ∃ j win, j.work = w ∧
    s.pushWork w = { s with fresh := s.fresh + 1, key := { s.key with jobs := s.key.jobs ++ [j], win := win } } :=
  ⟨_, _, rfl, rfl⟩

/-- The state in which an authorised command waits for its verification: the challenge is consumed. -/
def State.underAuth (s : State) (c : Instr) (h : Hdr) : State :=
  { (s.atTaking c h) with mgt := { (s.atTaking c h).mgt with chal := none, auth := some ⟨s.mgt.seq, c, s.mgt.chal⟩ } }

theorem takeAuth_verifies {s : State} {h : Hdr} {c : Instr} (hr : s.mgt.run ∈ opcStates (hostOpc c)) (ha : s.mgt.auth = none) :
    (s.atTaking c h).takeAuth s.mgt.seq c = (s.underAuth c h).pushWork .auth := by
  have ht : (opcStates (hostOpc c)).contains s.mgt.run = true := List.contains_iff_mem.mpr hr
  unfold State.takeAuth
  dsimp only
  rw [if_neg (by change ¬ (!(opcStates (hostOpc c)).contains s.mgt.run) = true; rw [ht]; decide),
    if_neg (by change ¬ s.mgt.auth.isSome = true; rw [ha]; decide)]
  rfl

theorem authorised_held {s : State} {h : Hdr} {q : Qp} {c : Instr} (hq : Claim.Quiet s h q) (he : hostEntry c = some (hostOpc c, h))
    (ha : authorised (hostOpc c) = true) (hr : s.mgt.run ∈ opcStates (hostOpc c)) (hp : s.paramsOk c = true) (hn : s.mgt.auth = none) :
    ∃ t j, exec c s = .next t ∧ Claim.Held s t h c ∧ t.mgt.chal = none ∧ t.mgt.auth = some ⟨s.mgt.seq, c, s.mgt.chal⟩ ∧
      t.key.jobs = s.key.jobs ++ [j] ∧ j.work = .auth := by
  obtain ⟨j, win, hj, e⟩ := (s.underAuth c h).pushWork_only .auth
  have i := stillIdle_of_quiet hq c (u := s.atTaking c h) rfl rfl rfl rfl rfl
  obtain ⟨l, hx⟩ := (Offered.mk hq he hp).exec_held
    ((takeCmd_authorised hq ha).trans ((takeAuth_verifies hr hn).trans e)) { i with }
  exact ⟨_, j, hx, ⟨rfl, rfl, rfl⟩, rfl, rfl, rfl, hj⟩

/-- Settles O17: each of the six commands goes the way of every authorised one. -/
theorem authorisedCommandsVerify : Obligations.AuthorisedCommandsVerify := by
  unfold Obligations.AuthorisedCommandsVerify
  rintro s h q c hq (⟨_, _, rfl⟩ | ⟨_, rfl⟩ | ⟨_, _, rfl⟩ | ⟨_, _, _, _, _, rfl⟩ | ⟨_, rfl⟩ | ⟨_, _, _, _, rfl⟩) hr hp hn <;>
    exact authorised_held hq rfl rfl hr hp hn

end Sys2Proof.Machine
end

section
/-!
PROOFS. Commands that wait in the queue of their unit (01 Table 1-7).
-/
namespace Sys2Proof.Machine

/-- A command whose effect leaves host interface and management island alone is held with what its effect did. -/
theorem Admitted.waits {s : State} {h : Hdr} {q : Qp} {c : Instr} (a : Admitted s h q c) {u : State}
    (hd : (s.atTaking c h).hostDo s.mgt.seq c = u) (hh : u.hst = (s.atTaking c h).hst) (hm : u.mgt = (s.atTaking c h).mgt) :
    ∃ l, exec c s = .next { u with hst := { u.hst with qps := l } } ∧ Claim.Held s { u with hst := { u.hst with qps := l } } h c := by
  obtain ⟨l, e⟩ := a.exec_held hd hh hm
  exact ⟨l, e, by rw [Claim.Held, hm]; exact ⟨rfl, rfl, rfl⟩⟩

theorem State.simulateCmd_declared {s : State} {n : Nat} (h : ∃ d ∈ s.stnDefs, d.stn = n) (k m : Nat) (b : List Byte) :
    s.simulateCmd k n m b = { s with stn := { s.stn with sims := s.stn.sims ++
      [⟨k, s.tim.dt, n, if m = 1 then some (b.take 60) else none⟩] } } := by
  refine if_neg ?_
  rw [Option.isNone_iff_eq_none, List.find?_eq_none]
  obtain ⟨d, hd, hn⟩ := h
  exact fun k => k d hd (decide_eq_true hn)

theorem State.rtcFromPtpCmd_trusted {s : State} (ht : s.tim.tstate = .trusted) (hu : s.tim.utcValid = true) (n : Nat) :
    s.rtcFromPtpCmd n = { s with rtc := { s.rtc with ptp := s.rtc.ptp ++ [s.ptpSetting n] } } := by
  refine if_neg ?_
  simp [ht, hu]

theorem State.txAnCmd_macsec {s : State} {p : Nat} {d : EthPortDef} (hd : s.ethDef? p = some d) (hm : d.macsec = true) (n a : Nat) :
    s.txAnCmd n p a = { s with eth := { s.eth with txan := s.eth.txan ++ [(n, p, a)] } } := by
  unfold State.txAnCmd
  rw [hd]
  dsimp only
  rw [hm]
  exact if_neg (by decide)

/-- Every value an item list names is declared. -/
theorem State.values_known {s : State} {l : List Nat} (h : ∀ p ∈ l, (s.valueEntry? p).isSome = true) :
    ¬ l.any (fun p => (s.valueEntry? p).isNone) = true := by
  rw [List.any_eq_true]
  rintro ⟨p, hp, hn⟩
  rw [Option.isNone_iff_eq_none] at hn
  have := h p hp
  rw [hn] at this; cases this

theorem State.readCmd_run {s : State} {l : List Nat} (h : ∀ p ∈ l, (s.valueEntry? p).isSome = true) (hr : s.mgt.run = .run) (n : Nat) :
    s.readCmd n l = { s with sup := { s.sup with reads := s.sup.reads ++ [⟨n, l⟩] } } := by
  unfold State.readCmd
  rw [if_neg (State.values_known h), if_pos hr]

theorem State.editCmd_run {s : State} {l : List (Nat × Word)} (h : (s.editStatus l).1 = 0) (hr : s.mgt.run = .run) (n : Nat) :
    s.editCmd n l = { s with sup := { s.sup with edits := s.sup.edits ++ [⟨n, (s.editStatus l).2⟩] } } := by
  unfold State.editCmd
  rw [if_neg (not_not.mpr h), if_pos hr]

/-- Settles O19: each command joins its queue and is held. -/
theorem waitingCommandsQueue : Obligations.WaitingCommandsQueue := by
  unfold Obligations.WaitingCommandsQueue
  intro s h q hq hr
  refine ⟨fun n b hd hn hb => ⟨?simulate, ?simulateOff⟩, ?addHour, ?subHour, fun c hf hv => ?rtcSet, fun ht hu => ?fromPtp,
    fun p k d hp hk hd hm => ?txAn, fun x hx => ?freq, fun hrun l hl hv => ?read, fun hrun l hl hv => ?edit⟩
  case simulate =>
    have a : Admitted s h q (.simulate h n 1 b) := .of_started hq hr rfl rfl rfl (by simp [State.paramsOk, hn, hb])
    obtain ⟨l, e, held⟩ := a.waits (State.simulateCmd_declared (s := s.atTaking (.simulate h n 1 b) h) hd _ 1 b) rfl rfl
    exact ⟨_, e, held, rfl⟩
  case simulateOff =>
    have a : Admitted s h q (.simulate h n 0 b) := .of_started hq hr rfl rfl rfl (by simp [State.paramsOk, hn])
    obtain ⟨l, e, held⟩ := a.waits (State.simulateCmd_declared (s := s.atTaking (.simulate h n 0 b) h) hd _ 0 b) rfl rfl
    exact ⟨_, e, held, rfl⟩
  case addHour =>
    have a : Admitted s h q (.addHour h) := .of_started hq hr rfl rfl rfl rfl
    obtain ⟨l, e, held⟩ := a.waits (u := (s.atTaking (.addHour h) h).pushAdj s.mgt.seq .addHour) rfl rfl rfl
    exact ⟨_, e, held, rfl⟩
  case subHour =>
    have a : Admitted s h q (.subHour h) := .of_started hq hr rfl rfl rfl rfl
    obtain ⟨l, e, held⟩ := a.waits (u := (s.atTaking (.subHour h) h).pushAdj s.mgt.seq .subHour) rfl rfl rfl
    exact ⟨_, e, held, rfl⟩
  case rtcSet =>
    have a : Admitted s h q (.rtcSet h c) := .of_started hq hr rfl rfl rfl hf
    obtain ⟨l, e, held⟩ := a.waits (u := (s.atTaking (.rtcSet h c) h).pushAdj s.mgt.seq (.set c.secs)) (if_pos hv) rfl rfl
    exact ⟨_, e, held, rfl⟩
  case fromPtp =>
    have a : Admitted s h q (.rtcFromPtp h) := .of_started hq hr rfl rfl rfl rfl
    obtain ⟨l, e, held⟩ := a.waits (State.rtcFromPtpCmd_trusted (s := s.atTaking (.rtcFromPtp h) h) ht hu _) rfl rfl
    exact ⟨_, e, held, _, rfl, rfl, rfl⟩
  case txAn =>
    have a : Admitted s h q (.txAn h p k) := .of_started hq hr rfl rfl rfl (by simp [State.paramsOk, hp, hk])
    obtain ⟨l, e, held⟩ := a.waits (State.txAnCmd_macsec (s := s.atTaking (.txAn h p k) h) hd hm _ k) rfl rfl
    exact ⟨_, e, held, rfl⟩
  case freq =>
    have a : Admitted s h q (.freqMeasure h x) := .of_started hq hr rfl rfl rfl (decide_eq_true hx)
    obtain ⟨l, e, held⟩ := a.waits (u := (s.atTaking (.freqMeasure h x) h).freqMeasureCmd s.mgt.seq x) rfl rfl rfl
    exact ⟨_, e, held, _, rfl, rfl, rfl, rfl⟩
  case read =>
    have a : Admitted s h q (.read h l) := .of_started hq hr rfl rfl rfl hl
    obtain ⟨k, e, held⟩ := a.waits (State.readCmd_run (s := s.atTaking (.read h l) h) hv hrun _) rfl rfl
    exact ⟨_, e, held, rfl⟩
  case edit =>
    have a : Admitted s h q (.edit h l) := .of_started hq hr rfl rfl rfl hl
    obtain ⟨k, e, held⟩ := a.waits (State.editCmd_run (s := s.atTaking (.edit h l) h) hv hrun _) rfl rfl
    exact ⟨_, e, held, rfl⟩

end Sys2Proof.Machine
end

section
/-!
PROOFS. Commands that only read (17 Table 17-4).
-/
namespace Sys2Proof.Machine

/-- The state `v` is `u` after the completion of command `n`, but for free values used. -/
def State.Responds (u : State) (n : Nat) (v : State) : Prop :=
  ∃ f st r0 r1 d, v = ({ u with fresh := f } : State).complete n st r0 r1 d

theorem State.responds_fail (u : State) (n st : Nat) : u.Responds n (u.fail n st) := ⟨u.fresh, st, 0, none, [], rfl⟩

theorem State.responds_ite {u v w : State} {n : Nat} (c : Prop) [Decidable c] (hv : u.Responds n v) (hw : u.Responds n w) :
    u.Responds n (if c then v else w) := by
  split
  · exact hv
  · exact hw

/-- A query completes with what it has read; beside that it uses free values alone. -/
theorem query_completes {h : Hdr} {c : Instr} (hc : Claim.Query h c) (s : State) (hp : s.paramsOk c = true) (u : State) (n : Nat) :
    u.Responds n (u.hostDo n c) := by
  cases hc with
  | identify | echo | swapReport | status | query | recCounts | slotQuery | rtcRead | captureRead => exact ⟨_, _, _, _, _, rfl⟩
  | ringStatus k =>
    change u.Responds n (u.ringStatus n k)
    unfold State.ringStatus
    split
    · exact ⟨u.fresh, _, _, _, _, rfl⟩
    · exact ⟨_, _, _, _, _, rfl⟩
  | solution p => exact State.responds_ite _ (u.responds_fail n _) ⟨u.fresh, _, _, _, _, rfl⟩
  | regRead k i => exact State.responds_ite _ (u.responds_fail n _) ⟨_, _, _, _, _, rfl⟩
  | archiveRead f k => exact State.responds_ite _ (u.responds_fail n _) ⟨u.fresh, _, _, _, _, rfl⟩
  | panelStatus => exact State.responds_ite _ (u.responds_fail n _) ⟨u.fresh, _, _, _, _, rfl⟩
  | history k =>
    have hk : k ≤ 2 := of_decide_eq_true hp
    obtain rfl | rfl | rfl : k = 0 ∨ k = 1 ∨ k = 2 := by omega
    all_goals exact ⟨u.fresh, _, _, _, _, rfl⟩

theorem query_hostEntry {h : Hdr} {c : Instr} (hc : Claim.Query h c) :
    hostEntry c = some (hostOpc c, h) ∧ authorised (hostOpc c) = false := by
  cases hc <;> exact ⟨rfl, rfl⟩

theorem queriesOnlyRead : Claim.QueriesOnlyRead := by
  intro s h q c hq hc ht hp
  obtain ⟨he, ha⟩ := query_hostEntry hc
  obtain ⟨f, st, r0, r1, d, hd⟩ := query_completes hc s hp (s.atTaking c h) s.mgt.seq
  have i := stillIdle_of_quiet hq c (u := s.atTaking c h) rfl rfl rfl rfl rfl
  obtain ⟨x, t, rfl, hx, done, -⟩ := (Offered.mk hq he hp).exec_completes
    ((takeCmd_plain hq ha (List.contains_iff_mem.mp ht)).trans hd) { i with }
  exact ⟨_, st, r0, _, hx, done, onlyCounted_of_quiet hq rfl, rfl⟩

/-- A command taken in every run state that completes at once. -/
theorem exec_answers {s : State} {h : Hdr} {q : Qp} {c : Instr} (hq : Claim.Quiet s h q) (he : hostEntry c = some (hostOpc c, h))
    (hp : s.paramsOk c = true) (ha : authorised (hostOpc c) = false) (hr : s.mgt.run ∈ opcStates (hostOpc c)) {r0 : Nat}
    {r1 : Option Nat} {d : List Byte} (hd : (s.atTaking c h).hostDo s.mgt.seq c = (s.atTaking c h).complete s.mgt.seq 0 r0 r1 d) :
    ∃ t, exec c s = .next t ∧ Claim.Done s t h q 0 r0 (r1.getD s.tim.dt) := by
  obtain ⟨x, t, -, hx, done, -⟩ := (Offered.mk hq he hp).exec_completes ((takeCmd_plain hq ha hr).trans hd)
    (stillIdle_of_quiet hq c rfl rfl rfl rfl rfl)
  exact ⟨t, hx, done⟩

/-- Every run state is in the row of a command that is taken in all of them. -/
theorem mem_allStates (r : Run) : r ∈ [Run.init, Run.setup, Run.run, Run.halt] := by
  cases r <;> decide

theorem queryResults : Claim.QueryResults := by
  intro s h q hq
  refine ⟨fun a b hl hh => ?echo, ?identify, ?rtcRead⟩
  case echo => exact exec_answers hq rfl (by simp only [State.paramsOk, hl, hh, decide_true, Bool.and_self]) rfl (mem_allStates _) (r0 := a) (r1 := some b) (d := []) rfl
  case identify =>
    exact exec_answers hq (c := .identify h) rfl rfl rfl (mem_allStates _) (r1 := some s.mgt.run.code) (d := []) rfl
  case rtcRead => exact exec_answers hq (c := .rtcRead h) rfl rfl rfl (mem_allStates _) (r1 := none) (d := []) rfl

/-- Settles O13: every query completes with what it read; the three results are read off their effects. -/
theorem queries : Obligations.Queries := ⟨queriesOnlyRead, queryResults⟩

end Sys2Proof.Machine
end

section
/-!
PROOFS. Events and records an effect raises while its command is still to complete (16 R425, R429, 21 R527).
-/
namespace Sys2Proof.Machine

theorem State.signal_rings (s : State) (p : Qp) : ∃ m o, s.signal p = { s with hst := { s.hst with msixPend := m, out := o } } := by
  unfold State.signal
  split
  · split
    · exact ⟨_, _, rfl⟩
    · exact ⟨_, _, rfl⟩
  · exact ⟨_, _, rfl⟩

theorem State.afterPost_rings (s : State) (id : Nat) :
    ∃ l m o, s.afterPost id = { s with hst := { s.hst with qps := l, msixPend := m, out := o } } := by
  unfold State.afterPost
  split
  · exact ⟨_, _, _, rfl⟩
  · rename_i p _
    split
    · split
      · exact ⟨_, _, _, rfl⟩
      · obtain ⟨m, o, e⟩ := (s.setQp { p with sig := false, holdoff := true }).signal_rings p
        exact ⟨_, m, o, e⟩
    · exact ⟨_, _, _, rfl⟩

/-- In continuous service no event waits. -/
def State.Settled (s : State) : Prop := s.continuous = true → s.hst.events = []

/-- What events and records leave of a block: management island and power stand; of the host interface only rings, messages and
events move; still pairs stay still, and no pair but an EVENT pair changes. -/
structure Raised (s t : State) : Prop where
  rings : ∃ l m o v es, t.hst = { s.hst with qps := l, msixPend := m, out := o, evLost := v, events := es }
  mgt : t.mgt = s.mgt
  pwr : t.pwr = s.pwr
  wait : t.clk.wait = s.clk.wait
  settled : s.Settled → t.Settled
  still : s.PairsStill → t.PairsStill
  pairs : ∀ id p, s.qp? id = some p → p.kind ≠ 2 → t.qp? id = some p

theorem State.continuous_congr {s t : State} (hm : t.mgt = s.mgt) (hp : t.pwr = s.pwr) (hc : t.clk.wait = s.clk.wait) :
    t.continuous = s.continuous := by
  unfold State.continuous State.runs State.inService
  rw [hm, hp, hc]

/-- A change outside host interface, management island and power. -/
theorem Raised.of_same {s t : State} (hh : t.hst = s.hst) (hm : t.mgt = s.mgt) (hp : t.pwr = s.pwr) (hc : t.clk.wait = s.clk.wait) :
    Raised s t where
  rings := ⟨_, _, _, _, _, hh⟩
  mgt := hm
  pwr := hp
  wait := hc
  settled h k := by rw [hh]; exact h ((State.continuous_congr hm hp hc).symm.trans k)
  still h := by unfold State.PairsStill; rw [hh]; exact h
  pairs id p h _ := by unfold State.qp?; rw [hh]; exact h

theorem Raised.refl (s : State) : Raised s s := .of_same rfl rfl rfl rfl

theorem Raised.trans {s t u : State} (a : Raised s t) (b : Raised t u) : Raised s u where
  rings := by
    obtain ⟨_, _, _, _, _, ha⟩ := a.rings
    obtain ⟨_, _, _, _, _, hb⟩ := b.rings
    exact ⟨_, _, _, _, _, by rw [hb, ha]⟩
  mgt := b.mgt.trans a.mgt
  pwr := b.pwr.trans a.pwr
  wait := b.wait.trans a.wait
  settled h := b.settled (a.settled h)
  still h := b.still (a.still h)
  pairs id p h hk := b.pairs id p (a.pairs id p h hk) hk

/-- An event that finds no place is counted. -/
theorem Raised.lost {s t : State} (h : Raised s t) (v : Nat) : Raised s { t with hst := { t.hst with evLost := v } } :=
  h.trans ⟨⟨_, _, _, _, _, rfl⟩, rfl, rfl, rfl, fun h => h, fun h => h, fun _ _ h _ => h⟩

/-- An entry of an EVENT pair posted: the pair stays still, and no pair of another kind changes. -/
theorem Raised.posted {s : State} {r : Nat} {p : Qp} (hp : s.qp? r = some p) (hk : p.kind = 2) (o : Out) (n : Nat) :
    Raised s (((s.emit o).setQp { p with posted := n, fetched := n, latched := n }).afterPost r) := by
  obtain ⟨l, m, x, e⟩ := ((s.emit o).setQp { p with posted := n, fetched := n, latched := n }).afterPost_rings r
  have hid : p.id = r := State.qp?_id hp
  have hh : (((s.emit o).setQp { p with posted := n, fetched := n, latched := n }).afterPost r).continuous = s.continuous := by
    rw [e]; rfl
  refine ⟨⟨l, m, x, _, _, by rw [e]; rfl⟩, by rw [e]; rfl, by rw [e]; rfl, by rw [e]; rfl, fun h k => ?_, fun hs => ?_, fun id y hy hne => ?_⟩
  · rw [e]; exact h (hh.symm.trans k)
  · obtain ⟨-, -, hb, hg⟩ := hs p (s.qp?_mem r p hp)
    exact State.afterPost_still (State.setQp_still (s := s.emit o) (p := { p with posted := n, fetched := n, latched := n }) hs
      ⟨rfl, .inl hk, hb, hg⟩) r
  · have hr : id ≠ r := by
      rintro rfl
      rw [hp] at hy; cases hy; exact hne hk
    rw [State.qp?_afterPost_other _ _ _ hr, State.qp?_setQp_other _ _ _ (by rw [← hid] at hr; exact hr)]
    exact hy

theorem State.postEvent_raised (s : State) (e : Event) : Raised s (s.postEvent e) := by
  unfold State.postEvent
  split
  · exact Raised.refl s
  · split
    · rename_i p hp
      split
      · rename_i hk
        dsimp only
        split
        · exact Raised.posted hp hk _ _
        · split
          · exact (Raised.posted hp hk _ _).lost _
          · exact (Raised.refl s).lost _
      · exact (Raised.refl s).lost _
    · exact (Raised.refl s).lost _

/-- With no event waiting in continuous service, an event is posted, waits for an HST cell, or is lost. -/
theorem State.raise_raised {s : State} (he : s.Settled) (n r : Nat) : Raised s (s.raise n r) := by
  have flushed : s.continuous = true → s.flushEvents = s := fun k => by
    unfold State.flushEvents; rw [he k, List.foldl_nil, ← he k]
  unfold State.raise
  dsimp only
  split
  · exact Raised.refl s
  split
  · exact Raised.refl s
  split
  · split
    · split
      · rename_i k
        rw [flushed k]
        exact s.postEvent_raised _
      · rename_i k
        exact ⟨⟨_, _, _, _, _, rfl⟩, rfl, rfl, rfl, fun _ k' => absurd k' k, fun h => h, fun _ _ h _ => h⟩
    · exact (Raised.refl s).lost _
  · exact (Raised.refl s).lost _

theorem State.record_raised {s : State} (he : s.Settled) (v b n : Nat) (d : List Byte) : Raised s (s.record v b n d) := by
  unfold State.record
  split
  · dsimp only
    split
    · exact .of_same rfl rfl rfl rfl
    · split
      · exact .of_same rfl rfl rfl rfl
      · refine Raised.trans ?_ (State.raise_raised ?_ 97 v)
        · exact .of_same rfl rfl rfl rfl
        · exact he
  · exact .refl s

/-- An idle block after its effect has raised events or records, its device time as before. -/
theorem StillIdle.raised {s u t : State} {c : Instr} {h : Hdr} {q : Qp} (i : StillIdle s u c h q) (hk : q.kind = 1) (r : Raised u t)
    (hd : t.tim.dt = u.tim.dt) : StillIdle s t c h q := by
  obtain ⟨_, _, _, _, _, hh⟩ := r.rings
  have hm := r.mgt
  exact ⟨by rw [hm]; exact i.held, by rw [hm]; exact i.fences, by rw [hm]; exact i.counts, by rw [hh]; exact i.handover,
    r.still i.still, by rw [hh]; exact i.cpls, r.settled i.events, by rw [hh]; exact i.deleting, by rw [hh]; exact i.cell,
    r.pairs h.qp q i.pair (by rw [hk]; decide), by rw [r.pwr]; exact i.power, by rw [r.wait]; exact i.clocks, hd.trans i.dt⟩

end Sys2Proof.Machine
end

section
/-!
PROOFS. The recorder seen from the host interface: committing records leaves an idle block idle (21 R527 to R530).
-/
namespace Sys2Proof.Machine

/-- A change that only raises events and records, and leaves device time as it is. -/
structure Calm (s t : State) : Prop where
  raised : s.Settled → Raised s t
  tim : t.tim = s.tim

theorem Calm.of_same {s t : State} (hh : t.hst = s.hst) (hm : t.mgt = s.mgt) (hp : t.pwr = s.pwr) (hc : t.clk.wait = s.clk.wait)
    (ht : t.tim = s.tim) : Calm s t := ⟨fun _ => .of_same hh hm hp hc, ht⟩

theorem Calm.refl (s : State) : Calm s s := .of_same rfl rfl rfl rfl rfl

theorem Calm.trans {s t u : State} (a : Calm s t) (b : Calm t u) : Calm s u :=
  ⟨fun h => (a.raised h).trans (b.raised ((a.raised h).settled h)), b.tim.trans a.tim⟩

theorem Calm.ite {s t u : State} (c : Prop) [Decidable c] (a : Calm s t) (b : Calm s u) : Calm s (if c then t else u) := by
  split
  · exact a
  · exact b

theorem State.raise_calm (s : State) (n r : Nat) : Calm s (s.raise n r) := ⟨fun h => State.raise_raised h n r, s.raise_tim n r⟩

theorem State.record_calm (s : State) (v b n : Nat) (d : List Byte) : Calm s (s.record v b n d) :=
  ⟨fun h => State.record_raised h v b n d, by obtain ⟨x, y, e⟩ := s.record_only v b n d; rw [e]⟩

theorem State.keyFor_calm (s : State) (eng n : Nat) : Calm s (s.keyFor eng n).1 := by
  unfold State.keyFor
  dsimp only
  split
  · exact .refl s
  split
  · exact .of_same rfl rfl rfl rfl rfl
  · refine Calm.trans ?_ (State.raise_calm _ 84 _)
    exact .of_same rfl rfl rfl rfl rfl

theorem State.store_calm (s : State) (r : StoredRec) : Calm s (s.store r) := by
  unfold State.store
  split
  · exact .of_same rfl rfl rfl rfl rfl
  split
  · exact .of_same rfl rfl rfl rfl rfl
  · refine Calm.trans ?_ (State.raise_calm _ 96 _)
    exact .of_same rfl rfl rfl rfl rfl

theorem State.startSign_calm (s : State) : Calm s s.startSign := by
  unfold State.startSign
  dsimp only
  split
  · exact (s.keyFor_calm engRecorder 9).trans (.of_same rfl rfl rfl rfl rfl)
  · exact (s.keyFor_calm engRecorder 9).trans (.of_same rfl rfl rfl rfl rfl)

theorem State.commitOne_calm (s : State) : Calm s s.commitOne := by
  unfold State.commitOne
  split
  · exact .refl s
  dsimp only
  have key := s.keyFor_calm engRecorder 8
  generalize s.keyFor engRecorder 8 = k at key ⊢
  have staged : ∀ (x : Rec) (b : Bool) (r : StoredRec),
      Calm s ((if b then ({ k.1 with rcd := x } : State).raise 99 0 else { k.1 with rcd := x }).store r) := by
    intro x b r
    have h1 : Calm s { k.1 with rcd := x } := key.trans (.of_same rfl rfl rfl rfl rfl)
    exact h1.trans (Calm.trans (.ite (b = true) (State.raise_calm _ 99 0) (.refl _)) (State.store_calm _ r))
  have chained : ∀ (u : State) (x : Rec), Calm s u → Calm s ({ u with rcd := x } : State) := fun u x hu =>
    hu.trans (.of_same rfl rfl rfl rfl rfl)
  refine Calm.ite _ (staged _ _ _) (Calm.ite _ (Calm.trans (chained _ _ (staged _ _ _)) (State.startSign_calm _)) (chained _ _ (staged _ _ _)))

theorem State.signRecord_calm (s : State) (cover code : Nat) (half : List Byte) : Calm s (s.signRecord cover code half) := by
  refine Calm.trans ?_ (State.store_calm _ _)
  exact .of_same rfl rfl rfl rfl rfl

theorem State.commitSign_calm (s : State) : Calm s s.commitSign := by
  unfold State.commitSign
  split
  · exact .refl s
  · refine Calm.trans (Calm.trans ?_ (State.signRecord_calm _ _ _ _)) (State.signRecord_calm _ _ _ _)
    exact .of_same rfl rfl rfl rfl rfl

/-- What is stamped at another instant is as calm as what is done. -/
theorem State.stamped_calm (s : State) (t : Nat) (f : State → State) (hf : ∀ u, Calm u (f u)) : Calm s (s.stamped t f) := by
  have h := hf { s with tim := { s.tim with dt := min t s.tim.dt } }
  unfold State.stamped
  dsimp only
  refine ⟨fun hs => ?_, by dsimp only; rw [h.tim]⟩
  have before : Raised s { s with tim := { s.tim with dt := min t s.tim.dt } } := .of_same rfl rfl rfl rfl
  refine before.trans (Raised.trans (h.raised hs) ?_)
  exact .of_same rfl rfl rfl rfl

theorem recOnce_calm (now : Nat) (s t : State) (h : recOnce now s = some t) : Calm s t := by
  unfold recOnce at h
  split at h
  · cases h
  dsimp only at h
  split at h
  · cases h
  split at h
  · split at h
    · split at h
      · cases h; exact (s.stamped_calm _ _ State.commitSign_calm).trans (.of_same rfl rfl rfl rfl rfl)
      · cases h
    · split at h
      · cases h; exact .of_same rfl rfl rfl rfl rfl
      · cases h
  · split at h
    · cases h; exact (s.stamped_calm _ _ State.commitOne_calm).trans (.of_same rfl rfl rfl rfl rfl)
    · cases h

theorem iter_calm (f : State → Option State) (h : ∀ s t, f s = some t → Calm s t) (n : Nat) (s : State) : Calm s (iter n f s) := by
  induction n generalizing s with
  | zero => exact .refl s
  | succ n ih =>
    unfold iter
    split
    · exact .refl s
    · rename_i t e
      exact (h s t e).trans (ih t)

theorem State.recFlush_calm (s : State) : Calm s s.recFlush :=
  (iter_calm _ (recOnce_calm s.tim.dt) 4096 s).trans (.of_same rfl rfl rfl rfl rfl)

theorem State.checkSeal_calm (s : State) (r : StoredRec) : Calm s (s.checkSeal r) := by
  unfold State.checkSeal
  split
  · exact .refl s
  split
  · exact .refl s
  split
  · exact .refl s
  · refine Calm.trans ?_ (State.raise_calm _ 100 0)
    exact .of_same rfl rfl rfl rfl rfl

theorem foldl_calm {α : Type} (f : State → α → State) (h : ∀ s a, Calm s (f s a)) (l : List α) (s : State) : Calm s (l.foldl f s) := by
  induction l generalizing s with
  | nil => exact .refl s
  | cons a l ih => exact (h s a).trans (ih (f s a))

/-- A calm effect leaves the block idle. -/
theorem StillIdle.calm {s u t : State} {c : Instr} {h : Hdr} {q : Qp} (i : StillIdle s u c h q) (hk : q.kind = 1) (r : Calm u t) :
    StillIdle s t c h q := i.raised hk (r.raised i.events) (by rw [r.tim])

end Sys2Proof.Machine
end

section
/-!
PROOFS. Commands whose effect is complete when they are accepted (17 Table 17-4).
-/
namespace Sys2Proof.Machine

theorem mem_started {r : Run} (h : r ≠ .init) : r ∈ [Run.setup, .run, .halt] := by
  cases r with
  | init => exact absurd rfl h
  | setup | run | halt => decide

theorem mem_stopped {r : Run} (h : r = .setup ∨ r = .halt) : r ∈ [Run.setup, .halt] := by
  obtain rfl | rfl := h <;> decide

/-- An admitted command whose effect leaves the block idle, and which then completes. -/
theorem Admitted.acts {s u : State} {h : Hdr} {q : Qp} {c : Instr} (a : Admitted s h q c) {st r0 : Nat} {r1 : Option Nat} {d : List Byte}
    (hd : (s.atTaking c h).hostDo s.mgt.seq c = u.complete s.mgt.seq st r0 r1 d) (i : StillIdle s u c h q) :
    ∃ x t, t = { u with hst := x, mgt := { (u.mgt.countCpl (s.newHeld c h) st) with held := [] } } ∧ exec c s = .next t ∧
      Claim.Done s t h q st r0 (r1.getD s.tim.dt) := by
  obtain ⟨x, t, ht, hx, done, -⟩ := (Offered.mk a.quiet a.entry a.fits).exec_completes ((takeCmd_plain a.quiet a.plain a.takes).trans hd) i
  exact ⟨x, t, ht, hx, done⟩

/-- An admitted command that changes units of its own, and then completes. -/
theorem Admitted.acts_apart {s u : State} {h : Hdr} {q : Qp} {c : Instr} (a : Admitted s h q c) {st r0 : Nat} {r1 : Option Nat}
    {d : List Byte} (hd : (s.atTaking c h).hostDo s.mgt.seq c = u.complete s.mgt.seq st r0 r1 d) (hh : u.hst = (s.atTaking c h).hst)
    (hm : u.mgt = (s.atTaking c h).mgt) (ht : u.tim.dt = s.tim.dt) (hp : u.pwr = s.pwr) (hc : u.clk = s.clk) :
    ∃ x t, t = { u with hst := x, mgt := { (u.mgt.countCpl (s.newHeld c h) st) with held := [] } } ∧ exec c s = .next t ∧
      Claim.Done s t h q st r0 (r1.getD s.tim.dt) :=
  a.acts hd (stillIdle_of_quiet a.quiet c hh hm ht hp hc)

/-- An admitted command that is refused: it completes, and beside its completion nothing changes. -/
theorem Admitted.refused {s : State} {h : Hdr} {q : Qp} {c : Instr} (a : Admitted s h q c) {st : Nat}
    (hd : (s.atTaking c h).hostDo s.mgt.seq c = (s.atTaking c h).fail s.mgt.seq st) :
    ∃ t, exec c s = .next t ∧ Claim.Done s t h q st 0 s.tim.dt ∧ t = { s with hst := t.hst, mgt := t.mgt } := by
  obtain ⟨x, t, rfl, hx, done⟩ := a.acts_apart hd rfl rfl rfl rfl rfl
  exact ⟨_, hx, done, rfl⟩

@[simp] theorem Mgt.countCpl_chal (m : Mgt) (x : Held) (st : Nat) : (m.countCpl x st).chal = m.chal := by
  unfold Mgt.countCpl; split <;> rfl

/-- With the generator in order a challenge is drawn and answered at once (17 R447, 18 R474). -/
theorem State.challengeCmd_of_rng {s : State} (hf : s.key.rngFail = false) (n : Nat) :
    s.challengeCmd n = ({ s with fresh := s.fresh + 16, mgt := { s.mgt with chal := some ⟨(s.random 16).1, s.tim.dt⟩ } } : State).complete
      n 0 (leNat ((s.random 16).1.take 8)) (some (leNat ((s.random 16).1.drop 8))) [] := by
  unfold State.challengeCmd
  rw [hf]
  rfl

theorem updAt_getElem?_other {α : Type} (l : List α) (i j : Nat) (f : α → α) (h : j ≠ i) : (updAt l i f)[j]? = l[j]? := by
  induction l generalizing i j with
  | nil => rfl
  | cons x l ih =>
    cases i with
    | zero => cases j with
      | zero => exact absurd rfl h
      | succ j => rfl
    | succ i => cases j with
      | zero => rfl
      | succ j => exact ih i j fun e => h (congrArg Nat.succ e)

theorem State.setActive_raised (s : State) (he : s.Settled) (d : Dom) : Raised s (s.setActive d) := by
  unfold State.setActive
  split
  · exact .refl s
  · refine Raised.trans ?_ (State.raise_raised ?_ 18 _)
    · exact .of_same rfl rfl rfl rfl
    · exact he

theorem State.settleTime_raised {s : State} (he : s.Settled) : Raised s s.settleTime := by
  unfold State.settleTime
  dsimp only
  split
  · exact .of_same rfl rfl rfl rfl
  · refine Raised.trans ?_ (State.raise_raised ?_ 16 _)
    · exact .of_same rfl rfl rfl rfl
    · exact he

@[simp] theorem State.record_freeze (s : State) (v b n : Nat) (d : List Byte) : (s.record v b n d).rcd.freeze = s.rcd.freeze := by
  have raised : ∀ (u : State) (n r : Nat), (u.raise n r).rcd = u.rcd := fun u n r => by
    obtain ⟨x, e⟩ := u.raise_only n r; rw [e]
  unfold State.record
  split
  · dsimp only
    split
    · rfl
    · split
      · rfl
      · rw [raised]
  · rfl

theorem State.freezeAt_calm (s : State) (p : Nat) : Calm s (s.freezeAt p) ∧ (s.freezeAt p).rcd.freeze = some s.tim.dt := by
  have flushed := s.recFlush_calm
  constructor
  · refine flushed.trans (Calm.trans ?_ (State.record_calm _ _ _ _ _))
    exact .of_same rfl rfl rfl rfl rfl
  · unfold State.freezeAt
    dsimp only
    rw [State.record_freeze, flushed.tim]

theorem State.thaw_calm (s : State) (b : Bool) : Calm s (s.thaw b) ∧ (s.thaw b).rcd.freeze = none := by
  constructor
  · refine Calm.trans ?_ (State.record_calm _ _ _ _ _)
    exact .of_same rfl rfl rfl rfl rfl
  · exact State.record_freeze ..

/-- Checking seals counts the bad ones, and changes nothing else of the recorder. -/
theorem foldl_checkSeal_rcd (l : List StoredRec) (s : State) :
    (l.foldl State.checkSeal s).rcd = { s.rcd with badSeal := (l.foldl State.checkSeal s).rcd.badSeal } := by
  have one : ∀ (u : State) (r : StoredRec), (u.checkSeal r).rcd = { u.rcd with badSeal := (u.checkSeal r).rcd.badSeal } := by
    intro u r
    unfold State.checkSeal
    split
    · rfl
    split
    · rfl
    split
    · rfl
    · obtain ⟨x, e⟩ := State.raise_only { u with rcd := { u.rcd with badSeal := satAdd max32 u.rcd.badSeal 1 } } 100 0
      rw [e]
  induction l generalizing s with
  | nil => rfl
  | cons r l ih => rw [List.foldl_cons, ih, one]

/-- Deltas that the problems take, and the stores hold, join their stores (08 R231). -/
theorem State.deltaCmd_fits {s : State} {r : List Byte} (hk : ∀ x ∈ deltaRecs r, s.hasProblem x.prob = true ∧ s.deltaFits x = true)
    (hh : s.slv.hyd.deltas.length + r.length / 16 ≤ 65536) (hd : s.slv.disp.deltas.length + r.length / 16 ≤ 65536) (n : Nat) :
    s.deltaCmd n r = ({ s with slv := { s.slv with
      hyd := { s.slv.hyd with deltas := s.slv.hyd.deltas ++ (deltaRecs r).filter (fun x => decide (x.prob = 1)) },
      disp := { s.slv.disp with deltas := s.slv.disp.deltas ++ (deltaRecs r).filter (fun x => decide (x.prob = 2)) } } } : State).ok n 0 := by
  have length : ∀ p : DeltaRec → Bool, ((deltaRecs r).filter p).length ≤ r.length / 16 := fun p =>
    (List.length_filter_le p _).trans (by simp [deltaRecs])
  unfold State.deltaCmd
  dsimp only
  rw [if_neg, if_neg, if_neg]
  · have h1 := length (fun x => decide (x.prob = 1))
    have h2 := length (fun x => decide (x.prob = 2))
    simp only [Bool.or_eq_true, decide_eq_true_eq, not_or, Nat.not_lt]
    exact ⟨(Nat.add_le_add_left h1 _).trans hh, (Nat.add_le_add_left h2 _).trans hd⟩
  · rw [List.any_eq_true]
    rintro ⟨x, hx, hn⟩
    rw [(hk x hx).2] at hn; cases hn
  · rw [List.any_eq_true]
    rintro ⟨x, hx, hn⟩
    rw [(hk x hx).1] at hn; cases hn

/-- Outside RUN known values are read at once (04 R117). -/
theorem State.readCmd_stopped {s : State} {l : List Nat} (h : ∀ p ∈ l, (s.valueEntry? p).isSome = true) (hr : s.mgt.run ≠ .run) (n : Nat) :
    s.readCmd n l = (s.spend l.length).complete n 0 0 none (s.readValues l).1 := by
  have none_unknown : (s.readValues l).2 = 0 := by
    refine List.length_eq_zero_iff.mpr (List.filter_eq_nil_iff.mpr fun p hp k => ?_)
    rw [← Option.not_isSome, h p hp] at k; cases k
  unfold State.readCmd
  rw [if_neg (State.values_known h), if_neg hr]
  unfold State.doRead
  dsimp only
  rw [none_unknown]

theorem State.editCmd_stopped {s : State} {l : List (Nat × Word)} {items : List (ValueEntry × Word)} (h : s.editStatus l = (0, items))
    (hr : s.mgt.run ≠ .run) (n : Nat) : s.editCmd n l = (items.foldl State.applyItem s).ok n 0 := by
  unfold State.editCmd
  dsimp only
  rw [h, if_neg (not_not.mpr rfl), if_neg hr]

/-- Outside RUN only values of the overlay are edited (04 R117). -/
theorem State.editStatus_kind {s : State} {l : List (Nat × Word)} {e : ValueEntry} {v : Word} (h : s.editStatus l = (0, [(e, v)]))
    (hr : s.mgt.run ≠ .run) : e.vkind = 3 := by
  unfold State.editStatus at h
  dsimp only at h
  generalize l.filterMap _ = items at h
  split at h
  · cases h
  split at h
  · cases h
  split at h
  · cases h
  split at h
  · cases h
  · rename_i hk
    cases h
    simpa [hr] using hk

section
variable {s : State} {h : Hdr} {q : Qp} (hq : Claim.Quiet s h q)
include hq

theorem challenge_acts (hr : s.mgt.run ≠ .init) (hf : s.key.rngFail = false) : ∃ t c, exec (.challenge h) s = .next t ∧
      t.mgt.chal = some c ∧ c.issue = s.tim.dt ∧ c.value = (List.range 16).map (fun i => Config.trng (s.fresh + i)) ∧
      Claim.Done s t h q 0 (leNat (c.value.take 8)) (leNat (c.value.drop 8)) := by
  have a : Admitted s h q (.challenge h) := .of_started hq hr rfl rfl rfl rfl
  have i := stillIdle_of_quiet hq (.challenge h) (u := s.atTaking (.challenge h) h) rfl rfl rfl rfl rfl
  have act := State.challengeCmd_of_rng (s := s.atTaking (.challenge h) h) hf s.mgt.seq
  have drawn : ((s.atTaking (.challenge h) h).random 16).1 = (List.range 16).map (fun i => Config.trng (s.fresh + i)) := rfl
  rw [drawn] at act
  generalize (List.range 16).map (fun i => Config.trng (s.fresh + i)) = v at act ⊢
  obtain ⟨x, t, ht, hx, done⟩ := a.acts act { i with }
  exact ⟨t, ⟨v, s.tim.dt⟩, hx, by rw [ht]; exact Mgt.countCpl_chal .., rfl, rfl, done⟩

theorem rtcTrim_acts (hr : s.mgt.run ≠ .init) (n : Int) (hl : -2048 ≤ n) (hu : n ≤ 2047) : ∃ t, exec (.rtcTrim h n) s = .next t ∧
      Claim.Done s t h q 0 0 s.tim.dt ∧ t.rtc = { s.rtc with trimNext := some n } := by
  have a : Admitted s h q (.rtcTrim h n) := .of_started hq hr rfl rfl rfl (by simp [State.paramsOk, hl, hu])
  obtain ⟨x, t, rfl, hx, done⟩ := a.acts_apart (u := { (s.atTaking (.rtcTrim h n) h) with rtc := { s.rtc with trimNext := some n } })
    (st := 0) (r0 := 0) (r1 := none) (d := []) rfl rfl rfl rfl rfl rfl
  exact ⟨_, hx, done, rfl⟩

theorem alarmSet_acts (hr : s.mgt.run ≠ .init) (n m p : Nat) (c : Civil) (hn : n ≤ 1) (hm : m < 64) (hp : p ≤ 1)
    (hc : civilFits c = true) : ∃ t, exec (.alarmSet h n m p 0 c) s = .next t ∧ Claim.Done s t h q 0 0 s.tim.dt ∧
      t.alarm n = { s.alarm n with en := false, drop := decide (p = 1), mask := m, t := c, blocked := none } := by
  have a : Admitted s h q (.alarmSet h n m p 0 c) := .of_started hq hr rfl rfl rfl (by simp [State.paramsOk, hn, hm, hp, hc])
  have same : ∀ y, (s.atTaking (.alarmSet h n m p 0 c) h).setAlarm n y =
      { (s.atTaking (.alarmSet h n m p 0 c) h) with rtc := ((s.atTaking (.alarmSet h n m p 0 c) h).setAlarm n y).rtc } := fun y => by
    unfold State.setAlarm; split <;> rfl
  obtain ⟨x, t, rfl, hx, done⟩ := a.acts_apart (st := 0) (r0 := 0) (r1 := none) (d := []) (u := (s.atTaking (.alarmSet h n m p 0 c) h).setAlarm n
    { s.alarm n with en := false, drop := decide (p = 1), mask := m, t := c, blocked := none }) rfl (by rw [same]) (by rw [same])
    (by rw [same]; rfl) (by rw [same]; rfl) (by rw [same]; rfl)
  exact ⟨_, hx, done, State.setAlarm_same _ n _⟩

theorem setPosition_acts (hr : s.mgt.run = .setup ∨ s.mgt.run = .halt) (k : Nat) (p : Int) (hk : k ≤ 15) (hl : -2147483648 ≤ p)
    (hu : p ≤ 2147483647) : ∃ t, exec (.setPosition h k p) s = .next t ∧
      if (s.axDef? k).isSome then Claim.Done s t h q 0 0 s.tim.dt ∧ (k < s.axs.ax.length → t.ax k = { s.ax k with pos := p, ref := true })
      else Claim.Done s t h q 0xA2 0 s.tim.dt ∧ t.axs = s.axs := by
  have a : Admitted s h q (.setPosition h k p) := ⟨hq, rfl, by simp [State.paramsOk, hk, hl, hu], rfl, mem_stopped hr⟩
  by_cases hd : (s.axDef? k).isSome = true
  · simp only [if_pos hd]
    obtain ⟨x, t, rfl, hx, done⟩ := a.acts_apart (st := 0) (r0 := 0) (r1 := none) (d := [])
      (u := (s.atTaking (.setPosition h k p) h).setAx k { (s.ax k) with pos := p, ref := true })
      (if_neg (by change ¬ (s.axDef? k).isNone = true; rw [← Option.not_isSome, hd]; decide)) rfl rfl rfl rfl rfl
    exact ⟨_, hx, done, fun hlen => State.setAx_same (s.atTaking (.setPosition h k p) h) k _ hlen⟩
  · simp only [if_neg hd]
    obtain ⟨t, hx, done, ht⟩ := a.refused (st := 0xA2) (if_pos (by change (s.axDef? k).isNone = true; rw [← Option.not_isSome, eq_false_of_ne_true hd]; rfl))
    exact ⟨t, hx, done, by rw [ht]⟩

theorem mapWrite_acts (hr : s.mgt.run = .setup ∨ s.mgt.run = .halt) (m : Nat) (d : List Byte) (hm : m ≤ 3) (hd : 393216 ≤ d.length) :
    ∃ t, exec (.mapWrite h m d) s = .next t ∧
      if s.panel?.isSome then Claim.Done s t h q 0 0 s.tim.dt ∧ t.pnl = { s.pnl with maps := t.pnl.maps } ∧
        ∀ k, k ≠ m → t.pnl.maps[k]? = s.pnl.maps[k]?
      else Claim.Done s t h q 0x91 0 s.tim.dt ∧ t.pnl = s.pnl := by
  have a : Admitted s h q (.mapWrite h m d) := ⟨hq, rfl, by simp only [State.paramsOk, hm, hd, decide_true, Bool.and_self], rfl, mem_stopped hr⟩
  by_cases hp : s.panel?.isSome = true
  · simp only [if_pos hp]
    obtain ⟨x, t, rfl, hx, done⟩ := a.acts_apart (st := 0) (r0 := 0) (r1 := none) (d := [])
      (u := (s.atTaking (.mapWrite h m d) h).mapWrite m d)
      (if_neg (by change ¬ s.panel?.isNone = true; rw [← Option.not_isSome, hp]; decide)) rfl rfl rfl rfl rfl
    exact ⟨_, hx, done, rfl, fun k hk => updAt_getElem?_other _ _ _ _ hk⟩
  · simp only [if_neg hp]
    obtain ⟨t, hx, done, ht⟩ := a.refused (st := 0x91)
      (if_pos (by change s.panel?.isNone = true; rw [← Option.not_isSome, eq_false_of_ne_true hp]; rfl))
    exact ⟨t, hx, done, by rw [ht]⟩

theorem domainSelect_acts (hr : s.mgt.run ≠ .init) (d : Dom) : ∃ t, exec (.domainSelect h d) s = .next t ∧
      if (s.tim.domain d).lock then Claim.Done s t h q 0 0 s.tim.dt ∧ t.tim.active = d
      else Claim.Done s t h q 0x81 0 s.tim.dt ∧ t.tim = s.tim := by
  have a : Admitted s h q (.domainSelect h d) := .of_started hq hr rfl rfl rfl rfl
  by_cases hl : (s.tim.domain d).lock = true
  · simp only [if_pos hl]
    have i := stillIdle_of_quiet hq (.domainSelect h d) (u := s.atTaking (.domainSelect h d) h) rfl rfl rfl rfl rfl
    have chosen := (s.atTaking (.domainSelect h d) h).setActive_raised i.events d
    have settled := State.settleTime_raised (chosen.settled i.events)
    obtain ⟨y, e⟩ := (s.atTaking (.domainSelect h d) h).setActive_only d
    obtain ⟨x, t, rfl, hx, done⟩ := a.acts (st := 0) (r0 := 0) (r1 := none) (d := [])
      (u := ((s.atTaking (.domainSelect h d) h).setActive d).settleTime) (if_pos hl)
      (i.raised hq.kind (chosen.trans settled) (by rw [State.settleTime_dt, e]))
    refine ⟨_, hx, done, ?_⟩
    dsimp only
    rw [State.settleTime_active, e]
  · simp only [if_neg hl]
    obtain ⟨t, hx, done, ht⟩ := a.refused (st := 0x81) (if_neg hl)
    exact ⟨t, hx, done, by rw [ht]⟩

theorem delta_acts (hr : s.mgt.run ≠ .init) (r : List Byte) (hf : deltaFit r = true)
    (hk : ∀ x ∈ deltaRecs r, s.hasProblem x.prob = true ∧ s.deltaFits x = true)
    (hh : s.slv.hyd.deltas.length + r.length / 16 ≤ 65536) (hd : s.slv.disp.deltas.length + r.length / 16 ≤ 65536) :
    ∃ t, exec (.delta h r) s = .next t ∧ Claim.Done s t h q 0 0 s.tim.dt ∧
      t.slv.hyd.deltas = s.slv.hyd.deltas ++ (deltaRecs r).filter (fun x => decide (x.prob = 1)) ∧
      t.slv.disp.deltas = s.slv.disp.deltas ++ (deltaRecs r).filter (fun x => decide (x.prob = 2)) := by
  have a : Admitted s h q (.delta h r) := .of_started hq hr rfl rfl rfl hf
  have act := State.deltaCmd_fits (s := s.atTaking (.delta h r) h) hk hh hd s.mgt.seq
  obtain ⟨x, t, rfl, hx, done⟩ := a.acts_apart act rfl rfl rfl rfl rfl
  exact ⟨_, hx, done, rfl, rfl⟩

theorem calibrate_acts (hr : s.mgt.run = .setup ∨ s.mgt.run = .halt) (p : Nat) (c : CalSums) (g : Nat) (o : Int) (hp : p ≤ 1)
    (hl : p < s.adc.pairs.length) (hc : calResult c = some (g, o)) : ∃ t, exec (.calibrate h p c) s = .next t ∧
      Claim.Done s t h q 0 0 s.tim.dt ∧ t.adcPair p = { s.adcPair p with ok := true, gain := g, ofs := o } := by
  have a : Admitted s h q (.calibrate h p c) := ⟨hq, rfl, decide_eq_true hp, rfl, mem_stopped hr⟩
  have same : ((s.atTaking (.calibrate h p c) h).setPair p { (s.adcPair p) with ok := true, gain := g, ofs := o }).adcPair p =
      { s.adcPair p with ok := true, gain := g, ofs := o } := State.setPair_same _ p _ hl
  have act : (s.atTaking (.calibrate h p c) h).calibrateCmd s.mgt.seq p c =
      ((s.atTaking (.calibrate h p c) h).setPair p { (s.adcPair p) with ok := true, gain := g, ofs := o }).ok s.mgt.seq 0 := by
    unfold State.calibrateCmd State.calibratePair
    rw [hc]
    exact if_pos (congrArg AdcPair.ok same)
  obtain ⟨x, t, rfl, hx, done⟩ := a.acts_apart act rfl rfl rfl rfl rfl
  exact ⟨_, hx, done, same⟩

theorem freeze_acts (hr : s.mgt.run ≠ .init) : ∃ t, exec (.freeze h) s = .next t ∧
      if s.rcd.freeze.isSome then Claim.Done s t h q 0x61 0 s.tim.dt ∧ t.rcd = s.rcd
      else Claim.Done s t h q 0 0 s.tim.dt ∧ t.rcd.freeze = some s.tim.dt := by
  have a : Admitted s h q (.freeze h) := .of_started hq hr rfl rfl rfl rfl
  by_cases hf : s.rcd.freeze.isSome = true
  · simp only [if_pos hf]
    obtain ⟨t, hx, done, ht⟩ := a.refused (st := 0x61) (if_pos hf)
    exact ⟨t, hx, done, by rw [ht]⟩
  · simp only [if_neg hf]
    have i := stillIdle_of_quiet hq (.freeze h) (u := s.atTaking (.freeze h) h) rfl rfl rfl rfl rfl
    obtain ⟨calm, freeze⟩ := (s.atTaking (.freeze h) h).freezeAt_calm ((s.atTaking (.freeze h) h).qpOf s.mgt.seq)
    obtain ⟨x, t, rfl, hx, done⟩ := a.acts (st := 0) (r0 := 0) (r1 := none) (d := []) (if_neg hf) (i.calm hq.kind calm)
    exact ⟨_, hx, done, freeze⟩

theorem thaw_acts (hr : s.mgt.run ≠ .init) : ∃ t, exec (.thaw h) s = .next t ∧
      if s.rcd.freeze.isSome then Claim.Done s t h q 0 0 s.tim.dt ∧ t.rcd.freeze = none
      else Claim.Done s t h q 0x62 0 s.tim.dt ∧ t.rcd = s.rcd := by
  have a : Admitted s h q (.thaw h) := .of_started hq hr rfl rfl rfl rfl
  by_cases hf : s.rcd.freeze.isSome = true
  · simp only [if_pos hf]
    have i := stillIdle_of_quiet hq (.thaw h) (u := s.atTaking (.thaw h) h) rfl rfl rfl rfl rfl
    obtain ⟨calm, freeze⟩ := (s.atTaking (.thaw h) h).thaw_calm false
    obtain ⟨x, t, rfl, hx, done⟩ := a.acts (st := 0) (r0 := 0) (r1 := none) (d := [])
      (if_neg (by change ¬ s.rcd.freeze.isNone = true; rw [← Option.not_isSome, hf]; decide)) (i.calm hq.kind calm)
    exact ⟨_, hx, done, freeze⟩
  · simp only [if_neg hf]
    obtain ⟨t, hx, done, ht⟩ := a.refused (st := 0x62)
      (if_pos (by change s.rcd.freeze.isNone = true; rw [← Option.not_isSome, eq_false_of_ne_true hf]; rfl))
    exact ⟨t, hx, done, by rw [ht]⟩

theorem recRead_acts (f n : Nat) (hf : f < 2 ^ 32) (h1 : 1 ≤ n) (h2 : n ≤ 1024) : ∃ t, exec (.recRead h f n) s = .next t ∧
      Claim.Done s t h q 0 ((s.rcd.stored.filter (fun r => decide (f ≤ r.rno))).take n).length s.tim.dt ∧
      t.rcd = { s.rcd with badSeal := t.rcd.badSeal } := by
  have a : Admitted s h q (.recRead h f n) := ⟨hq, rfl, by simp only [State.paramsOk, inR, hf, h1, h2, decide_true, Bool.and_self], rfl, mem_allStates _⟩
  have i := stillIdle_of_quiet hq (.recRead h f n) (u := s.atTaking (.recRead h f n) h) rfl rfl rfl rfl rfl
  obtain ⟨x, t, rfl, hx, done⟩ := a.acts (u := ((s.atTaking (.recRead h f n) h).recFrom f n).foldl State.checkSeal (s.atTaking (.recRead h f n) h))
    rfl (i.calm hq.kind (foldl_calm _ State.checkSeal_calm _ _))
  refine ⟨_, hx, done, ?_⟩
  exact foldl_checkSeal_rcd _ _

theorem read_acts (hr : s.mgt.run = .setup ∨ s.mgt.run = .halt) (l : List Nat) (hl : s.paramsOk (.read h l) = true)
    (hv : ∀ p ∈ l, (s.valueEntry? p).isSome = true) : ∃ t, exec (.read h l) s = .next t ∧ Claim.Done s t h q 0 0 s.tim.dt ∧
      t.chn = s.chn ∧ t.sup = s.sup := by
  have hne : s.mgt.run ≠ .init := by rintro e; rw [e] at hr; obtain hr | hr := hr <;> cases hr
  have hnr : s.mgt.run ≠ .run := by rintro e; rw [e] at hr; obtain hr | hr := hr <;> cases hr
  have a : Admitted s h q (.read h l) := .of_started hq hne rfl rfl rfl hl
  have act := State.readCmd_stopped (s := s.atTaking (.read h l) h) hv hnr s.mgt.seq
  obtain ⟨x, t, rfl, hx, done⟩ := a.acts_apart act rfl rfl rfl rfl rfl
  exact ⟨_, hx, done, rfl, rfl⟩

theorem edit_acts (hr : s.mgt.run = .setup ∨ s.mgt.run = .halt) (p : Nat) (v : Word) (e : ValueEntry)
    (hl : s.paramsOk (.edit h [(p, v)]) = true) (he : s.editStatus [(p, v)] = (0, [(e, v)])) :
    ∃ t, exec (.edit h [(p, v)]) s = .next t ∧ Claim.Done s t h q 0 0 s.tim.dt ∧
      SMap.get dOpt t.sup.overlay e.addr = some v ∧ ∀ a, a ≠ e.addr → SMap.get dOpt t.sup.overlay a = SMap.get dOpt s.sup.overlay a := by
  have hne : s.mgt.run ≠ .init := by rintro e; rw [e] at hr; obtain hr | hr := hr <;> cases hr
  have hnr : s.mgt.run ≠ .run := by rintro e; rw [e] at hr; obtain hr | hr := hr <;> cases hr
  have a : Admitted s h q (.edit h [(p, v)]) := .of_started hq hne rfl rfl rfl hl
  have kind := State.editStatus_kind he hnr
  have act := State.editCmd_stopped (s := s.atTaking (.edit h [(p, v)]) h) he hnr s.mgt.seq
  obtain ⟨x, t, rfl, hx, done⟩ := a.acts_apart act rfl rfl rfl rfl rfl
  have overlay : ((s.atTaking (.edit h [(p, v)]) h).applyItem (e, v)).sup.overlay = SMap.set dOpt s.sup.overlay e.addr (some v) := if_pos kind
  refine ⟨_, hx, done, ?_, fun k hk => ?_⟩
  · exact (congrArg (fun m => SMap.get dOpt m e.addr) overlay).trans (SMap.get_set_same ..)
  · exact (congrArg (fun m => SMap.get dOpt m k) overlay).trans (SMap.get_set_other _ _ _ _ _ hk)

end

/-- Settles O23: command by command. -/
theorem immediateCommandsAct : Obligations.ImmediateCommandsAct := by
  unfold Obligations.ImmediateCommandsAct
  exact fun s h q hq => ⟨challenge_acts hq, rtcTrim_acts hq, alarmSet_acts hq, setPosition_acts hq, mapWrite_acts hq, domainSelect_acts hq,
    delta_acts hq, calibrate_acts hq, freeze_acts hq, thaw_acts hq, recRead_acts hq, read_acts hq, edit_acts hq⟩

end Sys2Proof.Machine
end

section
/-!
PROOFS. PANEL_UPDATE in RUN when the frame it replaces stands under the number the command is about to take: the command ends with
the frame it discards.
-/
namespace Sys2Proof.Machine

/-- A panel of one region, of no pixels. -/
def onePanel : PanelDef := { (default : PanelDef) with regions := [default] }

/-- In RUN, a frame waits in the region's pending slot under the number of the command to be taken next; nothing is held. -/
def framePending : State :=
  { State.reset with
    pwr := { State.reset.pwr with power := .service }
    clk := { State.reset.clk with wait := [] }
    sup := { State.reset.sup with bank := some { (default : Image) with panel := some onePanel } }
    hst := { State.reset.hst with qps := [newQp 0 1 4 0 false 0 0 0], handover := [0] }
    mgt := { State.reset.mgt with run := .run }
    pnl := { State.reset.pnl with regs := [{ PnlRegSt.reset with pend := some ⟨State.reset.mgt.seq, 0, []⟩, ev115 := true }] } }

/-- The header of an entry of the host's command pair, well-formed and without FENCE. -/
def plainHdr : Hdr := ⟨0, 0, false, false⟩

theorem framePending_quiet : Claim.Quiet framePending plainHdr (newQp 0 1 4 0 false 0 0 0) where
  power := rfl
  clocks := rfl
  next := rfl
  small := by decide
  pair := rfl
  kind := rfl
  idle p hp := by rw [List.mem_singleton.mp hp]; exact ⟨rfl, rfl, rfl, rfl⟩
  good := rfl
  free := rfl
  held := rfl
  fences := rfl
  reads := rfl
  cpls := rfl
  events := rfl
  deleting := rfl
  cell := rfl

theorem framePending_update_ends : ∃ t, exec (.panelUpdate plainHdr 0 0 []) framePending = .next t ∧ t.mgt.held = [] :=
  ⟨_, rfl, rfl⟩

/-- Refutes O25: in RUN a PANEL_UPDATE that discards a frame pending under its own number ends with it, and is not held. -/
theorem not_panelAndTopologyCommands : ¬ Obligations.PanelAndTopologyCommands := by
  unfold Obligations.PanelAndTopologyCommands
  intro claim
  obtain ⟨update, -⟩ := claim framePending plainHdr _ framePending_quiet (by decide)
  obtain ⟨t, hx, hm⟩ := update 0 0 [] rfl
  have held : Claim.Held framePending t plainHdr (.panelUpdate plainHdr 0 0 []) := (hm rfl (by decide)).1
  obtain ⟨u, hu, hn⟩ := framePending_update_ends
  rw [hx] at hu
  cases hu
  rw [Claim.Held, hn] at held
  cases held.1

end Sys2Proof.Machine
end

section
/-!
PROOFS. Supplies and power states (19 R492 to R495). Of what a loss of VIN or a start does to the units, only its own steps touch
the power unit: the layer below says so for the operations they are made of.
-/
namespace Sys2Proof.Machine

/-! ## What leaves the power unit alone -/

@[simp] theorem State.raise_pwr (s : State) (n r : Nat) : (s.raise n r).pwr = s.pwr := by
  obtain ⟨x, e⟩ := s.raise_only n r; rw [e]

@[simp] theorem State.record_pwr (s : State) (v b n : Nat) (d : List Byte) : (s.record v b n d).pwr = s.pwr := by
  obtain ⟨x, y, e⟩ := s.record_only v b n d; rw [e]

@[simp] theorem State.raiseRec_pwr (s : State) (n r v b : Nat) : (s.raiseRec n r v b).pwr = s.pwr := by
  obtain ⟨x, y, e⟩ := s.raiseRec_only n r v b; rw [e]

@[simp] theorem State.unitRec_pwr (s : State) (v b : Nat) : (s.unitRec v b).pwr = s.pwr := by
  obtain ⟨x, y, e⟩ := s.unitRec_only v b; rw [e]

@[simp] theorem State.complete_pwr (s : State) (q st r0 : Nat) (r1 : Option Nat) (d : List Byte) : (s.complete q st r0 r1 d).pwr = s.pwr := by
  obtain ⟨x, m, e⟩ := s.complete_host q st r0 r1 d; rw [e]

@[simp] theorem State.settleTime_pwr (s : State) : s.settleTime.pwr = s.pwr := by
  obtain ⟨x, l, h, m, e⟩ := s.settleTime_only; rw [e]

@[simp] theorem State.pwr_ite (c : Prop) [Decidable c] (s t : State) : (if c then s else t).pwr = if c then s.pwr else t.pwr :=
  apply_ite State.pwr ..

@[simp] theorem State.pwr_foldl {α : Type} (f : State → α → State) (h : ∀ s a, (f s a).pwr = s.pwr) (l : List α) (s : State) :
    (l.foldl f s).pwr = s.pwr := foldl_keeps State.pwr f h l s

@[simp] theorem State.keyFor_pwr (s : State) (eng n : Nat) : (s.keyFor eng n).1.pwr = s.pwr := by
  unfold State.keyFor
  dsimp only
  split
  · rfl
  · split <;> simp

@[simp] theorem State.store_pwr (s : State) (r : StoredRec) : (s.store r).pwr = s.pwr := by
  unfold State.store
  split
  · rfl
  · split <;> simp

@[simp] theorem State.startSign_pwr (s : State) : s.startSign.pwr = s.pwr := by
  unfold State.startSign
  dsimp only
  split <;> exact s.keyFor_pwr engRecorder 9

@[simp] theorem State.commitOne_pwr (s : State) : s.commitOne.pwr = s.pwr := by
  unfold State.commitOne
  split
  · rfl
  · simp only [State.pwr_ite, State.startSign_pwr, State.store_pwr, State.raise_pwr, State.keyFor_pwr, ite_self]

@[simp] theorem State.signRecord_pwr (s : State) (cover code : Nat) (half : List Byte) :
    (s.signRecord cover code half).pwr = s.pwr := by simp [State.signRecord]

@[simp] theorem State.commitSign_pwr (s : State) :
    s.commitSign.pwr = s.pwr := by
  unfold State.commitSign
  split <;> simp

@[simp] theorem State.stamped_pwr (s : State) (t : Nat) (f : State → State) (hf : ∀ s, (f s).pwr = s.pwr) :
    (s.stamped t f).pwr = s.pwr := by simp [State.stamped, hf]

theorem recOnce_pwr (now : Nat) (s t : State) (h : recOnce now s = some t) : t.pwr = s.pwr := by
  unfold recOnce at h
  split at h
  · cases h
  dsimp only at h
  split at h
  · cases h
  split at h
  · split at h
    · split at h
      · cases h; simp
      · cases h
    · split at h
      · cases h; rfl
      · cases h
  · split at h
    · cases h; simp
    · cases h

theorem iter_pwr (f : State → Option State) (h : ∀ s t, f s = some t → t.pwr = s.pwr) (n : Nat) (s : State) :
    (iter n f s).pwr = s.pwr := by
  induction n generalizing s with
  | zero => rfl
  | succ n ih =>
    unfold iter
    split
    · rfl
    · rename_i t e
      rw [ih, h s t e]

@[simp] theorem State.recFlush_pwr (s : State) :
    s.recFlush.pwr = s.pwr := by
  unfold State.recFlush
  exact iter_pwr _ (recOnce_pwr s.tim.dt) _ _

@[simp] theorem State.turnIntv_pwr (s : State) (d : MeterDef) (t t' : Nat) (f g : RunFlags) : (s.turnIntv d t t' f g).pwr = s.pwr := by
  obtain ⟨m, e⟩ := s.turnIntv_only d t t' f g; rw [e]

@[simp] theorem State.intvTo_pwr (s : State) (t : Nat) : (s.intvTo t).pwr = s.pwr := by
  obtain ⟨m, e⟩ := s.intvTo_only t; rw [e]

@[simp] theorem State.mtrStop_pwr (s0 : State) :
    s0.mtrStop.pwr = s0.pwr := by
  unfold State.mtrStop
  dsimp only
  repeat' split
  all_goals simp

@[simp] theorem State.handShadow_pwr (s : State) : s.handShadow.pwr = s.pwr := by simp [State.handShadow]

@[simp] theorem State.fastDischarge_pwr (s : State) : s.fastDischarge.pwr = s.pwr := by simp [State.fastDischarge]

@[simp] theorem State.railsDown_pwr (s : State) : s.railsDown.pwr = s.pwr := by simp [State.railsDown]

@[simp] theorem State.cutShort_pwr (s : State) :
    s.cutShort.pwr = s.pwr := by
  unfold State.cutShort
  simp only [State.pwr_ite, State.railsDown_pwr, ite_self]
  refine State.pwr_foldl _ (fun u r => ?_) _ _
  split <;> simp

@[simp] theorem State.panelVinLoss_pwr (s : State) :
    s.panelVinLoss.pwr = s.pwr := by
  unfold State.panelVinLoss
  split <;> simp

@[simp] theorem State.panelStop_pwr (s : State) : s.panelStop.pwr = s.pwr := by simp [State.panelStop]

@[simp] theorem State.panelStart_pwr (s : State) (fromOff counters : Bool) :
    (s.panelStart fromOff counters).pwr = s.pwr := by simp [State.panelStart]

@[simp] theorem State.allCan_pwr (s : State) (f : State → Nat → State) (hf : ∀ s n, (f s n).pwr = s.pwr) :
    (s.allCan f).pwr = s.pwr := by simp [State.allCan, hf]

@[simp] theorem State.allPorts_pwr (s : State) (f : State → Nat → State) (hf : ∀ s n, (f s n).pwr = s.pwr) :
    (s.allPorts f).pwr = s.pwr := by simp [State.allPorts, hf]

@[simp] theorem State.canDormant_pwr (s : State) : s.canDormant.pwr = s.pwr :=
  s.allCan_pwr _ fun _ _ => rfl

@[simp] theorem State.portsDormant_pwr (s : State) : s.portsDormant.pwr = s.pwr :=
  s.allPorts_pwr _ fun _ _ => rfl

@[simp] theorem State.stagingLost_pwr (s : State) : s.stagingLost.pwr = s.pwr := by simp [State.stagingLost]

@[simp] theorem State.aonClock_pwr (s : State) : s.aonClock.pwr = s.pwr := by simp [State.aonClock]

@[simp] theorem State.redriveBalls_pwr (s : State) : s.redriveBalls.pwr = s.pwr := by
  unfold State.redriveBalls
  exact State.pwr_foldl _ (fun u x => State.emit_pwr u _) _ _


/-! ## Starts and stops -/

theorem State.aonPower_vin (s : State) : s.aonPower.pwr.vin = s.pwr.vin := by
  unfold State.aonPower
  dsimp only
  rw [State.aonClock_pwr, State.stagingLost_pwr]

/-- A start leaves VIN as it is. -/
theorem State.startUp_vin (s : State) (k : Nat) : (s.startUp k).pwr.vin = s.pwr.vin := by
  have powered : (if k = 0 then s.aonPower.pwr else s.pwr).vin = s.pwr.vin := by
    split
    · exact s.aonPower_vin
    · rfl
  unfold State.startUp
  simp only [State.pwr_ite, State.unitRec_pwr, State.raise_pwr, ite_self, State.panelStart_pwr, State.handShadow_pwr, State.mtrStop_pwr,
    State.recFlush_pwr]
  exact powered

/-- A power-down puts the power unit in its state, and leaves the supplies as they are. -/
theorem State.powerDown_pwr (s : State) (p : Power) :
    (s.powerDown p).pwr = { s.pwr with power := p, dormEntry := false, wakePending := none } := by
  unfold State.powerDown
  dsimp only
  rw [State.settleTime_pwr]
  simp only [State.portsDormant_pwr, State.canDormant_pwr, State.pwr_ite, State.handShadow_pwr, ite_self]

theorem State.loseVin_pwr (s : State) :
    s.loseVin.pwr = { s.pwr with vinLoss := satAdd max32 s.pwr.vinLoss 1, power := if s.pwr.vaux then .dormantLoss else .off,
                                 dormEntry := false, wakePending := none } := by
  unfold State.loseVin
  dsimp only
  rw [State.powerDown_pwr, State.panelVinLoss_pwr, State.mtrStop_pwr, State.recFlush_pwr]

/-! ## The supplies -/

theorem vinPresent_moves (s : State) : (vinPresent s).pwr.vin = true ∧
    if s.pwr.vin then vinPresent s = s
    else match s.pwr.power with
      | .off => Claim.Started (vinPresent s) 0
      | .dormantLoss => Claim.Started (vinPresent s) 2
      | .dormantOrderly => if s.pwr.wakePending.isSome then Claim.Started (vinPresent s) 4 else (vinPresent s).pwr.power = .dormantOrderly
      | .service => (vinPresent s).pwr.power = .service := by
  have started : ∀ k, (({ s with pwr := { s.pwr with vin := true } } : State).startUp k).pwr.vin = true ∧
      Claim.Started (({ s with pwr := { s.pwr with vin := true } } : State).startUp k) k := fun k =>
    ⟨State.startUp_vin .., State.startUp_started ..⟩
  unfold vinPresent
  by_cases hv : s.pwr.vin = true
  · rw [if_pos hv, if_pos hv]; exact ⟨hv, rfl⟩
  rw [if_neg hv, if_neg hv]
  cases hp : s.pwr.power with
  | off => exact started 0
  | dormantLoss => exact started 2
  | dormantOrderly =>
    dsimp only
    split
    · exact started 4
    · exact ⟨rfl, hp⟩
  | service => exact ⟨rfl, hp⟩

theorem vinLoss_moves (s : State) : (vinLossEv s).pwr.vin = false ∧
    if s.pwr.vin = false then vinLossEv s = s
    else (vinLossEv s).pwr.power = (match s.pwr.power with
      | .service => if s.pwr.vaux then .dormantLoss else .off
      | .off => .off
      | p => if s.pwr.vaux then p else .off) := by
  have asleep : ∀ p, s.pwr.power = p →
      ((if s.pwr.vaux then { s with pwr := { s.pwr with vin := false } } else
        ({ s with pwr := { s.pwr with vin := false } } : State).powerDown .off).pwr.vin = false ∧
      (if s.pwr.vaux then { s with pwr := { s.pwr with vin := false } } else
        ({ s with pwr := { s.pwr with vin := false } } : State).powerDown .off).pwr.power = if s.pwr.vaux then p else .off) := by
    intro p hp
    split
    · exact ⟨rfl, hp⟩
    · rw [State.powerDown_pwr]; exact ⟨rfl, rfl⟩
  unfold vinLossEv
  by_cases hv : s.pwr.vin = true
  · have hn : ¬ (!s.pwr.vin) = true := by rw [hv]; decide
    rw [if_neg hn, if_neg (by rw [hv]; decide)]
    cases hp : s.pwr.power with
    | off => exact ⟨rfl, hp⟩
    | dormantLoss => exact asleep _ hp
    | dormantOrderly => exact asleep _ hp
    | service => dsimp only; rw [State.loseVin_pwr]; exact ⟨rfl, rfl⟩
  · have hn : (!s.pwr.vin) = true := by rw [eq_false_of_ne_true hv]; rfl
    rw [if_pos hn, if_pos (eq_false_of_ne_true hv)]
    exact ⟨eq_false_of_ne_true hv, rfl⟩

theorem State.aonPower_supplies (s : State) :
    s.aonPower.pwr.vaux = s.pwr.vaux ∧ s.aonPower.pwr.power = s.pwr.power := by
  unfold State.aonPower
  dsimp only
  rw [State.aonClock_pwr, State.stagingLost_pwr]
  exact ⟨rfl, rfl⟩

theorem vauxPresent_moves (s : State) : (vauxPresent s).pwr.vaux = true ∧
    (vauxPresent s).pwr.power = if s.pwr.power = .off ∧ s.pwr.vin = false then .dormantLoss else s.pwr.power := by
  unfold vauxPresent
  dsimp only
  by_cases h : s.pwr.power = .off ∧ s.pwr.vin = false
  · rw [if_pos (by simp [h]), if_pos h]
    exact State.aonPower_supplies _
  · rw [if_neg (by simpa using h), if_neg h]
    exact ⟨rfl, rfl⟩

theorem vauxLoss_moves (s : State) : (vauxLossEv s).pwr.vaux = false ∧
    if s.pwr.vaux = false then vauxLossEv s = s
    else (vauxLossEv s).pwr.power = (match s.pwr.power with
      | .service => .service
      | .off => .off
      | p => if s.pwr.vin then p else .off) := by
  have asleep : ∀ p, s.pwr.power = p →
      ((if s.pwr.vin then { s with pwr := { s.pwr with vaux := false } } else
        ({ s with pwr := { s.pwr with vaux := false } } : State).powerDown .off).pwr.vaux = false ∧
      (if s.pwr.vin then { s with pwr := { s.pwr with vaux := false } } else
        ({ s with pwr := { s.pwr with vaux := false } } : State).powerDown .off).pwr.power = if s.pwr.vin then p else .off) := by
    intro p hp
    split
    · exact ⟨rfl, hp⟩
    · rw [State.powerDown_pwr]; exact ⟨rfl, rfl⟩
  unfold vauxLossEv
  by_cases hv : s.pwr.vaux = true
  · have hn : ¬ (!s.pwr.vaux) = true := by rw [hv]; decide
    rw [if_neg hn, if_neg (by rw [hv]; decide)]
    cases hp : s.pwr.power with
    | off => exact ⟨rfl, hp⟩
    | dormantLoss => exact asleep _ hp
    | dormantOrderly => exact asleep _ hp
    | service => dsimp only; rw [State.raise_pwr]; exact ⟨rfl, hp⟩
  · have hn : (!s.pwr.vaux) = true := by rw [eq_false_of_ne_true hv]; rfl
    rw [if_pos hn, if_pos (eq_false_of_ne_true hv)]
    exact ⟨eq_false_of_ne_true hv, rfl⟩

/-- The level of one bank is set, and no other. -/
theorem setVio_levels (s : State) {b : Nat} (hb : b < s.pwr.vio.length) (v d : Bool) :
    (s.setVio b v).pwr.vio.getD b d = v ∧ ∀ c, c ≠ b → (s.setVio b v).pwr.vio.getD c false = s.pwr.vio.getD c false :=
  ⟨updAt_get_same _ _ _ _ hb, fun _ hc => updAt_get_other _ _ _ _ _ hc⟩

theorem vioLoss_levels (s : State) {b : Nat} (hb : b < s.pwr.vio.length) :
    (vioLossEv s b).pwr.vio.getD b true = false ∧ ∀ c, c ≠ b → (vioLossEv s b).pwr.vio.getD c false = s.pwr.vio.getD c false := by
  unfold vioLossEv
  split
  · rename_i h
    refine ⟨?_, fun _ _ => rfl⟩
    rw [List.getD_eq_getElem _ _ hb] at h ⊢
    simpa using h
  · simp only [State.pwr_ite, State.raiseRec_pwr, ite_self]
    exact setVio_levels s hb false true

theorem vioRestore_levels (s : State) {b : Nat} (hb : b < s.pwr.vio.length) :
    (vioRestoreEv s b).pwr.vio.getD b false = true ∧ ∀ c, c ≠ b → (vioRestoreEv s b).pwr.vio.getD c false = s.pwr.vio.getD c false := by
  unfold vioRestoreEv
  split
  · rename_i h
    exact ⟨h, fun _ _ => rfl⟩
  · simp only [State.pwr_ite, State.redriveBalls_pwr, State.raise_pwr, ite_self]
    exact setVio_levels s hb true false

/-- Settles O26: supply by supply. -/
theorem suppliesMovePower : Obligations.SuppliesMovePower := by
  unfold Obligations.SuppliesMovePower
  exact fun s => ⟨⟨_, rfl, vinPresent_moves s⟩, ⟨_, rfl, vinLoss_moves s⟩, ⟨_, rfl, vauxPresent_moves s⟩, ⟨_, rfl, vauxLoss_moves s⟩,
    fun b hb => ⟨⟨_, rfl, vioLoss_levels s hb⟩, ⟨_, rfl, vioRestore_levels s hb⟩⟩⟩

end Sys2Proof.Machine
end

section
/-!
PROOFS. The operating-second counter and the watchdog (19 R501, R502).
-/
namespace Sys2Proof.Machine

/-- The counter of a state that has passed to the end of its second. -/
theorem secondCounted {s u t : State} (hu : u.pwr = s.pwr)
    (ht : t = { u with pwr := { u.pwr with ops := (u.pwr.ops + 1) % 2 ^ 40, opsStart := u.tim.dt } }) :
    t.pwr = { s.pwr with ops := (s.pwr.ops + 1) % 2 ^ 40, opsStart := t.tim.dt } := by
  rw [ht, ← hu]

theorem operatingSecond_running {s : State} (h : ¬ (s.pwr.power = .off || s.clk.aonSosc && !s.clk.soscRun) = true) :
    operatingSecond s = { (s.advanceTo (s.pwr.opsStart + 1000000000)) with
      pwr := { (s.advanceTo (s.pwr.opsStart + 1000000000)).pwr with
        ops := ((s.advanceTo (s.pwr.opsStart + 1000000000)).pwr.ops + 1) % 2 ^ 40
        opsStart := (s.advanceTo (s.pwr.opsStart + 1000000000)).tim.dt } } := if_neg h

theorem operatingSecond_counts (s : State) :
    if s.pwr.power = .off ∨ (s.clk.aonSosc = true ∧ s.clk.soscRun = false) then operatingSecond s = s
    else (operatingSecond s).pwr = { s.pwr with ops := (s.pwr.ops + 1) % 2 ^ 40, opsStart := (operatingSecond s).tim.dt } := by
  have stopped : (s.pwr.power = .off || s.clk.aonSosc && !s.clk.soscRun) = true ↔
      s.pwr.power = .off ∨ (s.clk.aonSosc = true ∧ s.clk.soscRun = false) := by simp
  by_cases h : s.pwr.power = .off ∨ (s.clk.aonSosc = true ∧ s.clk.soscRun = false)
  · rw [if_pos h]; exact if_pos (stopped.mpr h)
  · rw [if_neg h]
    exact secondCounted (s.advanceTo_pwr _) (operatingSecond_running (mt stopped.mp h))

/-- Without pairs an event is at most counted as lost. -/
theorem State.raise_pairless {s : State} (h : s.hst.qps = []) (n r : Nat) :
    ∃ v, s.raise n r = { s with hst := { s.hst with evLost := v } } := by
  have none : ∀ id, s.qp? id = none := fun id => by unfold State.qp?; rw [h]; rfl
  unfold State.raise
  dsimp only
  split
  · exact ⟨_, rfl⟩
  split
  · exact ⟨_, rfl⟩
  · rw [none]; exact ⟨_, rfl⟩

theorem State.record_pairless {s : State} (h : s.hst.qps = []) (v b n : Nat) (d : List Byte) :
    ∃ l x, s.record v b n d = { s with hst := { s.hst with evLost := l }, rcd := x } := by
  unfold State.record
  split
  · dsimp only
    split
    · exact ⟨_, _, rfl⟩
    · split
      · exact ⟨_, _, rfl⟩
      · obtain ⟨l, e⟩ := State.raise_pairless (s := { s with rcd := { s.rcd with
            written := (s.rcd.written + 1) % 2 ^ 32, stgFull := satAdd max32 s.rcd.stgFull 1,
            refused := updAt s.rcd.refused v (fun n => (n + 1) % 2 ^ 32), ev97 := true } }) h 97 v
        exact ⟨l, _, e⟩
  · exact ⟨_, _, rfl⟩

theorem State.raiseRec_pairless {s : State} (h : s.hst.qps = []) (n r v b : Nat) :
    ∃ l x, s.raiseRec n r v b = { s with hst := { s.hst with evLost := l }, rcd := x } := by
  unfold State.raiseRec
  obtain ⟨l, e⟩ := State.raise_pairless h n r
  obtain ⟨k, x, g⟩ := State.record_pairless (s := s.raise n r) (by rw [e]; exact h) v b n (leBytes 8 s.tim.dt ++ leBytes 8 r ++ leBytes 8 (hp64 s.hp))
  exact ⟨k, x, by rw [g, e]⟩

/-- A swap dropped changes supers, host interface and management island. -/
theorem State.dropSwap_only (s : State) (st : SuperSt) (n : Nat) :
    ∃ x y m, s.dropSwap st n = { s with sup := x, hst := y, mgt := m } := by
  have moved : ∀ a, ∃ x, s.superTo a st = { s with sup := x } := fun a => by
    unfold State.superTo State.setSuper; split <;> exact ⟨_, rfl⟩
  unfold State.dropSwap
  split
  · exact ⟨_, _, _, rfl⟩
  · rename_i a _
    obtain ⟨x, e⟩ := moved a.super
    rw [e]
    dsimp only
    split
    · obtain ⟨y, m, e⟩ := State.complete_host ({ s with sup := { x with armed := none, staged := none } } : State) _ n 0 none []
      exact ⟨_, y, m, e⟩
    · exact ⟨_, _, _, rfl⟩

/-- What the watchdog resets once a swap that a command had armed is dropped (19 R502). -/
def State.watchdogCleared (s0 : State) : State :=
  let s1 := s0.dropAllQps
  let ev := s1.hst.events.length
  let s2 := { s1 with
    hst := { s1.hst with handover := [], events := [], evLost := satAdd max32 s1.hst.evLost ev, link := false }
    mgt := { s1.mgt with held := [], fenceWait := [], chal := none, auth := none, activate := none }
    sup := { s1.sup with edits := [], reads := [] }
    slv := { s1.slv with hyd := { s1.slv.hyd with topo := none }, disp := { s1.slv.disp with topo := none } }
    pnl := { s1.pnl with regs := s1.pnl.regs.map (fun (x : PnlRegSt) => { x with pend := none }) }
    key := { s1.key with jobs := [], chalWait := [] }
    clk := { s1.clk with freqJobs := [] }
    eth := { s1.eth with txan := [] }
    rtc := { s1.rtc with waiting := [], ptp := [] }
    stn := { s1.stn with sims := [] }
    pwr := { s1.pwr with wdog := satAdd max32 s1.pwr.wdog 1 } }
  s2.setReg 0x34 0

/-- An expiry in service drops such a swap, if one is armed, and resets the two islands. -/
theorem watchdogExpiry_eq {s : State} (h : s.pwr.power = .service) :
    ∃ x y m, watchdogExpiry s =
      ({ s with sup := x, hst := y, mgt := m } : State).watchdogCleared.raiseRec 139 0 sevFault blkPwr := by
  have run : watchdogExpiry s = _ := if_neg (by simp [State.inService, h])
  cases ha : s.sup.armed with
  | none =>
    rw [ha] at run
    exact ⟨_, _, _, run⟩
  | some a =>
    rw [ha] at run
    by_cases hs : a.seq.isSome = true
    · obtain ⟨x, y, m, e⟩ := s.dropSwap_only .loaded stAborted
      dsimp only at run
      rw [if_pos hs, e] at run
      exact ⟨x, y, m, run⟩
    · dsimp only at run
      rw [if_neg hs] at run
      exact ⟨_, _, _, run⟩

/-- What an expiry of the watchdog leaves (19 R502). -/
theorem watchdogExpiry_resets {s : State} (h : s.pwr.power = .service) :
    let t := watchdogExpiry s
    t.hst.qps = [] ∧ t.hst.link = false ∧ t.mgt.held = [] ∧ t.mgt.fenceWait = [] ∧ t.mgt.chal = none ∧ t.key.jobs = [] ∧
      t.sup.edits = [] ∧ t.pwr.wdog = min (s.pwr.wdog + 1) max32 ∧ t.comb = s.comb ∧ t.chn = s.chn := by
  obtain ⟨x, y, m, e⟩ := watchdogExpiry_eq h
  dsimp only
  rw [e]
  obtain ⟨l, r, g⟩ := State.raiseRec_pairless (s := ({ s with sup := x, hst := y, mgt := m } : State).watchdogCleared) rfl 139 0 sevFault blkPwr
  rw [g]
  exact ⟨rfl, rfl, rfl, rfl, rfl, rfl, rfl, satAdd_eq_min .., rfl, rfl⟩

/-- Settles O28: the counter by the second that has passed, the watchdog by what it clears. -/
theorem operatingSecondsAndWatchdog : Obligations.OperatingSecondsAndWatchdog := by
  unfold Obligations.OperatingSecondsAndWatchdog
  refine fun s => ⟨⟨_, rfl, operatingSecond_counts s⟩, _, rfl, ?_⟩
  split
  · exact watchdogExpiry_resets ‹_›
  · rename_i h
    exact if_pos (by simp [State.inService, h])

end Sys2Proof.Machine
end

section
/-!
PROOFS. No cell opens while the comb does not run (03 Table 3-9).
-/
namespace Sys2Proof.Machine

theorem State.openCell_stopped {s : State} (h : s.cellsRun = false) (e : Nat) (res : Nat → Bool) : s.openCell e res = none := by
  unfold State.openCell
  split
  · rfl
  · rw [h]; rfl

theorem State.withCell_stopped {s : State} (h : s.cellsRun = false) (e : Nat) (res : Nat → Bool) (isl : Option Island)
    (f : CombEntry → State → State) : s.withCell e res isl f = s := by
  unfold State.withCell
  rw [State.openCell_stopped h]

/-- With no window open the recorder commits nothing. -/
theorem State.recFlush_closed {s : State} (h : s.rcd.win = none) : s.recFlush = s := by
  have idle : iter 4096 (recOnce s.tim.dt) s = s := iter_none _ _ _ (by unfold recOnce; rw [h])
  have same : s = { s with rcd := { s.rcd with win := none } } := by rw [← h]
  unfold State.recFlush
  rw [idle]
  dsimp only
  rw [h]
  exact same.symm

theorem slvHydCell_stopped {s : State} (h : s.cellsRun = false) (e : Nat) (k : SolveCond) : slvHydCell s e k = s := by
  unfold slvHydCell
  rw [State.openCell_stopped h]

theorem recCell_stopped {s : State} (h : s.cellsRun = false) (hw : s.rcd.win = none) (e : Nat) : recCell s e = s := by
  unfold recCell
  rw [State.recFlush_closed hw, State.withCell_stopped h]

/-- Settles O37: every cell command runs its cell through `withCell` or `openCell`. -/
theorem noCellWithoutComb : Obligations.NoCellWithoutComb := by
  unfold Obligations.NoCellWithoutComb
  intro s h hw e n x y b d l k m c
  have next : ∀ u : State, u = s → (.next u : Host.Outcome State Fault Refusal) = .next s := fun u hu => congrArg _ hu
  have shut := fun res isl f => next _ (State.withCell_stopped h e res isl f)
  have hyd := next _ (slvHydCell_stopped h e k)
  have record := next _ (recCell_stopped h hw e)
  simp only [List.mem_cons, List.not_mem_nil, or_false, forall_eq_or_imp, forall_eq]
  exact ⟨shut _ _ _, shut _ _ _, shut _ _ _, shut _ _ _, shut _ _ _, shut _ _ _, shut _ _ _, hyd, shut _ _ _, shut _ _ _, shut _ _ _,
    shut _ _ _, shut _ _ _, shut _ _ _, shut _ _ _, record, shut _ _ _, shut _ _ _, shut _ _ _, shut _ _ _, shut _ _ _⟩

end Sys2Proof.Machine
end

section
/-!
PROOFS. A panel frame at the wrap of DT: the frame's instant is counted on beyond 2^64 while DT begins anew, so an update whose
first frame DT had already passed is not driven by it.
-/
namespace Sys2Proof.Machine

/-- A running update of one phase and no pixels, whose first frame is at 2^64 − 1. -/
def lateRun : PnlRun :=
  { cmd := none, clear := false, band := 0, map := 0, mapData := [], nvar := 1, wave := ⟨1, 1, [], []⟩, rect := ⟨0, 0, 0, 0⟩,
    frameId := 0, jseq := 1, first := 2 ^ 64 - 1, phase := 0 }

/-- The rails are up and the update runs; DT stands at 2^64 − 1 and the next frame begins 1 ns later. -/
def frameAtWrap : State :=
  { State.reset with
    pwr := { State.reset.pwr with power := .service }
    clk := { State.reset.clk with wait := [] }
    sup := { State.reset.sup with bank := some { (default : Image) with panel := some onePanel } }
    tim := { State.reset.tim with dt := 2 ^ 64 - 1 }
    pnl := { State.reset.pnl with rails := .up, railAt := 2 ^ 64, regs := [{ PnlRegSt.reset with run := some lateRun }] } }

/-- The frame leaves the update in its first phase. -/
theorem frameAtWrap_undriven : ((panelFrameStart frameAtWrap 0).preg 0).run = some lateRun := by decide +kernel

/-- Refutes O54: the frame that begins when DT wraps drives no phase of an update that DT had reached before. -/
theorem not_panelEvents : ¬ Obligations.PanelEvents := by
  unfold Obligations.PanelEvents
  intro claim
  obtain ⟨frame, -⟩ := claim frameAtWrap
  obtain ⟨t, hx, hr⟩ := frame 0 lateRun 0 onePanel rfl rfl (by decide) (by decide) rfl (by decide) (by decide) rfl (Nat.zero_le _)
    (fun q hq => by
      match q with
      | 0 => exact absurd rfl hq
      | q + 1 => rfl)
  cases Host.Outcome.next.inj hx
  rw [frameAtWrap_undriven] at hr
  exact absurd (congrArg PnlRun.phase (Option.some.inj hr)) (by decide)

end Sys2Proof.Machine
end

section
/-!
PROOFS. What the recorder's work touches: the recorder, the key island's counts of refused keys and the events the host is sent.
-/
namespace Sys2Proof.Machine

/-- From `s` to `t` only the host interface, the key island and the recorder have changed. -/
def Recorded (s t : State) : Prop := ∃ h k r, t = { s with hst := h, key := k, rcd := r }

theorem Recorded.refl (s : State) : Recorded s s := ⟨s.hst, s.key, s.rcd, rfl⟩

theorem Recorded.trans {s t u : State} (a : Recorded s t) (b : Recorded t u) : Recorded s u := by
  obtain ⟨h, k, r, rfl⟩ := a
  obtain ⟨h', k', r', rfl⟩ := b
  exact ⟨h', k', r', rfl⟩

theorem Recorded.ite {s t u : State} (c : Prop) [Decidable c] (a : Recorded s t) (b : Recorded s u) : Recorded s (if c then t else u) := by
  split
  · exact a
  · exact b

theorem Recorded.rcd {s t : State} (a : Recorded s t) (x : Rec) : Recorded s { t with rcd := x } :=
  a.trans ⟨t.hst, t.key, x, rfl⟩

theorem State.raise_recorded (s : State) (n r : Nat) : Recorded s (s.raise n r) := by
  obtain ⟨x, e⟩ := s.raise_only n r
  exact ⟨x, s.key, s.rcd, e⟩

theorem State.record_recorded (s : State) (v b n : Nat) (d : List Byte) : Recorded s (s.record v b n d) := by
  obtain ⟨x, y, e⟩ := s.record_only v b n d
  exact ⟨x, s.key, y, e⟩

theorem State.raiseRec_recorded (s : State) (n r v b : Nat) : Recorded s (s.raiseRec n r v b) := by
  obtain ⟨x, y, e⟩ := s.raiseRec_only n r v b
  exact ⟨x, s.key, y, e⟩

/-- Asking for a key changes the key island's counts, and may raise EV84. -/
theorem State.keyFor_only (s : State) (eng n : Nat) : ∃ h k, (s.keyFor eng n).1 = { s with hst := h, key := k } := by
  unfold State.keyFor
  dsimp only
  split
  · exact ⟨s.hst, s.key, rfl⟩
  split
  · exact ⟨s.hst, _, rfl⟩
  · obtain ⟨x, e⟩ := State.raise_only { s with key := _ } 84 (n + eng * 256)
    exact ⟨x, _, e⟩

theorem State.keyFor_recorded (s : State) (eng n : Nat) : Recorded s (s.keyFor eng n).1 := by
  obtain ⟨h, k, e⟩ := s.keyFor_only eng n
  exact ⟨h, k, s.rcd, e⟩

theorem State.store_recorded (s : State) (r : StoredRec) : Recorded s (s.store r) := by
  unfold State.store
  split
  · exact (Recorded.refl s).rcd _
  split
  · exact (Recorded.refl s).rcd _
  · exact Recorded.trans ((Recorded.refl s).rcd _) (State.raise_recorded _ 96 _)

theorem State.startSign_recorded (s : State) : Recorded s s.startSign := by
  unfold State.startSign
  dsimp only
  split <;> exact (s.keyFor_recorded engRecorder 9).rcd _

theorem State.commitOne_recorded (s : State) : Recorded s s.commitOne := by
  unfold State.commitOne
  split
  · exact .refl s
  dsimp only
  have key := s.keyFor_recorded engRecorder 8
  generalize s.keyFor engRecorder 8 = k at key ⊢
  have staged : ∀ (x : Rec) (b : Bool) (r : StoredRec),
      Recorded s ((if b then ({ k.1 with rcd := x } : State).raise 99 0 else { k.1 with rcd := x }).store r) := fun x b r =>
    (key.rcd x).trans (.trans (.ite (b = true) (State.raise_recorded _ 99 0) (.refl _)) (State.store_recorded _ r))
  exact .ite _ (staged _ _ _) (.ite _ (((staged _ _ _).rcd _).trans (State.startSign_recorded _)) ((staged _ _ _).rcd _))

theorem State.signRecord_recorded (s : State) (cover code : Nat) (half : List Byte) : Recorded s (s.signRecord cover code half) :=
  ((Recorded.refl s).rcd _).trans (State.store_recorded _ _)

theorem State.commitSign_recorded (s : State) : Recorded s s.commitSign := by
  unfold State.commitSign
  split
  · exact .refl s
  · exact ((Recorded.refl s).rcd _).trans ((State.signRecord_recorded _ _ _ _).trans (State.signRecord_recorded _ _ _ _))

/-- What the recorder does at an earlier instant leaves device time as it stands. -/
theorem State.stamped_recorded (s : State) (t : Nat) (f : State → State) (hf : ∀ u, Recorded u (f u)) : Recorded s (s.stamped t f) := by
  obtain ⟨h, k, r, e⟩ := hf { s with tim := { s.tim with dt := min t s.tim.dt } }
  unfold State.stamped
  dsimp only
  rw [e]
  exact ⟨h, k, r, rfl⟩

theorem recOnce_recorded (now : Nat) (s t : State) (h : recOnce now s = some t) : Recorded s t := by
  unfold recOnce at h
  split at h
  · cases h
  dsimp only at h
  split at h
  · cases h
  split at h
  · split at h
    · split at h
      · cases h; exact (s.stamped_recorded _ _ State.commitSign_recorded).rcd _
      · cases h
    · split at h
      · cases h; exact (Recorded.refl s).rcd _
      · cases h
  · split at h
    · cases h; exact (s.stamped_recorded _ _ State.commitOne_recorded).rcd _
    · cases h

theorem iter_recorded (f : State → Option State) (h : ∀ s t, f s = some t → Recorded s t) (n : Nat) (s : State) :
    Recorded s (iter n f s) := by
  induction n generalizing s with
  | zero => exact .refl s
  | succ n ih =>
    unfold iter
    split
    · exact .refl s
    · rename_i t e
      exact (h s t e).trans (ih t)

theorem State.recFlush_recorded (s : State) : Recorded s s.recFlush :=
  (iter_recorded _ (recOnce_recorded s.tim.dt) 4096 s).rcd _

/-! ## Stops of metering and of the panel -/

/-- The end of metering changes the metering island alone. -/
theorem State.mtrStop_only (s : State) : ∃ m, s.mtrStop = { s with mtr := m } := by
  unfold State.mtrStop
  split
  · exact ⟨s.mtr, rfl⟩
  dsimp only
  obtain ⟨m, e⟩ := s.intvTo_only s.tim.dt
  rw [e]
  split
  · split
    · exact ⟨_, rfl⟩
    · obtain ⟨m', e'⟩ := State.turnIntv_only { s with mtr := m } _ s.tim.dt s.tim.dt { RunFlags.none with partial_ := true, gap := true }
        RunFlags.none
      rw [e']
      exact ⟨_, rfl⟩
  · exact ⟨_, rfl⟩

theorem State.fastDischarge_only (s : State) : ∃ h r p, s.fastDischarge = { s with hst := h, rcd := r, pnl := p } := by
  unfold State.fastDischarge
  dsimp only
  obtain ⟨x, y, e⟩ := State.raiseRec_only { s with pnl := _ } 114 0 sevNotice blkPnl
  exact ⟨x, y, _, e⟩

theorem State.panelStart_only (s : State) (o c : Bool) : ∃ h r p, s.panelStart o c = { s with hst := h, rcd := r, pnl := p } := by
  unfold State.panelStart State.panelStop
  dsimp only
  split
  · obtain ⟨h, r, p, e⟩ := s.fastDischarge_only
    rw [e]
    exact ⟨h, r, _, rfl⟩
  · exact ⟨s.hst, s.rcd, _, rfl⟩

end Sys2Proof.Machine
end

section
/-!
PROOFS. The recorder's staging buffer and its commits, and the calendar's boundaries.
-/
namespace Sys2Proof.Machine

/-! ## Records -/

@[simp] theorem State.raise_rcd (s : State) (n r : Nat) : (s.raise n r).rcd = s.rcd := by
  obtain ⟨x, e⟩ := s.raise_only n r; rw [e]

@[simp] theorem State.keyFor_rcd (s : State) (eng n : Nat) : (s.keyFor eng n).1.rcd = s.rcd := by
  obtain ⟨h, k, e⟩ := s.keyFor_only eng n; rw [e]

/-- A record takes the next number, and the next place of the staging buffer or is refused (21 R527). -/
theorem State.record_staged {s : State} (h : s.pwr.power ≠ .off) (v c n : Nat) (b : List Byte) :
    (s.record v c n b).rcd.written = (s.rcd.written + 1) % 2 ^ 32 ∧
      if s.rcd.staging.length < 1024 then
        ∃ x, (s.record v c n b).rcd.staging = s.rcd.staging ++ [x] ∧ x.rno = s.rcd.written ∧ x.sev = v
      else (s.record v c n b).rcd.staging = s.rcd.staging ∧ (s.record v c n b).rcd.stgFull = min (s.rcd.stgFull + 1) max32 := by
  unfold State.record
  have powered : s.recPowered = true := decide_eq_true h
  rw [if_pos powered]
  dsimp only
  by_cases hl : s.rcd.staging.length < 1024
  · rw [if_pos hl, if_pos hl]
    exact ⟨rfl, _, rfl, rfl, rfl⟩
  · rw [if_neg hl, if_neg hl]
    split <;> simp only [State.raise_rcd] <;> exact ⟨trivial, trivial, Nat.min_comm _ _⟩

/-- A signature that begins leaves the staging buffer, the store and the chain's end as they are. -/
theorem State.startSign_rcd (s : State) : s.startSign.rcd.staging = s.rcd.staging ∧ s.startSign.rcd.stored = s.rcd.stored ∧
    s.startSign.rcd.lastChained = s.rcd.lastChained := by
  unfold State.startSign
  dsimp only
  split <;> simp only [State.keyFor_rcd, and_self]

theorem State.store_fits {s : State} (h : s.rcd.stored.length < recPlaces) (r : StoredRec) :
    s.store r = { s with rcd := { s.rcd with stored := s.rcd.stored ++ [r] } } := if_pos h

/-- A commit takes the first staged record into the store, and the chain to it (21 R527, R528). -/
theorem State.commitOne_commits {s : State} {r : StagedRec} {rest : List StagedRec} (hs : s.rcd.staging = r :: rest)
    (hl : s.rcd.stored.length < recPlaces) :
    ∃ x, s.commitOne.rcd.staging = rest ∧ s.commitOne.rcd.stored = s.rcd.stored ++ [x] ∧ x.rno = r.rno ∧ x.sev = r.sev ∧
      s.commitOne.rcd.lastChained = r.rno := by
  have stored : ∀ (u : State) (y : StoredRec), u.rcd.staging = rest → u.rcd.stored = s.rcd.stored →
      u.store y = { u with rcd := { u.rcd with stored := s.rcd.stored ++ [y] } } := fun u y _ hu => by
    rw [State.store_fits (by rw [hu]; exact hl), hu]
  have signed : ∀ (v : State) (b : Bool), v.rcd.staging = rest →
      (∃ x : StoredRec, v.rcd.stored = s.rcd.stored ++ [x] ∧ x.rno = r.rno ∧ x.sev = r.sev) → v.rcd.lastChained = r.rno →
      ∃ x, (if b then v.startSign else v).rcd.staging = rest ∧ (if b then v.startSign else v).rcd.stored = s.rcd.stored ++ [x] ∧
        x.rno = r.rno ∧ x.sev = r.sev ∧ (if b then v.startSign else v).rcd.lastChained = r.rno := fun v b h1 ⟨x, h2, hn, hv⟩ h3 => by
    obtain ⟨e1, e2, e3⟩ := v.startSign_rcd
    cases b
    · exact ⟨x, h1, h2, hn, hv, h3⟩
    · exact ⟨x, e1.trans h1, e2.trans h2, hn, hv, e3.trans h3⟩
  unfold State.commitOne
  split
  · rename_i hn
    rw [hs] at hn
    cases hn
  rename_i r' rest' hn
  obtain ⟨rfl, rfl⟩ := List.cons.inj (hs.symm.trans hn)
  dsimp only
  have hk := s.keyFor_rcd engRecorder 8
  generalize s.keyFor engRecorder 8 = k at hk ⊢
  have begun : ∀ (b : Bool) (y : Rec), y.staging = rest → y.stored = s.rcd.stored →
      (if b then ({ k.1 with rcd := y } : State).raise 99 0 else { k.1 with rcd := y }).rcd = y := fun b y _ _ => by
    cases b
    · rfl
    · exact State.raise_rcd _ _ _
  generalize hu : (if (k.2.isNone && !k.1.rcd.ev99) = true then
    ({ k.1 with rcd := { k.1.rcd with staging := rest, keybad := k.2.isNone, ev99 := k.1.rcd.ev99 || k.2.isNone } } : State).raise 99 0 else _) = u
  have hr := begun (k.2.isNone && !k.1.rcd.ev99)
    { k.1.rcd with staging := rest, keybad := k.2.isNone, ev99 := k.1.rcd.ev99 || k.2.isNone } rfl (by rw [hk])
  rw [hu] at hr
  have hst : u.rcd.staging = rest := by rw [hr]
  rw [stored u _ hst (by rw [hr]; dsimp only; rw [hk])]
  rw [if_neg (fun h => h rfl)]
  refine signed _ _ ?_ ?_ ?_
  exacts [hst, ⟨_, rfl, rfl, rfl⟩, rfl]

theorem recordCommitEnd_commits {s : State} {r : StagedRec} {rest : List StagedRec} (hr : s.mgt.run ≠ .run) (hm : s.mayCommit = true)
    (hn : s.rcd.sign = none) (hs : s.rcd.staging = r :: rest) (hl : s.rcd.stored.length < recPlaces) :
    ∃ t x, exec .recordCommitEnd s = .next t ∧ t.rcd.staging = rest ∧ t.rcd.stored = s.rcd.stored ++ [x] ∧ x.rno = r.rno ∧
      x.sev = r.sev ∧ t.rcd.lastChained = r.rno := by
  have one : recordCommitEnd s = s.commitOne := by
    unfold recordCommitEnd
    rw [if_neg (by simp [hr, hm]), if_neg (by simp [hn])]
  obtain ⟨x, c⟩ := State.commitOne_commits hs hl
  rw [← one] at c
  exact ⟨_, x, rfl, c⟩

/-- A freeze ends with its window (21 R531). -/
theorem State.thaw_expired (s : State) : ((s.thaw true).raise 98 0).rcd.freeze = none := by
  rw [State.raise_rcd]
  exact (s.thaw_calm true).2

theorem freezeExpiry_of_frozen {s : State} {t : Nat} (h : s.rcd.freeze = some t) : ∃ u : State, freezeExpiry s = (u.thaw true).raise 98 0 := by
  unfold freezeExpiry
  rw [h]
  exact ⟨_, rfl⟩

theorem freezeExpiry_of_free {s : State} (h : s.rcd.freeze = none) : freezeExpiry s = s := by
  unfold freezeExpiry
  rw [h]

theorem freezeExpiry_thaws (s : State) : (freezeExpiry s).rcd.freeze = none ∧ (s.rcd.freeze = none → freezeExpiry s = s) := by
  refine ⟨?_, freezeExpiry_of_free⟩
  cases h : s.rcd.freeze with
  | none => rw [freezeExpiry_of_free h, h]
  | some t =>
    obtain ⟨u, e⟩ := freezeExpiry_of_frozen h
    rw [e, State.thaw_expired]

/-! ## What follows a boundary of the calendar -/

/-- The second, its place in the calibration period, and that no setting from PTP waits, have stayed. -/
structure SameSecond (s t : State) : Prop where
  secs : t.rtc.secs = s.rtc.secs
  trimSec : t.rtc.trimSec = s.rtc.trimSec
  ptp : s.rtc.ptp = [] → t.rtc.ptp = []

theorem SameSecond.of_rtc {s t : State} (h : t.rtc = s.rtc) : SameSecond s t :=
  ⟨by rw [h], by rw [h], fun e => by rw [h, e]⟩

theorem SameSecond.trans {s t u : State} (a : SameSecond s t) (b : SameSecond t u) : SameSecond s u :=
  ⟨b.secs.trans a.secs, b.trimSec.trans a.trimSec, fun e => b.ptp (a.ptp e)⟩

theorem SameSecond.ite {s t u : State} (c : Prop) [Decidable c] (a : SameSecond s t) (b : SameSecond s u) :
    SameSecond s (if c then t else u) := by
  split
  · exact a
  · exact b

theorem SameSecond.refl (s : State) : SameSecond s s := .of_rtc rfl

@[simp] theorem State.raise_rtc (s : State) (n r : Nat) : (s.raise n r).rtc = s.rtc := by
  obtain ⟨x, e⟩ := s.raise_only n r; rw [e]

@[simp] theorem State.raiseRec_rtc (s : State) (n r v b : Nat) : (s.raiseRec n r v b).rtc = s.rtc := by
  obtain ⟨x, y, e⟩ := s.raiseRec_only n r v b; rw [e]

@[simp] theorem State.advanceTo_rtc (s : State) (t : Nat) : (s.advanceTo t).rtc = s.rtc := by
  obtain ⟨x, l, e⟩ := s.advanceTo_only t; rw [e]

theorem State.rollover_second (s : State) : SameSecond s s.rollover := by
  have h : s.rollover.rtc = { s.rtc with range := true } := by
    unfold State.rollover
    rw [State.raise_rtc, State.raiseRec_rtc]
  exact ⟨by rw [h], by rw [h], fun e => by rw [h, ← e]⟩

theorem State.setAlarm_second (s : State) (n : Nat) (a : Alarm) : SameSecond s (s.setAlarm n a) := by
  unfold State.setAlarm
  split <;> exact ⟨rfl, rfl, id⟩

theorem State.alarmAt_second (s : State) (n : Nat) (span : Option Nat) (v : Nat) : SameSecond s (s.alarmAt n span v) := by
  have fired : ∀ (u : State) (a : Alarm) (b c : Bool) (k r : Nat), SameSecond s u →
      SameSecond s (({ (u.setAlarm n a) with rtc := { (u.setAlarm n a).rtc with al0f := b, al1f := c } } : State).raise k r) :=
    fun u a b c k r h => by
      refine SameSecond.trans ?_ (.of_rtc (State.raise_rtc _ k r))
      exact (h.trans (u.setAlarm_second n a)).trans ⟨rfl, rfl, id⟩
  have skipped : ∀ (b : Bool) (a : Alarm),
      SameSecond s (if b then (s.setAlarm n a).raiseRec 162 n sevNotice blkRtc else s) := fun b a =>
    .ite (b = true) ((s.setAlarm_second n a).trans (.of_rtc (State.raiseRec_rtc _ _ _ _ _))) (.refl s)
  unfold State.alarmAt
  dsimp only
  exact .ite _ (.refl s) (.ite _ (fired _ _ _ _ _ _ (skipped _ _)) (skipped _ _))

/-- A start from DORMANT drops the adjustments that wait, and keeps the rest of the calendar. -/
theorem State.startUp_rtc (s : State) (k : Nat) (hk : k ≠ 0) : (s.startUp k).rtc = { s.rtc with waiting := [], ptp := [] } := by
  have stopped : (if s.dtLive then ((s.recFlush).mtrStop).handShadow else s).rtc = s.rtc := by
    split
    · obtain ⟨h, y, r, e⟩ := s.recFlush_recorded
      obtain ⟨m, e'⟩ := s.recFlush.mtrStop_only
      rw [State.handShadow, e', e]
    · rfl
  have panel : ∀ (u : State) (o c : Bool), (u.panelStart o c).rtc = u.rtc := fun u o c => by
    obtain ⟨h, r, p, e⟩ := u.panelStart_only o c; rw [e]
  have noted : ∀ (u : State) (b : Bool) (v w : Nat), (if b then u.unitRec v w else u).rtc = u.rtc := fun u b v w => by
    obtain ⟨x, y, e⟩ := u.unitRec_only v w
    cases b
    · rfl
    · rw [if_pos rfl, e]
  unfold State.startUp
  rw [if_neg hk]
  dsimp only
  rw [noted, if_neg hk]
  dsimp only
  rw [panel, stopped]

theorem State.wakeBy_second (s : State) (w : WakeSrc) : SameSecond s (s.wakeBy w) := by
  unfold State.wakeBy
  refine .ite _ (.refl s) (.ite _ ?_ (.of_rtc rfl))
  have h := State.startUp_rtc { s with pwr := { s.pwr with wakePending := some (s.pwr.wakePending.getD w) } } 4 (by decide)
  exact ⟨by rw [h], by rw [h], fun _ => by rw [h]⟩

theorem State.alarmWake_second (s old : State) : SameSecond s (s.alarmWake old) := by
  unfold State.alarmWake
  dsimp only
  have first : ∀ b : Bool, SameSecond s (if b then s.wakeBy .al0 else s) := fun b => .ite _ (s.wakeBy_second .al0) (.refl s)
  exact .ite _ ((first _).trans (State.wakeBy_second _ .al1)) (first _)

theorem foldl_ok_second (l : List (Nat × CalItem)) (s : State) : SameSecond s (l.foldl (fun s x => s.ok x.1 0) s) := by
  induction l generalizing s with
  | nil => exact .refl s
  | cons x l ih =>
    obtain ⟨h, m, e⟩ := s.complete_host x.1 0 0 none []
    have done : (s.ok x.1 0).rtc = s.rtc := by rw [State.ok, e]
    exact (SameSecond.of_rtc done).trans (ih _)

/-! ## The boundary -/

/-- The value the boundary at `t` leads to (20 R509, R512 to R514). -/
def Rtc.next (r : Rtc) (t : Nat) : Nat :=
  let u := if r.secs + 1 = rangeSecs then 0 else r.secs + 1
  ((r.items t).foldl (fun (m : CalMove) (x : Nat × CalItem) => x.2.apply m) ⟨(u : Int), decide (r.secs + 1 = rangeSecs), false, r.summer, r.osf⟩).v.toNat

/-- A boundary begins the second it leads to; what waits from PTP and is no item of it waits on. -/
theorem State.beginSecond_begins (s : State) (t : Nat) : ∃ u, SameSecond u (s.beginSecond t) ∧ u.rtc.secs = s.rtc.next t ∧
    u.rtc.trimSec = (s.rtc.trimSec + 1) % 64 ∧
    u.rtc.ptp = s.rtc.ptp.filter (fun w => !((s.rtc.items t).any (fun x => decide (x.1 = w.seq)))) := by
  unfold State.beginSecond Rtc.next
  dsimp only
  rw [State.advanceTo_rtc]
  have adjusted : ∀ (u : State) (b c : Bool) (k r v w : Nat), SameSecond u
      (if c then (if b then u else u.raiseRec k r v w).rollover else if b then u else u.raiseRec k r v w) := fun u b c k r v w => by
    have h : SameSecond u (if b then u else u.raiseRec k r v w) := .ite _ (.refl u) (.of_rtc (State.raiseRec_rtc ..))
    exact .ite _ (h.trans (State.rollover_second _)) h
  have follows : ∀ (u x old : State) (sp : Option Nat) (v : Nat), SameSecond u x →
      SameSecond u (((s.rtc.items t).foldl (fun (s : State) (x : Nat × CalItem) => s.ok x.1 0) ((x.alarmAt 0 sp v).alarmAt 1 sp v)).alarmWake old) :=
    fun u x old sp v h => (((h.trans (x.alarmAt_second 0 sp v)).trans (State.alarmAt_second _ 1 sp v)).trans (foldl_ok_second _ _)).trans
      (State.alarmWake_second _ old)
  exact ⟨_, follows _ _ _ _ _ (adjusted _ _ _ _ _ _ _), rfl, rfl, rfl⟩

theorem Rtc.items_of_none {r : Rtc} (hw : r.waiting = []) (hp : r.ptp = []) (t : Nat) : r.items t = [] := by
  simp [Rtc.items, hw, hp]

/-- The setting from PTP whose instant has come is the one item of its boundary. -/
theorem Rtc.items_of_ptp {r : Rtc} {p : PtpSet} (hw : r.waiting = []) (hp : r.ptp = [p]) {t : Nat} (ht : p.w * 1000000000 ≤ t) :
    r.items t = [(p.seq, .ptp p.secs)] := by
  simp [Rtc.items, hw, hp, ht, insertItem]

theorem rtcSecondBoundary_counts (s : State) (hr : s.calendarRuns = true) (hw : s.rtc.waiting = []) (hp : s.rtc.ptp = []) :
    (rtcSecondBoundary s).rtc.secs = (if s.rtc.secs + 1 = rangeSecs then 0 else s.rtc.secs + 1) ∧
      (rtcSecondBoundary s).rtc.trimSec = (s.rtc.trimSec + 1) % 64 := by
  have at_ : s.rtc.ptpAt = none := by simp [Rtc.ptpAt, hp]
  have one : rtcSecondBoundary s = s.beginSecond (max s.tim.dt s.secondEnd) := by
    unfold rtcSecondBoundary
    rw [if_neg (by simp [hr]), at_]
  obtain ⟨u, same, hv, ht, -⟩ := s.beginSecond_begins (max s.tim.dt s.secondEnd)
  rw [one, same.secs, same.trimSec, hv, ht]
  refine ⟨?_, rfl⟩
  unfold Rtc.next
  rw [Rtc.items_of_none hw hp]
  exact Int.toNat_natCast _

theorem ptpSettingApply_sets {s : State} {p : PtpSet} (hp : s.rtc.ptp = [p]) (hw : s.rtc.waiting = []) (hr : s.calendarRuns = true)
    (he : p.w * 1000000000 ≤ s.secondEnd) (ht : s.tim.dt ≤ p.w * 1000000000) (h0 : 0 ≤ p.secs) (hl : p.secs < rangeSecs) :
    (ptpSettingApply s).rtc.secs = p.secs.toNat ∧ (ptpSettingApply s).rtc.ptp = [] := by
  have at_ : s.rtc.ptpAt = some (p.w * 1000000000) := by simp [Rtc.ptpAt, hp]
  have one : ptpSettingApply s = s.beginSecond (p.w * 1000000000) := by
    unfold ptpSettingApply
    rw [at_]
    dsimp only
    have later : ¬ s.secondEnd < p.w * 1000000000 := by omega
    rw [if_neg (by simp [hr]), if_neg (by simp [later]), Nat.max_eq_right ht]
  have items := Rtc.items_of_ptp hw hp (Nat.le_refl (p.w * 1000000000))
  obtain ⟨u, same, hv, -, hq⟩ := s.beginSecond_begins (p.w * 1000000000)
  rw [one, same.secs, hv]
  refine ⟨?_, same.ptp (by rw [hq]; simp [hp, items])⟩
  unfold Rtc.next
  rw [items]
  exact congrArg Int.toNat (Int.emod_eq_of_lt h0 hl)

/-- Settles O52: the recorder's numbers, places and commits, and the boundaries of the calendar, alone and with a setting from PTP. -/
theorem recorderAndCalendar : Obligations.RecorderAndCalendar := by
  unfold Obligations.RecorderAndCalendar
  intro s
  refine ⟨?_, ?_, ?_, ?_, ?_, ?_⟩
  · intro v r c b h
    exact ⟨_, rfl, State.record_staged h v.val r.val c b⟩
  · intro r rest hr hm hn hs hl
    exact recordCommitEnd_commits hr hm hn hs hl
  · obtain ⟨h1, h2⟩ := freezeExpiry_thaws s
    exact ⟨_, rfl, h1, h2⟩
  · refine ⟨_, rfl, ?_⟩
    split
    · rename_i hr
      exact fun hw hp => rtcSecondBoundary_counts s hr hw hp
    · rename_i hr
      exact if_pos (by simpa using hr)
  · intro hp
    have at_ : s.rtc.ptpAt = none := by simp [Rtc.ptpAt, hp]
    have same : ptpSettingApply s = s := by unfold ptpSettingApply; rw [at_]
    exact congrArg _ same
  · intro p hp hw hr he _ ht _ h0 hl
    exact ⟨_, rfl, ptpSettingApply_sets hp hw hr he ht h0 hl⟩

end Sys2Proof.Machine
end

section
/-!
PROOFS. A block at rest stays at rest: what any command leaves when its effect raises events, records and completions. Service of a
block at rest then changes the host interface alone.
-/
namespace Sys2Proof.Machine

/-- Every pair is still; no deletion, HST cell, hand-over or FENCE is under way; in continuous service nothing waits to be posted. -/
structure State.Restful (s : State) : Prop where
  still : s.PairsStill
  cpls : s.continuous = true → s.hst.cpls = []
  events : s.Settled
  deleting : s.hst.deleting = []
  cell : s.hst.cell = none
  handover : s.hst.handover = []
  fences : s.mgt.fenceWait = []

/-- A block at rest is at rest after the change. -/
def Tame (s t : State) : Prop := s.Restful → t.Restful

theorem Tame.refl (s : State) : Tame s s := id

theorem Tame.trans {s t u : State} (a : Tame s t) (b : Tame t u) : Tame s u := fun h => b (a h)

theorem Tame.ite {s t u : State} (c : Prop) [Decidable c] (a : Tame s t) (b : Tame s u) : Tame s (if c then t else u) := by
  split
  · exact a
  · exact b

theorem State.continuous_eq_of_run {s t : State} (hm : t.mgt.run = s.mgt.run) (hp : t.pwr = s.pwr) (hc : t.clk.wait = s.clk.wait) :
    t.continuous = s.continuous := by
  unfold State.continuous State.runs State.inService
  rw [hm, hp, hc]

/-- A change outside the host interface, the run state, power and clocks. -/
theorem Tame.of_same {s t : State} (hh : t.hst = s.hst) (hm : t.mgt.run = s.mgt.run) (hf : t.mgt.fenceWait = s.mgt.fenceWait)
    (hp : t.pwr = s.pwr) (hc : t.clk.wait = s.clk.wait) : Tame s t := fun h => by
  have hk := State.continuous_eq_of_run hm hp hc
  exact ⟨by unfold State.PairsStill; rw [hh]; exact h.still, by rw [hk, hh]; exact h.cpls,
    by unfold State.Settled; rw [hk, hh]; exact h.events, by rw [hh]; exact h.deleting, by rw [hh]; exact h.cell,
    by rw [hh]; exact h.handover, hf.trans h.fences⟩

theorem Raised.tame {s t : State} (r : Raised s t) : Tame s t := fun h => by
  obtain ⟨_, _, _, _, _, hh⟩ := r.rings
  have hk := State.continuous_congr r.mgt r.pwr r.wait
  exact ⟨r.still h.still, by rw [hk, hh]; exact h.cpls, r.settled h.events, by rw [hh]; exact h.deleting, by rw [hh]; exact h.cell,
    by rw [hh]; exact h.handover, by rw [r.mgt]; exact h.fences⟩

theorem Calm.tame {s t : State} (c : Calm s t) : Tame s t := fun h => (c.raised h.events).tame h

theorem State.postCpl_rings (s : State) (c : Cpl) :
    ∃ l m o n, s.postCpl c = { s with hst := { s.hst with qps := l, msixPend := m, out := o, cplDrop := n } } := by
  unfold State.postCpl
  split
  · exact ⟨_, _, _, _, rfl⟩
  split
  · exact ⟨_, _, _, _, rfl⟩
  · rename_i p _
    have shown : ∃ o, (if c.data.isEmpty then s else s.emit (.readback c.qp c.cid c.data)) = { s with hst := { s.hst with out := o } } := by
      split
      · exact ⟨_, rfl⟩
      · exact ⟨_, rfl⟩
    obtain ⟨o, e⟩ := shown
    dsimp only
    rw [e]
    obtain ⟨l, m, o', e'⟩ := State.afterPost_rings
      ((({ s with hst := { s.hst with out := o } } : State).emit (p.entry c.res0 c.res1 c.dt c.cid c.status)).setQp
        { p with posted := p.posted + 1 }) c.qp
    exact ⟨l, m, o', _, e'⟩

/-- A completion is posted in continuous service, waits for an HST cell outside it, or is discarded. -/
theorem State.queueCpl_tame (s : State) (c : Cpl) : Tame s (s.queueCpl c) := by
  intro h
  unfold State.queueCpl
  split
  · exact ⟨h.still, h.cpls, h.events, h.deleting, h.cell, h.handover, h.fences⟩
  split
  · exact h
  split
  · rename_i hk
    have flushed : s.flushCpls = s := by
      unfold State.flushCpls
      rw [h.cpls hk, List.foldl_nil, ← h.cpls hk]
    rw [flushed]
    obtain ⟨l, m, o, n, e⟩ := s.postCpl_rings c
    have still := s.postCpl_still h.still c
    rw [e] at still ⊢
    exact ⟨still, h.cpls, h.events, h.deleting, h.cell, h.handover, h.fences⟩
  · rename_i hk
    exact ⟨h.still, fun k => absurd k hk, h.events, h.deleting, h.cell, h.handover, h.fences⟩

theorem State.finish_tame (s : State) (q st r0 : Nat) (r1 : Option Nat) (d : List Byte) : Tame s (s.finish q st r0 r1 d) := by
  unfold State.finish
  split
  · exact .refl s
  · refine Tame.trans ?_ (State.queueCpl_tame _ _)
    exact .of_same rfl (Mgt.countCpl_run ..) (Mgt.countCpl_fenceWait ..) rfl rfl

/-- A command may complete in a block at rest. -/
theorem State.complete_tame (s : State) (q st r0 : Nat) (r1 : Option Nat) (d : List Byte) : Tame s (s.complete q st r0 r1 d) := fun h => by
  have ended := s.finish_tame q st r0 r1 d h
  unfold State.complete
  rw [State.endDeletes_none _ ended.deleting]
  exact ended

theorem State.fail_tame (s : State) (q st : Nat) : Tame s (s.fail q st) := s.complete_tame q st 0 none []
theorem State.ok_tame (s : State) (q r0 : Nat) : Tame s (s.ok q r0) := s.complete_tame q 0 r0 none []

theorem State.raise_tame (s : State) (n r : Nat) : Tame s (s.raise n r) := (s.raise_calm n r).tame
theorem State.record_tame (s : State) (v b n : Nat) (d : List Byte) : Tame s (s.record v b n d) := (s.record_calm v b n d).tame
theorem State.keyFor_tame (s : State) (eng n : Nat) : Tame s (s.keyFor eng n).1 := (s.keyFor_calm eng n).tame

/-- Posting leaves all but the host interface as it is. -/
theorem State.of_besideHost {s t : State} (h : t.besideHost = s.besideHost) : ∃ x, t = { s with hst := x } := by
  refine ⟨t.hst, ?_⟩
  change { t.besideHost with hst := t.hst } = { s.besideHost with hst := t.hst }
  rw [h]

/-- Service of a block at rest changes the host interface alone. -/
theorem State.Restful.served {s : State} (h : s.Restful) : ∃ x, s.hostServe = { s with hst := x } := by
  by_cases hk : s.continuous = true
  · rw [State.hostServe_latches h.still hk (h.cpls hk) (h.events hk) h.cell]
    exact ⟨_, rfl⟩
  · exact ⟨s.hst, State.hostServe_waits (Bool.eq_false_iff.mpr hk) h.cell⟩

/-! ## A command taken by an idle block -/

theorem restful_atTaking {s : State} {h : Hdr} {q : Qp} (hq : Claim.Quiet s h q) (c : Instr) : (s.atTaking c h).Restful where
  still p hp := Qp.Idle.still (hq.idle p hp)
  cpls _ := hq.cpls
  events _ := hq.events
  deleting := hq.deleting
  cell := hq.cell
  handover := rfl
  fences := hq.fences

/-- A command that completes its step has been taken: but for the host interface, what it left is what its effect left, or what its
refusal did. -/
theorem exec_effect {s t : State} {h : Hdr} {q : Qp} {c : Instr} {o : Nat} (hq : Claim.Quiet s h q) (he : hostEntry c = some (o, h))
    (ha : authorised o = false) (hx : exec c s = .next t) (tame : ∀ v : State, Tame v (v.hostDo s.mgt.seq c)) :
    (∃ x m, t = { s with hst := x, mgt := m }) ∨ ∃ x, t = { ((s.atTaking c h).hostDo s.mgt.seq c) with hst := x } := by
  have ho := hostOpc_eq he
  have fits : s.paramsOk c = true := by
    cases hp : s.paramsOk c with
    | true => rfl
    | false =>
      have ht : s.takeable h = true := by
        unfold State.takeable
        rw [State.runs_of_service hq.power hq.clocks .mgt, hq.next]
        simp only [Bool.true_and, decide_eq_true_eq]
        exact Nat.mod_eq_of_lt hq.small
      rw [exec_of_hostEntry c o h s he, (s.hostCommand_fault_iff c h .hostError).mpr ⟨rfl, ht, .inr hp⟩] at hx
      cases hx
  have taken := offered_of_quiet hq he fits
  have rest := restful_atTaking hq c
  have ran : ∀ u : State, ({ s with hst := { s.hst with handover := [] } } : State).takeCmd c h 0 = u → u.Restful → ∃ x, t = { u with hst := x } :=
    fun u hu hr => by
      rw [taken.exec_served hu hr.fences hr.handover] at hx
      obtain ⟨x, e⟩ := hr.served
      exact ⟨x, (Host.Outcome.next.inj hx).symm.trans e⟩
  by_cases hr : s.mgt.run ∈ opcStates (hostOpc c)
  · exact .inr (ran _ (takeCmd_plain hq (by rw [ho]; exact ha) hr) (tame _ rest))
  · obtain ⟨x, e⟩ := ran _ (takeCmd_refused hq (by rw [ho]; exact ha) hr) (State.fail_tame _ _ _ rest)
    obtain ⟨y, m, e'⟩ := (s.atTaking c h).complete_host s.mgt.seq stRunState 0 none []
    exact .inl ⟨x, m, by rw [e, State.fail, e']; rfl⟩

end Sys2Proof.Machine
end

section
/-!
PROOFS. What each host command leaves alone (17 Table 17-4): its effect keeps a block at rest, and moves its own unit.
-/
namespace Sys2Proof.Machine

theorem State.fail_host (s : State) (q st : Nat) : ∃ x m, s.fail q st = { s with hst := x, mgt := m } := s.complete_host q st 0 none []
theorem State.ok_host (s : State) (q r0 : Nat) : ∃ x m, s.ok q r0 = { s with hst := x, mgt := m } := s.complete_host q 0 r0 none []

/-! ## Pairs, challenge, recorder -/

theorem State.challengeCmd_own (s : State) (q : Nat) : Tame s (s.challengeCmd q) ∧
    ∃ k h m n, s.challengeCmd q = { s with key := k, hst := h, mgt := m, fresh := n } := by
  unfold State.challengeCmd
  split
  · exact ⟨.of_same rfl rfl rfl rfl rfl, _, _, _, _, rfl⟩
  · unfold State.issueChallenge State.random
    dsimp only
    constructor
    · refine Tame.trans ?_ (State.complete_tame _ _ _ _ _ _)
      exact .of_same rfl rfl rfl rfl rfl
    · obtain ⟨x, m, e⟩ := State.complete_host ({ s with fresh := s.fresh + 16, mgt := { s.mgt with chal := some _ } } : State) q 0 _ (some _) []
      exact ⟨_, x, m, _, e⟩

theorem State.qpCreate_own (s : State) (q : Nat) (p : QpParam) : Tame s (s.qpCreate q p) ∧
    ∃ h m, s.qpCreate q p = { s with hst := h, mgt := m } := by
  have joined : ∀ p : Qp, p.Still → Tame s (s.addQp p) := fun p hp h =>
    ⟨State.addQp_still h.still hp, h.cpls, h.events, h.deleting, h.cell, h.handover, h.fences⟩
  unfold State.qpCreate
  split
  · exact ⟨s.fail_tame q _, s.fail_host q _⟩
  split
  · exact ⟨s.fail_tame q _, s.fail_host q _⟩
  split
  · exact ⟨s.fail_tame q _, s.fail_host q _⟩
  · obtain ⟨x, m, e⟩ := (s.addQp (newQp p.qpid p.kind p.sizeLog p.vector p.ien p.sqBase p.cqBase p.mask)).ok_host q 0
    exact ⟨(joined _ (newQp_still ..)).trans (State.ok_tame _ q 0), x, m, e⟩

theorem Recorded.then_ok {s u : State} (r : Recorded s u) (q : Nat) : ∃ h m k y, u.ok q 0 = { s with hst := h, mgt := m, key := k, rcd := y } := by
  obtain ⟨h, k, y, e⟩ := r
  obtain ⟨x, m, e'⟩ := u.ok_host q 0
  exact ⟨x, m, k, y, by rw [e', e]⟩

theorem State.freezeAt_recorded (s : State) (p : Nat) : Recorded s (s.freezeAt p) :=
  (s.recFlush_recorded.rcd _).trans (State.record_recorded _ _ _ _ _)

theorem State.thaw_recorded (s : State) (b : Bool) : Recorded s (s.thaw b) :=
  ((Recorded.refl s).rcd _).trans (State.record_recorded _ _ _ _ _)

theorem State.freezeCmd_own (s : State) (q : Nat) : Tame s (s.freezeCmd q) ∧
    ∃ h m k y, s.freezeCmd q = { s with hst := h, mgt := m, key := k, rcd := y } := by
  unfold State.freezeCmd
  split
  · obtain ⟨h, m, e⟩ := s.fail_host q stFrozen
    exact ⟨s.fail_tame q _, h, m, _, _, e⟩
  · exact ⟨(s.freezeAt_calm _).1.tame.trans (State.ok_tame _ q 0), (s.freezeAt_recorded _).then_ok q⟩

theorem State.thawCmd_own (s : State) (q : Nat) : Tame s (s.thawCmd q) ∧
    ∃ h m k y, s.thawCmd q = { s with hst := h, mgt := m, key := k, rcd := y } := by
  unfold State.thawCmd
  split
  · obtain ⟨h, m, e⟩ := s.fail_host q stNotFrozen
    exact ⟨s.fail_tame q _, h, m, _, _, e⟩
  · exact ⟨(s.thaw_calm _).1.tame.trans (State.ok_tame _ q 0), (s.thaw_recorded _).then_ok q⟩

theorem State.checkSeal_only (s : State) (r : StoredRec) : ∃ h y, s.checkSeal r = { s with hst := h, rcd := y } := by
  unfold State.checkSeal
  split
  · exact ⟨_, _, rfl⟩
  split
  · exact ⟨_, _, rfl⟩
  split
  · exact ⟨_, _, rfl⟩
  · obtain ⟨x, e⟩ := State.raise_only { s with rcd := _ } 100 0
    exact ⟨x, _, e⟩

theorem foldl_checkSeal_only (l : List StoredRec) (s : State) : ∃ h y, l.foldl State.checkSeal s = { s with hst := h, rcd := y } := by
  induction l generalizing s with
  | nil => exact ⟨_, _, rfl⟩
  | cons r l ih =>
    obtain ⟨h, y, e⟩ := s.checkSeal_only r
    obtain ⟨h', y', e'⟩ := ih (s.checkSeal r)
    exact ⟨h', y', by rw [List.foldl_cons, e', e]⟩

theorem State.recReadCmd_own (s : State) (q f n : Nat) : Tame s (s.recReadCmd q f n) ∧
    ∃ h m y, s.recReadCmd q f n = { s with hst := h, mgt := m, rcd := y } := by
  obtain ⟨h, y, e⟩ := foldl_checkSeal_only (s.recFrom f n) s
  obtain ⟨x, m, e'⟩ := ((s.recFrom f n).foldl State.checkSeal s).complete_host q 0 (s.recFrom f n).length none
    ((s.recFrom f n).flatMap (fun r => r.bytes))
  exact ⟨(foldl_calm _ State.checkSeal_calm _ s).tame.trans (State.complete_tame _ _ _ _ _ _), x, m, y, by
    unfold State.recReadCmd; dsimp only; rw [e', e]⟩

/-! ## The calendar -/

theorem State.setAlarm_own (s : State) (n : Nat) (a : Alarm) : Tame s (s.setAlarm n a) ∧ ∃ y, s.setAlarm n a = { s with rtc := y } := by
  unfold State.setAlarm
  split <;> exact ⟨.of_same rfl rfl rfl rfl rfl, _, rfl⟩

theorem State.rtcTrimCmd_own (s : State) (q : Nat) (n : Int) : Tame s (s.rtcTrimCmd q n) ∧
    ∃ y h m, s.rtcTrimCmd q n = { s with rtc := y, hst := h, mgt := m } := by
  unfold State.rtcTrimCmd
  constructor
  · refine Tame.trans ?_ (State.ok_tame _ _ _)
    exact .of_same rfl rfl rfl rfl rfl
  · obtain ⟨h, m, e⟩ := State.ok_host { s with rtc := { s.rtc with trimNext := some n } } q 0
    exact ⟨_, h, m, e⟩

theorem State.alarmSetCmd_own (s : State) (q n mask p en : Nat) (c : Civil) : Tame s (s.alarmSetCmd q n mask p en c) ∧
    ∃ y h m, s.alarmSetCmd q n mask p en c = { s with rtc := y, hst := h, mgt := m } := by
  unfold State.alarmSetCmd
  dsimp only
  split
  · obtain ⟨h, m, e⟩ := s.fail_host q stInvalidDate
    exact ⟨s.fail_tame q _, _, h, m, e⟩
  · obtain ⟨tame, y, e⟩ := s.setAlarm_own n _
    obtain ⟨h, m, e'⟩ := (s.setAlarm n _).ok_host q 0
    exact ⟨tame.trans (State.ok_tame _ _ _), y, h, m, by rw [e', e]⟩

theorem State.pushAdj_own (s : State) (q : Nat) (a : Adj) : Tame s (s.pushAdj q a) ∧
    ∃ y h m, s.pushAdj q a = { s with rtc := y, hst := h, mgt := m } :=
  ⟨.of_same rfl rfl rfl rfl rfl, _, s.hst, s.mgt, rfl⟩

theorem State.rtcSetCmd_own (s : State) (q : Nat) (c : Civil) : Tame s (s.rtcSetCmd q c) ∧
    ∃ y h m, s.rtcSetCmd q c = { s with rtc := y, hst := h, mgt := m } := by
  unfold State.rtcSetCmd
  split
  · exact s.pushAdj_own q _
  · obtain ⟨h, m, e⟩ := s.fail_host q stInvalidDate
    exact ⟨s.fail_tame q _, _, h, m, e⟩

theorem State.rtcFromPtpCmd_own (s : State) (q : Nat) : Tame s (s.rtcFromPtpCmd q) ∧
    ∃ y h m, s.rtcFromPtpCmd q = { s with rtc := y, hst := h, mgt := m } := by
  unfold State.rtcFromPtpCmd
  split
  · obtain ⟨h, m, e⟩ := s.fail_host q stTimeState
    exact ⟨s.fail_tame q _, _, h, m, e⟩
  · exact ⟨.of_same rfl rfl rfl rfl rfl, _, _, _, rfl⟩

/-! ## Axes -/

theorem State.of_besideAxes {s t : State} (h : t.besideAxes = s.besideAxes) : ∃ a x m, t = { s with axs := a, hst := x, mgt := m } := by
  refine ⟨t.axs, t.hst, t.mgt, ?_⟩
  change { t.besideAxes with axs := t.axs, hst := t.hst, mgt := t.mgt } = { s.besideAxes with axs := t.axs, hst := t.hst, mgt := t.mgt }
  rw [h]

theorem State.setAx_tame (s : State) (a : Nat) (x : Ax) : Tame s (s.setAx a x) := .of_same rfl rfl rfl rfl rfl

theorem State.axDone_tame (s : State) (a st : Nat) : Tame s (s.axDone a st) := by
  unfold State.axDone
  split
  · exact .refl s
  · exact (s.setAx_tame a _).trans (State.complete_tame _ _ _ _ _ _)

theorem State.leaveInter_tame (s : State) (a : Nat) : Tame s (s.leaveInter a) := by
  unfold State.leaveInter
  split
  · exact .refl s
  · split
    · exact .refl s
    · exact .of_same rfl rfl rfl rfl rfl

theorem State.goTo_tame (s : State) (a : Nat) (d : AxisDef) (p : Int) (v : Nat) : Tame s (s.goTo a d p v) := by
  unfold State.goTo
  dsimp only
  split
  · exact (s.setAx_tame a _).trans (State.axDone_tame _ a 0)
  · exact s.setAx_tame a _

theorem State.goHome_tame (s : State) (a : Nat) (d : AxisDef) (p : Int) : Tame s (s.goHome a d p) := by
  unfold State.goHome
  dsimp only
  generalize (if (s.ax a).refSw = true then !d.homePos else d.homePos) = up
  refine .ite _ ?_ ((s.setAx_tame a _).trans (State.setAx_tame _ a _))
  refine Tame.trans ?_ (State.axDone_tame _ a _)
  exact .of_same rfl rfl rfl rfl rfl

theorem State.axMove_tame (s : State) (a : Nat) (d : AxisDef) (p : Int) (v : Nat) : Tame s (s.axMove a d p v) := by
  unfold State.axMove
  dsimp only
  have stopped : Tame s ((s.leaveInter a).setAx a ((s.leaveInter a).ax a).endHome) := (s.leaveInter_tame a).trans (State.setAx_tame _ a _)
  exact .ite _ (stopped.trans (State.goTo_tame _ a d p v)) (.ite _ (stopped.trans (State.setAx_tame _ a _)) (stopped.trans (State.setAx_tame _ a _)))

theorem State.axHome_tame (s : State) (a : Nat) (d : AxisDef) (p : Int) : Tame s (s.axHome a d p) := by
  unfold State.axHome
  dsimp only
  have stopped : Tame s ((s.leaveInter a).setAx a ((s.leaveInter a).ax a).endHome) := (s.leaveInter_tame a).trans (State.setAx_tame _ a _)
  exact .ite _ (stopped.trans (State.setAx_tame _ a _)) (stopped.trans (State.goHome_tame _ a d p))

theorem State.axStop_tame (s : State) (a : Nat) (d : AxisDef) (b : Bool) : Tame s (s.axStop a d b) := by
  unfold State.axStop
  dsimp only
  have stopped : ∀ y, Tame s ((s.leaveInter a).setAx a y) := fun y => (s.leaveInter_tame a).trans (State.setAx_tame _ a y)
  refine .ite _ ((stopped _).trans (State.setAx_tame _ a _)) (Tame.trans ?_ (State.axDone_tame _ a 0))
  exact .ite _ ((stopped _).trans (State.setAx_tame _ a _)) (stopped _)

theorem State.axisCmd_tame (s : State) (q a : Nat) : Tame s (s.axisCmd q a) := (s.axDone_tame a stAborted).trans (State.setAx_tame _ a _)

@[simp] theorem State.axisCmd_besideAxes (s : State) (q a : Nat) : (s.axisCmd q a).besideAxes = s.besideAxes :=
  (State.setAx_besideAxes _ _ _).trans (s.axDone_besideAxes a stAborted)

@[simp] theorem State.fail_besideAxes (s : State) (q st : Nat) : (s.fail q st).besideAxes = s.besideAxes := State.complete_besideAxes ..

theorem State.setPositionCmd_own (s : State) (q a : Nat) (p : Int) : Tame s (s.setPositionCmd q a p) ∧
    (s.setPositionCmd q a p).besideAxes = s.besideAxes := by
  unfold State.setPositionCmd
  split
  · exact ⟨s.fail_tame q _, s.fail_besideAxes q _⟩
  · exact ⟨(s.setAx_tame a _).trans (State.ok_tame _ q 0), State.complete_besideAxes ..⟩

theorem State.moveCmd_own (s : State) (q a : Nat) (p : Int) (v : Nat) : Tame s (s.moveCmd q a p v) ∧
    (s.moveCmd q a p v).besideAxes = s.besideAxes := by
  unfold State.moveCmd
  split
  · exact ⟨s.fail_tame q _, s.fail_besideAxes q _⟩
  split
  · exact ⟨s.fail_tame q _, s.fail_besideAxes q _⟩
  split
  · exact ⟨s.fail_tame q _, s.fail_besideAxes q _⟩
  · exact ⟨(s.axisCmd_tame q a).trans (State.axMove_tame _ a _ p v), by simp⟩

theorem State.homeCmd_own (s : State) (q a : Nat) (p : Int) : Tame s (s.homeCmd q a p) ∧ (s.homeCmd q a p).besideAxes = s.besideAxes := by
  unfold State.homeCmd
  split
  · exact ⟨s.fail_tame q _, s.fail_besideAxes q _⟩
  · exact ⟨(s.axisCmd_tame q a).trans (State.axHome_tame _ a _ p), by simp⟩

theorem State.stopCmd_own (s : State) (q a : Nat) (b : Bool) : Tame s (s.stopCmd q a b) ∧ (s.stopCmd q a b).besideAxes = s.besideAxes := by
  unfold State.stopCmd
  split
  · exact ⟨s.fail_tame q _, s.fail_besideAxes q _⟩
  · exact ⟨(s.axisCmd_tame q a).trans (State.axStop_tame _ a _ b), by simp⟩

/-! ## Supers and keys -/

theorem State.setSuper_own (s : State) (x : Nat) (u : Super) : Tame s (s.setSuper x u) ∧ ∃ y, s.setSuper x u = { s with sup := y } := by
  unfold State.setSuper
  split <;> exact ⟨.of_same rfl rfl rfl rfl rfl, _, rfl⟩

theorem State.pushWork_own (s : State) (w : KeyWork) : Tame s (s.pushWork w) ∧ ∃ k h m n, s.pushWork w = { s with key := k, hst := h, mgt := m, fresh := n } :=
  ⟨.of_same rfl rfl rfl rfl rfl, _, s.hst, s.mgt, _, rfl⟩

theorem State.request_own (s : State) (eng : Nat) (l : List Nat) : Tame s (s.request eng l) ∧
    ∃ h k, s.request eng l = { s with hst := h, key := k } := by
  refine ⟨(foldl_calm _ (fun u n => u.keyFor_calm eng n) l s).tame, ?_⟩
  unfold State.request
  induction l generalizing s with
  | nil => exact ⟨_, _, rfl⟩
  | cons n l ih =>
    obtain ⟨h, k, e⟩ := s.keyFor_only eng n
    obtain ⟨h', k', e'⟩ := ih (s.keyFor eng n).1
    exact ⟨h', k', by rw [List.foldl_cons, e', e]⟩

theorem State.writeImage_own (s : State) (q x o : Nat) (d : List Byte) : Tame s (s.writeImage q x o d) ∧
    ∃ y h m, s.writeImage q x o d = { s with sup := y, hst := h, mgt := m } := by
  have refused : ∀ st, Tame s (s.fail q st) ∧ ∃ y h m, s.fail q st = { s with sup := y, hst := h, mgt := m } := fun st => by
    obtain ⟨h, m, e⟩ := s.fail_host q st
    exact ⟨s.fail_tame q st, _, h, m, e⟩
  unfold State.writeImage
  dsimp only
  split
  · exact refused _
  split
  · exact refused _
  split
  · exact refused _
  split
  · exact refused _
  · obtain ⟨tame, y, e⟩ := s.setSuper_own x { (s.super x) with st := .writing, bytes := putBytes (s.super x).bytes o d }
    obtain ⟨h, m, e'⟩ := (s.setSuper x { (s.super x) with st := .writing, bytes := putBytes (s.super x).bytes o d }).ok_host q 0
    exact ⟨tame.trans (State.ok_tame _ q 0), y, h, m, by rw [e', e]⟩

theorem State.verifyImage_own (s : State) (q x : Nat) : Tame s (s.verifyImage q x) ∧
    ∃ k h m n, s.verifyImage q x = { s with key := k, hst := h, mgt := m, fresh := n } := by
  unfold State.verifyImage
  split
  · obtain ⟨h, m, e⟩ := s.ok_host q (s.super x).st.code
    exact ⟨s.ok_tame q _, _, h, m, _, e⟩
  split
  · obtain ⟨h, m, e⟩ := s.fail_host q stBusy
    exact ⟨s.fail_tame q _, _, h, m, _, e⟩
  · exact s.pushWork_own _

theorem State.invalidate_own (s : State) (x st : Nat) : Tame s (s.invalidate x st) ∧ ∃ y, s.invalidate x st = { s with sup := y } := by
  unfold State.invalidate
  dsimp only
  split
  · obtain ⟨tame, y, e⟩ := State.setSuper_own { s with sup := { s.sup with overlay := [] } } x _
    refine ⟨Tame.trans ?_ tame, y, e⟩
    exact .of_same rfl rfl rfl rfl rfl
  · exact s.setSuper_own x _

theorem State.armCmd_own (s : State) (q x k : Nat) : Tame s (s.armCmd q x k) ∧
    ∃ y h m, s.armCmd q x k = { s with sup := y, hst := h, mgt := m } := by
  unfold State.armCmd
  dsimp only
  split
  · obtain ⟨tame, y, e⟩ := s.setSuper_own x { (s.super x) with st := .armed }
    unfold State.armSwap State.superTo
    rw [e] at tame ⊢
    exact ⟨tame.trans (.of_same rfl rfl rfl rfl rfl), _, _, _, rfl⟩
  · have tidied : ∀ b : Bool, ∀ st, Tame s (if b then s.invalidate x st else s) ∧ ∃ y, (if b then s.invalidate x st else s) = { s with sup := y } :=
      fun b st => by
        cases b
        · exact ⟨.refl s, _, rfl⟩
        · exact s.invalidate_own x st
    obtain ⟨tame, y, e⟩ := tidied (decide (s.armStatus x (toSigned 64 k) = stCounterStale)) (s.armStatus x (toSigned 64 k))
    simp only [decide_eq_true_eq] at tame e
    obtain ⟨h, m, e'⟩ := State.fail_host { s with sup := y } q (s.armStatus x (toSigned 64 k))
    exact ⟨tame.trans (State.fail_tame _ q _), y, h, m, by rw [e, e']⟩

theorem State.dropSwap_tame (s : State) (st : SuperSt) (n : Nat) : Tame s (s.dropSwap st n) := by
  unfold State.dropSwap
  split
  · exact .refl s
  · rename_i a _
    have dropped : Tame s { (s.superTo a.super st) with sup := { (s.superTo a.super st).sup with armed := none, staged := none } } :=
      (s.setSuper_own a.super _).1.trans (.of_same rfl rfl rfl rfl rfl)
    dsimp only
    split
    · exact dropped.trans (State.fail_tame _ _ n)
    · exact dropped

theorem State.disarmCmd_own (s : State) (q : Nat) : Tame s (s.disarmCmd q) ∧
    ∃ y h m, s.disarmCmd q = { s with sup := y, hst := h, mgt := m } := by
  have refused : ∀ st, Tame s (s.fail q st) ∧ ∃ y h m, s.fail q st = { s with sup := y, hst := h, mgt := m } := fun st => by
    obtain ⟨h, m, e⟩ := s.fail_host q st
    exact ⟨s.fail_tame q st, _, h, m, e⟩
  unfold State.disarmCmd
  split
  · exact refused _
  split
  · exact refused _
  · obtain ⟨y, h, m, e⟩ := s.dropSwap_only .loaded stAborted
    obtain ⟨h', m', e'⟩ := (s.dropSwap .loaded stAborted).ok_host q 0
    exact ⟨(s.dropSwap_tame _ _).trans (State.ok_tame _ q 0), y, h', m', by rw [e', e]⟩

/-- A key command that is refused, with the engine denied or not, moves the key island and its own completion. -/
theorem State.refused_key (s : State) (q st eng : Nat) (l : List Nat) (b : Bool) :
    Tame s ((if b then s.request eng l else s).fail q st) ∧
      ∃ k h m n, (if b then s.request eng l else s).fail q st = { s with key := k, hst := h, mgt := m, fresh := n } := by
  have asked : Tame s (if b then s.request eng l else s) ∧ ∃ h k, (if b then s.request eng l else s) = { s with hst := h, key := k } := by
    cases b
    · exact ⟨.refl s, _, _, rfl⟩
    · exact s.request_own eng l
  obtain ⟨tame, h, k, e⟩ := asked
  obtain ⟨h', m, e'⟩ := State.fail_host { s with hst := h, key := k } q st
  exact ⟨tame.trans (State.fail_tame _ q st), k, h', m, _, by rw [e, e']⟩

theorem State.updateCmd_own (s : State) (q : Nat) (d : List Byte) : Tame s (s.updateCmd q d) ∧
    ∃ k h m n, s.updateCmd q d = { s with key := k, hst := h, mgt := m, fresh := n } := by
  unfold State.updateCmd
  split
  · exact s.refused_key q _ 0 [] false
  · exact s.pushWork_own _

theorem State.attestCmd_own (s : State) (q n : Nat) (d : List Byte) : Tame s (s.attestCmd q n d) ∧
    ∃ k h m f, s.attestCmd q n d = { s with key := k, hst := h, mgt := m, fresh := f } := by
  unfold State.attestCmd
  split
  · exact s.refused_key q _ 0 [] false
  split
  · exact s.refused_key q _ engAttest [0, 1] true
  · exact s.pushWork_own _

theorem State.legacyExportCmd_own (s : State) (q n w : Nat) : Tame s (s.legacyExportCmd q n w) ∧
    ∃ k h m f, s.legacyExportCmd q n w = { s with key := k, hst := h, mgt := m, fresh := f } := by
  unfold State.legacyExportCmd
  dsimp only
  split
  · exact s.pushWork_own _
  · have := s.refused_key q (s.exportStatus n w) engWrap [w] (decide (s.exportStatus n w = stEngineDenied))
    simpa only [decide_eq_true_eq] using this

theorem State.slotQueryCmd_own (s : State) (q n : Nat) : Tame s (s.slotQueryCmd q n) ∧
    ∃ k h m f, s.slotQueryCmd q n = { s with key := k, hst := h, mgt := m, fresh := f } := by
  obtain ⟨h, m, e⟩ := s.complete_host q 0 0 none (s.slotRecord n)
  exact ⟨s.complete_tame _ _ _ _ _, _, h, m, _, e⟩

/-! ## Values, stations, solvers, converters, networks, panel, time -/

theorem foldl_applyItem_own (l : List (ValueEntry × Word)) (s : State) : Tame s (l.foldl State.applyItem s) ∧
    ∃ y c, l.foldl State.applyItem s = { s with sup := y, chn := c } := by
  induction l generalizing s with
  | nil => exact ⟨.refl s, _, _, rfl⟩
  | cons p l ih =>
    obtain ⟨tame, y, c, e⟩ := ih (s.applyItem p)
    refine ⟨Tame.trans ?_ tame, y, c, by rw [List.foldl_cons, e]; rfl⟩
    exact .of_same rfl rfl rfl rfl rfl

theorem State.editCmd_own (s : State) (q : Nat) (l : List (Nat × Word)) : Tame s (s.editCmd q l) ∧
    ∃ y c h m n, s.editCmd q l = { s with sup := y, chn := c, hst := h, mgt := m, fresh := n } := by
  unfold State.editCmd
  dsimp only
  split
  · obtain ⟨h, m, e⟩ := s.fail_host q (s.editStatus l).1
    exact ⟨s.fail_tame q _, _, _, h, m, _, e⟩
  split
  · exact ⟨.of_same rfl rfl rfl rfl rfl, _, _, _, _, _, rfl⟩
  · obtain ⟨tame, y, c, e⟩ := foldl_applyItem_own (s.editStatus l).2 s
    obtain ⟨h, m, e'⟩ := ((s.editStatus l).2.foldl State.applyItem s).ok_host q 0
    exact ⟨tame.trans (State.ok_tame _ q 0), y, c, h, m, _, by rw [e', e]⟩

theorem State.readCmd_own (s : State) (q : Nat) (l : List Nat) : Tame s (s.readCmd q l) ∧
    ∃ y c h m n, s.readCmd q l = { s with sup := y, chn := c, hst := h, mgt := m, fresh := n } := by
  unfold State.readCmd
  split
  · obtain ⟨h, m, e⟩ := s.fail_host q stValueUnknown
    exact ⟨s.fail_tame q _, _, _, h, m, _, e⟩
  split
  · exact ⟨.of_same rfl rfl rfl rfl rfl, _, _, _, _, _, rfl⟩
  · unfold State.doRead
    dsimp only
    obtain ⟨h, m, e⟩ := (s.spend l.length).complete_host q 0 (s.readValues l).2 none (s.readValues l).1
    refine ⟨Tame.trans ?_ (State.complete_tame _ _ _ _ _ _), _, _, h, m, _, e⟩
    exact .of_same rfl rfl rfl rfl rfl

theorem State.simulateCmd_own (s : State) (q n mode : Nat) (b : List Byte) : Tame s (s.simulateCmd q n mode b) ∧
    ∃ y h m, s.simulateCmd q n mode b = { s with stn := y, hst := h, mgt := m } := by
  unfold State.simulateCmd
  split
  · obtain ⟨h, m, e⟩ := s.fail_host q stStationUndeclared
    exact ⟨s.fail_tame q _, _, h, m, e⟩
  · exact ⟨.of_same rfl rfl rfl rfl rfl, _, _, _, rfl⟩

theorem State.deltaCmd_own (s : State) (q : Nat) (r : List Byte) : Tame s (s.deltaCmd q r) ∧
    ∃ y h m, s.deltaCmd q r = { s with slv := y, hst := h, mgt := m } := by
  have refused : ∀ st, Tame s (s.fail q st) ∧ ∃ y h m, s.fail q st = { s with slv := y, hst := h, mgt := m } := fun st => by
    obtain ⟨h, m, e⟩ := s.fail_host q st
    exact ⟨s.fail_tame q st, _, h, m, e⟩
  unfold State.deltaCmd
  dsimp only
  split
  · exact refused _
  split
  · exact refused _
  split
  · exact refused _
  · constructor
    · refine Tame.trans ?_ (State.ok_tame _ q 0)
      exact .of_same rfl rfl rfl rfl rfl
    · obtain ⟨h, m, e⟩ := State.ok_host { s with slv := _ } q 0
      exact ⟨_, h, m, e⟩

theorem State.calibrateCmd_own (s : State) (q p : Nat) (c : CalSums) : Tame s (s.calibrateCmd q p c) ∧
    ∃ y h m, s.calibrateCmd q p c = { s with adc := y, hst := h, mgt := m } := by
  have calibrated : Tame s (s.calibratePair p c) ∧ ∃ y, s.calibratePair p c = { s with adc := y } := by
    unfold State.calibratePair
    dsimp only
    split <;> exact ⟨.of_same rfl rfl rfl rfl rfl, _, rfl⟩
  obtain ⟨tame, y, e⟩ := calibrated
  unfold State.calibrateCmd
  dsimp only
  split
  · obtain ⟨h, m, e'⟩ := (s.calibratePair p c).ok_host q 0
    exact ⟨tame.trans (State.ok_tame _ q 0), y, h, m, by rw [e', e]⟩
  · obtain ⟨h, m, e'⟩ := (s.calibratePair p c).fail_host q stCalFailed
    exact ⟨tame.trans (State.fail_tame _ q _), y, h, m, by rw [e', e]⟩

theorem State.txAnCmd_own (s : State) (q p a : Nat) : Tame s (s.txAnCmd q p a) ∧
    ∃ y h m, s.txAnCmd q p a = { s with eth := y, hst := h, mgt := m } := by
  have refused : ∀ st, Tame s (s.fail q st) ∧ ∃ y h m, s.fail q st = { s with eth := y, hst := h, mgt := m } := fun st => by
    obtain ⟨h, m, e⟩ := s.fail_host q st
    exact ⟨s.fail_tame q st, _, h, m, e⟩
  unfold State.txAnCmd
  split
  · exact refused _
  split
  · exact refused _
  · exact ⟨.of_same rfl rfl rfl rfl rfl, _, _, _, rfl⟩

theorem State.mapWriteCmd_own (s : State) (q n : Nat) (d : List Byte) : Tame s (s.mapWriteCmd q n d) ∧
    ∃ y h m, s.mapWriteCmd q n d = { s with pnl := y, hst := h, mgt := m } := by
  unfold State.mapWriteCmd
  split
  · obtain ⟨h, m, e⟩ := s.fail_host q stPanelAbsent
    exact ⟨s.fail_tame q _, _, h, m, e⟩
  · obtain ⟨h, m, e⟩ := (s.mapWrite n d).ok_host q 0
    refine ⟨Tame.trans ?_ (State.ok_tame _ q 0), _, h, m, e⟩
    exact .of_same rfl rfl rfl rfl rfl

theorem State.domainSelectCmd_own (s : State) (q : Nat) (d : Dom) : Tame s (s.domainSelectCmd q d) ∧
    ∃ x l y h m, s.domainSelectCmd q d = { s with tim := x, clk := { s.clk with freqJobs := l }, mtr := y, hst := h, mgt := m } := by
  unfold State.domainSelectCmd
  split
  · obtain ⟨x, e⟩ := s.setActive_only d
    obtain ⟨z, l, x', y, e'⟩ := (s.setActive d).settleTime_only
    obtain ⟨h, m, e''⟩ := ((s.setActive d).settleTime).ok_host q 0
    refine ⟨fun r => State.ok_tame _ q 0 ?_, z, l, y, h, m, by rw [e'', e', e]⟩
    have active : Raised s (s.setActive d) := s.setActive_raised r.events d
    exact (active.trans (State.settleTime_raised (active.settled r.events))).tame r
  · obtain ⟨h, m, e⟩ := s.fail_host q stNotLocked
    exact ⟨s.fail_tame q _, _, _, _, h, m, e⟩

theorem State.freqMeasureCmd_own (s : State) (q x : Nat) : Tame s (s.freqMeasureCmd q x) ∧
    ∃ l, s.freqMeasureCmd q x = { s with clk := { s.clk with freqJobs := l } } :=
  ⟨.of_same rfl rfl rfl rfl rfl, _, rfl⟩

/-! ## The commands by their units -/

/-- A relation between the block before and after that holds when the hand-over, its completion and service alone have acted. -/
structure HostFrame (F : State → State → Prop) : Prop where
  refused : ∀ (s : State) (x : Hst) (m : Mgt), F s { s with hst := x, mgt := m }
  taken : ∀ (s w : State) (c : Instr) (h : Hdr) (x : Hst), F (s.atTaking c h) w → F s { w with hst := x }

/-- A command whose effect keeps a block at rest and stays within `F` stays within `F` when it is handed to an idle block. -/
theorem HostFrame.exec {F : State → State → Prop} (f : HostFrame F) {s t : State} {h : Hdr} {q : Qp} {c : Instr} {o : Nat}
    (hq : Claim.Quiet s h q) (hx : exec c s = .next t) (he : hostEntry c = some (o, h)) (ha : authorised o = false)
    (own : ∀ v : State, Tame v (v.hostDo s.mgt.seq c) ∧ F v (v.hostDo s.mgt.seq c)) : F s t := by
  obtain ⟨x, m, rfl⟩ | ⟨x, rfl⟩ := exec_effect hq he ha hx (fun v => (own v).1)
  · exact f.refused s x m
  · exact f.taken s _ c h x (own _).2

/-- Besides what any event may move, only the units that `G` takes from the second state have changed. -/
def Moves (G : State → State → State) (s t : State) : Prop := Claim.Elsewhere (G s t) t

theorem Moves.of_eq {G : State → State → State} {s t u : State} (e : t = u) (h : Moves G s u) : Moves G s t := e ▸ h

/-- A state with what any event may move taken from another, and the host interface given. -/
def State.withElsewhere (s t : State) (x : Hst) : State :=
  { s with tim := t.tim, clk := { s.clk with freqJobs := t.clk.freqJobs }, hst := x, rcd := t.rcd, fresh := t.fresh }

theorem HostFrame.of_units {G : State → State → State} (refused : ∀ (s : State) (x : Hst) (m : Mgt), Moves G s { s with hst := x, mgt := m })
    (units : ∀ (s w : State) (c : Instr) (h : Hdr) (x : Hst),
      ({ (G (s.atTaking c h) w) with hst := x } : State) = { (G s { w with hst := x }) with hst := x }) : HostFrame (Moves G) where
  refused := refused
  taken s w c h x e := by
    have here : w = (G (s.atTaking c h) w).withElsewhere w w.hst := e
    have put : ({ w with hst := x } : State) = (G (s.atTaking c h) w).withElsewhere w x := congrArg (fun z : State => ({ z with hst := x } : State)) here
    have moved := congrArg (fun z : State => z.withElsewhere w x) (units s w c h x)
    exact put.trans moved

theorem keyCommands_stay {s t : State} {h : Hdr} {q : Qp} {c : Instr} {p : QpParam} (hq : Claim.Quiet s h q)
    (hx : exec c s = .next t) (hc : c ∈ [Instr.challenge h, .qpCreate h p, .freeze h, .thaw h]) :
    Moves (fun s t => { s with mgt := t.mgt, key := t.key }) s t := by
  have frame : HostFrame (Moves fun s t => { s with mgt := t.mgt, key := t.key }) :=
    .of_units (fun _ _ _ => rfl) (fun _ _ _ _ _ => rfl)
  simp only [List.mem_cons, List.not_mem_nil, or_false] at hc
  obtain rfl | rfl | rfl | rfl := hc
  · refine frame.exec hq hx rfl rfl fun v => ?_
    obtain ⟨tame, _, _, _, _, e⟩ := v.challengeCmd_own s.mgt.seq
    exact ⟨tame, .of_eq e rfl⟩
  · refine frame.exec hq hx rfl rfl fun v => ?_
    obtain ⟨tame, _, _, e⟩ := v.qpCreate_own s.mgt.seq p
    exact ⟨tame, .of_eq e rfl⟩
  · refine frame.exec hq hx rfl rfl fun v => ?_
    obtain ⟨tame, _, _, _, _, e⟩ := v.freezeCmd_own s.mgt.seq
    exact ⟨tame, .of_eq e rfl⟩
  · refine frame.exec hq hx rfl rfl fun v => ?_
    obtain ⟨tame, _, _, _, _, e⟩ := v.thawCmd_own s.mgt.seq
    exact ⟨tame, .of_eq e rfl⟩

theorem readings_stay {s t : State} {h : Hdr} {q : Qp} {c : Instr} {f n r : Nat} (hq : Claim.Quiet s h q)
    (hx : exec c s = .next t) (hc : c ∈ [Instr.recRead h f n, .freqMeasure h r]) :
    Moves (fun s t => { s with mgt := t.mgt }) s t := by
  have frame : HostFrame (Moves fun s t => { s with mgt := t.mgt }) :=
    .of_units (fun _ _ _ => rfl) (fun _ _ _ _ _ => rfl)
  simp only [List.mem_cons, List.not_mem_nil, or_false] at hc
  obtain rfl | rfl := hc
  · refine frame.exec hq hx rfl rfl fun v => ?_
    obtain ⟨tame, _, _, _, e⟩ := v.recReadCmd_own s.mgt.seq f n
    exact ⟨tame, .of_eq e rfl⟩
  · refine frame.exec hq hx rfl rfl fun v => ?_
    obtain ⟨tame, _, e⟩ := v.freqMeasureCmd_own s.mgt.seq r
    exact ⟨tame, .of_eq e rfl⟩

theorem calendarCommands_stay {s t : State} {h : Hdr} {q : Qp} {c : Instr} {n : Int} {x : Civil} {k p m b : Nat} (hq : Claim.Quiet s h q)
    (hx : exec c s = .next t) (hc : c ∈ [Instr.rtcTrim h n, .alarmSet h m p b k x, .rtcSet h x, .addHour h, .subHour h, .rtcFromPtp h]) :
    Moves (fun s t => { s with mgt := t.mgt, rtc := t.rtc }) s t := by
  have frame : HostFrame (Moves fun s t => { s with mgt := t.mgt, rtc := t.rtc }) :=
    .of_units (fun _ _ _ => rfl) (fun _ _ _ _ _ => rfl)
  simp only [List.mem_cons, List.not_mem_nil, or_false] at hc
  obtain rfl | rfl | rfl | rfl | rfl | rfl := hc
  · refine frame.exec hq hx rfl rfl fun v => ?_
    obtain ⟨tame, _, _, _, e⟩ := v.rtcTrimCmd_own s.mgt.seq n
    exact ⟨tame, .of_eq e rfl⟩
  · refine frame.exec hq hx rfl rfl fun v => ?_
    obtain ⟨tame, _, _, _, e⟩ := v.alarmSetCmd_own s.mgt.seq m p b k x
    exact ⟨tame, .of_eq e rfl⟩
  · refine frame.exec hq hx rfl rfl fun v => ?_
    obtain ⟨tame, _, _, _, e⟩ := v.rtcSetCmd_own s.mgt.seq x
    exact ⟨tame, .of_eq e rfl⟩
  · refine frame.exec hq hx rfl rfl fun v => ?_
    obtain ⟨tame, _, _, _, e⟩ := v.pushAdj_own s.mgt.seq .addHour
    exact ⟨tame, .of_eq e rfl⟩
  · refine frame.exec hq hx rfl rfl fun v => ?_
    obtain ⟨tame, _, _, _, e⟩ := v.pushAdj_own s.mgt.seq .subHour
    exact ⟨tame, .of_eq e rfl⟩
  · refine frame.exec hq hx rfl rfl fun v => ?_
    obtain ⟨tame, _, _, _, e⟩ := v.rtcFromPtpCmd_own s.mgt.seq
    exact ⟨tame, .of_eq e rfl⟩

theorem axisCommands_stay {s t : State} {h : Hdr} {q : Qp} {c : Instr} {a v d : Nat} {p : Int} (hq : Claim.Quiet s h q)
    (hx : exec c s = .next t) (hc : c ∈ [Instr.setPosition h a p, .move h a p v, .home h a p, .stop h a d]) :
    Moves (fun s t => { s with mgt := t.mgt, axs := t.axs }) s t := by
  have frame : HostFrame (Moves fun s t => { s with mgt := t.mgt, axs := t.axs }) :=
    .of_units (fun _ _ _ => rfl) (fun _ _ _ _ _ => rfl)
  have beside : ∀ {u w : State}, Tame u w ∧ w.besideAxes = u.besideAxes →
      Tame u w ∧ Moves (fun s t => { s with mgt := t.mgt, axs := t.axs }) u w := fun {u w} ⟨tame, e⟩ => by
    obtain ⟨_, _, _, e⟩ := State.of_besideAxes e
    exact ⟨tame, .of_eq e rfl⟩
  simp only [List.mem_cons, List.not_mem_nil, or_false] at hc
  obtain rfl | rfl | rfl | rfl := hc
  · exact frame.exec hq hx rfl rfl fun w => beside (w.setPositionCmd_own _ a p)
  · exact frame.exec hq hx rfl rfl fun w => beside (w.moveCmd_own _ a p v)
  · exact frame.exec hq hx rfl rfl fun w => beside (w.homeCmd_own _ a p)
  · exact frame.exec hq hx rfl rfl fun w => beside (w.stopCmd_own _ a _)

theorem swapCommands_stay {s t : State} {h : Hdr} {q : Qp} {c : Instr} {x o : Nat} {b : List Byte} (hq : Claim.Quiet s h q)
    (hx : exec c s = .next t) (hc : c ∈ [Instr.write h x o b, .verify h x, .arm h x o, .disarm h]) :
    Moves (fun s t => { s with mgt := t.mgt, sup := t.sup, key := t.key }) s t := by
  have frame : HostFrame (Moves fun s t => { s with mgt := t.mgt, sup := t.sup, key := t.key }) :=
    .of_units (fun _ _ _ => rfl) (fun _ _ _ _ _ => rfl)
  simp only [List.mem_cons, List.not_mem_nil, or_false] at hc
  obtain rfl | rfl | rfl | rfl := hc
  · refine frame.exec hq hx rfl rfl fun v => ?_
    obtain ⟨tame, _, _, _, e⟩ := v.writeImage_own s.mgt.seq x o b
    exact ⟨tame, .of_eq e rfl⟩
  · refine frame.exec hq hx rfl rfl fun v => ?_
    obtain ⟨tame, _, _, _, _, e⟩ := v.verifyImage_own s.mgt.seq x
    exact ⟨tame, .of_eq e rfl⟩
  · refine frame.exec hq hx rfl rfl fun v => ?_
    obtain ⟨tame, _, _, _, e⟩ := v.armCmd_own s.mgt.seq x o
    exact ⟨tame, .of_eq e rfl⟩
  · refine frame.exec hq hx rfl rfl fun v => ?_
    obtain ⟨tame, _, _, _, e⟩ := v.disarmCmd_own s.mgt.seq
    exact ⟨tame, .of_eq e rfl⟩

theorem keyWorkCommands_stay {s t : State} {h : Hdr} {q : Qp} {c : Instr} {x n m r : Nat} {b : List Byte} (hq : Claim.Quiet s h q)
    (hx : exec c s = .next t) (hc : c ∈ [Instr.update h b, .attest h n b, .legacyExport h n m, .identity h, .slotQuery h r, .verify h x]) :
    Moves (fun s t => { s with mgt := t.mgt, key := t.key }) s t := by
  have frame : HostFrame (Moves fun s t => { s with mgt := t.mgt, key := t.key }) :=
    .of_units (fun _ _ _ => rfl) (fun _ _ _ _ _ => rfl)
  simp only [List.mem_cons, List.not_mem_nil, or_false] at hc
  obtain rfl | rfl | rfl | rfl | rfl | rfl := hc
  · refine frame.exec hq hx rfl rfl fun v => ?_
    obtain ⟨tame, _, _, _, _, e⟩ := v.updateCmd_own s.mgt.seq b
    exact ⟨tame, .of_eq e rfl⟩
  · refine frame.exec hq hx rfl rfl fun v => ?_
    obtain ⟨tame, _, _, _, _, e⟩ := v.attestCmd_own s.mgt.seq n b
    exact ⟨tame, .of_eq e rfl⟩
  · refine frame.exec hq hx rfl rfl fun v => ?_
    obtain ⟨tame, _, _, _, _, e⟩ := v.legacyExportCmd_own s.mgt.seq n m
    exact ⟨tame, .of_eq e rfl⟩
  · refine frame.exec hq hx rfl rfl fun v => ?_
    obtain ⟨tame, _, _, _, _, e⟩ := v.pushWork_own (.identity s.mgt.seq)
    exact ⟨tame, .of_eq e rfl⟩
  · refine frame.exec hq hx rfl rfl fun v => ?_
    obtain ⟨tame, _, _, _, _, e⟩ := v.slotQueryCmd_own s.mgt.seq r
    exact ⟨tame, .of_eq e rfl⟩
  · refine frame.exec hq hx rfl rfl fun v => ?_
    obtain ⟨tame, _, _, _, _, e⟩ := v.verifyImage_own s.mgt.seq x
    exact ⟨tame, .of_eq e rfl⟩

theorem valueCommands_stay {s t : State} {h : Hdr} {q : Qp} {c : Instr} {l : List (Nat × Word)} {r : List Nat} (hq : Claim.Quiet s h q)
    (hx : exec c s = .next t) (hc : c ∈ [Instr.edit h l, .read h r]) :
    Moves (fun s t => { s with mgt := t.mgt, sup := t.sup, chn := t.chn }) s t := by
  have frame : HostFrame (Moves fun s t => { s with mgt := t.mgt, sup := t.sup, chn := t.chn }) :=
    .of_units (fun _ _ _ => rfl) (fun _ _ _ _ _ => rfl)
  simp only [List.mem_cons, List.not_mem_nil, or_false] at hc
  obtain rfl | rfl := hc
  · refine frame.exec hq hx rfl rfl fun v => ?_
    obtain ⟨tame, _, _, _, _, _, e⟩ := v.editCmd_own s.mgt.seq l
    exact ⟨tame, .of_eq e rfl⟩
  · refine frame.exec hq hx rfl rfl fun v => ?_
    obtain ⟨tame, _, _, _, _, _, e⟩ := v.readCmd_own s.mgt.seq r
    exact ⟨tame, .of_eq e rfl⟩

theorem simulate_stays {s t : State} {h : Hdr} {q : Qp} {n m : Nat} {b : List Byte} (hq : Claim.Quiet s h q)
    (hx : exec (.simulate h n m b) s = .next t) : Moves (fun s t => { s with mgt := t.mgt, stn := t.stn }) s t := by
  have frame : HostFrame (Moves fun s t => { s with mgt := t.mgt, stn := t.stn }) := .of_units (fun _ _ _ => rfl) (fun _ _ _ _ _ => rfl)
  refine frame.exec hq hx rfl rfl fun v => ?_
  obtain ⟨tame, _, _, _, e⟩ := v.simulateCmd_own s.mgt.seq n m b
  exact ⟨tame, .of_eq e rfl⟩

theorem delta_stays {s t : State} {h : Hdr} {q : Qp} {r : List Byte} (hq : Claim.Quiet s h q)
    (hx : exec (.delta h r) s = .next t) : Moves (fun s t => { s with mgt := t.mgt, slv := t.slv }) s t := by
  have frame : HostFrame (Moves fun s t => { s with mgt := t.mgt, slv := t.slv }) := .of_units (fun _ _ _ => rfl) (fun _ _ _ _ _ => rfl)
  refine frame.exec hq hx rfl rfl fun v => ?_
  obtain ⟨tame, _, _, _, e⟩ := v.deltaCmd_own s.mgt.seq r
  exact ⟨tame, .of_eq e rfl⟩

theorem calibrate_stays {s t : State} {h : Hdr} {q : Qp} {p : Nat} {x : CalSums} (hq : Claim.Quiet s h q)
    (hx : exec (.calibrate h p x) s = .next t) : Moves (fun s t => { s with mgt := t.mgt, adc := t.adc }) s t := by
  have frame : HostFrame (Moves fun s t => { s with mgt := t.mgt, adc := t.adc }) := .of_units (fun _ _ _ => rfl) (fun _ _ _ _ _ => rfl)
  refine frame.exec hq hx rfl rfl fun v => ?_
  obtain ⟨tame, _, _, _, e⟩ := v.calibrateCmd_own s.mgt.seq p x
  exact ⟨tame, .of_eq e rfl⟩

theorem txAn_stays {s t : State} {h : Hdr} {q : Qp} {p a : Nat} (hq : Claim.Quiet s h q)
    (hx : exec (.txAn h p a) s = .next t) : Moves (fun s t => { s with mgt := t.mgt, eth := t.eth }) s t := by
  have frame : HostFrame (Moves fun s t => { s with mgt := t.mgt, eth := t.eth }) := .of_units (fun _ _ _ => rfl) (fun _ _ _ _ _ => rfl)
  refine frame.exec hq hx rfl rfl fun v => ?_
  obtain ⟨tame, _, _, _, e⟩ := v.txAnCmd_own s.mgt.seq p a
  exact ⟨tame, .of_eq e rfl⟩

theorem mapWrite_stays {s t : State} {h : Hdr} {q : Qp} {m : Nat} {b : List Byte} (hq : Claim.Quiet s h q)
    (hx : exec (.mapWrite h m b) s = .next t) : Moves (fun s t => { s with mgt := t.mgt, pnl := t.pnl }) s t := by
  have frame : HostFrame (Moves fun s t => { s with mgt := t.mgt, pnl := t.pnl }) := .of_units (fun _ _ _ => rfl) (fun _ _ _ _ _ => rfl)
  refine frame.exec hq hx rfl rfl fun v => ?_
  obtain ⟨tame, _, _, _, e⟩ := v.mapWriteCmd_own s.mgt.seq m b
  exact ⟨tame, .of_eq e rfl⟩

theorem domainSelect_stays {s t : State} {h : Hdr} {q : Qp} {d : Dom} (hq : Claim.Quiet s h q)
    (hx : exec (.domainSelect h d) s = .next t) : Moves (fun s t => { s with mgt := t.mgt, mtr := t.mtr }) s t := by
  have frame : HostFrame (Moves fun s t => { s with mgt := t.mgt, mtr := t.mtr }) := .of_units (fun _ _ _ => rfl) (fun _ _ _ _ _ => rfl)
  refine frame.exec hq hx rfl rfl fun v => ?_
  obtain ⟨tame, _, _, _, _, _, e⟩ := v.domainSelectCmd_own s.mgt.seq d
  exact ⟨tame, .of_eq e rfl⟩

/-- Settles O60: every command by the units its effect moves, taken, refused, or held. -/
theorem commandsStayInTheirUnits : Obligations.CommandsStayInTheirUnits := by
  unfold Obligations.CommandsStayInTheirUnits
  intro s h q c t hq hx
  refine ⟨fun p hc => keyCommands_stay hq hx hc, fun f n r hc => readings_stay hq hx hc, fun n x p m e hc => calendarCommands_stay hq hx hc,
    fun a p v d hc => axisCommands_stay hq hx hc, fun x o b hc => swapCommands_stay hq hx hc, fun x n b m r hc => ?keys,
    fun l r hc => valueCommands_stay hq hx hc, ?_, ?_, ?_, ?_, ?_, ?_⟩
  case keys =>
    obtain hc | rfl := hc
    · refine keyWorkCommands_stay (x := x) (n := n) (m := m) (r := r) (b := b) hq hx ?_
      simp only [List.mem_cons, List.not_mem_nil, or_false] at hc ⊢
      tauto
    · exact keyWorkCommands_stay (x := x) (b := b) (n := n) (m := m) (r := r) hq hx (by simp only [List.mem_cons, or_true, true_or])
  · rintro n m b rfl; exact simulate_stays hq hx
  · rintro r rfl; exact delta_stays hq hx
  · rintro p x rfl; exact calibrate_stays hq hx
  · rintro p a rfl; exact txAn_stays hq hx
  · rintro m b rfl; exact mapWrite_stays hq hx
  · rintro d rfl; exact domainSelect_stays hq hx

end Sys2Proof.Machine
end

section
/-!
PROOFS. A CAN frame is received while an Ethernet frame and a buffer of its stream wait: the host island, served after the reception,
takes the Ethernet frame too.
-/
namespace Sys2Proof.Machine

/-- In SETUP, port E0 has received a frame that its stream, with one buffer, has not yet taken. -/
def frameOnPort : State :=
  { State.reset with
    pwr := { State.reset.pwr with power := .service }
    clk := { State.reset.clk with wait := [] }
    mgt := { State.reset.mgt with run := .setup }
    hst := { State.reset.hst with qps := [{ newQp 2 4 4 0 false 0 0 1 with bufs := [default] }] }
    eth := { State.reset.eth with ports := [{ (State.reset.port 0) with rx := [([], 0, false)] }] } }

/-- Receiving a CAN frame empties the port. -/
theorem canFrameReceive_empties_port : ((canFrameReceive frameOnPort 0 0 default).port 0).rx = [] := by decide +kernel

theorem eth_of_elsewhere {s t : State} {c : Can} {n : Stn} (h : Claim.Elsewhere { s with can := c, stn := n } t) : t.eth = s.eth := by
  unfold Claim.Elsewhere at h
  rw [h]

/-- Refutes O59: a CAN frame that is received brings the host island to take an Ethernet frame that waited. -/
theorem not_eventsStayInTheirUnits : ¬ Obligations.EventsStayInTheirUnits := by
  unfold Obligations.EventsStayInTheirUnits
  intro claim
  obtain ⟨-, -, can, -⟩ := claim frameOnPort (canFrameReceive frameOnPort 0 0 default) (.canFrameReceive 0 0 default) rfl rfl
  have same : (canFrameReceive frameOnPort 0 0 default).eth = frameOnPort.eth :=
    eth_of_elsewhere (can 0 0 default default (by simp only [List.mem_cons, true_or, or_true]))
  have port : ((canFrameReceive frameOnPort 0 0 default).port 0).rx = (frameOnPort.port 0).rx := by
    unfold State.port
    rw [same]
  rw [canFrameReceive_empties_port] at port
  exact absurd port (by decide +kernel)

end Sys2Proof.Machine
end

section
/-!
PROOFS. Data of a read for an EVENT pair arrive while an event waits: posting the event moves the pair's positions to what is posted.
-/
namespace Sys2Proof.Machine

/-- In SETUP, a read of two entries is under way for the EVENT pair, and an event waits to be posted. -/
def eventWaits : State :=
  { State.reset with
    pwr := { State.reset.pwr with power := .service }
    clk := { State.reset.clk with wait := [] }
    mgt := { State.reset.mgt with run := .setup }
    hst := { State.reset.hst with qps := [newQp 1 2 4 0 false 0 0 0], reads := [⟨1, 2, 0, false⟩], events := [default] } }

/-- The data arrive, the event is posted: the pair stands at one entry fetched. -/
theorem hostReadArrival_fetched : ((hostReadArrival eventWaits false).qp? 1).map Qp.fetched = some 1 := by decide +kernel

/-- Refutes O50: the entries that arrive for an EVENT pair do not count as fetched once an event is posted to it. -/
theorem not_hostInterfaceEvents : ¬ Obligations.HostInterfaceEvents := by
  unfold Obligations.HostInterfaceEvents
  intro claim
  obtain ⟨-, -, arrival, -⟩ := claim eventWaits
  obtain ⟨t, hx, ⟨x, hp, hf⟩, -⟩ := arrival ⟨1, 2, 0, false⟩ [] _ rfl rfl rfl (by decide +kernel) false
  cases Host.Outcome.next.inj hx
  have one := hostReadArrival_fetched
  rw [hp] at one
  rw [Option.some.inj one] at hf
  exact absurd hf (by decide)

end Sys2Proof.Machine
end

section
/-!
PROOFS. What leaves the clock monitors, the islands that wait, the run state and what waits at the management island alone: one
lemma for each operation that does, unit by unit, each from the lemmas of the operations it is made of.
-/
namespace Sys2Proof.Machine

/-- Clock monitors and oscillators, waiting islands, and of the management island its run state, forces, authorisation and FENCEs. -/
def State.core (s : State) :
    (List SrcMon × Nat × Nat × Bool × Bool) × (List Island × List Island) ×
      (Run × Nat × List (Nat × List Word) × Option AuthWait × List (Nat × Instr)) :=
  ((s.clk.mons, s.clk.fail, s.clk.failcnt, s.clk.foscRun, s.clk.soscRun), (s.clk.wait, s.clk.ramp),
    (s.mgt.run, s.mgt.hmode, s.mgt.forces, s.mgt.auth, s.mgt.fenceWait))

/-! ## States as the model builds them

The two lemmas about a state's fields are not for `dsimp`: a comparison by unfolding would open the operations inside. -/

@[simp] theorem State.core_mk (pwr : Pwr) (clk : Clk) (tim : Tim) (comb : CombSt) (sup : Sup) (chn : Chn) (vot : Voter) (hst : Hst)
    (mgt : Mgt) (rtc : Rtc) (rcd : Rec) (pnl : Pnl) (slv : Slv) (stn : Stn) (can : Can) (eth : Eth) (dist : Dist) (mtr : Mtr)
    (adc : Adc) (axs : Axs) (key : Key) (regs : SMap Word) (fresh : Nat) (pending : List Instr) :
    (State.mk pwr clk tim comb sup chn vot hst mgt rtc rcd pnl slv stn can eth dist mtr adc axs key regs fresh pending).core =
      ((clk.mons, clk.fail, clk.failcnt, clk.foscRun, clk.soscRun), (clk.wait, clk.ramp),
        (mgt.run, mgt.hmode, mgt.forces, mgt.auth, mgt.fenceWait)) := (rfl)

@[simp] theorem State.core_eta (s : State) : ((s.clk.mons, s.clk.fail, s.clk.failcnt, s.clk.foscRun, s.clk.soscRun), (s.clk.wait, s.clk.ramp),
    (s.mgt.run, s.mgt.hmode, s.mgt.forces, s.mgt.auth, s.mgt.fenceWait)) = s.core := (rfl)

@[simp] theorem State.core_ite (c : Prop) [Decidable c] (s t : State) :
    (if c then s else t).core = if c then s.core else t.core := apply_ite State.core ..

@[simp] theorem State.core_foldl {α : Type} (f : State → α → State) (h : ∀ s a, (f s a).core = s.core) (l : List α)
    (s : State) : (l.foldl f s).core = s.core := foldl_keeps State.core f h l s

theorem iter_core (f : State → Option State) (h : ∀ s t, f s = some t → t.core = s.core) (n : Nat) (s : State) :
    (iter n f s).core = s.core := by
  induction n generalizing s with
  | zero => rfl
  | succ n ih =>
    unfold iter
    split
    · rfl
    · rename_i t e
      rw [ih, h s t e]

@[simp] theorem Mgt.countCpl_kept (m : Mgt) (x : Held) (st : Nat) : ((m.countCpl x st).hmode = m.hmode ∧ (m.countCpl x st).forces = m.forces) ∧
    (m.countCpl x st).auth = m.auth := by
  unfold Mgt.countCpl
  split <;> exact ⟨⟨rfl, rfl⟩, rfl⟩


@[simp] theorem State.freshNat_core (s : State) : s.freshNat.2.core = s.core := rfl

@[simp] theorem State.random_core (s : State) (n : Nat) : (s.random n).2.core = s.core := rfl

@[simp] theorem State.touchFreq_core (s : State) (a b : Rat) : (s.touchFreq a b).core = s.core := by simp [State.touchFreq]

@[simp] theorem State.passLive_core (s0 : State) (d : Rat) : (s0.passLive d).core = s0.core := by simp [State.passLive]

@[simp] theorem State.passShadow_core (s : State) (t : Nat) : (s.passShadow t).core = s.core := by simp [State.passShadow]

@[simp] theorem State.advanceTo_core (s : State) (t : Nat) : (s.advanceTo t).core = s.core := by simp [State.advanceTo]

@[simp] theorem State.setQp_core (s : State) (q : Qp) : (s.setQp q).core = s.core := by simp [State.setQp]

@[simp] theorem State.emit_core (s : State) (o : Out) : (s.emit o).core = s.core := by simp [State.emit]

@[simp] theorem State.signal_core (s : State) (q : Qp) : (s.signal q).core = s.core := by simp [State.signal]

@[simp] theorem State.afterPost_core (s : State) (id : Nat) :
    (s.afterPost id).core = s.core := by
  unfold State.afterPost
  split <;> simp

@[simp] theorem State.postEvent_core (s : State) (e : Event) :
    (s.postEvent e).core = s.core := by
  unfold State.postEvent
  repeat' split
  all_goals simp

@[simp] theorem State.flushEvents_core (s : State) : s.flushEvents.core = s.core := by simp [State.flushEvents]

@[simp] theorem State.raise_core (s : State) (n res0 : Nat) :
    (s.raise n res0).core = s.core := by
  unfold State.raise
  repeat' split
  all_goals simp

@[simp] theorem State.record_core (s : State) (sev src code : Nat) (body : List Byte) :
    (s.record sev src code body).core = s.core := by simp [State.record]

@[simp] theorem State.raiseRec_core (s : State) (n res0 sev src : Nat) :
    (s.raiseRec n res0 sev src).core = s.core := by simp [State.raiseRec]

@[simp] theorem State.unitRec_core (s : State) (sev src : Nat) :
    (s.unitRec sev src).core = s.core := by
  unfold State.unitRec
  exact (State.record_core ..).trans s.freshNat_core

@[simp] theorem State.postCpl_core (s : State) (c : Cpl) :
    (s.postCpl c).core = s.core := by
  unfold State.postCpl
  repeat' split
  all_goals simp

@[simp] theorem State.flushCpls_core (s : State) : s.flushCpls.core = s.core := by simp [State.flushCpls]

@[simp] theorem State.queueCpl_core (s : State) (c : Cpl) : (s.queueCpl c).core = s.core := by simp [State.queueCpl]

@[simp] theorem State.finish_core (s : State) (seq status res0 : Nat) (res1 : Option Nat) (data : List Byte) :
    (s.finish seq status res0 res1 data).core = s.core := by
  unfold State.finish
  split <;> simp

@[simp] theorem State.endDeletes_core (s : State) : s.endDeletes.core = s.core := by simp [State.endDeletes]

@[simp] theorem State.complete_core (s : State) (seq status res0 : Nat) (res1 : Option Nat) (data : List Byte) :
    (s.complete seq status res0 res1 data).core = s.core := by simp [State.complete]

@[simp] theorem State.ok_core (s : State) (seq res0 : Nat) : (s.ok seq res0).core = s.core := by simp [State.ok]

@[simp] theorem State.fail_core (s : State) (seq status : Nat) : (s.fail seq status).core = s.core := by simp [State.fail]

@[simp] theorem State.accept_core (s : State) (seq : Nat) : (s.accept seq).core = s.core := by simp [State.accept]

@[simp] theorem State.setAx_core (s : State) (a : Nat) (x : Ax) : (s.setAx a x).core = s.core := by simp [State.setAx]

@[simp] theorem State.setInter_core (s : State) (g : Nat) (x : Option Inter) :
    (s.setInter g x).core = s.core := by simp [State.setInter]

@[simp] theorem State.axEvent_core (s : State) (a : Nat) : (s.axEvent a).core = s.core := by simp [State.axEvent]

@[simp] theorem State.begin_core (s : State) (a : Nat) (d : AxisDef) (job : AxJob) (up : Bool) (target : Int) (vmax : Nat) :
    (s.begin a d job up target vmax).core = s.core := by simp [State.begin]

@[simp] theorem State.axDone_core (s : State) (a status : Nat) :
    (s.axDone a status).core = s.core := by
  unfold State.axDone
  split <;> simp

@[simp] theorem State.releaseEn_core (s : State) (a : Nat) (d : AxisDef) :
    (s.releaseEn a d).core = s.core := by simp [State.releaseEn]

@[simp] theorem State.stand_core (s : State) (a : Nat) : (s.stand a).core = s.core := by simp [State.stand]

@[simp] theorem State.goTo_core (s : State) (a : Nat) (d : AxisDef) (target : Int) (vmax : Nat) :
    (s.goTo a d target vmax).core = s.core := by simp [State.goTo]

@[simp] theorem State.goHome_core (s : State) (a : Nat) (d : AxisDef) (p : Int) :
    (s.goHome a d p).core = s.core := by simp [State.goHome]

@[simp] theorem State.beginInter_core (s : State) (g : Nat) (ms : List (Nat × Int × Nat)) :
    (s.beginInter g ms).core = s.core := by
  unfold State.beginInter
  dsimp only
  generalize List.foldl _ (List.headD _ _) _ = lead
  split
  · exact State.core_foldl _ (by simp) ms s
  · rw [State.setInter_core]
    refine (State.core_foldl _ (by simp) ms _).trans (State.core_foldl _ (fun u m => ?_) ms s)
    split
    · split <;> simp
    · rfl

@[simp] theorem State.clearFlags_core (s : State) (a : Nat) : (s.clearFlags a).core = s.core := by simp [State.clearFlags]

@[simp] theorem State.stopThen_core (s : State) (a : Nat) (n : AxNext) :
    (s.stopThen a n).core = s.core := by simp [State.stopThen]

@[simp] theorem State.leaveInter_core (s : State) (a : Nat) :
    (s.leaveInter a).core = s.core := by
  unfold State.leaveInter
  split <;> simp

@[simp] theorem State.axMove_core (s : State) (a : Nat) (d : AxisDef) (target : Int) (vmax : Nat) :
    (s.axMove a d target vmax).core = s.core := by simp [State.axMove]

@[simp] theorem State.axHome_core (s : State) (a : Nat) (d : AxisDef) (p : Int) :
    (s.axHome a d p).core = s.core := by simp [State.axHome]

@[simp] theorem State.axStop_core (s : State) (a : Nat) (d : AxisDef) (disable : Bool) :
    (s.axStop a d disable).core = s.core := by simp [State.axStop]

@[simp] theorem State.axReject_core (s : State) (a : Nat) : (s.axReject a).core = s.core := by simp [State.axReject]

@[simp] theorem State.axDo_core (s : State) (a : Nat) (d : AxisDef) (c : Nat × Int × Nat) :
    (s.axDo a d c).core = s.core := by simp [State.axDo]

@[simp] theorem State.interTake_core (s : State) (g : Nat) (ms : List (Nat × List Word)) :
    (s.interTake g ms).core = s.core := by
  unfold State.interTake
  dsimp only
  generalize List.map _ ms = js
  split
  · exact State.core_foldl _ (by simp) ms s
  · generalize List.filterMap _ js = l
    have take : (l.foldl (fun s m => (s.clearFlags m.1).setAx m.1 ((s.clearFlags m.1).ax m.1).endHome) s).core = s.core :=
      State.core_foldl _ (by simp) l s
    split
    · rw [State.beginInter_core, take]
    · refine (State.core_foldl _ (fun u m => ?join) _ _).trans ?start
      case join => split <;> simp
      case start => split <;> simp [take]

@[simp] theorem State.axTake_core (s : State) (l : List (Nat × List Word)) :
    (s.axTake l).core = s.core := by
  unfold State.axTake
  split
  · rfl
  · refine (State.core_foldl _ (fun u g => ?group) _ _).trans ?singles
    case group =>
      dsimp only
      split <;> simp
    case singles =>
      refine (State.core_foldl _ (fun u m => ?single) _ _).trans (State.core_foldl _ (by simp) _ _)
      split
      · split <;> simp
      · rfl

@[simp] theorem State.abruptStop_core (s : State) (a : Nat) : (s.abruptStop a).core = s.core := by simp [State.abruptStop]

@[simp] theorem State.unref_core (s : State) (a : Nat) : (s.unref a).core = s.core := by simp [State.unref]

@[simp] theorem State.axesStop_core (s : State) :
    s.axesStop.core = s.core := by
  unfold State.axesStop
  refine State.core_foldl _ (fun u a => ?_) _ _
  split
  · simp
  · rfl

@[simp] theorem State.setChan_core (s : State) (i : ChId) (c : Chan) :
    (s.setChan i c).core = s.core := by simp [State.setChan]

@[simp] theorem State.logicFault_core (s : State) (t : Nat) : (s.logicFault t).core = s.core := by simp [State.logicFault]

@[simp] theorem State.endScan_core (s : State) (k : ScanEnd) (i : ChId) :
    (s.endScan k i).core = s.core := by
  unfold State.endScan
  split <;> simp

@[simp] theorem State.forChans_core (s : State) (f : State → ChId → State) (hf : ∀ s i, (f s i).core = s.core) :
    (s.forChans f).core = s.core := by simp [State.forChans, hf]

@[simp] theorem State.settleTime_core (s : State) : s.settleTime.core = s.core := by simp [State.settleTime]

@[simp] theorem State.reloadDt_core (s : State) : s.reloadDt.core = s.core := by simp [State.reloadDt]

@[simp] theorem State.countOverrun_core (s : State) (e res : Nat) :
    (s.countOverrun e res).core = s.core := by simp [State.countOverrun]

@[simp] theorem State.deliver_core (s : State) (p : Point) (ws : List Word) :
    (s.deliver p ws).core = s.core := by simp [State.deliver]

@[simp] theorem State.drive_core (s : State) (i : Nat) (p : Point) (ws : List Word) :
    (s.drive i p ws).core = s.core := by simp [State.drive]

@[simp] theorem State.driveForced_core (s : State) (i : Nat) (p : Point) :
    (s.driveForced i p).core = s.core := by simp [State.driveForced]

@[simp] theorem State.deliverNow_core (s : State) (p : Point) (ws : List Word) :
    (s.deliverNow p ws).core = s.core := by simp [State.deliverNow]

@[simp] theorem State.setForce_core (s : State) (f : List ForceCause) :
    (s.setForce f).core = s.core := by
  unfold State.setForce
  simp only [State.core_ite, State.unitRec_core, State.raise_core, ite_self]
  refine (State.core_foldl _ (fun u x => ?_) _ _).trans (State.core_foldl _ (fun u x => u.driveForced_core _ _) _ _)
  split <;> simp

@[simp] theorem State.addForce_core (s : State) (c : ForceCause) : (s.addForce c).core = s.core := by simp [State.addForce]

@[simp] theorem State.endForce_core (s : State) (c : ForceCause) : (s.endForce c).core = s.core := by simp [State.endForce]

@[simp] theorem State.updStn_core (s : State) (n : Nat) (f : StnSt → StnSt) :
    (s.updStn n f).core = s.core := by
  unfold State.updStn
  split <;> simp

@[simp] theorem State.closeWindow_core (s : State) (n t : Nat) :
    (s.closeWindow n t).core = s.core := by simp [State.closeWindow]

@[simp] theorem State.writeFails_core (s : State) (n : Nat) : (s.writeFails n).core = s.core := by simp [State.writeFails]

@[simp] theorem State.setCan_core (s : State) (c : Nat) (x : CanCh) : (s.setCan c x).core = s.core := by simp [State.setCan]

@[simp] theorem State.canBack_core (s : State) (c : Nat) :
    (s.canBack c).core = s.core := by
  unfold State.canBack
  repeat' split
  all_goals simp

@[simp] theorem State.allCan_core (s : State) (f : State → Nat → State) (hf : ∀ s n, (f s n).core = s.core) :
    (s.allCan f).core = s.core := by simp [State.allCan, hf]

@[simp] theorem State.canStop_core (s : State) : s.canStop.core = s.core := by simp [State.canStop]

@[simp] theorem State.setPort_core (s : State) (p : Nat) (x : EthPort) :
    (s.setPort p x).core = s.core := by simp [State.setPort]

@[simp] theorem State.withhold_core (s : State) (d : EthPortDef) : (s.withhold d).core = s.core := by simp [State.withhold]

@[simp] theorem State.usePn_core (s : State) (d : EthPortDef) : (s.usePn d).core = s.core := by simp [State.usePn]

@[simp] theorem State.ethPump_core (s : State) (p : Nat) :
    (s.ethPump p).core = s.core := by
  unfold State.ethPump
  dsimp only
  repeat' split
  all_goals simp

@[simp] theorem State.allPorts_core (s : State) (f : State → Nat → State) (hf : ∀ s n, (f s n).core = s.core) :
    (s.allPorts f).core = s.core := by simp [State.allPorts, hf]

@[simp] theorem State.linksDown_core (s : State) :
    s.linksDown.core = s.core := by
  refine State.allPorts_core _ _ fun u p => ?_
  dsimp only
  split
  · simp
  · simp

@[simp] theorem State.setMtr_core (s : State) (m : Mtr) : (s.setMtr m).core = s.core := by simp [State.setMtr]

@[simp] theorem State.turnIntv_core (s : State) (d : MeterDef) (t t' : Nat) (fl fl' : RunFlags) :
    (s.turnIntv d t t' fl fl').core = s.core := by
  unfold State.turnIntv
  split <;> simp

@[simp] theorem State.catchIntv_core (n : Nat) (s : State) (t : Nat) : (State.catchIntv n s t).core = s.core := by
  induction n generalizing s with
  | zero => rfl
  | succ n ih =>
    unfold State.catchIntv
    split
    · split
      · rw [ih, State.turnIntv_core]
      · rfl
    · rfl

@[simp] theorem State.intvTo_core (s : State) (t : Nat) :
    (s.intvTo t).core = s.core := by
  unfold State.intvTo
  split <;> simp

@[simp] theorem State.mtrResume_core (s : State) : s.mtrResume.core = s.core := by
  unfold State.mtrResume
  split <;> simp

@[simp] theorem State.mtrStop_core (s0 : State) :
    s0.mtrStop.core = s0.core := by
  unfold State.mtrStop
  dsimp only
  repeat' split
  all_goals simp

@[simp] theorem State.mtrSwap_core (s0 : State) (a : Option MeterDef) (s' : State) :
    (State.mtrSwap s0 a s').core = s'.core := by
  unfold State.mtrSwap
  dsimp only
  split
  · simp
  · simp
  · split <;> simp
  · split <;> simp

theorem State.hostTime_core {s t : State} {c : Nat} {rd : Bool} (h : s.hostTime c rd = some t) : t.core = s.core := by
  unfold State.hostTime at h
  split at h
  · cases h; rfl
  split at h
  · cases h
  dsimp only at h
  generalize (if rd then s.tRd else 0) = c at h
  split at h
  · cases h; rfl
  · cases h

@[simp] theorem State.latchAll_core (s : State) : s.latchAll.core = s.core := by simp [State.latchAll]

@[simp] theorem State.cellSignal_core (s : State) (id : Nat) :
    (s.cellSignal id).core = s.core := by
  unfold State.cellSignal
  split
  · split
    · split
      · split
        · rename_i h; simp [State.hostTime_core h]
        · rfl
      · simp
    · rfl
  · rfl

theorem State.fitBatch_core {s t : State} {n b : Nat} (h : s.fitBatch n = some (b, t)) : t.core = s.core := by
  induction n with
  | zero => cases h
  | succ n ih =>
    unfold State.fitBatch at h
    split at h
    · rename_i e; cases h; exact State.hostTime_core e
    · exact ih h

theorem postCplOnce_core (s t : State) (h : postCplOnce s = some t) : t.core = s.core := by
  unfold postCplOnce at h
  split at h
  · cases h
  split at h
  · cases h; simp
  split at h
  · split at h
    · cases h
    · rename_i e; cases h; simp [State.hostTime_core e]
  · split at h
    · cases h
    · rename_i e; cases h; simp [State.fitBatch_core e]

theorem postEventOnce_core (s t : State) (h : postEventOnce s = some t) : t.core = s.core := by
  unfold postEventOnce at h
  split at h
  · cases h
  dsimp only at h
  split at h
  · cases h
  · rename_i e; cases h; simp [State.fitBatch_core e]

@[simp] theorem State.postAll_core (s : State) :
    s.postAll.core = s.core := by
  unfold State.postAll
  exact (iter_core _ postEventOnce_core _ _).trans (iter_core _ postCplOnce_core _ _)

@[simp] theorem State.streamCpl_core (s : State) (qp status res0 res1 dt : Nat) :
    (s.streamCpl qp status res0 res1 dt).core = s.core := by simp [State.streamCpl]

@[simp] theorem State.endCanBuf_core (s : State) (id dt : Nat) :
    (s.endCanBuf id dt).core = s.core := by
  unfold State.endCanBuf
  split <;> simp

theorem canRxOnce_core (id : Nat) (s t : State) (h : canRxOnce id s = some t) : t.core = s.core := by
  unfold canRxOnce at h
  split at h
  · cases h
  split at h
  · split at h
    · rename_i e; cases h; simp [State.hostTime_core e]
    · cases h
  · cases h

theorem ethRxOnce_core (id : Nat) (s t : State) (h : ethRxOnce id s = some t) : t.core = s.core := by
  unfold ethRxOnce at h
  split at h
  · cases h
  split at h
  · split at h
    · split at h
      · rename_i e; cases h; simp [State.hostTime_core e]
      · cases h
    · cases h
  · cases h

@[simp] theorem State.copyRx_core (s : State) :
    s.copyRx.core = s.core := by
  unfold State.copyRx
  refine State.core_foldl _ (fun u q => ?_) _ _
  simp only [State.core_ite, State.endCanBuf_core, iter_core _ (canRxOnce_core q.id), iter_core _ (ethRxOnce_core q.id),
    ite_self]

@[simp] theorem State.closeCan_core (s : State) : s.closeCan.core = s.core := by
  unfold State.closeCan
  split <;> simp

@[simp] theorem State.sendHost_core (s : State) (id : Nat) (e : SqEntry) :
    (s.sendHost id e).core = s.core := by
  unfold State.sendHost
  split <;> simp

theorem ethTxOnce_core (id : Nat) (s t : State) (h : ethTxOnce id s = some t) : t.core = s.core := by
  unfold ethTxOnce at h
  split at h
  · cases h
  split at h
  · cases h
  split at h
  · rename_i e; cases h; simp [State.hostTime_core e]
  · cases h

@[simp] theorem State.sendTx_core (s : State) :
    s.sendTx.core = s.core := by
  unfold State.sendTx
  refine State.core_foldl _ (fun u q => ?_) _ _
  simp only [State.core_ite, iter_core _ (ethTxOnce_core q.id), ite_self]

theorem State.issueBatch_core {s t : State} {id : Nat} (h : s.issueBatch id = some t) : t.core = s.core := by
  unfold State.issueBatch at h
  split at h
  · cases h
  rename_i q _
  dsimp only at h
  generalize (if q.kind = 1 then _ else _ : Nat) = d at h
  split at h
  · cases h
  split at h
  · cases h
  · rename_i e; cases h; simp [State.hostTime_core e]

theorem fetchPass_core (s t : State) (h : fetchPass s = some t) : t.core = s.core := by
  unfold fetchPass at h
  dsimp only at h
  generalize hr : List.foldl _ (s.latchAll, false) _ = r at h
  have same : r.1.core = s.core := by
    rw [← hr]
    refine (foldl_keeps (fun p : State × Bool => p.1.core) _ (fun p id => ?_) _ _).trans s.latchAll_core
    split
    · exact State.issueBatch_core ‹_›
    · rfl
  split at h
  · cases h; exact same
  · cases h

@[simp] theorem State.fetchPasses_core (s : State) :
    s.fetchPasses.core = s.core := by
  unfold State.fetchPasses
  rw [State.latchAll_core, iter_core _ fetchPass_core]

@[simp] theorem State.fetched_core (s : State) (r : HostRead) :
    (s.fetched r).core = s.core := by
  unfold State.fetched
  dsimp only
  split <;> simp

@[simp] theorem State.serve_core (s : State) : s.serve.core = s.core := by simp [State.serve]

@[simp] theorem State.signalRest_core (s : State) : s.signalRest.core = s.core := by simp [State.signalRest]

@[simp] theorem State.cellServe_core (s : State) : s.cellServe.core = s.core := by
  unfold State.cellServe
  split <;> simp

@[simp] theorem State.hostServe_core (s : State) : s.hostServe.core = s.core := by simp [State.hostServe]

@[simp] theorem State.setConv_core (s : State) (n : Nat) (x : AdcConv) :
    (s.setConv n x).core = s.core := by simp [State.setConv]

@[simp] theorem State.adcNext_core (s : State) (n c : Nat) :
    (s.adcNext n c).core = s.core := by
  unfold State.adcNext
  dsimp only
  repeat' split
  all_goals simp

@[simp] theorem State.adcAbort_core (s : State) (n j c : Nat) :
    (s.adcAbort n j c).core = s.core := by
  unfold State.adcAbort
  repeat' split
  all_goals simp

@[simp] theorem State.urgent_core (s : State) (n j c : Nat) (trip : Bool) :
    (s.urgent n j c trip).core = s.core := by
  unfold State.urgent
  dsimp only
  repeat' split
  all_goals simp

@[simp] theorem State.adcStop_core (s : State) :
    s.adcStop.core = s.core := by
  unfold State.adcStop
  refine State.core_foldl _ (fun u n => ?_) _ _
  dsimp only
  split <;> simp

@[simp] theorem State.adcSwap_core (s : State) : s.adcSwap.core = s.core := by simp [State.adcSwap]

@[simp] theorem State.axesSwap_core (s : State) (old : Option AxesDef) :
    (s.axesSwap old).core = s.core := by
  unfold State.axesSwap
  refine State.core_foldl _ (fun u a => ?_) _ _
  dsimp only
  split
  · split <;> simp
  · simp

@[simp] theorem State.dispCatchUp_core (s : State) :
    s.dispCatchUp.core = s.core := by
  unfold State.dispCatchUp
  split <;> simp

@[simp] theorem State.dispInterrupt_core (s : State) : s.dispInterrupt.core = s.core := by simp [State.dispInterrupt]

@[simp] theorem State.setSlotKey_core (s : State) (n : Nat) (x : KeySlot) :
    (s.setSlotKey n x).core = s.core := by simp [State.setSlotKey]

@[simp] theorem State.keyFor_core (s : State) (eng n : Nat) : (s.keyFor eng n).1.core = s.core := by
  unfold State.keyFor
  dsimp only
  split
  · rfl
  split <;> simp

@[simp] theorem State.applyOp_core (s : State) (m : List Byte) (i : Nat) (o : UpdOp) :
    (s.applyOp m i o).core = s.core := by
  unfold State.applyOp
  dsimp only
  simp only [State.core_ite, State.setSlotKey_core, ite_self]
  exact ite_self _

@[simp] theorem State.commitUpdate_core (s : State) (m : List Byte) :
    (s.commitUpdate m).core = s.core := by simp [State.commitUpdate]

@[simp] theorem State.refuseUpdate_core (s : State) (m : List Byte) (st : Nat) :
    (s.refuseUpdate m st).core = s.core := by simp [State.refuseUpdate]

theorem State.takeJob_core {s t : State} {j : KeyJob} (h : s.takeJob = some (j, t)) : t.core = s.core := by
  unfold State.takeJob at h
  split at h
  · cases h
  split at h
  · cases h
  split at h
  · cases h; rfl
  split at h
  · cases h
  dsimp only at h
  split at h
  · cases h; simp
  · cases h

@[simp] theorem State.suspendJob_core (s : State) :
    s.suspendJob.core = s.core := by
  unfold State.suspendJob
  repeat' split
  all_goals simp

@[simp] theorem rngFail_core (s : State) : (rngFail s).core = s.core := by simp [rngFail]

@[simp] theorem State.stamped_core (s : State) (t : Nat) (f : State → State) (hf : ∀ s, (f s).core = s.core) :
    (s.stamped t f).core = s.core := by simp [State.stamped, hf]

@[simp] theorem State.store_core (s : State) (r : StoredRec) :
    (s.store r).core = s.core := by
  unfold State.store
  repeat' split
  all_goals simp

@[simp] theorem State.setPreg_core (s : State) (r : Nat) (x : PnlRegSt) :
    (s.setPreg r x).core = s.core := by simp [State.setPreg]

@[simp] theorem State.railsUp_core (s : State) (d : PanelDef) : (s.railsUp d).core = s.core := by simp [State.railsUp]

@[simp] theorem State.railsDown_core (s : State) : s.railsDown.core = s.core := by simp [State.railsDown]

@[simp] theorem State.panelSettle_core (s : State) : s.panelSettle.core = s.core := by simp [State.panelSettle]

@[simp] theorem State.takeTemp_core (s : State) (d : PanelDef) : (s.takeTemp d).core = s.core := by simp [State.takeTemp]

@[simp] theorem State.checkRect_core (s : State) (r : Nat) : (s.checkRect r).core = s.core := by simp [State.checkRect]

@[simp] theorem State.startRegion_core (s : State) (d : PanelDef) (r wrote : Nat) :
    (s.startRegion d r wrote).core = s.core := by simp [State.startRegion]

@[simp] theorem State.panelPump_core (s : State) : s.panelPump.core = s.core := by
  unfold State.panelPump
  split <;> simp

@[simp] theorem State.cutShort_core (s : State) :
    s.cutShort.core = s.core := by
  unfold State.cutShort
  simp only [State.core_ite, State.railsDown_core, ite_self]
  refine State.core_foldl _ (fun u r => ?_) _ _
  split <;> simp

@[simp] theorem State.fastDischarge_core (s : State) : s.fastDischarge.core = s.core := by simp [State.fastDischarge]

@[simp] theorem State.panelStop_core (s : State) : s.panelStop.core = s.core := by simp [State.panelStop]

@[simp] theorem State.panelRedraw_core (s : State) : s.panelRedraw.core = s.core := by simp [State.panelRedraw]

@[simp] theorem State.panelResume_core (s : State) : s.panelResume.core = s.core := by simp [State.panelResume]

@[simp] theorem State.panelDormant_core (s : State) : s.panelDormant.core = s.core := by simp [State.panelDormant]

@[simp] theorem State.panelSwap_core (s : State) (old : Option PanelDef) :
    (s.panelSwap old).core = s.core := by
  unfold State.panelSwap
  refine State.core_foldl _ (fun u a => ?_) _ _
  repeat' split
  all_goals simp

@[simp] theorem State.restartJobs_core (s : State) :
    s.restartJobs.core = s.core := by
  unfold State.restartJobs
  refine (State.core_foldl _ (fun u j => ?_) _ _).trans ?_ <;> simp

@[simp] theorem State.mark_core (s : State) (i : ChId) : (s.mark i).core = s.core := by simp [State.mark]

@[simp] theorem State.writeCkpt_core (s : State) (i : ChId) (img : Image) :
    (s.writeCkpt i img).core = s.core := by simp [State.writeCkpt]

@[simp] theorem State.voidCkpt_core (s : State) : s.voidCkpt.core = s.core := by simp [State.voidCkpt]

@[simp] theorem State.checkpoint_core (s : State) :
    s.checkpoint.core = s.core := by
  unfold State.checkpoint
  repeat' split
  all_goals simp

@[simp] theorem State.unstage_core (s : State) (i : ChId) : (s.unstage i).core = s.core := by simp [State.unstage]

@[simp] theorem State.exclude_core (s : State) (i : ChId) (cause : Nat) :
    (s.exclude i cause).core = s.core := by simp [State.exclude]

@[simp] theorem State.startCopy_core (s : State) (i : ChId) : (s.startCopy i).core = s.core := by simp [State.startCopy]

@[simp] theorem State.fixCopies_core (s : State) :
    s.fixCopies.core = s.core := by
  refine State.forChans_core _ _ fun u i => ?_
  split
  · split
    · split <;> simp
    · simp
  · rfl

@[simp] theorem State.restartInPlace_core (s : State) (i : ChId) :
    (s.restartInPlace i).core = s.core := by simp [State.restartInPlace]

@[simp] theorem State.beginSelftest_core (s : State) (i : ChId) :
    (s.beginSelftest i).core = s.core := by simp [State.beginSelftest]

@[simp] theorem State.tryNext_core (s : State) (l : List ChId) : (s.tryNext l).core = s.core := by
  induction l with
  | nil => rfl
  | cons j l ih =>
    unfold State.tryNext
    split
    · exact ih
    · simp

@[simp] theorem State.excludeTried_core (s : State) (i : ChId) (cause : Nat) :
    (s.excludeTried i cause).core = s.core := by
  unfold State.excludeTried
  simp

@[simp] theorem State.amendCause_core (s : State) (i : ChId) :
    (s.amendCause i).core = s.core := by
  unfold State.amendCause
  dsimp only
  split <;> simp

@[simp] theorem State.excludeFor_core (s : State) (i : ChId) (cause : Nat) :
    (s.excludeFor i cause).core = s.core := by
  unfold State.excludeFor
  dsimp only
  split <;> simp

@[simp] theorem State.excludeAll_core (s : State) (l : List (ChId × Nat)) :
    (s.excludeAll l).core = s.core := by
  unfold State.excludeAll
  refine State.core_foldl _ (fun u i => ?_) _ _
  split <;> simp

@[simp] theorem State.excludeMarked_core (s : State) : s.excludeMarked.core = s.core := by simp [State.excludeMarked]

@[simp] theorem State.loopsOne_core (s : State) (i : ChId) (img : Image) (skip : Bool) (units : List (List (Nat × LoopDef)))
    (tl : Nat) : (s.loopsOne i img skip units tl).core = s.core := by simp [State.loopsOne]

@[simp] theorem State.at_core (s : State) (t : Nat) (f : State → State) (hf : ∀ s, (f s).core = s.core) :
    (s.at t f).core = s.core := by simp [State.at, hf]

@[simp] theorem State.skipLoops_core (s : State) (o : OpenCell) :
    (s.skipLoops o).core = s.core := by
  unfold State.skipLoops
  split <;> simp

@[simp] theorem State.endOpen_core (s : State) (o : OpenCell) : (s.endOpen o).core = s.core := by simp [State.endOpen]

@[simp] theorem State.endScans_core (s : State) : s.endScans.core = s.core := by
  unfold State.endScans
  split <;> simp

@[simp] theorem State.endTicks_core (s : State) (t : Nat) :
    (s.endTicks t).core = s.core := by
  unfold State.endTicks
  split <;> simp

@[simp] theorem State.channelClock_core (s : State) (i : ChId) :
    (s.channelClock i).core = s.core := by
  unfold State.channelClock
  dsimp only
  split <;> simp

@[simp] theorem State.stopIsland_core (s : State) (i : Island) :
    (s.stopIsland i).core = s.core := by
  unfold State.stopIsland
  split <;> simp

@[simp] theorem State.aonClock_core (s : State) : s.aonClock.core = s.core := by simp [State.aonClock]

@[simp] theorem State.setPllref_core (s : State) (v : Bool) : (s.setPllref v).core = s.core := by simp [State.setPllref]

@[simp] theorem State.slvResume_core (s : State) : s.slvResume.core = s.core := by simp [State.slvResume]

@[simp] theorem State.mtrClock_core (s : State) : s.mtrClock.core = s.core := by simp [State.mtrClock]

@[simp] theorem State.channelBack_core (s : State) (i : ChId) :
    (s.channelBack i).core = s.core := by simp [State.channelBack]

@[simp] theorem State.setSuper_core (s : State) (x : Nat) (u : Super) : (s.setSuper x u).core = s.core := by
  unfold State.setSuper
  split <;> rfl

@[simp] theorem State.superTo_core (s : State) (x : Nat) (st : SuperSt) :
    (s.superTo x st).core = s.core := by simp [State.superTo]

@[simp] theorem State.dropSwap_core (s : State) (st : SuperSt) (status : Nat) :
    (s.dropSwap st status).core = s.core := by
  unfold State.dropSwap
  repeat' split
  all_goals simp

@[simp] theorem State.cancelSwap_core (s : State) : s.cancelSwap.core = s.core := by simp [State.cancelSwap]

@[simp] theorem State.voidEdits_core (s : State) (status : Nat) :
    (s.voidEdits status).core = s.core := by simp [State.voidEdits]

@[simp] theorem State.swapCan_core (s : State) (a : Option Image) (b : Image) :
    (s.swapCan a b).core = s.core := by simp [State.swapCan]

@[simp] theorem State.swapEth_core (s : State) (a : Option Image) (b : Image) :
    (s.swapEth a b).core = s.core := by simp [State.swapEth]

@[simp] theorem State.changeUnits_core (s old : State) (a : Option Image) (b : Image) :
    (s.changeUnits old a b).core = s.core := by simp [State.changeUnits]

@[simp] theorem State.outputsSafe_core (s : State) : s.outputsSafe.core = s.core := by simp [State.outputsSafe]

@[simp] theorem State.haltCkpt_core (s : State) (late : Bool) : (s.haltCkpt late).core = s.core := by simp [State.haltCkpt]

@[simp] theorem State.haltBoundary_core (s : State) (late : Bool) :
    (s.haltBoundary late).core = s.core := by simp [State.haltBoundary]

@[simp] theorem State.loadImage_core (s : State) (i : Image) : (s.loadImage i).core = s.core := by simp [State.loadImage]

@[simp] theorem State.activate_core (s0 : State) (x seq : Nat) :
    (s0.activate x seq).core = s0.core := by
  unfold State.activate
  dsimp only
  split <;> simp

@[simp] theorem State.issueChallenge_core (s : State) (q : Nat) :
    (s.issueChallenge q).core = s.core := by
  unfold State.issueChallenge
  dsimp only
  rw [State.complete_core]
  exact s.random_core 16

@[simp] theorem State.request_core (s : State) (eng : Nat) (l : List Nat) :
    (s.request eng l).core = s.core := by
  exact State.core_foldl _ (by simp) l s

@[simp] theorem State.authRecord_core (s : State) (sev opc status : Nat) :
    (s.authRecord sev opc status).core = s.core := by simp [State.authRecord]

@[simp] theorem State.refuseAuth_core (s : State) (q opc status : Nat) :
    (s.refuseAuth q opc status).core = s.core := by simp [State.refuseAuth]

@[simp] theorem State.trimDo_core (s : State) (q e r g d : Nat) :
    (s.trimDo q e r g d).core = s.core := by simp [State.trimDo]

@[simp] theorem State.verifyEnd_core (s : State) (q x : Nat) : (s.verifyEnd q x).core = s.core := by simp [State.verifyEnd]

@[simp] theorem State.updateEnd_core (s : State) (q : Nat) (m : List Byte) :
    (s.updateEnd q m).core = s.core := by simp [State.updateEnd]

@[simp] theorem State.wrapEnd_core (s : State) (q n w : Nat) :
    (s.wrapEnd q n w).core = s.core := by
  unfold State.wrapEnd
  dsimp only
  split
  · simp
  · simp

@[simp] theorem State.refreshHead_core (s : State) :
    s.refreshHead.core = s.core := by
  unfold State.refreshHead
  split <;> simp

end Sys2Proof.Machine
end


section
/-!
PROOFS. Clock sources: their monitors judge them, and what follows from a loss or a return leaves the judgement as it stands
(19 R481, R482, R489).
-/
namespace Sys2Proof.Machine

/-- The monitors, the failures held and counted, and the oscillators that run. -/
def State.sources (s : State) : List SrcMon × Nat × Nat × Bool × Bool := s.core.1

theorem State.sources_of_core {s t : State} (h : t.core = s.core) : t.sources = s.sources := congrArg Prod.fst h

theorem State.sources_foldl {α : Type} (f : State → α → State) (h : ∀ s a, (f s a).sources = s.sources) (l : List α) (s : State) :
    (l.foldl f s).sources = s.sources := foldl_keeps State.sources f h l s

theorem State.sources_ite (c : Prop) [Decidable c] {s t u : State} (h : t.sources = s.sources) (k : u.sources = s.sources) :
    (if c then t else u).sources = s.sources := by
  split
  · exact h
  · exact k

theorem State.mon_of_sources {s t : State} (h : t.sources = s.sources) (i : Nat) : t.mon i = s.mon i :=
  congrArg (fun x : List SrcMon × Nat × Nat × Bool × Bool => x.1.getD i SrcMon.reset) h

theorem State.fail_of_sources {s t : State} (h : t.sources = s.sources) : t.clk.fail = s.clk.fail :=
  congrArg (fun x : List SrcMon × Nat × Nat × Bool × Bool => x.2.1) h

theorem State.failcnt_of_sources {s t : State} (h : t.sources = s.sources) : t.clk.failcnt = s.clk.failcnt :=
  congrArg (fun x : List SrcMon × Nat × Nat × Bool × Bool => x.2.2.1) h

theorem State.foscRun_of_sources {s t : State} (h : t.sources = s.sources) : t.clk.foscRun = s.clk.foscRun :=
  congrArg (fun x : List SrcMon × Nat × Nat × Bool × Bool => x.2.2.2.1) h

theorem State.soscRun_of_sources {s t : State} (h : t.sources = s.sources) : t.clk.soscRun = s.clk.soscRun :=
  congrArg (fun x : List SrcMon × Nat × Nat × Bool × Bool => x.2.2.2.2) h

theorem State.mons_of_sources {s t : State} (h : t.sources = s.sources) : t.clk.mons = s.clk.mons :=
  congrArg (fun x : List SrcMon × Nat × Nat × Bool × Bool => x.1) h

/-! ## Waits, ramps and the always-on clock leave the judgement alone -/

theorem State.gate_sources (s : State) (l : List Island) : (s.gate l).sources = s.sources := by
  have handed : ∀ b : Bool, (if b then s.handShadow else s).sources = s.sources := fun b => by
    cases b <;> rfl
  unfold State.gate
  dsimp only
  refine (State.sources_of_core (State.core_foldl _ (fun u i => by rw [State.raise_core, State.stopIsland_core]) _ _)).trans ?_
  exact handed _

theorem State.keyClock_sources (s : State) : s.keyClock.sources = s.sources := by
  unfold State.keyClock
  refine State.sources_ite _ ?_ (State.sources_ite _ ?_ rfl)
  · refine (State.sources_of_core (State.raise_core _ _ _)).trans ?_
    rfl
  · refine (State.sources_of_core (State.raise_core _ _ _)).trans ((State.sources_of_core (State.restartJobs_core _)).trans ?_)
    rfl

theorem State.startRamp_sources (s : State) (i : Island) (gone : Bool) : (s.startRamp i gone).sources = s.sources := by
  have channel : ∀ (u : State) (k : Option ChId), (match k with | some c => u.channelBack c | none => u).sources = u.sources := fun u k => by
    cases k with
    | none => rfl
    | some c => exact State.sources_of_core (u.channelBack_core c)
  have forced : ∀ (u : State) (k : Option ForceCause), (match k with | some f => u.endForce f | none => u).sources = u.sources := fun u k => by
    cases k with
    | none => rfl
    | some f => exact State.sources_of_core (u.endForce_core f)
  exact (forced _ i.force?).trans (channel _ i.chan?)

theorem State.netBack_sources (s : State) : s.netBack.sources = s.sources := by
  unfold State.netBack
  dsimp only
  generalize hu : State.reloadDt _ = u
  have back : u.sources = s.sources := by
    have ended := State.sources_of_core (s.endTicks_core (2 ^ 64))
    rw [← hu]
    exact (State.sources_of_core (State.reloadDt_core _)).trans ended
  split <;> exact back

theorem State.islandBack_sources (s : State) (i : Island) : (s.islandBack i).sources = s.sources := by
  unfold State.islandBack
  refine State.sources_ite _ rfl ?_
  split
  · exact State.sources_ite _ s.netBack_sources ((State.sources_of_core (State.endForce_core _ _)).trans s.netBack_sources)
  · split
    · exact State.sources_ite _ (s.startRamp_sources _ true) rfl
    · exact State.sources_ite _ rfl (s.startRamp_sources _ false)

theorem State.setPllref_sources (s : State) (v : Bool) : (s.setPllref v).sources = s.sources := State.sources_of_core (s.setPllref_core v)
theorem State.aonClock_sources (s : State) : s.aonClock.sources = s.sources := State.sources_of_core s.aonClock_core

/-! ## Losses and returns -/

/-- A source marked as lost. -/
def State.lost (s : State) : ClkSrc → State
  | .fosc => { s with clk := { s.clk with foscRun := false } }
  | .sosc => { s with clk := { s.clk with soscRun := false } }
  | c => s.setMon c.code ⟨false, true, 0, 0⟩

/-- A source marked as running. -/
def State.found (s : State) : ClkSrc → State
  | .fosc => { s with clk := { s.clk with foscRun := true } }
  | .sosc => { s with clk := { s.clk with soscRun := true } }
  | c => s.setMon c.code ⟨true, (s.mon c.code).failed, 0, 0⟩

/-- Of the judgement a loss changes the mark of its source alone. -/
theorem State.lose_sources (s : State) (c : ClkSrc) : (s.lose c).sources = (s.lost c).sources := by
  have follows : ∀ u : State, ((u.gate c.islands).keyClock.aonClock).sources = u.sources := fun u =>
    (State.aonClock_sources _).trans ((State.keyClock_sources _).trans (u.gate_sources _))
  unfold State.lose
  refine (follows _).trans ((State.sources_ite _ (State.setPllref_sources _ true) rfl).trans ?_)
  cases c <;> rfl

/-- Of the judgement a return changes the mark of its source alone. -/
theorem State.gain_sources (s : State) (c : ClkSrc) : (s.gain c).sources = (s.found c).sources := by
  have follows : ∀ u : State, (c.islands.foldl State.islandBack u.keyClock.aonClock).sources = u.sources := fun u =>
    (State.sources_foldl _ State.islandBack_sources _ _).trans ((State.aonClock_sources _).trans (State.keyClock_sources _))
  unfold State.gain
  refine (follows _).trans ((State.sources_ite _ (State.setPllref_sources _ false) rfl).trans ?_)
  cases c <;> rfl

theorem bitOf_set (n k : Nat) : bitOf (if bitOf n k then n else n + 2 ^ k) k = true := by
  split
  · assumption
  · rename_i h
    unfold bitOf at h ⊢
    rw [Nat.add_div_right n (Nat.two_pow_pos k)]
    simp only [decide_eq_true_eq] at h ⊢
    omega

/-- A failure is held in CLK_FAIL and counted; the mark of its source is lost. -/
theorem State.sourceFailed_sources (s : State) (c : ClkSrc) :
    (s.sourceFailed c).sources = (({ s with clk := { s.clk with
      fail := if bitOf s.clk.fail c.code then s.clk.fail else s.clk.fail + 2 ^ c.code, failcnt := satAdd max32 s.clk.failcnt 1 } } : State).lost c).sources := by
  have lost : ∀ u v : State, u.sources = v.sources → (u.lost c).sources = (v.lost c).sources := fun u v h => by
    have marked : ∀ k, (u.setMon k ⟨false, true, 0, 0⟩).sources = (v.setMon k ⟨false, true, 0, 0⟩).sources := fun k =>
      congrArg (fun x : List SrcMon × Nat × Nat × Bool × Bool => (updAt x.1 k (fun _ => (⟨false, true, 0, 0⟩ : SrcMon)), x.2)) h
    have fosc : (u.lost .fosc).sources = (v.lost .fosc).sources :=
      congrArg (fun x : List SrcMon × Nat × Nat × Bool × Bool => (x.1, x.2.1, x.2.2.1, false, x.2.2.2.2)) h
    have sosc : (u.lost .sosc).sources = (v.lost .sosc).sources :=
      congrArg (fun x : List SrcMon × Nat × Nat × Bool × Bool => (x.1, x.2.1, x.2.2.1, x.2.2.2.1, false)) h
    cases c
    case fosc => exact fosc
    case sosc => exact sosc
    all_goals exact marked _
  unfold State.sourceFailed
  exact (State.lose_sources _ c).trans (lost _ _ (State.sources_of_core (State.raiseRec_core _ _ _ _ _)))

/-! ## Monitors -/

/-- A source with a monitor is none of the oscillators, and its number is that of the monitor. -/
theorem ClkSrc.mon?_some {c : ClkSrc} {i : Nat} (h : c.mon? = some i) :
    c.code = i ∧ i < 8 ∧ (∀ s : State, s.qualified c = (s.mon i).qual) ∧ (∀ s : State, s.lost c = s.setMon i ⟨false, true, 0, 0⟩) ∧
      ∀ s : State, s.found c = s.setMon i ⟨true, (s.mon i).failed, 0, 0⟩ := by
  cases c
  case fosc => cases h
  case sosc => cases h
  all_goals
    cases h
    exact ⟨rfl, by decide, fun _ => rfl, fun _ => rfl, fun _ => rfl⟩

theorem State.mon_setMon_same (s : State) {i : Nat} (x : SrcMon) (h : i < s.clk.mons.length) : (s.setMon i x).mon i = x :=
  updAt_get_same _ _ _ _ h

theorem sourceFailed_judged {s : State} {c : ClkSrc} {i : Nat} (hc : c.mon? = some i) (hl : s.clk.mons.length = 8) :
    (s.sourceFailed c).mon i = ⟨false, true, 0, 0⟩ ∧ bitOf (s.sourceFailed c).clk.fail c.code = true ∧
      (s.sourceFailed c).clk.failcnt = min (s.clk.failcnt + 1) max32 := by
  obtain ⟨hk, hi, -, lost, -⟩ := ClkSrc.mon?_some hc
  have h := s.sourceFailed_sources c
  rw [lost] at h
  refine ⟨(State.mon_of_sources h i).trans (State.mon_setMon_same _ _ (by rw [hl]; exact hi)), ?_, ?_⟩
  · rw [State.fail_of_sources h]
    exact bitOf_set s.clk.fail c.code
  · rw [State.failcnt_of_sources h]
    exact satAdd_eq_min ..

theorem sourceQualified_judged {s : State} {c : ClkSrc} {i : Nat} (hc : c.mon? = some i) (hl : s.clk.mons.length = 8) :
    ((s.sourceQualified c).mon i).qual = true ∧ ((s.sourceQualified c).mon i).bad = 0 := by
  obtain ⟨hk, hi, -, -, found⟩ := ClkSrc.mon?_some hc
  have h := State.gain_sources (s.raise 129 c.code) c
  have raised : (s.raise 129 c.code).clk.mons = s.clk.mons := State.mons_of_sources (State.sources_of_core (State.raise_core s 129 c.code))
  rw [found] at h
  have m : (s.sourceQualified c).mon i = ⟨true, ((s.raise 129 c.code).mon i).failed, 0, 0⟩ :=
    (State.mon_of_sources h i).trans (State.mon_setMon_same _ _ (by rw [raised, hl]; exact hi))
  rw [m]
  exact ⟨rfl, rfl⟩

theorem monitorsJudgeSources : Claim.MonitorsJudgeSources := by
  intro s c i n hc hl hj _
  dsimp only
  constructor
  · refine ⟨monitorWindow s c n, rfl, ?_⟩
    have judged : monitorWindow s c n =
        if s.goodWindow c n then
          if (s.mon i).qual then s.setMon i { s.mon i with bad := 0 }
          else if 15 ≤ (s.mon i).good then s.sourceQualified c
          else s.setMon i { s.mon i with good := (s.mon i).good + 1, bad := 0 }
        else if (s.mon i).qual then (if 1 ≤ (s.mon i).bad then s.sourceFailed c else s.setMon i { s.mon i with bad := 1 })
        else s.setMon i { s.mon i with good := 0 } := by
      unfold monitorWindow
      rw [hc]
      exact if_neg (by rw [hj]; decide)
    rw [judged]
    by_cases hg : s.goodWindow c n = true
    · rw [if_pos hg, if_pos hg]
      by_cases hq : (s.mon i).qual = true
      · rw [if_pos hq, if_pos hq]
      · rw [if_neg hq, if_neg hq]
        by_cases h15 : 15 ≤ (s.mon i).good
        · rw [if_pos h15, if_pos h15]
          exact sourceQualified_judged hc hl
        · rw [if_neg h15, if_neg h15]
    · rw [if_neg hg, if_neg hg]
      by_cases hq : (s.mon i).qual = true
      · rw [if_pos hq, if_pos hq]
        by_cases h1 : 1 ≤ (s.mon i).bad
        · rw [if_pos h1, if_pos h1]
          exact sourceFailed_judged hc hl
        · rw [if_neg h1, if_neg h1]
      · rw [if_neg hq, if_neg hq]
  · obtain ⟨-, -, qualified, -, -⟩ := ClkSrc.mon?_some hc
    refine ⟨stopDetection s c, rfl, ?_⟩
    unfold stopDetection
    rw [qualified, hj, Bool.and_true]
    by_cases hq : (s.mon i).qual = true
    · rw [if_pos hq, if_pos hq]
      exact sourceFailed_judged hc hl
    · rw [if_neg hq, if_neg hq]

/-! ## Oscillators -/

theorem oscillatorsStopAndReturn : Claim.OscillatorsStopAndReturn := by
  intro s hp
  have inService : s.inService = true := decide_eq_true hp
  have powered : decide (s.pwr.power = .off) = false := decide_eq_false (by rw [hp]; decide)
  have judged : ∀ c, s.judged c = s.qualified (s.refOf c) := fun c => by unfold State.judged; rw [hp]
  refine ⟨fun hf hs => ⟨?_, ?_⟩, ?_, ?_, ?_⟩
  · refine ⟨stopDetection s .fosc, rfl, ?_⟩
    have stopped : stopDetection s .fosc = s.sourceFailed .fosc := if_pos (by
      rw [judged]
      exact Bool.and_eq_true_iff.mpr ⟨hf, hs⟩)
    rw [stopped]
    exact State.foscRun_of_sources (s.sourceFailed_sources .fosc)
  · refine ⟨stopDetection s .sosc, rfl, ?_⟩
    have stopped : stopDetection s .sosc = s.sourceFailed .sosc := if_pos (by
      rw [judged]
      exact Bool.and_eq_true_iff.mpr ⟨hs, hf⟩)
    rw [stopped]
    exact State.soscRun_of_sources (s.sourceFailed_sources .sosc)
  · refine ⟨oscillatorReturn s .fosc, rfl, ?_⟩
    unfold oscillatorReturn
    rw [powered, Bool.or_false, inService]
    split
    · assumption
    · exact State.foscRun_of_sources (State.gain_sources _ .fosc)
  · refine ⟨oscillatorReturn s .sosc, rfl, ?_⟩
    unfold oscillatorReturn
    rw [powered, Bool.or_false]
    split
    · assumption
    · exact State.soscRun_of_sources (State.gain_sources _ .sosc)
  · intro f hf
    refine ⟨soscCalibration s f, rfl, ?_⟩
    unfold soscCalibration
    rw [Nat.mod_eq_of_lt hf]
    by_cases h : s.clk.foscRun ∧ s.clk.soscRun
    · rw [if_pos (Bool.and_eq_true_iff.mpr h), if_pos h]
    · rw [if_neg (fun k => h (Bool.and_eq_true_iff.mp k)), if_neg h]

/-- Settles O29: the monitors by the cases of a window, the oscillators by their marks. -/
theorem sourcesJudged : Obligations.SourcesJudged := ⟨monitorsJudgeSources, oscillatorsStopAndReturn⟩

end Sys2Proof.Machine
end

section
/-!
PROOFS. Frequency measurements end, islands resume, and handshakes time out (19 R488, R490; 01 R11).
-/
namespace Sys2Proof.Machine

/-! ## Frequency measurements -/

/-- The measurements under way, by the commands that asked for them. -/
def Clk.measured (c : Clk) : List Nat := c.freqJobs.map (fun j => j.seq)

theorem FreqJob.touch_seq (j : FreqJob) (a b : Rat) : (j.touch a b).seq = j.seq := by
  unfold FreqJob.touch
  split <;> rfl

theorem State.touchFreq_measured (s : State) (a b : Rat) : (s.touchFreq a b).clk.measured = s.clk.measured := by
  unfold State.touchFreq Clk.measured
  dsimp only
  rw [List.map_map]
  exact List.map_congr_left fun j _ => j.touch_seq a b

theorem State.passLive_measured (s : State) (d : Rat) : (s.passLive d).clk.measured = s.clk.measured := by
  have moved : ∀ u : State, u.clk.measured = s.clk.measured → ∀ (b : Bool) (x y : Tim),
      (if b = true then ({ u with tim := x } : State) else { u with tim := y }).clk.measured = s.clk.measured := fun u h b x y => by
    cases b <;> exact h
  unfold State.passLive
  apply moved
  split
  · exact s.touchFreq_measured _ _
  · rfl

/-- The passing of time begins and ends no measurement. -/
theorem State.advanceTo_measured (s : State) (t : Nat) : (s.advanceTo t).clk.measured = s.clk.measured := by
  unfold State.advanceTo
  split
  · rfl
  split
  · exact s.passLive_measured _
  split
  · rfl
  · rfl

/-- A command that completes is no longer held, and nothing but completions happens (17 R442). -/
theorem State.complete_ends (s : State) (q st r0 : Nat) (r1 : Option Nat) (d : List Byte) :
    s.mgt.Ends (s.complete q st r0 r1 d).mgt ∧ ∀ h ∈ (s.complete q st r0 r1 d).mgt.held, h.seq ≠ q := by
  obtain ⟨finished, gone⟩ := s.finish_ends q st r0 r1 d
  have deleted := (s.finish q st r0 r1 d).endDeletes_ends
  exact ⟨finished.trans deleted, fun h hm => gone h (deleted.held hm)⟩

@[simp] theorem State.complete_clk (s : State) (q st r0 : Nat) (r1 : Option Nat) (d : List Byte) : (s.complete q st r0 r1 d).clk = s.clk := by
  obtain ⟨x, m, e⟩ := s.complete_host q st r0 r1 d; rw [e]

/-- The end of a measurement's window takes it out of those under way, and ends its command. -/
theorem freqWindowEnd_ends {s : State} {j : FreqJob} {rest : List FreqJob} (h : s.clk.freqJobs = j :: rest) (n : Nat) :
    (freqWindowEnd s n).clk.measured = rest.map (fun x => x.seq) ∧ ∀ x ∈ (freqWindowEnd s n).mgt.held, x.seq ≠ j.seq := by
  have left : ({ (s.advanceTo (j.t + 1000000000)).clk with freqJobs := (s.advanceTo (j.t + 1000000000)).clk.freqJobs.drop 1 } : Clk).measured =
      rest.map (fun x => x.seq) := by
    have all := s.advanceTo_measured (j.t + 1000000000)
    unfold Clk.measured at all ⊢
    dsimp only
    rw [List.map_drop, all, h]
    rfl
  have ends : ∃ (u : State) (r : Option Nat), freqWindowEnd s n = u.complete j.seq 0 n r [] ∧
      u.clk = { (s.advanceTo (j.t + 1000000000)).clk with freqJobs := (s.advanceTo (j.t + 1000000000)).clk.freqJobs.drop 1 } := by
    unfold freqWindowEnd
    rw [h]
    exact ⟨_, _, rfl, rfl⟩
  obtain ⟨u, r, e, hu⟩ := ends
  rw [e, State.complete_clk, hu]
  exact ⟨left, (u.complete_ends j.seq 0 n r []).2⟩

/-! ## Islands -/

theorem State.wait_of_core {s t : State} (h : t.core = s.core) : t.clk.wait = s.clk.wait := congrArg (fun x => x.2.1.1) h
theorem State.ramp_of_core {s t : State} (h : t.core = s.core) : t.clk.ramp = s.clk.ramp := congrArg (fun x => x.2.1.2) h

/-- An island whose ramp has ended waits no more. -/
theorem State.resumed_runs (s : State) (i : Island) : i ∉ (s.resumed i).clk.wait ∧ i ∉ (s.resumed i).clk.ramp := by
  have follows : ∀ u : State, (match i with
      | .slv => u.slvResume
      | .net | .mtr => u.mtrClock
      | .pnl => u.panelResume
      | .hst => u.serve
      | _ => u).core = u.core := fun u => by
    cases i
    case slv => exact u.slvResume_core
    case net => exact u.mtrClock_core
    case mtr => exact u.mtrClock_core
    case pnl => exact u.panelResume_core
    case hst => exact u.serve_core
    all_goals rfl
  have core := (follows _).trans (State.raise_core
    { s with clk := { s.clk with wait := s.clk.wait.filter (fun (x : Island) => x ≠ i), ramp := s.clk.ramp.filter (fun (x : Island) => x ≠ i) } } 131 i.code)
  have gone : ∀ l : List Island, i ∉ l.filter (fun x => decide (x ≠ i)) := fun l h => by
    have := (List.mem_filter.mp h).2
    simp at this
  constructor
  · rw [show (s.resumed i).clk.wait = _ from State.wait_of_core core]
    exact gone _
  · rw [show (s.resumed i).clk.ramp = _ from State.ramp_of_core core]
    exact gone _

theorem islandResumption_ends (s : State) (i : Island) :
    if s.pwr.power = .service ∧ i ∈ s.clk.ramp then i ∉ (islandResumption s i).clk.wait ∧ i ∉ (islandResumption s i).clk.ramp
    else islandResumption s i = s := by
  unfold islandResumption State.inService
  split
  · rename_i h
    rw [if_pos (by simp [h.1, h.2])]
    exact State.resumed_runs _ i
  · rename_i h
    exact if_neg (by simpa using h)

/-- An island that is gated waits. -/
theorem State.gate_waits (s : State) (i : Island) : i ∈ (s.gate [i]).clk.wait := by
  have stopped : ∀ (u : State) (l : List Island), (l.foldl (fun (s : State) (i : Island) => (s.stopIsland i).raise 130 i.code) u).clk.wait = u.clk.wait :=
    fun u l => State.wait_of_core (State.core_foldl _ (fun u i => by rw [State.raise_core, State.stopIsland_core]) l u)
  have handed : ∀ b : Bool, (if b then s.handShadow else s).clk.wait = s.clk.wait := fun b => by
    cases b <;> rfl
  unfold State.gate
  dsimp only
  rw [stopped]
  dsimp only
  rw [handed]
  by_cases h : i ∈ s.clk.wait
  · exact List.mem_append_left _ h
  · exact List.mem_append_right _ (List.mem_filter.mpr ⟨List.mem_singleton_self i, by simpa using h⟩)

theorem handshakeTimeout_gates {s : State} (hp : s.pwr.power = .service) {i : Island} (hk : i ≠ .key) (hc : i.chan? = none) :
    i ∈ (handshakeTimeout s i).clk.wait := by
  unfold handshakeTimeout
  rw [State.inService_of_service hp, hc]
  simp only [Bool.not_true, Bool.false_eq_true, if_false, if_neg hk]
  exact State.gate_waits _ i

/-- A channel that does not answer is excluded when another is VOTING. -/
theorem handshakeTimeout_excludes {s : State} (hp : s.pwr.power = .service) {c j : ChId} (hv : (s.chan c).st = .voting) (hj : j ≠ c)
    (hjv : (s.chan j).st = .voting) (hjc : (s.chan j).clkFail = false) :
    ((handshakeTimeout s c.island).chan c).st = .excluded ∧ ((handshakeTimeout s c.island).chan c).cause = 4 := by
  have raised : ∀ (n r : Nat) (k : ChId), (s.raise n r).chan k = s.chan k := fun n r k => by
    obtain ⟨x, e⟩ := s.raise_only n r; rw [e]; rfl
  have island : c.island.chan? = some c := by cases c <;> rfl
  unfold handshakeTimeout
  rw [State.inService_of_service hp, island]
  simp only [Bool.not_true, Bool.false_eq_true, if_false]
  rw [State.excludeFor_of_partner (j := j) causeTimeout (by rw [raised]; exact hv) hj (by rw [raised]; exact hjv) (by rw [raised]; exact hjc)]
  have beside := State.fixCopies_besideCopy ((s.raise 1 (c.island.blk + c.num * 256)).exclude c causeTimeout) c
  rw [State.exclude_chan_same] at beside
  exact ⟨(congrArg Chan.st beside :), (congrArg Chan.cause beside :)⟩

/-- Settles O30: each event by what it takes out of the lists of the clock unit, or puts into them. -/
theorem islandsAndMeasurements : Obligations.IslandsAndMeasurements := by
  unfold Obligations.IslandsAndMeasurements
  intro s
  refine ⟨?_, ?_, fun i => ⟨_, rfl, islandResumption_ends s i⟩, fun hp i hk hc => ⟨_, rfl, handshakeTimeout_gates hp hk hc⟩,
    fun hp c j hv hj hjv hjc => ⟨_, rfl, handshakeTimeout_excludes hp hv hj hjv hjc⟩⟩
  · intro j rest n h
    exact ⟨_, rfl, freqWindowEnd_ends h n⟩
  · intro h n
    have none : freqWindowEnd s n = s := by unfold freqWindowEnd; rw [h]
    exact congrArg Host.Outcome.next none

end Sys2Proof.Machine
end

section
/-!
PROOFS. The axis events: leads, profile updates, standstill, automatic disable, switch edges and PWM periods (15 R394 to R409).
-/
namespace Sys2Proof.Machine

/-! ## What leaves the axes alone -/

@[simp] theorem State.advanceTo_axs (s : State) (t : Nat) : (s.advanceTo t).axs = s.axs := by
  obtain ⟨x, l, e⟩ := s.advanceTo_only t; rw [e]
@[simp] theorem State.advanceTo_ax (s : State) (t a : Nat) : (s.advanceTo t).ax a = s.ax a := by
  unfold State.ax; rw [State.advanceTo_axs]
@[simp] theorem State.complete_axs (s : State) (q st r0 : Nat) (r1 : Option Nat) (d : List Byte) : (s.complete q st r0 r1 d).axs = s.axs := by
  obtain ⟨x, m, e⟩ := s.complete_host q st r0 r1 d; rw [e]
@[simp] theorem State.complete_ax (s : State) (q st r0 : Nat) (r1 : Option Nat) (d : List Byte) (a : Nat) :
    (s.complete q st r0 r1 d).ax a = s.ax a := by
  unfold State.ax; rw [State.complete_axs]

section
variable {s : State} {a : Nat} {d : AxisDef}

theorem axisLeadEnd_ends (hu : s.axUp = true) (hl : a < s.axs.ax.length) :
    (axisLeadEnd s a).ax a = { s.ax a with lead := none } ∧ ∀ b, b ≠ a → (axisLeadEnd s a).ax b = s.ax b := by
  unfold axisLeadEnd
  split
  · rename_i h
    exact ⟨by rw [← h], fun _ _ => rfl⟩
  · rename_i t _
    rw [if_pos hu]
    refine ⟨?_, fun b hb => ?_⟩
    · rw [State.setAx_same _ _ _ (by rw [State.advanceTo_axs]; exact hl), State.advanceTo_ax]
    · rw [State.setAx_other _ _ _ _ hb, State.advanceTo_ax]

/-! ## Motion -/

/-- The axis moves, past its lead, in no interpolated move. -/
structure MovesAlone (s : State) (a : Nat) (d : AxisDef) : Prop where
  up : s.axUp = true
  declared : s.axDef? a = some d
  stored : a < s.axs.ax.length
  moving : (s.ax a).moving = true
  lead : (s.ax a).lead = none
  alone : s.interOf a = none

theorem MovesAlone.not_follows (m : MovesAlone s a d) : s.follows a = false := by
  unfold State.follows; rw [m.alone]

theorem MovesAlone.update (m : MovesAlone s a d) (hd : (s.ax a).done d = false) :
    axisUpdate s a = (s.advanceTo (s.ax a).upd).setAx a ((s.ax a).update d (s.ax a).upd) := by
  unfold axisUpdate
  rw [m.declared]
  dsimp only
  rw [if_neg (by simp [m.up, m.moving, m.lead, hd, m.not_follows]), m.alone, State.advanceTo_ax]

theorem MovesAlone.updated (m : MovesAlone s a d) (hd : (s.ax a).done d = false) :
    (axisUpdate s a).ax a = (s.ax a).update d (s.ax a).upd ∧ ∀ b, b ≠ a → (axisUpdate s a).ax b = s.ax b := by
  rw [m.update hd]
  refine ⟨State.setAx_same _ _ _ (by rw [State.advanceTo_axs]; exact m.stored), fun b hb => ?_⟩
  rw [State.setAx_other _ _ _ _ hb, State.advanceTo_ax]

/-- An axis whose command ends waits for none, and the command is held no longer. -/
theorem State.axDone_ends (s : State) (a st : Nat) (hl : a < s.axs.ax.length) :
    (s.axDone a st).ax a = { s.ax a with seq := none } ∧ (s.axDone a st).axs.inter = s.axs.inter ∧
      ∀ q, (s.ax a).seq = some q → ∀ h ∈ (s.axDone a st).mgt.held, h.seq ≠ q := by
  unfold State.axDone
  split
  · rename_i h
    exact ⟨by rw [← h], rfl, fun q hq => by rw [h] at hq; cases hq⟩
  · rename_i q h
    refine ⟨?_, by rw [State.complete_axs]; rfl, fun q' hq' => ?_⟩
    · rw [State.complete_ax, State.setAx_same _ _ _ hl]
    · rw [h] at hq'
      cases hq'
      exact (State.complete_ends _ _ _ _ _ _).2

/-- An axis at the end of a move stands at its target; with nothing to follow, it stays there. -/
theorem MovesAlone.stands (m : MovesAlone s a d) (hd : (s.ax a).done d = true) (hg : s.inter? d.group = none)
    (hj : (s.ax a).job = .move) (hn : (s.ax a).next = .none) :
    axisStandstill s a = ((s.stand a).setAx a { (s.stand a).ax a with pos := (s.ax a).target }).axDone a 0 := by
  have stays : ∀ u : State, (u.ax a).next = .none → u.axs.inter = s.axs.inter → u.axNext a d = u := fun u h hi => by
    unfold State.axNext State.interNext State.inter?
    rw [h, hi]
    dsimp only
    rw [show SMap.get dOpt s.axs.inter d.group = none from hg]
  have stored : a < ((s.stand a).setAx a { (s.stand a).ax a with pos := (s.ax a).target }).axs.ax.length := by
    unfold State.stand State.setAx
    dsimp only
    rw [updAt_length, updAt_length]
    exact m.stored
  have standing : (s.stand a).ax a = { (s.ax a) with v := 0, frac := 0, moving := false, job := .idle, still := s.tim.dt } :=
    State.setAx_same _ _ _ m.stored
  unfold axisStandstill
  rw [m.declared]
  dsimp only
  rw [if_neg (by simp [m.up, m.moving, m.lead, hd, m.not_follows]), hj]
  dsimp only
  have alone : s.standAll a = s := by unfold State.standAll; rw [m.alone]
  rw [alone]
  obtain ⟨hx, hi, -⟩ := State.axDone_ends _ a 0 stored
  refine stays _ ((congrArg Ax.next hx).trans ?_) (hi.trans rfl)
  rw [State.setAx_same _ _ _ (by unfold State.stand State.setAx; dsimp only; rw [updAt_length]; exact m.stored), standing]
  exact hn

theorem MovesAlone.stood (m : MovesAlone s a d) (hd : (s.ax a).done d = true) (hg : s.inter? d.group = none)
    (hj : (s.ax a).job = .move) (hn : (s.ax a).next = .none) :
    ((axisStandstill s a).ax a).moving = false ∧ ((axisStandstill s a).ax a).pos = (s.ax a).target ∧ ((axisStandstill s a).ax a).v = 0 ∧
      ((axisStandstill s a).ax a).seq = none ∧
      ∀ q, (s.ax a).seq = some q → ∀ h ∈ (axisStandstill s a).mgt.held, h.seq ≠ q := by
  have once : a < (s.stand a).axs.ax.length := by
    unfold State.stand State.setAx
    dsimp only
    rw [updAt_length]
    exact m.stored
  have twice : a < ((s.stand a).setAx a { (s.stand a).ax a with pos := (s.ax a).target }).axs.ax.length := by
    unfold State.setAx
    dsimp only
    rw [updAt_length]
    exact once
  have standing : (s.stand a).ax a = { (s.ax a) with v := 0, frac := 0, moving := false, job := .idle, still := s.tim.dt } :=
    State.setAx_same _ _ _ m.stored
  rw [m.stands hd hg hj hn]
  obtain ⟨hx, -, gone⟩ := State.axDone_ends _ a 0 twice
  have placed : ((s.stand a).setAx a { (s.stand a).ax a with pos := (s.ax a).target }).ax a =
      { (s.ax a) with v := 0, frac := 0, moving := false, job := .idle, still := s.tim.dt, pos := (s.ax a).target } := by
    rw [State.setAx_same _ _ _ once, standing]
  rw [hx, placed]
  exact ⟨rfl, rfl, rfl, rfl, fun q hq => gone q (by rw [placed]; exact hq)⟩

theorem axisUpdate_idle (hd : s.axDef? a = some d) (h : (s.ax a).moving = false) : axisUpdate s a = s := by
  unfold axisUpdate
  rw [hd]
  exact if_pos (by simp [h])

theorem axisStandstill_idle (hd : s.axDef? a = some d) (h : (s.ax a).moving = false) : axisStandstill s a = s := by
  unfold axisStandstill
  rw [hd]
  exact if_pos (by simp [h])

theorem autoDisable_disables (hu : s.axUp = true) (hd : s.axDef? a = some d) (hl : a < s.axs.ax.length) :
    if d.autoDis = true ∧ (s.ax a).en = true ∧ (s.ax a).moving = false then
      ((autoDisable s a).ax a).en = false ∧ ((autoDisable s a).ax a).pos = (s.ax a).pos ∧
        ((autoDisable s a).ax a).ref = ((s.ax a).ref && d.retain)
    else autoDisable s a = s := by
  unfold autoDisable
  rw [hd]
  dsimp only
  split
  · rename_i h
    obtain ⟨h1, h2, h3⟩ := h
    rw [if_pos (by simp [hu, h1, h2, h3])]
    unfold State.releaseEn
    rw [State.setAx_same _ _ _ (by rw [State.advanceTo_axs]; exact hl), State.advanceTo_ax]
    exact ⟨rfl, rfl, rfl⟩
  · rename_i h
    refine if_neg fun k => h ?_
    simp only [hu, Bool.true_and, Bool.and_eq_true, Bool.not_eq_true'] at k
    exact ⟨k.1.1, k.1.2, k.2⟩

end

/-! ## Switch edges -/

/-- What the latch of an axis holds. -/
def Ax.latched (x : Ax) : Int × Nat × Nat × Bool × Nat := (x.latchPos, x.latchCnt, x.latchSw, x.latchAct, x.edgeUs)

/-- An axis written with its latch as it was leaves every latch as it was. -/
theorem State.setAx_latched (s : State) {b : Nat} {x : Ax} (h : x.latched = (s.ax b).latched) (a : Nat) :
    ((s.setAx b x).ax a).latched = (s.ax a).latched := by
  by_cases e : a = b
  · subst e
    by_cases hl : a < s.axs.ax.length
    · rw [State.setAx_same _ _ _ hl, h]
    · have out : ∀ (l : List Ax) (f : Ax → Ax), ¬ a < l.length → (updAt l a f).getD a Ax.reset = l.getD a Ax.reset := fun l f hn => by
        rw [List.getD_eq_default _ _ (by rw [updAt_length]; omega), List.getD_eq_default _ _ (by omega)]
      exact congrArg Ax.latched (out s.axs.ax _ hl)
  · rw [State.setAx_other _ _ _ _ e]

theorem State.axDone_latched (s : State) (b st a : Nat) : ((s.axDone b st).ax a).latched = (s.ax a).latched := by
  unfold State.axDone
  split
  · rfl
  · rw [State.complete_ax]
    exact s.setAx_latched (by rfl) a

theorem State.axEvent_ax (s : State) (b a : Nat) : (s.axEvent b).ax a = s.ax a := by
  obtain ⟨x, e⟩ := s.raise_only _ _
  unfold State.axEvent
  rw [e]; rfl

theorem State.stand_latched (s : State) (b a : Nat) : ((s.stand b).ax a).latched = (s.ax a).latched := s.setAx_latched (by rfl) a

theorem State.abruptStop_latched (s : State) (b a : Nat) : ((s.abruptStop b).ax a).latched = (s.ax a).latched := by
  unfold State.abruptStop
  split
  · exact (State.setAx_latched _ (by rfl) a).trans (s.stand_latched b a)
  · rfl

theorem State.homeFails_latched (s : State) (b a : Nat) : ((s.homeFails b).ax a).latched = (s.ax a).latched := by
  unfold State.homeFails
  exact (State.axDone_latched _ b _ a).trans (s.setAx_latched (by rfl) a)

theorem State.releaseEn_latched (s : State) (b : Nat) (d : AxisDef) (a : Nat) : ((s.releaseEn b d).ax a).latched = (s.ax a).latched :=
  s.setAx_latched (by rfl) a

theorem State.limitStop_latched (s : State) (b a : Nat) : ((s.limitStop b).ax a).latched = (s.ax a).latched := by
  have marked : ∀ n, (({ ((s.abruptStop b).setAx b { ((s.abruptStop b).ax b) with limStop := true }) with
      axs := { ((s.abruptStop b).setAx b { ((s.abruptStop b).ax b) with limStop := true }).axs with limit := n } } : State).ax a).latched =
      (s.ax a).latched := fun n =>
    (State.setAx_latched _ (by rfl) a).trans (s.abruptStop_latched b a)
  unfold State.limitStop
  dsimp only
  rw [State.axEvent_ax]
  split
  · exact (State.homeFails_latched _ b a).trans (marked _)
  · exact (State.homeFails_latched _ b a).trans (marked _)
  · exact (State.axDone_latched _ b _ a).trans ((State.setAx_latched _ (by rfl) a).trans (marked _))
  · refine (State.axDone_latched _ b _ a).trans ?_
    split
    · split
      · exact (State.releaseEn_latched _ b _ a).trans (marked _)
      · exact marked _
    · exact marked _
  · exact (State.axDone_latched _ b _ a).trans (marked _)

theorem State.limitAll_latched (s : State) (b a : Nat) : ((s.limitAll b).ax a).latched = (s.ax a).latched := by
  unfold State.limitAll
  split
  · exact s.limitStop_latched b a
  · refine (State.limitStop_latched _ b a).trans ?_
    refine (foldl_keeps (fun u : State => (u.ax a).latched) _ (fun u m => ?_) _ _).trans rfl
    exact (State.axDone_latched _ _ _ a).trans (u.abruptStop_latched _ a)

/-- What an edge does to the motion leaves the latches as the edge set them. -/
theorem State.switchAct_latched (s : State) (b w : Nat) (l : Bool) (a : Nat) : ((s.switchAct b w l).ax a).latched = (s.ax a).latched := by
  unfold State.switchAct
  dsimp only
  split
  · split
    · split
      · exact s.setAx_latched (by rfl) a
      · rfl
    · split
      · rfl
      · exact s.setAx_latched (by rfl) a
    · rfl
  · split
    · exact s.limitAll_latched b a
    · rfl

theorem switchEdge_latches {s : State} {a : Nat} {d : AxisDef} (hu : s.axUp = true) (hd : s.axDef? a = some d) (hl : a < s.axs.ax.length)
    {w u : Nat} {l : Bool} (hw : w ≤ 2) (hc : l ≠ (if w = 0 then (s.ax a).refSw else if w = 1 then (s.ax a).limP else (s.ax a).limN)) :
    ((switchEdge s a w l u).ax a).latched = ((s.ax a).posAt u, ((s.ax a).latchCnt + 1) % 256, w, l, u / 1000) := by
  unfold switchEdge
  rw [hd]
  dsimp only
  rw [if_neg (by simp only [hu, Bool.not_true, Bool.false_or, Bool.or_eq_true, decide_eq_true_eq]; rintro (h | h); exacts [by omega, hc h.symm])]
  rw [State.switchAct_latched, State.setAx_same _ _ _ (by rw [State.advanceTo_axs]; exact hl), State.advanceTo_ax]
  rfl

/-! ## PWM -/

theorem pwmPeriod_takes {s : State} {n : Nat} {g : AxesDef} (hu : s.axUp = true) (hg : s.axes? = some g) (hp : g.pwm.getD n 0 ≠ 0) (h16 : n < 16)
    (hl : n < s.axs.pwm.length) : (pwmPeriod s n).axs = { s.axs with pwm := (pwmPeriod s n).axs.pwm } ∧
      (pwmPeriod s n).axs.pwm.getD n 0 = s.axs.pwmNext.getD n 0 ∧ ∀ m, m ≠ n → (pwmPeriod s n).axs.pwm.getD m 0 = s.axs.pwm.getD m 0 := by
  have taken : (pwmPeriod s n).axs = { s.axs with pwm := updAt s.axs.pwm n (fun _ => s.axs.pwmNext.getD n 0) } := by
    unfold pwmPeriod
    rw [hg]
    dsimp only
    rw [if_pos (by simp only [hu, hp, h16, ne_eq, not_false_eq_true, decide_true, Bool.and_self])]
    split <;> rfl
  rw [taken]
  exact ⟨rfl, updAt_get_same _ _ _ _ hl, fun m hm => updAt_get_other _ _ _ _ _ hm⟩

/-- Settles O46: each event of an axis by what it writes to that axis, and the edges by the latch they leave. -/
theorem axisEvents : Obligations.AxisEvents := by
  unfold Obligations.AxisEvents
  intro s a d hu hd hl
  refine ⟨⟨_, rfl, axisLeadEnd_ends hu hl⟩, ?_, fun hm => ⟨congrArg _ (axisUpdate_idle hd hm), congrArg _ (axisStandstill_idle hd hm)⟩,
    ⟨_, rfl, autoDisable_disables hu hd hl⟩, ?_, fun n g hg hp h16 hn => ⟨_, rfl, pwmPeriod_takes hu hg hp h16 hn⟩⟩
  · intro hm hlead hi hg
    have m : MovesAlone s a d := ⟨hu, hd, hl, hm, hlead, hi⟩
    split
    · rename_i hdone
      exact fun hj hn => ⟨_, rfl, m.stood hdone hg hj hn⟩
    · rename_i hdone
      obtain ⟨own, others⟩ := m.updated (Bool.eq_false_iff.mpr hdone)
      exact ⟨_, rfl, own, by rw [own]; rfl, others⟩
  · intro w l u hw hc
    have latch := switchEdge_latches hu hd hl (u := u) hw hc
    simp only [Ax.latched, Prod.mk.injEq] at latch
    obtain ⟨h1, h2, h3, h4, h5⟩ := latch
    exact ⟨_, rfl, h1, h2, h3, h4, h5⟩

end Sys2Proof.Machine
end

section
/-!
PROOFS. What the service of the host interface leaves alone: one lemma for each operation of it, each from the lemmas of the operations
it is made of.
-/
namespace Sys2Proof.Machine

/-- The commands held, power, metering, both supers and the image, keys and the comb, and the end tick of the open HST cell. -/
def State.apart (s : State) : (Mgt × Pwr × Mtr × Sup × Key × CombSt) × Option Nat :=
  ((s.mgt, s.pwr, s.mtr, s.sup, s.key, s.comb), s.hst.cell.map HostWin.stop)

@[simp] theorem State.apart_mk (pwr : Pwr) (clk : Clk) (tim : Tim) (comb : CombSt) (sup : Sup) (chn : Chn) (vot : Voter) (hst : Hst)
    (mgt : Mgt) (rtc : Rtc) (rcd : Rec) (pnl : Pnl) (slv : Slv) (stn : Stn) (can : Can) (eth : Eth) (dist : Dist) (mtr : Mtr)
    (adc : Adc) (axs : Axs) (key : Key) (regs : SMap Word) (fresh : Nat) (pending : List Instr) :
    (State.mk pwr clk tim comb sup chn vot hst mgt rtc rcd pnl slv stn can eth dist mtr adc axs key regs fresh pending).apart =
      ((mgt, pwr, mtr, sup, key, comb), hst.cell.map HostWin.stop) := (rfl)

@[simp] theorem State.apart_eta (s : State) : ((s.mgt, s.pwr, s.mtr, s.sup, s.key, s.comb), s.hst.cell.map HostWin.stop) = s.apart := (rfl)

@[simp] theorem State.apart_ite (c : Prop) [Decidable c] (s t : State) :
    (if c then s else t).apart = if c then s.apart else t.apart := apply_ite State.apart ..

@[simp] theorem State.apart_foldl {α : Type} (f : State → α → State) (h : ∀ s a, (f s a).apart = s.apart) (l : List α)
    (s : State) : (l.foldl f s).apart = s.apart := foldl_keeps State.apart f h l s

theorem iter_apart (f : State → Option State) (h : ∀ s t, f s = some t → t.apart = s.apart) (n : Nat) (s : State) :
    (iter n f s).apart = s.apart := by
  induction n generalizing s with
  | zero => rfl
  | succ n ih =>
    unfold iter
    split
    · rfl
    · rename_i t e
      rw [ih, h s t e]


@[simp] theorem State.setQp_apart (s : State) (q : Qp) : (s.setQp q).apart = s.apart := by simp [State.setQp]

@[simp] theorem State.emit_apart (s : State) (o : Out) : (s.emit o).apart = s.apart := by simp [State.emit]

@[simp] theorem State.signal_apart (s : State) (q : Qp) : (s.signal q).apart = s.apart := by simp [State.signal]

@[simp] theorem State.afterPost_apart (s : State) (id : Nat) :
    (s.afterPost id).apart = s.apart := by
  unfold State.afterPost
  split <;> simp

@[simp] theorem State.postEvent_apart (s : State) (e : Event) :
    (s.postEvent e).apart = s.apart := by
  unfold State.postEvent
  repeat' split
  all_goals simp

@[simp] theorem State.flushEvents_apart (s : State) : s.flushEvents.apart = s.apart := by simp [State.flushEvents]

@[simp] theorem State.raise_apart (s : State) (n res0 : Nat) :
    (s.raise n res0).apart = s.apart := by
  unfold State.raise
  repeat' split
  all_goals simp

@[simp] theorem State.postCpl_apart (s : State) (c : Cpl) :
    (s.postCpl c).apart = s.apart := by
  unfold State.postCpl
  repeat' split
  all_goals simp

@[simp] theorem State.flushCpls_apart (s : State) : s.flushCpls.apart = s.apart := by simp [State.flushCpls]

@[simp] theorem State.queueCpl_apart (s : State) (c : Cpl) : (s.queueCpl c).apart = s.apart := by simp [State.queueCpl]

@[simp] theorem State.updStn_apart (s : State) (n : Nat) (f : StnSt → StnSt) :
    (s.updStn n f).apart = s.apart := by
  unfold State.updStn
  split <;> simp

@[simp] theorem State.closeWindow_apart (s : State) (n t : Nat) :
    (s.closeWindow n t).apart = s.apart := by simp [State.closeWindow]

@[simp] theorem State.setCan_apart (s : State) (c : Nat) (x : CanCh) : (s.setCan c x).apart = s.apart := by simp [State.setCan]

@[simp] theorem State.setPort_apart (s : State) (p : Nat) (x : EthPort) :
    (s.setPort p x).apart = s.apart := by simp [State.setPort]

@[simp] theorem State.withhold_apart (s : State) (d : EthPortDef) : (s.withhold d).apart = s.apart := by simp [State.withhold]

@[simp] theorem State.usePn_apart (s : State) (d : EthPortDef) : (s.usePn d).apart = s.apart := by simp [State.usePn]

@[simp] theorem State.ethPump_apart (s : State) (p : Nat) :
    (s.ethPump p).apart = s.apart := by
  unfold State.ethPump
  dsimp only
  repeat' split
  all_goals simp

theorem State.hostTime_apart {s t : State} {c : Nat} {rd : Bool} (h : s.hostTime c rd = some t) : t.apart = s.apart := by
  unfold State.hostTime at h
  split at h
  · cases h; rfl
  split at h
  · cases h
  rename_i w hw
  dsimp only at h
  generalize (if rd then s.tRd else 0) = c at h
  split at h
  · cases h; exact (congrArg (fun o => (s.apart.1, Option.map HostWin.stop o)) hw).symm
  · cases h

@[simp] theorem State.latchAll_apart (s : State) : s.latchAll.apart = s.apart := by simp [State.latchAll]

@[simp] theorem State.cellSignal_apart (s : State) (id : Nat) :
    (s.cellSignal id).apart = s.apart := by
  unfold State.cellSignal
  split
  · split
    · split
      · split
        · rename_i h
          simp only [State.signal_apart, State.setQp_apart]
          refine Eq.trans ?_ (State.hostTime_apart h)
          exact congrArg (Prod.mk _) (Option.map_map ..)
        · rfl
      · simp
    · rfl
  · rfl

theorem State.fitBatch_apart {s t : State} {n b : Nat} (h : s.fitBatch n = some (b, t)) : t.apart = s.apart := by
  induction n with
  | zero => cases h
  | succ n ih =>
    unfold State.fitBatch at h
    split at h
    · rename_i e; cases h; exact State.hostTime_apart e
    · exact ih h

theorem postCplOnce_apart (s t : State) (h : postCplOnce s = some t) : t.apart = s.apart := by
  unfold postCplOnce at h
  split at h
  · cases h
  split at h
  · cases h; simp
  split at h
  · split at h
    · cases h
    · rename_i e; cases h; simp [State.hostTime_apart e]
  · split at h
    · cases h
    · rename_i e; cases h; simp [State.fitBatch_apart e]

theorem postEventOnce_apart (s t : State) (h : postEventOnce s = some t) : t.apart = s.apart := by
  unfold postEventOnce at h
  split at h
  · cases h
  dsimp only at h
  split at h
  · cases h
  · rename_i e; cases h; simp [State.fitBatch_apart e]

@[simp] theorem State.postAll_apart (s : State) :
    s.postAll.apart = s.apart := by
  unfold State.postAll
  exact (iter_apart _ postEventOnce_apart _ _).trans (iter_apart _ postCplOnce_apart _ _)

@[simp] theorem State.streamCpl_apart (s : State) (qp status res0 res1 dt : Nat) :
    (s.streamCpl qp status res0 res1 dt).apart = s.apart := by simp [State.streamCpl]

@[simp] theorem State.endCanBuf_apart (s : State) (id dt : Nat) :
    (s.endCanBuf id dt).apart = s.apart := by
  unfold State.endCanBuf
  split <;> simp

theorem canRxOnce_apart (id : Nat) (s t : State) (h : canRxOnce id s = some t) : t.apart = s.apart := by
  unfold canRxOnce at h
  split at h
  · cases h
  split at h
  · split at h
    · rename_i e; cases h; simp [State.hostTime_apart e]
    · cases h
  · cases h

theorem ethRxOnce_apart (id : Nat) (s t : State) (h : ethRxOnce id s = some t) : t.apart = s.apart := by
  unfold ethRxOnce at h
  split at h
  · cases h
  split at h
  · split at h
    · split at h
      · rename_i e; cases h; simp [State.hostTime_apart e]
      · cases h
    · cases h
  · cases h

@[simp] theorem State.copyRx_apart (s : State) :
    s.copyRx.apart = s.apart := by
  unfold State.copyRx
  refine State.apart_foldl _ (fun u q => ?_) _ _
  simp only [State.apart_ite, State.endCanBuf_apart, iter_apart _ (canRxOnce_apart q.id), iter_apart _ (ethRxOnce_apart q.id),
    ite_self]

@[simp] theorem State.closeCan_apart (s : State) : s.closeCan.apart = s.apart := by
  unfold State.closeCan
  split <;> simp

@[simp] theorem State.sendHost_apart (s : State) (id : Nat) (e : SqEntry) :
    (s.sendHost id e).apart = s.apart := by
  unfold State.sendHost
  split <;> simp

theorem ethTxOnce_apart (id : Nat) (s t : State) (h : ethTxOnce id s = some t) : t.apart = s.apart := by
  unfold ethTxOnce at h
  split at h
  · cases h
  split at h
  · cases h
  split at h
  · rename_i e; cases h; simp [State.hostTime_apart e]
  · cases h

@[simp] theorem State.sendTx_apart (s : State) :
    s.sendTx.apart = s.apart := by
  unfold State.sendTx
  refine State.apart_foldl _ (fun u q => ?_) _ _
  simp only [State.apart_ite, iter_apart _ (ethTxOnce_apart q.id), ite_self]

theorem State.issueBatch_apart {s t : State} {id : Nat} (h : s.issueBatch id = some t) : t.apart = s.apart := by
  unfold State.issueBatch at h
  split at h
  · cases h
  rename_i q _
  dsimp only at h
  generalize (if q.kind = 1 then _ else _ : Nat) = d at h
  split at h
  · cases h
  split at h
  · cases h
  · rename_i e; cases h; simp [State.hostTime_apart e]

theorem fetchPass_apart (s t : State) (h : fetchPass s = some t) : t.apart = s.apart := by
  unfold fetchPass at h
  dsimp only at h
  generalize hr : List.foldl _ (s.latchAll, false) _ = r at h
  have same : r.1.apart = s.apart := by
    rw [← hr]
    refine (foldl_keeps (fun p : State × Bool => p.1.apart) _ (fun p id => ?_) _ _).trans s.latchAll_apart
    split
    · exact State.issueBatch_apart ‹_›
    · rfl
  split at h
  · cases h; exact same
  · cases h

@[simp] theorem State.fetchPasses_apart (s : State) :
    s.fetchPasses.apart = s.apart := by
  unfold State.fetchPasses
  rw [State.latchAll_apart, iter_apart _ fetchPass_apart]

@[simp] theorem State.fetched_apart (s : State) (r : HostRead) :
    (s.fetched r).apart = s.apart := by
  unfold State.fetched
  dsimp only
  split
  · simp
  · simp
    exact fun _ => rfl

@[simp] theorem State.serve_apart (s : State) : s.serve.apart = s.apart := by simp [State.serve]

@[simp] theorem State.signalRest_apart (s : State) : s.signalRest.apart = s.apart := by simp [State.signalRest]

@[simp] theorem State.cellServe_apart (s : State) : s.cellServe.apart = s.apart := by
  unfold State.cellServe
  split
  · rfl
  · rename_i w hw
    have same : ((s.mgt, s.pwr, s.mtr, s.sup, s.key, s.comb), some w.stop) = s.apart :=
      congrArg (fun o => (s.apart.1, Option.map HostWin.stop o)) hw.symm
    simp [same]

@[simp] theorem State.hostServe_apart (s : State) : s.hostServe.apart = s.apart := by simp [State.hostServe]

@[simp] theorem State.lateReads_apart (s : State) : s.lateReads.apart = s.apart := by simp [State.lateReads]

/-- Service of the host interface leaves the commands held, power, metering, supers, keys and the comb. -/
theorem State.hostServe_leaves (s : State) : s.hostServe.mgt = s.mgt ∧ s.hostServe.pwr = s.pwr ∧ s.hostServe.mtr = s.mtr ∧
    s.hostServe.sup = s.sup ∧ s.hostServe.key = s.key := by
  have apart := s.hostServe_apart
  simp only [State.apart, Prod.mk.injEq] at apart
  obtain ⟨⟨hm, hp, ht, hs, hk, -⟩, -⟩ := apart
  exact ⟨hm, hp, ht, hs, hk⟩

end Sys2Proof.Machine
end


section
/-!
PROOFS. Cells that open a window of work (18 R471, 21 R528, 16 R425, 22 R551, 14 R380, 10 R289, R292).
-/
namespace Sys2Proof.Machine
open Sys2Proof.Claim

/-! ## KEY, REC and HST cells -/

/-- With no window open the key island's work stands. -/
theorem State.keyFlush_closed {s : State} (h : s.key.win = none) : s.keyFlush = s := by
  have stands : keyOnce s = none := by
    unfold keyOnce
    split
    · rfl
    · rw [h]
      split
      · contradiction
      · rfl
  unfold State.keyFlush
  rw [iter_none _ _ _ stands]
  dsimp only
  rw [h]

theorem State.suspendJob_closed {s : State} (h : s.key.win = none) : s.suspendJob = s := by
  unfold State.suspendJob
  rw [h]

@[simp] theorem begun_key (s : State) (e : Nat) (x : CombEntry) : (begun s e x).key = s.key := by
  obtain ⟨t, l, h⟩ := begun_only s e x; rw [h]
@[simp] theorem begun_rcd (s : State) (e : Nat) (x : CombEntry) : (begun s e x).rcd = s.rcd := by
  obtain ⟨t, l, h⟩ := begun_only s e x; rw [h]
@[simp] theorem begun_pnl (s : State) (e : Nat) (x : CombEntry) : (begun s e x).pnl = s.pnl := by
  obtain ⟨t, l, h⟩ := begun_only s e x; rw [h]
@[simp] theorem begun_adc (s : State) (e : Nat) (x : CombEntry) : (begun s e x).adc = s.adc := by
  obtain ⟨t, l, h⟩ := begun_only s e x; rw [h]
@[simp] theorem begun_stn (s : State) (e : Nat) (x : CombEntry) : (begun s e x).stn = s.stn := by
  obtain ⟨t, l, h⟩ := begun_only s e x; rw [h]

/-- The end of a cell and the cycle times follow from the image. -/
theorem State.cellEnd_congr {s t : State} (h : t.sup = s.sup) (x : CombEntry) (k : Int) : t.cellEnd x k = s.cellEnd x k := by
  simp only [State.cellEnd, State.hNs, State.pNs, State.comb?, h]

theorem State.keyCyc_congr {s t : State} (h : t.sup = s.sup) : t.keyCyc = s.keyCyc := by
  simp only [State.keyCyc, State.comb?, h]

theorem State.pnlCyc_congr {s t : State} (h : t.sup = s.sup) : t.pnlCyc = s.pnlCyc := by
  simp only [State.pnlCyc, State.comb?, h]

theorem begun_cellEnd (s : State) (e : Nat) (x : CombEntry) : (begun s e x).cellEnd x (begun s e x).comb.k = s.cellEnd x s.comb.k := by
  rw [begun_comb]
  exact State.cellEnd_congr (begun_sup s e x) x s.comb.k

theorem keyCell_window {s : State} {e : Nat} {x : CombEntry} (o : Opens s e x 0x11) (hr : s.runs .key = true) (hw : s.key.win = none) :
    (keyCell s e).key.win = some ⟨s.cellEnd x s.comb.k, ((begun s e x).tim.dt : Nat) + 16 * s.keyCyc⟩ := by
  have closed : (begun s e x).key.win = none := by rw [begun_key]; exact hw
  unfold keyCell
  rw [State.withCell_of_opens_clocked o hr, State.keyFlush_closed closed, State.suspendJob_closed closed]
  dsimp only
  rw [begun_cellEnd, State.keyCyc_congr (begun_sup s e x)]

theorem recCell_window {s : State} {e : Nat} {x : CombEntry} (o : Opens s e x 0x12) (hr : s.runs .key = true) (hw : s.rcd.win = none) :
    (recCell s e).rcd = { s.rcd with
      win := some ⟨s.cellEnd x s.comb.k, x.act % 65536, ((begun s e x).tim.dt : Nat) + 16 * s.keyCyc⟩ } := by
  unfold recCell
  rw [State.recFlush_closed hw, State.withCell_of_opens_clocked o hr]
  dsimp only
  rw [begun_cellEnd, State.keyCyc_congr (begun_sup s e x), begun_rcd]

/-- Before an HST cell opens, buffers of the last one that wait are posted: the host interface alone changes. -/
theorem State.closeCan_cellEnd (s : State) (x : CombEntry) : s.closeCan.cellEnd x s.closeCan.comb.k = s.cellEnd x s.comb.k := by
  obtain ⟨h, e⟩ := State.of_besideHost s.closeCan_besideHost
  rw [e]
  exact State.cellEnd_congr rfl x s.comb.k

theorem hstCell_stop {s : State} {e : Nat} {x : CombEntry} (o : Opens s e x 0x14) (hr : s.runs .hst = true) :
    (hstCell s e).hst.cell.map HostWin.stop = some (s.cellEnd x s.comb.k) := by
  unfold hstCell
  rw [State.withCell_of_opens_clocked o hr]
  refine Eq.trans (congrArg Prod.snd ((State.cellServe_apart _).trans (State.lateReads_apart _))) ?_
  dsimp only [State.apart, Option.map_some]
  rw [State.closeCan_cellEnd, begun_cellEnd]

/-! ## PNL cells -/

/-- The check of a region's rectangle rewrites its own record and the store. -/
theorem State.checkRect_regs (s : State) (r : Nat) : (s.checkRect r).pnl.regs = s.pnl.regs ∨
    ∃ x, (s.checkRect r).pnl.regs = updAt s.pnl.regs r (fun _ => x) := by
  unfold State.checkRect
  dsimp only
  split
  · exact .inl rfl
  split
  · exact .inl rfl
  · have raised : ∀ (u : State) (x : PnlRegSt), ((u.setPreg r x).raise 117 r).pnl.regs = updAt u.pnl.regs r (fun _ => x) := fun u x => by
      obtain ⟨y, e⟩ := (u.setPreg r x).raise_only 117 r
      rw [e]
      rfl
    exact .inr ⟨_, raised _ _⟩

theorem State.takeTemp_regs (s : State) (d : PanelDef) : (s.takeTemp d).pnl.regs = s.pnl.regs := by
  unfold State.takeTemp
  dsimp only
  split <;> rfl

/-- The rails come up beside the regions. -/
theorem State.railsUp_regs (s : State) (d : PanelDef) : (if s.pnl.rails = .down then s.railsUp d else s).pnl.regs = s.pnl.regs := by
  split <;> rfl

/-- A start sets the record of its region, with a run and a journal that is written. -/
theorem State.startRegion_regs (s : State) (d : PanelDef) (r w : Nat) : ∃ y : PnlRegSt, y.run.isSome = true ∧
    y.journal.journaled = true ∧ (s.startRegion d r w).pnl.regs = updAt ((s.takeTemp d).checkRect r).pnl.regs r (fun _ => y) := by
  unfold State.startRegion
  dsimp only
  refine ⟨_, ?_, ?_, Eq.trans (State.railsUp_regs _ d) rfl⟩
  · rfl
  · rfl

/-- A region that starts runs, and its journal says so. -/
theorem State.startRegion_same (s : State) (d : PanelDef) {r : Nat} (w : Nat) (h : r < s.pnl.regs.length) :
    ((s.startRegion d r w).preg r).run.isSome = true ∧ ((s.startRegion d r w).preg r).journal.journaled = true := by
  obtain ⟨y, runs, journaled, e⟩ := s.startRegion_regs d r w
  have len : r < ((s.takeTemp d).checkRect r).pnl.regs.length := by
    rw [← State.takeTemp_regs s d] at h
    obtain same | ⟨x, set⟩ := (s.takeTemp d).checkRect_regs r
    · rw [same]; exact h
    · rw [set, updAt_length]; exact h
  have started : (s.startRegion d r w).preg r = y := by
    unfold State.preg
    rw [e]
    exact updAt_get_same _ _ _ _ len
  rw [started]
  exact ⟨runs, journaled⟩

theorem State.startRegion_other (s : State) (d : PanelDef) {r q : Nat} (w : Nat) (h : q ≠ r) :
    (s.startRegion d r w).preg q = s.preg q := by
  obtain ⟨y, -, -, e⟩ := s.startRegion_regs d r w
  unfold State.preg
  rw [e, updAt_get_other _ _ _ _ _ h, ← State.takeTemp_regs s d]
  obtain same | ⟨x, set⟩ := (s.takeTemp d).checkRect_regs r
  · rw [same]
  · rw [set, updAt_get_other _ _ _ _ _ h]

/-- One region of a PNL cell: it starts when it may and its journal write still fits. -/
def pnlStart (d : PanelDef) (t0 : Nat) (avail cyc : Rat) (p : State × Nat × Nat) (r : Nat) : State × Nat × Nat :=
  if p.1.mayStart d r then
    let n := p.2.1 + 1
    let m := p.2.2 + 500 + 5 * p.1.startSize d r
    let cost : Rat := (16 + 32 * n : Nat) * cyc + (m : Nat)
    if cost ≤ avail then (p.1.startRegion d r (t0 + cost.ceil.toNat), n, m) else p
  else p

theorem State.cellStarts_eq (s : State) (d : PanelDef) (len : Nat) : s.cellStarts d len =
    ((List.range 16).foldl (pnlStart d s.tim.dt (((len : Nat) * 1000 - 21 : Rat) * (99979 / 100000)) s.pnlCyc) (s, 0, 0)).1 := rfl

theorem pnlStart_other (d : PanelDef) (t0 : Nat) (avail cyc : Rat) (p : State × Nat × Nat) {r q : Nat} (h : q ≠ r) :
    (pnlStart d t0 avail cyc p r).1.preg q = p.1.preg q := by
  unfold pnlStart
  dsimp only
  split
  · split
    · exact State.startRegion_other _ _ _ h
    · rfl
  · rfl

/-- Regions that may not start leave the state as it is. -/
theorem pnlStart_idle (d : PanelDef) (t0 : Nat) (avail cyc : Rat) {p : State × Nat × Nat} {l : List Nat}
    (h : ∀ q ∈ l, p.1.mayStart d q = false) : l.foldl (pnlStart d t0 avail cyc) p = p := by
  induction l with
  | nil => rfl
  | cons q l ih =>
    have stays : pnlStart d t0 avail cyc p q = p := if_neg (by rw [h q List.mem_cons_self]; exact Bool.false_ne_true)
    rw [List.foldl_cons, stays]
    exact ih fun q' m => h q' (List.mem_cons_of_mem _ m)

/-- The first region that may start and fits is started, and runs to the end of the cell's starts. -/
theorem State.cellStarts_first {s : State} {d : PanelDef} {len r : Nat} (hr : r < 16) (hl : r < s.pnl.regs.length)
    (first : ∀ q, q < r → s.mayStart d q = false) (may : s.mayStart d r = true)
    (fits : (48 : Rat) * s.pnlCyc + (500 + 5 * s.startSize d r : Nat) ≤ ((len : Nat) * 1000 - 21 : Rat) * (99979 / 100000)) :
    ((s.cellStarts d len).preg r).run.isSome = true ∧ ((s.cellStarts d len).preg r).journal.journaled = true := by
  have split : List.range 16 = List.range r ++ r :: List.range' (r + 1) (15 - r) := by
    have count : 16 = r + (15 - r + 1) := by omega
    have joined : List.range' 0 r ++ List.range' (0 + r) (15 - r + 1) = List.range' 0 (r + (15 - r + 1)) := List.range'_append_1
    rw [← List.range'_succ, List.range_eq_range', List.range_eq_range', count, ← joined, Nat.zero_add]
  rw [State.cellStarts_eq, split, List.foldl_append, List.foldl_cons,
    pnlStart_idle d _ _ _ (p := (s, 0, 0)) fun q m => first q (List.mem_range.mp m)]
  have starts : ∃ w n m, pnlStart d s.tim.dt (((len : Nat) * 1000 - 21 : Rat) * (99979 / 100000)) s.pnlCyc (s, 0, 0) r =
      (s.startRegion d r w, n, m) := by
    unfold pnlStart
    dsimp only
    rw [if_pos may, if_pos (by simpa using fits)]
    exact ⟨_, _, _, rfl⟩
  obtain ⟨w, n, m, e⟩ := starts
  rw [e]
  have kept : ∀ (l : List Nat) (p : State × Nat × Nat), r ∉ l →
      (l.foldl (pnlStart d s.tim.dt (((len : Nat) * 1000 - 21 : Rat) * (99979 / 100000)) s.pnlCyc) p).1.preg r = p.1.preg r := by
    intro l
    induction l with
    | nil => exact fun _ _ => rfl
    | cons q l ih =>
      intro p h
      rw [List.foldl_cons, ih _ fun m => h (List.mem_cons_of_mem _ m),
        pnlStart_other _ _ _ _ _ fun eq => h (by rw [eq]; exact List.mem_cons_self)]
  rw [kept _ _ (by simp)]
  exact s.startRegion_same d w hl

theorem begun_mayStart (s : State) (e : Nat) (x : CombEntry) (d : PanelDef) (r : Nat) :
    (begun s e x).mayStart d r = s.mayStart d r := by
  obtain ⟨t, l, h⟩ := begun_only s e x; rw [h]; rfl

theorem begun_startSize (s : State) (e : Nat) (x : CombEntry) (d : PanelDef) (r : Nat) :
    (begun s e x).startSize d r = s.startSize d r := by
  obtain ⟨t, l, h⟩ := begun_only s e x; rw [h]; rfl

theorem State.panel?_congr {s t : State} (h : t.sup = s.sup) : t.panel? = s.panel? := by simp only [State.panel?, h]

theorem pnlCell_starts {s : State} {e : Nat} {x : CombEntry} (o : Opens s e x 0x13) (hr : s.runs .pnl = true) :
    match s.panel? with
    | none => pnlCell s e = begun s e x
    | some d => ∀ r, r < 16 → r < s.pnl.regs.length → (∀ q, q < r → s.mayStart d q = false) → s.mayStart d r = true →
        ((48 : Rat) * s.pnlCyc + (500 + 5 * s.startSize d r : Nat) ≤ ((x.len : Nat) * 1000 - 21 : Rat) * (99979 / 100000)) →
        ((pnlCell s e).preg r).run.isSome = true ∧ ((pnlCell s e).preg r).journal.journaled = true := by
  have panel : (begun s e x).panel? = s.panel? := State.panel?_congr (begun_sup s e x)
  unfold pnlCell
  rw [State.withCell_of_opens_clocked o hr, panel]
  cases s.panel? with
  | none => rfl
  | some d =>
    intro r hr16 hl first may fits
    dsimp only
    apply State.cellStarts_first (s := begun s e x) hr16 (by rw [begun_pnl]; exact hl)
    · exact fun q hq => (begun_mayStart s e x d q).trans (first q hq)
    · rw [begun_mayStart]; exact may
    · rw [State.pnlCyc_congr (begun_sup s e x), begun_startSize]; exact fits

/-! ## ADC cells -/

theorem State.endAdcs_idle {s : State} (h : ∀ y ∈ s.adc.conv, y.run = none) (t : Nat) : s.endAdcs t = s := by
  have idle : ∀ n, (s.adcConv n).run = none := fun n => by
    unfold State.adcConv
    by_cases hn : n < s.adc.conv.length
    · rw [List.getD_eq_getElem _ _ hn]; exact h _ (List.getElem_mem hn)
    · rw [List.getD_eq_default _ _ (Nat.le_of_not_lt hn)]; rfl
  unfold State.endAdcs
  generalize List.range 4 = l
  induction l with
  | nil => rfl
  | cons n l ih =>
    rw [List.foldl_cons, idle n]
    exact ih

/-- A cell whose resource is one of several kinds runs at its start tick, when its island is clocked. -/
theorem State.withCell_of_kind {s : State} {e res : Nat} {x : CombEntry} {i : Island} (o : Opens s e x res) (h : s.runs i = true)
    {p : Nat → Bool} (hp : p res = true) (f : CombEntry → State → State) : s.withCell e p (some i) f = f x (begun s e x) := by
  unfold State.withCell
  rw [s.openCell_opens e x _ o.entry (o.kind ▸ hp) o.runs o.swap o.hp o.ahead o.once]
  exact if_pos ((begun_runs s e x i).trans h)

/-- An interleaved sequence starts with its cell (14 R380). -/
theorem adcCell_interleaved {s : State} {n e : Nat} {x : CombEntry} {c : CalSums} {a : AnalogDef} {q : AdcSeq}
    (o : Opens s e x (0x18 + n)) (hn : n ≤ 3) (hl : n < s.adc.conv.length) (hr : s.runs .adc = true) (ha : s.analog? = some a)
    (idle : ∀ y ∈ s.adc.conv, y.run = none) (hs : x.act % 256 ≠ 255)
    (hq : a.seqs.find? (fun y => decide (y.seqno = x.act % 256) && decide (y.adc = n)) = some q) (hi : q.inter = true) :
    ∃ r, ((adcCell s e c).adcConv n).run = some r ∧ r.e = e ∧ r.left = q.nconv := by
  have kind : x.res - 0x18 = n := by rw [o.kind]; omega
  have analog : (begun s e x).analog? = some a := by
    obtain ⟨t, l, h⟩ := begun_only s e x; rw [h]; exact ha
  unfold adcCell
  rw [State.withCell_of_kind o hr (by simp; omega)]
  unfold State.openAdc
  rw [analog]
  dsimp only
  rw [State.endAdcs_idle (by rw [begun_adc]; exact idle), if_neg hs, kind, hq]
  dsimp only
  rw [hi]
  rw [if_pos rfl, State.setConv_same _ _ _ (by rw [begun_adc]; exact hl)]
  exact ⟨_, rfl, rfl, rfl⟩

/-! ## Read and Write cells of a link -/

theorem stationReadCell_opens {s : State} {e l : Nat} {x : CombEntry} (o : Opens s e x x.res) (hl : linkOf x.res = some l)
    (hr : s.runs .field = true) (none : s.stn.cells = []) (hp : x.cphase = 1) : ∃ c, (stationReadCell s e).stn.cells = [c] ∧ c.e = e ∧
      c.link = l ∧ c.read = true ∧ c.groups = (s.chain x.act).map (fun g => g.group) := by
  have empty : (begun s e x).stn.cells = [] := by rw [begun_stn]; exact none
  have groups : (begun s e x).chain x.act = s.chain x.act := by
    obtain ⟨t, l, h⟩ := begun_only s e x; rw [h]; rfl
  unfold stationReadCell
  rw [State.withCell_of_kind o hr (by rw [hl]; rfl), if_pos hp, hl]
  dsimp only [State.openRead, State.endStnCellsTo]
  rw [State.endStnCells_none empty, empty, groups]
  exact ⟨_, rfl, rfl, rfl, rfl, rfl⟩

/-- Writes that are armed, held or fail leave the open cells of the links. -/
theorem State.drive_stn (s : State) (i : Nat) (p : Point) (ws : List Word) : (s.drive i p ws).stn = s.stn :=
  (congrArg State.stn (s.drive_besideOutputs i p ws) :)

theorem State.armWrite_cells (s : State) (g : GroupDef) (d : StnDef) (e : Nat) (ws : List Word) :
    (s.armWrite g d e ws).1.stn.cells = s.stn.cells := by
  unfold State.armWrite
  split
  · rfl
  · dsimp only
    split
    · split
      · rfl
      · split
        next armed => exact congrArg Stn.cells (State.armCan_stn armed)
        next => rfl
    · exact State.armEth_cells ..

theorem State.writeFails_cells (s : State) (n : Nat) : (s.writeFails n).stn.cells = s.stn.cells := State.updStn_cells ..

theorem State.writeStn_cells (s : State) (g : GroupDef) (e : Nat) (d : StnDef) : (s.writeStn g e d).stn.cells = s.stn.cells := by
  unfold State.writeStn
  split
  · rfl
  split
  · rfl
  rename_i i p ws _
  have armed : ∀ u : State, ((((u.setWr d.stn .due).drive i p ws).armWrite g d e ws).1).stn.cells = u.stn.cells := fun u => by
    rw [State.armWrite_cells, State.drive_stn]
    exact State.updStn_cells ..
  have written : ∀ (u : State) (counted simulated held : Bool), u.stn.cells = s.stn.cells →
      (if !counted then u
       else if simulated then { u with stn := { u.stn with simsup := satAdd max32 u.stn.simsup 1 } }
       else if held then
         { (u.updStn d.stn (fun x => { x with held := true })) with
           stn := { (u.updStn d.stn (fun x => { x with held := true })).stn with heldCnt := satAdd max32 u.stn.heldCnt 1 } }
       else
         let r := ((u.setWr d.stn .due).drive i p ws).armWrite g d e ws
         if r.2 then r.1 else r.1.writeFails d.stn).stn.cells = s.stn.cells := by
    intro u counted simulated held hu
    refine Eq.trans ?_ hu
    dsimp only
    split
    · rfl
    split
    · rfl
    split
    · exact State.updStn_cells ..
    split
    · exact armed u
    · exact (State.writeFails_cells ..).trans (armed u)
  exact written _ _ _ _ (State.updStn_cells ..)

/-- A Write cell stays open while its writes are armed. -/
theorem State.openWrite_cell (s : State) (e : Nat) (x : CombEntry) (l : Nat) :
    ∃ c ∈ (s.openWrite e x l).stn.cells, c.e = e ∧ c.link = l ∧ c.read = false := by
  unfold State.openWrite
  dsimp only
  rw [foldl_keeps (fun t : State => t.stn.cells) _ fun u g =>
    foldl_keeps (fun t : State => t.stn.cells) _ (fun v d => v.writeStn_cells g e d) _ u]
  exact ⟨_, List.mem_append_right _ (List.mem_singleton.mpr rfl), rfl, rfl, rfl⟩

theorem stationWriteCell_opens {s : State} {e l : Nat} {x : CombEntry} (o : Opens s e x x.res) (hl : linkOf x.res = some l)
    (hr : s.runs .field = true) (hp : x.cphase = 6) :
    ∃ c ∈ (stationWriteCell s e).stn.cells, c.e = e ∧ c.link = l ∧ c.read = false := by
  unfold stationWriteCell
  rw [State.withCell_of_kind o hr (by rw [hl]; rfl), if_pos hp, hl]
  exact State.openWrite_cell _ e x l

/-- Settles O44, cell by cell: each runs at its start tick, where the work of an earlier window is over. -/
theorem workCells : Obligations.WorkCells := by
  unfold Obligations.WorkCells
  intro s e x
  refine ⟨fun o hr hw => ⟨_, rfl, keyCell_window o hr hw⟩, fun o hr hw => ⟨_, rfl, ?_⟩, fun o hr => ?_,
    fun o hr => ⟨_, rfl, pnlCell_starts o hr⟩, fun n c a q o hn hl hr ha idle hs hq hi => ?_,
    fun l _ o hl hr none => ⟨fun hp => ?_, fun hp => ?_⟩⟩
  · have window := recCell_window o hr hw
    exact ⟨congrArg Rec.win window, (congrArg Rec.staging window :)⟩
  · obtain ⟨w, hw, stop⟩ := Option.map_eq_some_iff.mp (hstCell_stop o hr)
    exact ⟨_, w, rfl, hw, stop⟩
  · obtain ⟨r, started⟩ := adcCell_interleaved (c := c) o hn hl hr ha idle hs hq hi
    exact ⟨_, r, rfl, started⟩
  · obtain ⟨c, opened⟩ := stationReadCell_opens o hl hr none hp
    exact ⟨_, c, rfl, opened⟩
  · obtain ⟨c, opened⟩ := stationWriteCell_opens o hl hr hp
    exact ⟨_, c, rfl, opened⟩

end Sys2Proof.Machine
end

section
/-!
PROOFS. Key work that ends, and what an authorised command does or is refused for (17 R440, R447, R449; 18 R471, R473; 11 R308).
-/
namespace Sys2Proof.Machine

/-! ## What the run state, the forces, the authorisation and the FENCEs follow -/

theorem State.run_of_core {s t : State} (h : t.core = s.core) : t.mgt.run = s.mgt.run := congrArg (fun x => x.2.2.1) h
theorem State.hmode_of_core {s t : State} (h : t.core = s.core) : t.mgt.hmode = s.mgt.hmode := congrArg (fun x => x.2.2.2.1) h
theorem State.forces_of_core {s t : State} (h : t.core = s.core) : t.mgt.forces = s.mgt.forces := congrArg (fun x => x.2.2.2.2.1) h
theorem State.auth_of_core {s t : State} (h : t.core = s.core) : t.mgt.auth = s.mgt.auth := congrArg (fun x => x.2.2.2.2.2.1) h
theorem State.fences_of_core {s t : State} (h : t.core = s.core) : t.mgt.fenceWait = s.mgt.fenceWait := congrArg (fun x => x.2.2.2.2.2.2) h

theorem State.clk_of_core {s t : State} (h : t.core = s.core) : t.clk.mons = s.clk.mons ∧ t.clk.fail = s.clk.fail ∧
    t.clk.failcnt = s.clk.failcnt ∧ t.clk.foscRun = s.clk.foscRun ∧ t.clk.soscRun = s.clk.soscRun ∧ t.clk.wait = s.clk.wait ∧
    t.clk.ramp = s.clk.ramp := by
  simp only [State.core, Prod.mk.injEq] at h
  obtain ⟨⟨h1, h2, h3, h4, h5⟩, ⟨h6, h7⟩, -⟩ := h
  exact ⟨h1, h2, h3, h4, h5, h6, h7⟩

/-! ## The end of a piece of key work -/

/-- The piece of key work that ends is the first of the queue. -/
theorem State.takeJob_takes {s s1 : State} {j : KeyJob} (h : s.takeJob = some (j, s1)) :
    s.key.jobs = j :: s1.key.jobs ∧ s1.mgt = s.mgt ∧ s1.sup = s.sup := by
  unfold State.takeJob at h
  split at h
  · cases h
  rename_i k ks hk
  split at h
  · cases h
  split at h
  · cases h
    exact ⟨hk, rfl, rfl⟩
  split at h
  · cases h
  dsimp only at h
  split at h
  · cases h
    obtain ⟨t, l, e⟩ := State.advanceTo_only { s with key := { s.key with jobs := ks, win := _ } } _
    rw [e]
    exact ⟨hk, rfl, rfl⟩
  · cases h

/-- What follows a piece of key work: the next piece is weighed anew, and the host is served. -/
def State.afterWork (s : State) : State := s.refreshHead.pumpFence.hostServe

theorem State.refreshHead_leaves (s : State) : s.refreshHead.mgt = s.mgt ∧ s.refreshHead.pwr = s.pwr ∧ s.refreshHead.mtr = s.mtr ∧
    s.refreshHead.sup = s.sup := by
  unfold State.refreshHead
  split <;> exact ⟨rfl, rfl, rfl, rfl⟩

/-- With no entry waiting on a FENCE it changes nothing of the management island, power, metering and the supers. -/
theorem State.afterWork_leaves {s : State} (h : s.mgt.fenceWait = []) : s.afterWork.mgt = s.mgt ∧ s.afterWork.pwr = s.pwr ∧
    s.afterWork.mtr = s.mtr ∧ s.afterWork.sup = s.sup := by
  obtain ⟨hm, hp, ht, hs⟩ := s.refreshHead_leaves
  obtain ⟨hm', hp', ht', hs', -⟩ := s.refreshHead.hostServe_leaves
  unfold State.afterWork
  rw [State.pumpFence_none _ ((congrArg Mgt.fenceWait hm).trans h)]
  exact ⟨hm'.trans hm, hp'.trans hp, ht'.trans ht, hs'.trans hs⟩

theorem State.afterWork_jobs {s : State} (h : s.mgt.fenceWait = []) (hj : s.key.jobs = []) : s.afterWork.key.jobs = [] := by
  have head : s.refreshHead = s := by unfold State.refreshHead; rw [hj]
  obtain ⟨-, -, -, -, hk⟩ := s.hostServe_leaves
  unfold State.afterWork
  rw [head, State.pumpFence_none _ h, hk, hj]

theorem State.endWork_of_taken {s s1 : State} {j : KeyJob} (h : s.takeJob = some (j, s1)) :
    s.endWork = some (s1.finishWork j.work).refreshHead := by
  unfold State.endWork
  rw [h]

theorem State.headAuth_of_jobs {s : State} {j : KeyJob} {l : List KeyJob} (h : s.key.jobs = j :: l) :
    s.headAuth = decide (j.work = .auth) := by
  unfold State.headAuth
  rw [h]

theorem keyWorkEnd_of_taken {s s1 : State} {j : KeyJob} (h : s.takeJob = some (j, s1)) (hw : j.work ≠ .auth) :
    keyWorkEnd s = (s1.finishWork j.work).afterWork := by
  unfold keyWorkEnd
  rw [State.headAuth_of_jobs (State.takeJob_takes h).1, State.endWork_of_taken h, if_neg (by simpa using hw)]
  rfl

theorem authVerificationEnd_of_taken {s s1 : State} {j : KeyJob} (h : s.takeJob = some (j, s1)) (hw : j.work = .auth) :
    authVerificationEnd s = s1.authEnd.afterWork := by
  unfold authVerificationEnd
  rw [State.headAuth_of_jobs (State.takeJob_takes h).1, State.endWork_of_taken h, hw, if_pos (by simp)]
  rfl

/-- No key work ends while none can. -/
theorem workEnds_of_none {s : State} (h : s.takeJob = none) : keyWorkEnd s = s ∧ authVerificationEnd s = s := by
  have none : s.endWork = none := by unfold State.endWork; rw [h]
  unfold keyWorkEnd authVerificationEnd
  rw [none]
  exact ⟨ite_self _, ite_self _⟩

theorem keyWorkEnd_identity {s s1 : State} {j : KeyJob} {q : Nat} (hf : s.mgt.fenceWait = []) (hj : s.key.jobs = [j])
    (hw : j.work = .identity q) (ht : s.takeJob = some (j, s1)) :
    (keyWorkEnd s).key.jobs = [] ∧ ∀ h ∈ (keyWorkEnd s).mgt.held, h.seq ≠ q := by
  obtain ⟨jobs, mgt, -⟩ := State.takeJob_takes ht
  have left : s1.key.jobs = [] := (List.cons.inj (jobs.symm.trans hj)).2
  have fences : (s1.complete q 0 0 none s1.identityRecord).mgt.fenceWait = [] := by
    rw [State.fences_of_core (State.complete_core ..), mgt]; exact hf
  have kept : (s1.complete q 0 0 none s1.identityRecord).key.jobs = [] := by
    obtain ⟨x, m, e⟩ := s1.complete_host q 0 0 none s1.identityRecord
    rw [e]; exact left
  rw [keyWorkEnd_of_taken ht (by rw [hw]; simp), hw]
  refine ⟨State.afterWork_jobs fences kept, ?_⟩
  have same := (State.afterWork_leaves fences).1
  intro h hm
  exact (s1.complete_ends q 0 0 none s1.identityRecord).2 h (congrArg Mgt.held same ▸ hm)

/-! ## The effects of authorised commands -/

/-- A management island changed alike is alike. -/
theorem State.core_run {s t : State} (h : t.core = s.core) (r : Run) (m : Nat) (f : List (Nat × List Word)) (d : Bool) :
    ({ t with mgt := { t.mgt with run := r, hmode := m, forces := f, haltDue := d } } : State).core =
      ({ s with mgt := { s.mgt with run := r, hmode := m, forces := f } } : State).core := by
  have auth := State.auth_of_core h
  have fences := State.fences_of_core h
  obtain ⟨h1, h2, h3, h4, h5, h6, h7⟩ := State.clk_of_core h
  simp only [State.core, auth, fences, h1, h2, h3, h4, h5, h6, h7]

theorem State.haltDo_core (s : State) (q m : Nat) :
    (s.haltDo q m).core = ({ s with mgt := { s.mgt with run := .halt, hmode := m } } : State).core := by
  have void : ((s.voidEdits stAborted).cancelSwap).core = s.core := (State.cancelSwap_core _).trans (s.voidEdits_core stAborted)
  unfold State.haltDo State.enterHalt
  rw [State.ok_core]
  dsimp only
  have boundary : ∀ (b : Bool) (u : State), (if b = true then u.haltBoundary true else u).core = u.core := fun b u => by
    cases b
    · rfl
    · exact u.haltBoundary_core true
  rw [boundary]
  have forces := State.forces_of_core void
  rw [← forces]
  exact State.core_run void ..

theorem State.setupDo_core (s : State) (q : Nat) :
    (s.setupDo q).core = ({ s with mgt := { s.mgt with run := .setup, forces := [] } } : State).core := by
  unfold State.setupDo
  rw [State.ok_core]
  exact State.core_foldl _ (fun (u : State) (x : Nat × Point) => u.deliverNow_core x.2 (SMap.get dWords u.vot.driven x.1)) _ _

theorem State.core_dormEntry (s : State) : ({ s with pwr := { s.pwr with dormEntry := true } } : State).core = s.core := rfl

theorem State.dormantDo_core (s : State) (q : Nat) : (s.dormantDo q).core = s.core := by
  have stored : ∀ b : Bool, (if b = true then (s.ok q 0).haltBoundary false else (s.ok q 0).haltCkpt false).core = s.core := fun b => by
    cases b
    · exact (State.haltCkpt_core ..).trans (State.ok_core ..)
    · exact (State.haltBoundary_core ..).trans (State.ok_core ..)
  unfold State.dormantDo
  dsimp only
  rw [State.core_dormEntry, State.panelDormant_core, State.mtrStop_core, stored]

/-- The forces an OUTPUT_FORCE leaves. -/
def State.forcesLeft (s : State) (n mode : Nat) (ws : List Word) : List (Nat × List Word) :=
  match s.points[n]? with
  | none => s.mgt.forces
  | some p =>
    if mode = 1 then (n, ws.take p.nwords) :: s.mgt.forces.filter (fun f => f.1 ≠ n) else s.mgt.forces.filter (fun f => f.1 ≠ n)

theorem State.outputForceDo_core (s : State) (q n mode : Nat) (ws : List Word) :
    (s.outputForceDo q n mode ws).core = ({ s with mgt := { s.mgt with forces := s.forcesLeft n mode ws } } : State).core := by
  have delivered : ∀ (b : Bool) (u : State) (p : Point) (w : List Word), (if b = true then u else u.deliverNow p w).core = u.core :=
    fun b u p w => by
      cases b
      · exact u.deliverNow_core p w
      · rfl
  have delivered' : ∀ (b : Bool) (u : State) (p : Point) (w : List Word), (if b = true then u.deliverNow p w else u).core = u.core :=
    fun b u p w => by
      cases b
      · rfl
      · exact u.deliverNow_core p w
  unfold State.outputForceDo State.forcesLeft
  cases s.points[n]? with
  | none => exact State.ok_core ..
  | some p =>
    dsimp only
    by_cases hm : mode = 1
    · rw [if_pos hm, if_pos hm, State.ok_core, delivered]
    · rw [if_neg hm, if_neg hm, State.ok_core, delivered']

end Sys2Proof.Machine
end

section
/-!
PROOFS. Authorised commands judged: what ACTIVATE, TRIM and DORMANT leave, refusals, the random generator, and the challenge (17 R440,
R447, R449; 18 R473; 11 R308).
-/
namespace Sys2Proof.Machine

/-! ## ACTIVATE, TRIM and DORMANT (17 R440; 11 R308) -/

theorem State.sup_of_besideAxes {s t : State} (h : t.besideAxes = s.besideAxes) : t.sup = s.sup := (congrArg State.sup h :)

theorem State.swapCan_sup (s : State) (a : Option Image) (b : Image) : (s.swapCan a b).sup = s.sup := by
  refine foldl_keeps State.sup _ (fun u c => ?_) _ _
  split <;> rfl

theorem State.swapEth_sup (s : State) (a : Option Image) (b : Image) : (s.swapEth a b).sup = s.sup := by
  refine foldl_keeps State.sup _ (fun u p => ?_) _ _
  dsimp only
  split <;> rfl

theorem State.mtrResume_sup (s : State) : s.mtrResume.sup = s.sup := by
  unfold State.mtrResume
  split
  · rfl
  · split <;> rfl

theorem State.mtrSwap_sup (s old : State) (a : Option MeterDef) : (old.mtrSwap a s).sup = s.sup := by
  unfold State.mtrSwap
  dsimp only
  split
  · rfl
  · exact State.mtrResume_sup _
  · split <;> rfl
  · split <;> rfl

theorem State.axDone_sup (s : State) (a st : Nat) : (s.axDone a st).sup = s.sup := State.sup_of_besideAxes (s.axDone_besideAxes a st)

theorem State.abruptStop_sup (s : State) (a : Nat) : (s.abruptStop a).sup = s.sup := by
  unfold State.abruptStop
  split <;> rfl

theorem State.axesSwap_sup (s : State) (a : Option AxesDef) : (s.axesSwap a).sup = s.sup := by
  unfold State.axesSwap
  refine foldl_keeps State.sup _ (fun u a => ?_) _ _
  dsimp only
  split
  · split
    · rfl
    · exact (State.axDone_sup _ a stAborted).trans (u.abruptStop_sup a)
  · rfl

theorem State.adcSwap_sup (s : State) : s.adcSwap.sup = s.sup := by
  unfold State.adcSwap
  refine foldl_keeps State.sup _ (fun u n => ?_) _ _
  rfl

theorem State.complete_sup (s : State) (q st r0 : Nat) (r1 : Option Nat) (d : List Byte) : (s.complete q st r0 r1 d).sup = s.sup := by
  obtain ⟨x, m, e⟩ := s.complete_host q st r0 r1 d; rw [e]

theorem State.panelSwap_sup (s : State) (a : Option PanelDef) : (s.panelSwap a).sup = s.sup := by
  refine foldl_keeps State.sup _ (fun u r => ?_) _ _
  dsimp only
  split
  · split
    · rfl
    · exact State.complete_sup ..
  · rfl

theorem State.changeUnits_sup (s old : State) (a : Option Image) (b : Image) : (s.changeUnits old a b).sup = s.sup := by
  unfold State.changeUnits
  dsimp only
  rw [State.panelSwap_sup, State.adcSwap_sup, State.axesSwap_sup, State.mtrSwap_sup, State.swapEth_sup, State.swapCan_sup]

theorem State.super_congr {s t : State} (h0 : t.sup.s0 = s.sup.s0) (h1 : t.sup.s1 = s.sup.s1) (x : Nat) : t.super x = s.super x := by
  unfold State.super
  rw [h0, h1]

theorem State.loadImage_super (s : State) (i : Image) (x : Nat) : (s.loadImage i).super x = s.super x := by
  have loaded : ∀ u : State, (u.forChans (fun s c => if (s.chan c).holdsProgram then s.setChan c ((s.chan c).load i s.sup.overlay) else s)).sup =
      u.sup := fun u => by
    unfold State.forChans
    refine foldl_keeps State.sup _ (fun v c => ?_) _ _
    split
    · exact v.setChan_sup c _
    · rfl
  have laid : (s.loadImage i).sup = { s.sup with bank := some i } := by
    unfold State.loadImage
    exact loaded { s with sup := { s.sup with bank := some i } }
  exact State.super_congr (by rw [laid]) (by rw [laid]) x

/-- ACTIVATE makes its super the ACTIVE one. -/
theorem State.activate_super (s : State) (x q : Nat) : ((s.activate x q).super x).st = .active := by
  have done : ∀ u : State,
      (if u.mgt.solverBuild = true then { u with mgt := { u.mgt with activate := some (q, x) } } else u.ok q 0).super x = u.super x := fun u => by
    split
    · rfl
    · exact State.super_congr (congrArg Sup.s0 (u.complete_sup q 0 0 none [])) (congrArg Sup.s1 (u.complete_sup q 0 0 none [])) x
  have changed : ∀ (u old : State) (a : Option Image) (b : Image), (u.changeUnits old a b).super x = u.super x := fun u old a b =>
    State.super_congr (congrArg Sup.s0 (u.changeUnits_sup old a b)) (congrArg Sup.s1 (u.changeUnits_sup old a b)) x
  have named : ∀ u : State, ((u.superTo x .active).super x).st = .active := fun u => by
    unfold State.superTo
    rw [State.setSuper_same]
  unfold State.activate
  dsimp only
  refine (congrArg Super.st (done _)).trans ?_
  rw [changed, State.loadImage_super]
  exact named _

theorem State.trimDo_trims (s : State) (q e r g d : Nat) :
    SMap.get dOpt (s.trimDo q e r g d).mtr.trims (8 * e + r) = some (g, toSigned 16 d) := by
  unfold State.trimDo State.ok
  obtain ⟨x, m, h⟩ := State.complete_host { s with mtr := { s.mtr with trims := SMap.set dOpt s.mtr.trims (8 * e + r) (some (g, toSigned 16 d)) } }
    q 0 0 none []
  rw [h]
  exact SMap.get_set_same dOpt s.mtr.trims (8 * e + r) (some (g, toSigned 16 d))

/-! ## Refusals -/

/-- Completions count commands, and no failed authorisations. -/
theorem State.complete_authFail (s : State) (q st r0 : Nat) (r1 : Option Nat) (d : List Byte) :
    (s.complete q st r0 r1 d).mgt.authFail = s.mgt.authFail := by
  have counted : ∀ (m : Mgt) (x : Held) (n : Nat), (m.countCpl x n).authFail = m.authFail := fun m x n => by
    unfold Mgt.countCpl
    split <;> rfl
  have finished : ∀ (u : State) (q st r0 : Nat) (r1 : Option Nat) (d : List Byte),
      (u.finish q st r0 r1 d).mgt.authFail = u.mgt.authFail := fun u q st r0 r1 d => by
    unfold State.finish
    split
    · rfl
    · rename_i h _
      dsimp only
      obtain ⟨x, e⟩ := State.queueCpl_only { u with mgt := { (u.mgt.countCpl h st) with held := u.mgt.held.filter (fun x => x.seq ≠ q) } }
        ⟨h.qp, h.cid, h.opc, st, r0, r1.getD h.acc, u.tim.dt, d, h.fate⟩
      rw [e]
      exact counted ..
  unfold State.complete State.endDeletes
  refine Eq.trans (foldl_keeps (fun u : State => u.mgt.authFail) _ (fun u p => ?_) _ _) (finished ..)
  dsimp only
  split
  · rfl
  · exact finished ..

theorem State.request_mgt (s : State) (e : Nat) (l : List Nat) : (s.request e l).mgt = s.mgt := by
  refine foldl_keeps State.mgt _ (fun u n => ?_) _ _
  unfold State.keyFor
  dsimp only
  split
  · rfl
  split
  · rfl
  · obtain ⟨x, h⟩ := State.raise_only ({ u with key := _ } : State) 84 (n + e * 256)
    rw [h]

/-- A refused command is counted and ends. -/
theorem State.refuseAuth_ends (s : State) (q o st : Nat) : (s.refuseAuth q o st).mgt.authFail = min (s.mgt.authFail + 1) max32 ∧
    ∀ h ∈ (s.refuseAuth q o st).mgt.held, h.seq ≠ q := by
  have noted : (s.authRecord sevFault o st).mgt = s.mgt := by
    obtain ⟨x, y, e⟩ := s.record_only sevFault blkMgt 0x0103 (leBytes 8 s.tim.dt ++ [BitVec.ofNat 8 o, BitVec.ofNat 8 st])
    unfold State.authRecord
    rw [e]
  unfold State.refuseAuth
  refine ⟨(State.complete_authFail ..).trans ?_, (State.complete_ends ..).2⟩
  dsimp only
  rw [noted, satAdd_eq_min]

/-! ## The end of a verification -/

/-- The state in which an authorised command is authJudged: verified, and taken at the present. -/
def State.authJudged (s : State) (a : AuthWait) : State := ({ s with mgt := { s.mgt with auth := none } }).accept a.seq

/-- What R449 asks of an authorised command, not met. -/
def State.authBad (s : State) (a : AuthWait) : Prop := s.takes (hostOpc a.cmd) = false ∨ s.authStatus a ≠ 0 ∨ s.rowStatus a.cmd ≠ 0

theorem State.authJudged_rowStatus (s : State) (a : AuthWait) (c : Instr) : (s.authJudged a).rowStatus c = s.rowStatus c := by
  unfold State.rowStatus
  split <;> rfl

theorem State.authJudged_core (s : State) (a : AuthWait) : (s.authJudged a).core = ({ s with mgt := { s.mgt with auth := none } } : State).core :=
  State.accept_core ..

theorem State.authEnd_refused {s : State} {a : AuthWait} (h : s.mgt.auth = some a) (bad : s.authBad a) :
    ∃ (u : State) (st : Nat), s.authEnd = u.refuseAuth a.seq (hostOpc a.cmd) st ∧ u.core = (s.authJudged a).core ∧ u.mgt = (s.authJudged a).mgt := by
  have takes : (s.authJudged a).takes (hostOpc a.cmd) = s.takes (hostOpc a.cmd) := rfl
  have asked : ∀ b : Prop, [Decidable b] → (if b then (s.authJudged a).request engUpdate [2, 3] else s.authJudged a).core = (s.authJudged a).core ∧
      (if b then (s.authJudged a).request engUpdate [2, 3] else s.authJudged a).mgt = (s.authJudged a).mgt := fun b _ => by
    split
    · exact ⟨State.request_core .., State.request_mgt ..⟩
    · exact ⟨rfl, rfl⟩
  unfold State.authEnd
  rw [h]
  change ∃ (u : State) (st : Nat), (if !((s.authJudged a).takes (hostOpc a.cmd)) then (s.authJudged a).refuseAuth a.seq (hostOpc a.cmd) stRunState
    else if s.authStatus a ≠ 0 then
      (if s.authStatus a = stEngineDenied then (s.authJudged a).request engUpdate [2, 3] else s.authJudged a).refuseAuth a.seq (hostOpc a.cmd) (s.authStatus a)
    else if (s.authJudged a).rowStatus a.cmd ≠ 0 then (s.authJudged a).refuseAuth a.seq (hostOpc a.cmd) ((s.authJudged a).rowStatus a.cmd)
    else ((s.authJudged a).authRecord sevNotice (hostOpc a.cmd) 0).authDo a.seq a.cmd) = u.refuseAuth a.seq (hostOpc a.cmd) st ∧ _
  rw [takes, State.authJudged_rowStatus]
  by_cases ht : s.takes (hostOpc a.cmd) = true
  · rw [if_neg (by simp [ht])]
    by_cases hs : s.authStatus a = 0
    · have row : s.rowStatus a.cmd ≠ 0 := by
        rcases bad with b | b | b
        · rw [ht] at b; cases b
        · exact absurd hs b
        · exact b
      rw [if_neg (not_not.mpr hs), if_pos row]
      exact ⟨_, _, rfl, rfl, rfl⟩
    · rw [if_pos hs]
      exact ⟨_, _, rfl, asked _⟩
  · rw [if_pos (by simpa using ht)]
    exact ⟨_, _, rfl, rfl, rfl⟩

/-- The state in which an authorised command that passes has its effect: it has been recorded. -/
def State.authPassed (s : State) (a : AuthWait) : State := (s.authJudged a).authRecord sevNotice (hostOpc a.cmd) 0

theorem State.authEnd_passed {s : State} {a : AuthWait} (h : s.mgt.auth = some a) (good : ¬ s.authBad a) :
    s.authEnd = (s.authPassed a).authDo a.seq a.cmd := by
  unfold State.authBad at good
  simp only [not_or, Bool.not_eq_false, ne_eq, not_not] at good
  obtain ⟨ht, hs, hr⟩ := good
  have takes : (s.authJudged a).takes (hostOpc a.cmd) = true := ht
  unfold State.authEnd
  rw [h]
  dsimp only
  refine (if_neg ?_).trans ((if_neg ?_).trans (if_neg ?_))
  · exact fun c => by
      change (!((s.authJudged a).takes (hostOpc a.cmd))) = true at c
      rw [takes] at c
      cases c
  · exact not_not.mpr hs
  · exact not_not.mpr ((s.authJudged_rowStatus a a.cmd).trans hr)

theorem State.authPassed_core (s : State) (a : AuthWait) : (s.authPassed a).core = ({ s with mgt := { s.mgt with auth := none } } : State).core :=
  (State.authRecord_core ..).trans (s.authJudged_core a)

theorem State.authPassed_sup (s : State) (a : AuthWait) : (s.authPassed a).sup = s.sup := by
  unfold State.authPassed State.authRecord
  obtain ⟨x, y, e⟩ := (s.authJudged a).record_only sevNotice blkMgt 0x0103
    (leBytes 8 (s.authJudged a).tim.dt ++ [BitVec.ofNat 8 (hostOpc a.cmd), BitVec.ofNat 8 0])
  rw [e]
  rfl

/-- No authorised command asks for verification itself, or makes an entry wait on a FENCE. -/
theorem State.authDo_waiting (s : State) (q : Nat) (c : Instr) : (s.authDo q c).mgt.auth = s.mgt.auth ∧
    (s.authDo q c).mgt.fenceWait = s.mgt.fenceWait := by
  have kept : ∀ {t u : State}, t.core = u.core → u.mgt.auth = s.mgt.auth → u.mgt.fenceWait = s.mgt.fenceWait →
      t.mgt.auth = s.mgt.auth ∧ t.mgt.fenceWait = s.mgt.fenceWait := fun h ha hf =>
    ⟨(State.auth_of_core h).trans ha, (State.fences_of_core h).trans hf⟩
  unfold State.authDo
  split
  · exact kept (s.haltDo_core q _) rfl rfl
  · exact kept (s.setupDo_core q) rfl rfl
  · exact kept (s.activate_core _ q) rfl rfl
  · exact kept (s.trimDo_core q ..) rfl rfl
  · exact kept (s.dormantDo_core q) rfl rfl
  · exact kept (s.outputForceDo_core q ..) rfl rfl
  · exact ⟨rfl, rfl⟩

theorem State.authEnd_fences (s : State) : s.authEnd.mgt.fenceWait = s.mgt.fenceWait := by
  cases h : s.mgt.auth with
  | none => unfold State.authEnd; rw [h]
  | some a =>
    by_cases bad : s.authBad a
    · obtain ⟨u, st, e, hu, -⟩ := State.authEnd_refused h bad
      rw [e]
      exact Eq.trans (State.fences_of_core ((u.refuseAuth_core ..).trans (hu.trans (s.authJudged_core a)))) rfl
    · rw [State.authEnd_passed h bad, (State.authDo_waiting ..).2]
      exact Eq.trans (State.fences_of_core (s.authPassed_core a)) rfl

theorem State.finishWork_fences (s : State) (w : KeyWork) : (s.finishWork w).mgt.fenceWait = s.mgt.fenceWait := by
  cases w with
  | update q m => exact State.fences_of_core (s.updateEnd_core q m)
  | attest q n b => exact State.fences_of_core (State.complete_core ..)
  | wrap q n w => exact State.fences_of_core (s.wrapEnd_core q n w)
  | identity q => exact State.fences_of_core (State.complete_core ..)
  | verify q x => exact State.fences_of_core (s.verifyEnd_core q x)
  | auth => exact s.authEnd_fences

theorem keyOnce_fences {s t : State} (h : keyOnce s = some t) : t.mgt.fenceWait = s.mgt.fenceWait := by
  unfold keyOnce at h
  split at h
  · cases h
  split at h
  · dsimp only at h
    split at h
    · cases h
      exact (congrArg Mgt.fenceWait (State.refreshHead_leaves _).1).trans (State.finishWork_fences _ _)
    · cases h
  · cases h

/-- Key work up to now makes no entry wait on a FENCE. -/
theorem State.keyFlush_fences (s : State) : s.keyFlush.mgt.fenceWait = s.mgt.fenceWait := by
  have worked : ∀ (n : Nat) (u : State), (iter n keyOnce u).mgt.fenceWait = u.mgt.fenceWait := by
    intro n
    induction n with
    | zero => exact fun _ => rfl
    | succ n ih =>
      intro u
      unfold iter
      split
      · rfl
      · rename_i h
        exact (ih _).trans (keyOnce_fences h)
  unfold State.keyFlush
  dsimp only
  split
  · split
    · exact (State.fences_of_core (State.suspendJob_core _)).trans (worked _ _)
    · exact worked _ _
  · exact worked _ _

/-! ## The generator and the challenge (18 R473; 17 R447) -/

theorem rngFail_fails {s : State} (h : s.runs .key = true) : (rngFail s).key.rngFail = true := by
  unfold rngFail
  split
  · obtain ⟨x, e⟩ := State.raise_only ({ s with key := { s.key with rngFail := true } } : State) 85 0
    rw [e]
  · rename_i c
    simpa [h] using c

/-- A challenge issued leaves the keys. -/
theorem State.issueChallenge_key (s : State) (q : Nat) : (s.issueChallenge q).key = s.key := by
  unfold State.issueChallenge State.random
  dsimp only
  obtain ⟨x, m, e⟩ := State.complete_host ({ s with fresh := s.fresh + 16, mgt := { s.mgt with chal := some ⟨_, s.tim.dt⟩ } } : State) q 0 _ _ []
  rw [e]

theorem rngTestsPass_passes {s : State} (hf : s.mgt.fenceWait = []) (hr : s.runs .key = true) : (rngTestsPass s).key.rngFail = false ∧
    (s.key.rngFail = true → (rngTestsPass s).key.chalWait = []) := by
  unfold rngTestsPass
  split
  · dsimp only
    have issued : ∀ (l : List Nat) (u : State), u.mgt.fenceWait = [] → (l.foldl State.issueChallenge u).pumpFence.key = u.key := fun l u h => by
      rw [State.pumpFence_none _ ((State.fences_of_core (State.core_foldl _ State.issueChallenge_core l u)).trans h)]
      exact foldl_keeps State.key _ State.issueChallenge_key l u
    rw [issued _ _ (by exact s.keyFlush_fences.trans hf)]
    exact ⟨rfl, fun _ => rfl⟩
  · rename_i c
    have passes : s.key.rngFail = false := by simpa [hr] using c
    exact ⟨passes, fun h => by rw [passes] at h; cases h⟩

/-- While DT is counted, time advances to any instant DT can show. -/
theorem State.advanceTo_reaches {s : State} {t : Nat} (hl : s.dtLive = true) (ht : t < 2 ^ 64) : t ≤ (s.advanceTo t).tim.dt := by
  unfold State.advanceTo
  split
  · assumption
  · rw [State.passLive_tim]
    unfold Tim.putDt
    dsimp only
    have there : s.tim.now + ((t : Nat) - s.tim.now) = ((t : Nat) : Rat) := by ring
    have whole : ((t : Nat) : Rat).floor = (t : Int) := Rat.floor_intCast (t : Int)
    rw [there, whole, Int.toNat_natCast, Nat.mod_eq_of_lt ht]

theorem challengeExpiry_gone {s : State} {c : Challenge} (hc : s.mgt.chal = some c) (hl : s.dtLive = true)
    (ht : c.issue + chalNs < 2 ^ 64) : (challengeExpiry s).mgt.chal = none := by
  unfold challengeExpiry
  rw [hc]
  dsimp only
  rw [if_pos (State.advanceTo_reaches hl ht)]

/-! ## An authorised command, refused and passed -/

/-- A refused command ends, is counted, and changes no run state. -/
theorem authEnd_bad {s : State} {a : AuthWait} (h : s.mgt.auth = some a) (bad : s.authBad a) : s.authEnd.mgt.auth = none ∧
    s.authEnd.mgt.run = s.mgt.run ∧ s.authEnd.mgt.authFail = min (s.mgt.authFail + 1) max32 ∧
    ∀ x ∈ s.authEnd.mgt.held, x.seq ≠ a.seq := by
  obtain ⟨u, st, e, hu, hm⟩ := State.authEnd_refused h bad
  have core := (u.refuseAuth_core a.seq (hostOpc a.cmd) st).trans (hu.trans (s.authJudged_core a))
  obtain ⟨counted, ended⟩ := u.refuseAuth_ends a.seq (hostOpc a.cmd) st
  rw [hm] at counted
  rw [e]
  exact ⟨Eq.trans (State.auth_of_core core) rfl, Eq.trans (State.run_of_core core) rfl, counted, ended⟩

/-- The effect of an authorised command that passes. -/
def State.AuthEffect (s t : State) : Instr → Prop
  | .halt _ m _ => t.mgt.run = .halt ∧ t.mgt.hmode = m
  | .setup _ _ => t.mgt.run = .setup ∧ t.mgt.forces = []
  | .activate _ x _ => x ≤ 1 → (t.super x).st = .active
  | .trim _ e r g d _ => SMap.get dOpt t.mtr.trims (8 * e + r) = some (g, toSigned 16 d)
  | .dormant _ _ => t.pwr.dormEntry = true
  | .outputForce _ p m ws _ => ∀ x, s.points[p]? = some x →
      if m = 1 then (p, ws.take x.nwords) ∈ t.mgt.forces else ∀ y ∈ t.mgt.forces, y.1 ≠ p
  | _ => t.mgt.run = s.mgt.run

theorem State.outputForceDo_forces (s : State) (q p m : Nat) (ws : List Word) (x : Point) (h : s.points[p]? = some x) :
    if m = 1 then (p, ws.take x.nwords) ∈ (s.outputForceDo q p m ws).mgt.forces
    else ∀ y ∈ (s.outputForceDo q p m ws).mgt.forces, y.1 ≠ p := by
  have left : (s.outputForceDo q p m ws).mgt.forces = s.forcesLeft p m ws :=
    Eq.trans (State.forces_of_core (s.outputForceDo_core q p m ws)) rfl
  rw [left]
  unfold State.forcesLeft
  rw [h]
  dsimp only
  split
  · exact List.mem_cons_self
  · exact fun y hy => of_decide_eq_true (List.mem_filter.mp hy).2

theorem State.authDo_effect (s : State) (q : Nat) (c : Instr) : s.AuthEffect (s.authDo q c) c := by
  unfold State.AuthEffect
  split
  · rename_i m _
    have core := s.haltDo_core q m
    exact ⟨Eq.trans (State.run_of_core core) rfl, Eq.trans (State.hmode_of_core core) rfl⟩
  · have core := s.setupDo_core q
    exact ⟨Eq.trans (State.run_of_core core) rfl, Eq.trans (State.forces_of_core core) rfl⟩
  · rename_i h x b
    have same : s.authDo q (.activate h x b) = s.activate x q := rfl
    rw [same]
    exact fun _ => s.activate_super x q
  · exact s.trimDo_trims q ..
  · rfl
  · exact s.outputForceDo_forces q _ _ _
  · rename_i noHalt noSetup noActivate noTrim noDormant noForce
    unfold State.authDo
    split
    · exact (noHalt _ _ _ rfl).elim
    · exact (noSetup _ _ rfl).elim
    · exact (noActivate _ _ _ rfl).elim
    · exact (noTrim _ _ _ _ _ _ rfl).elim
    · exact (noDormant _ _ rfl).elim
    · exact (noForce _ _ _ _ _ rfl).elim
    · rfl

/-- The effect is judged by the points and the run state before it. -/
theorem State.AuthEffect.of_before {s u t : State} {c : Instr} (hp : u.points = s.points) (hr : u.mgt.run = s.mgt.run)
    (h : u.AuthEffect t c) : s.AuthEffect t c := by
  unfold State.AuthEffect at *
  rw [hp, hr] at h
  exact h

/-- A command that passes is under verification no more, and has its effect. -/
theorem authEnd_good {s : State} {a : AuthWait} (h : s.mgt.auth = some a) (good : ¬ s.authBad a) : s.authEnd.mgt.auth = none ∧
    s.AuthEffect s.authEnd a.cmd := by
  have core := s.authPassed_core a
  have points : (s.authPassed a).points = s.points := by unfold State.points; rw [s.authPassed_sup a]
  rw [State.authEnd_passed h good]
  refine ⟨((s.authPassed a).authDo_waiting a.seq a.cmd).1.trans (Eq.trans (State.auth_of_core core) rfl), ?_⟩
  exact ((s.authPassed a).authDo_effect a.seq a.cmd).of_before points (Eq.trans (State.run_of_core core) rfl)

/-- What follows the end of key work leaves the effect. -/
theorem State.AuthEffect.of_after {s t u : State} {c : Instr} (hm : u.mgt = t.mgt) (hp : u.pwr = t.pwr) (ht : u.mtr = t.mtr)
    (hs : u.sup = t.sup) (h : s.AuthEffect t c) : s.AuthEffect u c := by
  have supers : ∀ x, u.super x = t.super x := State.super_congr (congrArg Sup.s0 hs) (congrArg Sup.s1 hs)
  unfold State.AuthEffect at *
  simp only [hm, hp, ht, supers]
  exact h

theorem authVerificationEnd_ends {s s1 : State} {j : KeyJob} {a : AuthWait} (hf : s.mgt.fenceWait = []) (hw : j.work = .auth)
    (ht : s.takeJob = some (j, s1)) (ha : s.mgt.auth = some a) : (authVerificationEnd s).mgt.auth = none ∧
      (s1.authBad a → (authVerificationEnd s).mgt.run = s.mgt.run ∧
        (authVerificationEnd s).mgt.authFail = min (s.mgt.authFail + 1) max32 ∧ ∀ h ∈ (authVerificationEnd s).mgt.held, h.seq ≠ a.seq) ∧
      (¬ s1.authBad a → s.AuthEffect (authVerificationEnd s) a.cmd) := by
  obtain ⟨-, mgt, sup⟩ := State.takeJob_takes ht
  have judged : s1.mgt.auth = some a := (congrArg Mgt.auth mgt).trans ha
  have fences : s1.authEnd.mgt.fenceWait = [] := s1.authEnd_fences.trans ((congrArg Mgt.fenceWait mgt).trans hf)
  have points : s1.points = s.points := by unfold State.points; rw [sup]
  obtain ⟨hm, hp, hmt, hs⟩ := State.afterWork_leaves fences
  rw [authVerificationEnd_of_taken ht hw]
  by_cases bad : s1.authBad a
  · obtain ⟨auth, run, counted, ended⟩ := authEnd_bad judged bad
    rw [mgt] at run counted
    rw [hm]
    exact ⟨auth, fun _ => ⟨run, counted, ended⟩, fun good => absurd bad good⟩
  · obtain ⟨auth, effect⟩ := authEnd_good judged bad
    refine ⟨(congrArg Mgt.auth hm).trans auth, fun b => absurd b bad, fun _ => ?_⟩
    exact (effect.of_before points (congrArg Mgt.run mgt)).of_after hm hp hmt hs

/-- Settles O53: key work through its end and what follows it, and an authorised command through its judgement. -/
theorem keyWorkAndAuthorisation : Obligations.KeyWorkAndAuthorisation := by
  unfold Obligations.KeyWorkAndAuthorisation
  intro s hf
  refine ⟨fun j q s1 hj hw ht => ⟨_, rfl, keyWorkEnd_identity hf hj hw ht⟩, fun h => ?_, fun hr => ⟨⟨_, rfl, rngFail_fails hr⟩, _, rfl,
    rngTestsPass_passes hf hr⟩, fun c hc hl ht => ⟨_, rfl, challengeExpiry_gone hc hl ht⟩, fun h => ?_, fun j a s1 _ hw ht ha => ?_⟩
  · obtain ⟨worked, verified⟩ := workEnds_of_none h
    exact ⟨congrArg _ worked, congrArg _ verified⟩
  · have same : challengeExpiry s = s := by unfold challengeExpiry; rw [h]
    exact congrArg _ same
  · obtain ⟨auth, refused, passed⟩ := authVerificationEnd_ends hf hw ht ha
    exact ⟨_, rfl, auth, refused, passed⟩

end Sys2Proof.Machine
end
